-- ==== Sys2Proof/Word.lean ====
section
/-! DEFINITION. Word.lean: the word types of the machine and their plainest arithmetic. -/
namespace Sys2Proof

/-- One byte of a memory or of a frame. -/
abbrev Byte := BitVec 8
/-- A 32-bit register word or a THYME register. -/
abbrev Word := BitVec 32
/-- A 64-bit register or table word. -/
abbrev DWord := BitVec 64
/-- A THYME control-store word. -/
abbrev QWord := BitVec 128

end Sys2Proof
end

