-- ==== Sys2Proof/Syntax.lean ====
section
/-! DEFINITION. Syntax.lean: the commands of the block, one constructor for each row of spec/opcode_table.json, with what the outside
supplies as operands: the addresses and values of host accesses, the measured values and contents that arrive on pins and links, and the
outcomes of work whose duration the spec leaves to the implementation. -/
namespace Sys2Proof

/-- An offset at which received bits match a delimiter (R163). Offsets are in 1/8 bit from P_k as it stands at the balls. -/
structure DelimMatch where
  ofs : Int
  /-- Differing bits. -/
  diff : Nat
  /-- It stands at the burst's true offset. -/
  own : Bool
  /-- The terminal that the header from the raw bits names, and the one from the decoded first code word; none where the check fails. -/
  raw : Option Nat
  fec : Option Nat
  /-- The header carries the dying-gasp indication. -/
  gasp : Bool
  /-- Of a discovery response: its serial number and the offset of the first bit after its end (R166). -/
  serial : Nat
  ends : Int
  deriving DecidableEq, Repr

/-- A received frame by the header fields that the device uses: length without FCS, addresses, VLAN tag, transport port and key index of an
upstream frame, and whether SKIM draws it (R458). -/
structure RxFrame where
  len : Nat
  dst : Nat
  smac : Nat
  tagged : Bool
  vid : Nat
  pcp : Nat
  tport : Nat
  key : Nat
  skim : Bool
  inner : List (Nat × Nat)
  pos : Nat
  deriving DecidableEq, Repr

/-- A timestamp that a master's Follow_Up or Delay_Resp carries, in units of 1/65536 ns, and the PTP domain of the message (R383, R384). -/
structure PtpOrigin where
  domain : Nat
  time : Int
  deriving DecidableEq, Repr

/-- A received Delay_Req: its PTP domain, and the instant of its arrival since the latest tick in units of 1/65536 ns (R385, R391). -/
structure PtpRequest where
  domain : Nat
  at_ : Nat
  deriving DecidableEq, Repr

/-- The digests that SAGE takes each second (R416, R426): of the allocation tables, the terminal tables, a sixty-fourth of the flow contexts, and
the configuration. -/
structure Digests where
  alloc : Nat
  terms : Nat
  flows : Nat
  cfg : Nat
  deriving DecidableEq, Repr

/-- What reaches SAGE for its report at a one-second boundary (R426): the lanes measured in the second, each with its eye width in 1/64 UI, and the
peer's digests where they have come. -/
structure SageIn where
  eyes : List (Nat × Nat)
  peer : Option Digests
  deriving DecidableEq, Repr

/-- Light outside every window: the instant in nanoseconds from the tick, and how long SD stayed high, in tenths of a nanosecond (R146). -/
structure RogueLight where
  ofs : Nat
  tenths : Nat
  deriving DecidableEq, Repr

/-- What the supply monitor measures at a tick: VIN filtered over 1 ms and VIN current, in mV and mA, the power drawn in the last tick in
units of 10 mW, HOLD in mV, whether the input limiter is engaged, and whether HOLD stands at the charge target (R42, R46, R47, R51). -/
structure Supply where
  vinMv : Nat
  iinMa : Nat
  pin10mw : Nat
  holdMv : Nat
  ilim : Bool
  charged : Bool
  deriving DecidableEq, Repr

/-- A record that the active device mirrors (R413), as it reaches the standby. -/
inductive MirRec where
  /-- A tree's frozen page: its ENTRIES entries as pairs of words. -/
  | page (n : Nat) (entries : List (Nat × Nat))
  | term (n t state serial eqd rtd : Nat)
  | alloc (n i w0 w1 : Nat)
  | flow (x w0 w1 w2 : Nat)
  /-- GEN of a slot, and DS_INDEX of terminal 512 × tree + terminal. -/
  | keyGen (slot gen : Nat)
  | dsIndex (x index : Nat)
  /-- A tree's superframe counter and its T_EQ in nanoseconds. -/
  | counters (n sfc teq : Nat)
  /-- A latched bank: the tree counters, and each terminal's six counters. -/
  | pm (n bank : Nat) (tree : List (Nat × Nat)) (terms : List (Nat × List Nat))
  deriving DecidableEq, Repr

/-- The commands. `n` is a tree or port, `t` or `term` a terminal of the tree, `e` an engine, `u` an uplink port, `p` a pseudo-channel (or as
said), `c` a core cycle of the frame at which an engine's word or signal acts (or as said); a value wider than its field acts by the
field's bits, and a number that names nothing leaves the state as it is. The rows stand in the table's order, those without operands after the
others. -/
inductive Instr where
  /-- TICK (R12): TSU issues the tick to every block when the time unit reaches a multiple of 125,000 ns, and with it come page swaps, frame starts,
  commits and other per-tick actions. `u` is what the supply monitor measures. -/
  | tick (u : Supply)
  /-- ONE_SECOND_BOUNDARY (R17): Every 8,000th tick, where the nanoseconds have wrapped to zero, is a one-second boundary that drives PM latching,
  SAGE reports and the per-second limits. `r` is what SAGE measures. -/
  | oneSecondBoundary (r : SageIn)
  /-- POWER_ON_RESET_RELEASE (R39): Power-on reset is released after VIN has stood at 4.5 V or more for 10 ms with RST_N high, and the device enters
  STARTING with the save armed. `vinMv` and `holdMv` are the voltages; `scanLow` says that SCAN_EN_N is low. -/
  | powerOnResetRelease (vinMv holdMv : Nat) (scanLow : Bool)
  /-- BOARD_RESET (R492): A low pulse of at least 10 µs on RST_N asserts power-on reset and the rails fall, with no save; during HOLDING the reset is
  held until ASLEEP. `tornRec` and `tornFault` say that it tears the newest boot record and fault-log record. -/
  | boardReset (tornRec tornFault : Bool)
  /-- REGISTER_WRITE (R90): A host write to a register that has no row of its own lands in the register, or in its group's shadow, under the access
  codes. `wide` is an 8-byte access. -/
  | registerWrite (wide : Bool) (addr value : Nat)
  /-- READ_CLEAR_ACCESS (R8): A read of an RC field returns the value and clears the field in the same access. `wide` is an 8-byte access. -/
  | readClearAccess (wide : Bool) (addr : Nat)
  /-- UPPER_WORD_WRITE (R474): A 4-byte write to the upper word of a 64-bit register is held until a matching lower-word write or another access on
  the same path. -/
  | upperWordWrite (addr value : Nat)
  /-- UNSUPPORTED_REQUEST (R473): A BAR0 access of any width or alignment other than those permitted completes with Unsupported Request and is
  recorded under AER. `len` is the access length in bytes. -/
  | unsupportedRequest (addr len : Nat)
  /-- HOLD_SWITCH_CLOSE (R55): At t_W + 5 µs the hold-up switch closes if HOLD is at least 8.0 V, the VIN path opens, the charger stops and the
  quiesce begins. `holdMv` is HOLD in mV. -/
  | holdSwitchClose (holdMv : Nat)
  /-- WHEY_BLOCK_WRITTEN (R56): A 4 KiB save block's read-back completes and is compared, and the block is rewritten at most twice or the save ends
  incomplete. `good` is the read-back comparison, `us` the microseconds since the save began. -/
  | wheyBlockWritten (good : Bool) (us : Nat)
  /-- SAVE_DONE (R55): The save completes, SAVE_DONE is recorded, the hold-up switch opens and a brown-out save enters ASLEEP. `us` is how long the
  save took, in microseconds. -/
  | saveDone (us : Nat)
  /-- V_WARN_REARM (R53): VIN has stood at or above V_WARN + 0.3 V for 50 ms, and the V_WARN or V_SAG detector re-arms. `sag` names the V_SAG
  detector, else V_WARN. -/
  | vWarnRearm (sag : Bool)
  /-- MODE_REQUEST (R43): The host submits TARGET 2, 3 or 4 through PWR_MODE_REQ; the request is checked against R39, the floors and R35, then pends
  or is refused. `i2c` is the path; TARGET and PROMOTE_TO of the word. -/
  | modeRequest (i2c : Bool) (target promoteTo : Nat)
  /-- WAKE (R31): PWR_MODE_REQ with TARGET 1 in ASLEEP wakes the device into STARTING at once through power-on reset with CAUSE 3. `i2c` is the path.
  -/
  | wake (i2c : Bool)
  /-- ORDERLY_RESTART (R39): PWR_MODE_REQ with TARGET 1 outside ASLEEP takes an in-service save and restarts with CAUSE 4, or acts as a boot restart
  while halted. `i2c` is the path. -/
  | orderlyRestart (i2c : Bool) (promoteTo : Nat)
  /-- PROVING_UNLOCK_KEY (R37): A write of a KEY in PWR_MODE_REQ advances or cancels the two-key PROVING unlock. `i2c` is the path; KEY, TARGET and
  PROMOTE_TO of the word. -/
  | provingUnlockKey (i2c : Bool) (key target promoteTo : Nat)
  /-- PROVING_REQUEST (R37): TARGET 7 with GO after a valid unlock requests PROVING, which is refused unless CLASS is 0. `i2c` is the path. -/
  | provingRequest (i2c : Bool) (promoteTo : Nat)
  /-- SAVE_ARM (R54): PWR_SAVE_ARM.ARM re-arms the brown-out save. `autoRes` is AUTO_RESUME. -/
  | saveArm (autoRes : Bool)
  /-- SAVE_DISARM_KEY (R66): A KEY write to PWR_SAVE_ARM advances the two-write disarm, which completes by raising SAVE_DISARMED. `late` says that the
  second write came more than 10 ms after the first; `autoRes` is AUTO_RESUME. -/
  | saveDisarmKey (key : Nat) (late autoRes : Bool)
  /-- SAG_CFG_WRITE (R65): A write to PWR_SAG_CFG is applied, or ignored with MODE_REFUSED when out of range, too close or in HOLDING. `word` is the
  word written. -/
  | sagCfgWrite (word : Nat)
  /-- SS_DATA_READ (R62): A read of PWR_SS_DATA returns four save-store bytes at ADDR and advances ADDR by 4, or returns zero in HOLDING. `i2c` is the
  path. -/
  | ssDataRead (i2c : Bool)
  /-- BOOT_STEP_END (R110): A start-up step records its outcome; the sequencer applies the policy, escalation, sequencer restart or halt, and begins
  the next step. `ok` is the outcome of what the model cannot compute, with its DETAIL and MASK (R110); at step 1
  `mask` is the rise of HOLD in mV (R491). -/
  | bootStepEnd (ok : Bool) (detail mask : Nat)
  /-- CLEAR_STREAK (R113): CFG_BOOT_CMD.CLEAR_STREAK zeroes STREAK, DIRECT_CNT and ALT_BAD of one step and writes a new control copy. `k` is the step.
  -/
  | clearStreak (k : Nat)
  /-- FORCE_NORMAL (R113): CFG_BOOT_CMD.FORCE_NORMAL makes the next start that reaches the step run its normal path once, and is kept in a new control
  copy. `k` is the step. -/
  | forceNormal (k : Nat)
  /-- IMG_VERIFY (R77): CFG_IMG_CMD OP 1 starts verification of a slot, or is refused under R69 while a load reads the slot. -/
  | imgVerify (slot : Nat)
  /-- IMG_INVALIDATE (R69): CFG_IMG_CMD OP 2 invalidates a slot unless a load reads it or it holds the running image. -/
  | imgInvalidate (slot : Nat)
  /-- VERIFICATION_END (R77): A slot verification ends at its first failure or within 10 ms of its last byte, and raises IMG_VERIFIED or IMG_REJECTED.
  -/
  | verificationEnd (slot : Nat)
  /-- BAR2_WRITE (R437): A BAR2 write lands only in the host area or the image store; other writes are discarded, and a write into a slot clears
  VERIFIED and abandons reads of it. `off` is the offset in BAR2. -/
  | bar2Write (off : Nat) (bytes : List Nat)
  /-- RELOAD_REQUEST (R80): CFG_RELOAD GO is checked in the order of R80 and either refused with a code or accepted as QUEUED. `pen` is PARTNER_EN. -/
  | reloadRequest (tile slot : Nat) (pen : Bool) (partner gen : Nat)
  /-- DRAIN_END (R82): The drain ticks are counted out and the tile enters LOADING, with the fill generator taking the downstream. -/
  | drainEnd (n : Nat)
  /-- SECTION_LOADED (R82): CFG finishes reading and checking the section and initializing the tile's memories, or abandons the load on a CRC failure.
  -/
  | sectionLoaded (n : Nat)
  /-- TILE_NEGOTIATION (R97): The tile negotiates its interface version with S0, and succeeds or leaves the tile ISOLATED. -/
  | tileNegotiation (n : Nat)
  /-- RELOAD_TIMEOUT (R85): A reload not JOINED within 64 ticks of DRAINING is abandoned with code 1 and the tile is ISOLATED. -/
  | reloadTimeout (n : Nat)
  /-- COMMIT (R92): A CFG_COMMIT write with LINK = 0 is checked and accepted for the next tick, closing any linked set, or refused with
  COMMIT_REFUSED. -/
  | commit (group gen : Nat)
  /-- COMMIT_LINK (R94): A CFG_COMMIT write with LINK = 1 is held in an open linked set and locks that group's shadow. -/
  | commitLink (group gen : Nat)
  /-- PORT_ENABLE (R150): Setting TPA_CTRL.ENABLE brings the port up under the stagger, or is refused in LEAN under R35. -/
  | portEnable (n : Nat)
  /-- PORT_DISABLE (R150): Clearing TPA_CTRL.ENABLE takes the port down at the next tick and removes its stagger entry. -/
  | portDisable (n : Nat)
  /-- LOOPBACK_SET (R151): A LOOPBACK write takes effect only in PROVING and otherwise sets LB_BLOCKED. `v` is LOOPBACK. -/
  | loopbackSet (n v : Nat)
  /-- BEN_ASSERT (R132): At a tick after MEN has been active for BEN_WAIT_MS, TPA asserts BEN and begins LEAD_TICKS fill frames. -/
  | benAssert (n : Nat)
  /-- LEAD_END (R132): The LEAD_TICKS fill frames are counted out and service frames begin on the port. -/
  | leadEnd (n : Nat)
  /-- UPSTREAM_BURST (R164): A burst received inside its window is searched for delimiter candidates and confirmed or discarded; a confirmed burst is
  stamped and passed on. `l` are the delimiter matches; `selected` says that an armed injection draws this burst. -/
  | upstreamBurst (n : Nat) (l : List DelimMatch) (selected : Bool)
  /-- BURST_WINDOW_CLOSE (R138): At Z_k the receiver stops, and an unconfirmed burst is classed as NO_LIGHT, NO_LOCK or missing and reported to GNT
  and RNG. `sd` and `lock` say that light and lock were seen, `cut` that the burst was still arriving. -/
  | burstWindowClose (n : Nat) (sd lock cut : Bool)
  /-- CODEWORD_DECODED (R143): TPA finishes decoding an upstream FEC code word and passes it to FRM with its counts; the reports it holds go to GNT.
  `prev` places it in the window that closed last; `corr` corrected bits, `bad` uncorrectable, `bits` received bits, `bytes` of payload, the reports
  as (allocation, words), and the frames that end in it. -/
  | codewordDecoded (n : Nat) (prev : Bool) (corr : Nat) (bad : Bool) (bits bytes : Nat) (reports : List (Nat × Nat)) (frames : List RxFrame)
  /-- TREE_LOS (R146): LOS_FRAMES consecutive counting frames with SD low in every window raise TREE_LOS. -/
  | treeLos (n : Nat)
  /-- TREE_LOS_CLEAR (R146): SD goes high in a window after TREE_LOS and TREE_LOS_CLEAR is raised. -/
  | treeLosClear (n : Nat)
  /-- ROGUE_LIGHT (R146): SD stays high outside every window for longer than ROGUE_NS, and a rogue occurrence is counted and recorded. `ofs`
  nanoseconds after the tick; SD has been high for `tenths` of a nanosecond. -/
  | rogueLight (n : Nat) (r : RogueLight)
  /-- MODULE_READ (R148): TPA_MOD_CMD with READ = 1 starts a 1–4 byte module read, or is refused. DEV, REG, LEN and KHZ of the command. -/
  | moduleRead (n dev reg len khz : Nat)
  /-- MODULE_WRITE (R148): TPA_MOD_CMD with READ = 0 starts a 1–4 byte module write, or is refused. DEV, REG, LEN and KHZ of the command. -/
  | moduleWrite (n dev reg len khz : Nat)
  /-- MODULE_TXN_END (R149): A module transaction ends as done or unacknowledged, and raises MOD_DONE or MOD_FAIL. `ack` says that the module
  acknowledged; `data` is what it returned. -/
  | moduleTxnEnd (n : Nat) (ack : Bool) (data : Nat)
  /-- MODULE_STRETCH_TIMEOUT (R149): A module clock stretch beyond 25 ms ends the transaction with status 6 and raises MOD_FAIL. -/
  | moduleStretchTimeout (n : Nat)
  /-- MSG_SELECT (R155): At tick + 110.0 µs FRM selects up to MSG_MAX management messages for the next frame in priority order. -/
  | msgSelect (n : Nat)
  /-- PAYLOAD_PREFETCH (R315): From tick + 116.0 µs TMG dequeues and shapes downstream frames into each tree's next frame, and CPH encrypts them at
  dequeue. `budget` is the bytes that the frame still takes. -/
  | payloadPrefetch (n budget : Nat)
  /-- MAP_FREEZE (R204): At tick + 121.5 µs GNT strips invalid entries, freezes the map for the next frame, hands it to FRM with its burst windows and
  mirrors the page. `bad` reports an uncorrectable page entry. -/
  | mapFreeze (n : Nat) (bad : Bool)
  /-- MAP_LATE (R156): No map by tick + 123.0 µs, so FRM sends the next frame with an empty map. -/
  | mapLate (n : Nat)
  /-- FRAME_HANDOFF (R154): At tick + 124.0 µs FRM hands the header, allocation structures and messages of the next frame to TPA, filling any payload
  shortfall with idle. `idle` is the idle payload bytes, `short` says that payload ran short. -/
  | frameHandoff (n idle : Nat) (short : Bool)
  /-- MSG_TX_SUBMIT (R155): FRM_MSG_TX_CMD GO queues a host management message, or refuses it when the 64-message queue is full. -/
  | msgTxSubmit (n term : Nat)
  /-- UPSTREAM_MESSAGE (R153): An upstream management message is integrity-checked and routed to RNG, CPH, FRM or the host queue, or is discarded and
  counted. `mic` is the integrity check that it carries; `index` and `body` are its content. -/
  | upstreamMessage (n term kind mic index : Nat) (body : List Nat)
  /-- MSG_RX_POP (R162): FRM_MSG_RX_POP removes the oldest upstream message for the host. -/
  | msgRxPop (n : Nat)
  /-- PM_SELECT (R174): FRM_PM_SEL GO copies one record from the latched bank into FRM_PM_DATA as a single snapshot. `tree` selects the tree counters.
  -/
  | pmSelect (n term : Nat) (tree : Bool)
  /-- SFC_CEILING_WRITE (R159): The superframe counter reaches its ceiling less 2^31 frames, and a new ceiling 2^32 ahead is written to the save
  store. -/
  | sfcCeilingWrite (n : Nat)
  /-- DISCOVERY_PERIOD (R181): PERIOD_MS passes since the last discovery window and RNG requests a new one. -/
  | discoveryPeriod (n : Nat)
  /-- DISCOVERY_NOW (R181): RNG_DISC_CMD.NOW requests a discovery window, paced by the budget and device limit. -/
  | discoveryNow (n : Nat)
  /-- QUIET_WINDOW_BEGIN (R182): A queued quiet window begins once the tree budget and the device limit allow it, and GNT places it in the next map.
  -/
  | quietWindowBegin (n : Nat)
  /-- DISCOVERY_RESPONSE (R185): RNG handles an accepted discovery response by the first applicable admission rule. -/
  | discoveryResponse (n : Nat)
  /-- RANGING_TIME_RESEND (R186): No Acknowledge arrives within 16 frames, so Ranging_Time is sent again, up to 3 sendings, and then the terminal
  fails. -/
  | rangingTimeResend (n t : Nat)
  /-- CORRECTION_RESEND (R192): No sample shows the correction applied within 64 confirmed bursts; the correction is resent and then declared stuck.
  -/
  | correctionResend (n t : Nat)
  /-- VERIFY_TIMEOUT (R200): VERIFY_FRAMES pass without a confirmed burst and the verifying terminal enters RESERVED with VERIFY_FAIL. -/
  | verifyTimeout (n t : Nat)
  /-- ACCEPT (R196): RNG_TERM_CMD ACCEPT applies STEP_RU to a guarded terminal's EqD at the next tick, or is refused. -/
  | accept (n t : Nat)
  /-- RERANGE (R196): RNG_TERM_CMD RERANGE puts the terminal into RANGING with a full ranging window. -/
  | rerange (n t : Nat)
  /-- RELEASE (R187): RNG_TERM_CMD RELEASE frees the terminal ID and clears its serial number and EqD, sending no message. -/
  | release (n t : Nat)
  /-- RETRY (R184): RNG_TERM_CMD RETRY returns a FAILED terminal to ASSIGNED. -/
  | retry (n t : Nat)
  /-- SN_ADMIT (R185): RNG_SN_CMD OP 1 admits the oldest pending serial number to the named terminal ID. -/
  | snAdmit (n t : Nat)
  /-- SN_DROP (R185): RNG_SN_CMD OP 2 drops the oldest pending serial number. -/
  | snDrop (n : Nat)
  /-- SN_RESERVE (R184): RNG_SN_CMD OP 3 binds a FREE terminal ID to a serial number as RESERVED. -/
  | snReserve (n t : Nat)
  /-- RECOMPUTATION_START (R205): At tick + 2.0 µs on a cadence tick the report set closes and the THYME engines of each tree begin the bandwidth
  recomputation. -/
  | recomputationStart (n : Nat)
  /-- DEADLINE_NEAR (R245): At cycle 165,000 of the deadline frame, engines of a tree without DONE take the DEADLINE_NEAR signal and go assured-only.
  -/
  | deadlineNear (n : Nat)
  /-- TREE_DONE (R255): The last engine of a tree issues DONE and GNT counts it in time, late, or ignores it. -/
  | treeDone (n c : Nat)
  /-- RECOMPUTATION_DEADLINE (R206): At cycle 177,000 a tree without DONE has overrun; its insertions are discarded, ABORT is delivered and the last
  dynamic part is reused. -/
  | recomputationDeadline (n : Nat)
  /-- INSERTION (R229): GNT checks an engine's insertion or span group against every map rule and places it or returns a refusal code. -/
  | insertion (n c : Nat)
  /-- ALLOC_READ (R217): GNT_ALLOC_CMD OP 1 reads an allocation entry into GNT_ALLOC_DATA. `i` is the allocation. -/
  | allocRead (n i : Nat)
  /-- ALLOC_WRITE (R219): GNT_ALLOC_CMD OP 2 writes an allocation entry effective at the next tick, or refuses it. `i` is the allocation. -/
  | allocWrite (n i : Nat)
  /-- PROFILE_HOLD_END (R222): PROF_HOLD frames pass after a profile change and the profile becomes usable. `p` is the profile. -/
  | profileHoldEnd (n p : Nat)
  /-- NEXT (R238): CTL 0 continues at the next control-store word. -/
  | opNext (e c : Nat)
  /-- JUMP (R238): CTL 1 continues at TARGET. -/
  | opJump (e c : Nat)
  /-- BRANCH (R238): CTL 2 continues at TARGET when COND holds. -/
  | opBranch (e c : Nat)
  /-- CALL (R238): CTL 3 calls TARGET and puts the next word's address in G60. -/
  | opCall (e c : Nat)
  /-- RETURN (R238): CTL 4 returns to the address in G60, or from an open hook to the vendor caller. -/
  | opReturn (e c : Nat)
  /-- WAIT (R238): CTL 5 waits until COND holds, offering a word boundary each cycle. -/
  | opWait (e c : Nat)
  /-- LOOP (R238): CTL 6 decrements G61 and goes to TARGET when the result is not zero. -/
  | opLoop (e c : Nat)
  /-- SPAN_OPEN (R247): CTL 7 copies G1–G61 into the shadow set and begins an atomic span that stages writes. -/
  | opSpanOpen (e c : Nat)
  /-- SPAN_CLOSE (R248): CTL 8 applies the staged writes and presents the staged insertions to GNT as one group. -/
  | opSpanClose (e c : Nat)
  /-- DONE (R255): CTL 9 ends the engine's work unit once any unanswered insertion has its answer. -/
  | opDone (e c : Nat)
  /-- HRET (R245): CTL 10 returns from a signal handler to the saved address, or to the span's SPAN_OPEN after SPAN_CAP. -/
  | opHret (e c : Nat)
  /-- HOOK (R258): CTL 11 calls an enabled open hook in open privilege, within its cycle allowance. -/
  | opHook (e c : Nat)
  /-- IDLE (R266): CTL 12 waits for a recomputation start or a task. -/
  | opIdle (e c : Nat)
  /-- TRAP (R245): CTL 15, an illegal word or a forbidden operation traps; an open span is aborted and the work unit ends. -/
  | trap (e c : Nat)
  /-- ADD (R238): ALU op 1 writes SRC1 + SRC2. -/
  | opAdd (e c : Nat)
  /-- SUB (R238): ALU op 2 writes SRC1 − SRC2. -/
  | opSub (e c : Nat)
  /-- AND (R238): ALU op 3 writes SRC1 AND SRC2. -/
  | opAnd (e c : Nat)
  /-- OR (R238): ALU op 4 writes SRC1 OR SRC2. -/
  | opOr (e c : Nat)
  /-- XOR (R238): ALU op 5 writes SRC1 XOR SRC2. -/
  | opXor (e c : Nat)
  /-- SHL (R238): ALU op 6 shifts SRC1 left by SRC2[4:0]. -/
  | opShl (e c : Nat)
  /-- SHR (R238): ALU op 7 shifts SRC1 right logically by SRC2[4:0]. -/
  | opShr (e c : Nat)
  /-- SAR (R238): ALU op 8 shifts SRC1 right arithmetically by SRC2[4:0]. -/
  | opSar (e c : Nat)
  /-- MIN (R238): ALU op 9 writes the signed minimum. -/
  | opMin (e c : Nat)
  /-- MAX (R238): ALU op 10 writes the signed maximum. -/
  | opMax (e c : Nat)
  /-- MINU (R238): ALU op 11 writes the unsigned minimum. -/
  | opMinu (e c : Nat)
  /-- MAXU (R238): ALU op 12 writes the unsigned maximum. -/
  | opMaxu (e c : Nat)
  /-- MUL (R238): ALU op 13 writes the low 32 bits of the product. -/
  | opMul (e c : Nat)
  /-- MULHU (R238): ALU op 14 writes the high 32 bits of the unsigned product. -/
  | opMulhu (e c : Nat)
  /-- CMP (R238): ALU op 15 sets Z, N, C and V from SRC1 − SRC2. -/
  | opCmp (e c : Nat)
  /-- ADDI (R238): ALU op 16 writes SRC1 plus the signed 14-bit immediate. -/
  | opAddi (e c : Nat)
  /-- MOVI (R238): ALU op 17 writes the signed 14-bit immediate. -/
  | opMovi (e c : Nat)
  /-- SHLOR (R238): ALU op 18 writes (SRC1 << 14) OR the immediate's 14 bits. -/
  | opShlor (e c : Nat)
  /-- LD (R243): MEM op 1 loads 4 bytes of scratch, or the latest staged value inside a span. -/
  | opLd (e c : Nat)
  /-- ST (R243): MEM op 2 stores 4 bytes of scratch, staged inside a span. -/
  | opSt (e c : Nat)
  /-- LDL (R244): MEM op 3 fetches a 64-byte window line into scratch, at most 16 in flight. -/
  | opLdl (e c : Nat)
  /-- STL (R244): MEM op 4 writes a scratch line to a window line, staged inside a span. -/
  | opStl (e c : Nat)
  /-- LINE_LANDS (R244): A fetched window line lands and writes scratch directly, even after its span was aborted. `i` numbers the fetch among the
  engine's fetches in flight. -/
  | lineLands (e i : Nat)
  /-- ALLOC_RD (R240): Assist 1 reads an allocation entry into four registers. -/
  | opAllocRd (e c : Nat)
  /-- RPT (R240): Assist 2 returns the reported words and the report's age. -/
  | opRpt (e c : Nat)
  /-- WSA (R240): Assist 3 computes a weighted share and the remaining demand. -/
  | opWsa (e c : Nat)
  /-- SIZE (R240): Assist 4 returns the SIZE encoding and planning LEN_MU of an entry. -/
  | opSize (e c : Nat)
  /-- INS (R240): Assist 5 presents a page entry to GNT, staged inside a span, and returns INS_CODE. -/
  | opIns (e c : Nat)
  /-- ACC (R240): Assist 6 adds a signed value into one of the tree's accumulators. -/
  | opAcc (e c : Nat)
  /-- ACC_RD (R240): Assist 7 reads a tree accumulator. -/
  | opAccRd (e c : Nat)
  /-- BAR (R240): Assist 8 records the engine's arrival at a barrier. -/
  | opBar (e c : Nat)
  /-- DIV (R240): Assist 9 divides a 64-bit dividend by a 32-bit divisor, saturating. -/
  | opDiv (e c : Nat)
  /-- ASSIST_RESULT (R239): An assist's latency ends and its results are written, releasing any word stalled on them. -/
  | assistResult (e c : Nat)
  /-- SPAN_CAP (R249): A span passes its 512th cycle and is aborted, its staged writes discarded and its registers restored for restart. -/
  | spanCap (e c : Nat)
  /-- HOOK_TIMEOUT (R261): A hook call runs longer than HOOK_MAX cycles and traps, and its results are discarded. -/
  | hookTimeout (e c : Nat)
  /-- ENGINE_STOP (R245): MEC_ENG_CTRL.STOP = 1 delivers STOP at the next word boundary and the engine stays stopped. -/
  | engineStop (e c : Nat)
  /-- ENGINE_START (R245): MEC_ENG_CTRL.STOP = 0 starts the engine at the vendor idle loop. -/
  | engineStart (e : Nat)
  /-- OPEN_LOAD_SLOT (R263): MEC_OPEN_LOAD with SRC 1 starts the check of a slot's MICROCODE_OPEN section, or is refused. -/
  | openLoadSlot (slot : Nat)
  /-- TASK_POST (R266): MEC_TASK_POST GO queues a slow-path task, or refuses it when the queue is full. TYPE, ENGINE, TAG and ARG of the word. -/
  | taskPost (typ engine tag arg : Nat)
  /-- TASK_START (R266): An idle engine takes the oldest task for it once the next recomputation lies at least 2,048 cycles away. -/
  | taskStart (e c : Nat)
  /-- TASK_TIMEOUT (R266): A task runs longer than 2,048 cycles and traps. -/
  | taskTimeout (e c : Nat)
  /-- UPLINK_RX_FRAME (R430): UPL checks a received frame, drops bad ones, and sorts PTP, ESMC, LLDP and MAC control frames away from FWD. `kind` is
  its class in UPL (R432), `fcsBad` a wrong FCS, `corr` and `uncorr` the code words that carried it; `selected` says that an armed injection draws it.
  -/
  | uplinkRxFrame (u kind : Nat) (x : RxFrame) (bytes : List Nat) (fcsBad : Bool) (corr uncorr : Nat) (selected : Bool)
  /-- PFC_RX (R431): A received priority pause frame stops dequeuing of the paused classes on that port. `classes` are its enabled priorities, `zero`
  those with pause time 0. -/
  | pfcRx (u classes zero : Nat)
  /-- PAUSE_EXPIRE (R319): A received priority pause expires and dequeuing of the class resumes. `c` is the class. -/
  | pauseExpire (u c : Nat)
  /-- LINK_DOWN (R430): An uplink link goes down and LINK_DOWN is raised while TMG keeps queuing. -/
  | linkDown (u : Nat)
  /-- LINK_UP (R430): An uplink link comes up and LINK_UP is raised. -/
  | linkUp (u : Nat)
  /-- FRAME_LOOKUP (R272): FWD classifies a frame, looks up its flow and destination, queues learning and forwards or drops it, holding it while
  demand exceeds supply. `hold` says that the demand exceeds the supply. -/
  | frameLookup (hold : Bool) (brNs flNs : List Nat)
  /-- LEARN_COMMIT (R284): The partition's learn engine takes the next request or host operation and inserts, moves, refreshes or refuses the entry.
  `k` is the partition. -/
  | learnCommit (k : Nat)
  /-- CHURN_VISIT (R289): CHURN visits the next bucket or flow context, clearing HIT, setting STALE or IDLE, or removing an aged entry. `k` is the
  partition; `flow` visits a flow context, else a bucket. -/
  | churnVisit (k : Nat) (flow : Bool)
  /-- TABLE_READ (R292): FWD_TBL_CMD OP 1 reads an entry of the named table into FWD_TBL_DATA. -/
  | tableRead (table key : Nat)
  /-- TABLE_WRITE (R292): FWD_TBL_CMD OP 2 writes an entry of the named table, effective after BUSY falls, at the next tick or at its commit. `clr` is
  CLR_CNT, `wrCount` is WR_COUNT. -/
  | tableWrite (table key : Nat) (clr wrCount : Bool)
  /-- TABLE_DELETE (R293): FWD_TBL_CMD OP 3 deletes a bridge entry by key through the learn engine. -/
  | tableDelete (table key : Nat)
  /-- FLUSH_OWNER (R291): FWD_TBL_CMD OP 4 starts a walk that removes one owner's dynamic entries from one partition. -/
  | flushOwner (table key : Nat)
  /-- FLUSH_DONE (R291): The flush walk ends and FLUSH_DONE is raised. `k` is the partition. -/
  | flushDone (k : Nat)
  /-- CELL_FREE (R309): An owner presents a free, and BPM frees, decrements, holds or refuses it under the ownership table. `c` is the head cell, `x`
  the tag. -/
  | cellFree (c x : Nat)
  /-- HOST_CELL_FREE (R302): A write of BPM_HOST_FREE frees a host-held cell under the free rules. `c` is the head cell. -/
  | hostCellFree (c : Nat)
  /-- PAUSE_REFRESH (R320): Half the pause time passes while a pool holds XOFF, and UPL repeats the pause frame. -/
  | pauseRefresh (u : Nat)
  /-- UPLINK_TX_SELECT (R318): TMG picks the next frame for an uplink port by strict class, then deficit round robin, skipping paused classes. -/
  | uplinkTxSelect (u : Nat)
  /-- TMG_TABLE_READ (R317): TMG_TBL_CMD OP 1 reads a queue, node, policer or class-queue entry, returning the shadow for tables 0–2. -/
  | tmgTableRead (table index : Nat)
  /-- TMG_TABLE_WRITE (R317): TMG_TBL_CMD OP 2 writes an entry into the half's shadow or at the next tick, or is refused when the shadow is full. -/
  | tmgTableWrite (table index : Nat)
  /-- CIPHER_REQUEST_DONE (R332): A cipher request's last block is output, use counters advance and warning or limit events are raised. `i` numbers
  the request among those in flight. -/
  | cipherRequestDone (i : Nat)
  /-- HREQ_CTR (R335): CPH_HREQ_CMD with MODE 1 queues a CTR host request with a generated counter block. SLOT `a`, TAG and LEN of the command. -/
  | hreqCtr (decrypt : Bool) (a tag len : Nat)
  /-- HREQ_CBC (R335): CPH_HREQ_CMD with MODE 2 queues a CBC host request. SLOT `a`, TAG and LEN of the command. -/
  | hreqCbc (decrypt : Bool) (a tag len : Nat)
  /-- HREQ_CFB (R335): CPH_HREQ_CMD with MODE 3 queues a CFB host request. SLOT `a`, TAG and LEN of the command. -/
  | hreqCfb (decrypt : Bool) (a tag len : Nat)
  /-- HREQ_CMAC (R335): CPH_HREQ_CMD with MODE 4 queues a CMAC generate or verify request. SLOT `a`, TAG and LEN of the command. -/
  | hreqCmac (verify : Bool) (a tag len : Nat)
  /-- IMPORT_SESSION (R338): A TYPE 1 import unwraps a session key and loads the terminal's session record at the next tick. -/
  | importSession (slot wrap : Nat)
  /-- IMPORT_DATA (R338): A TYPE 2 import unwraps a terminal key and stages it for the next key-switch boundary. -/
  | importData (slot wrap : Nat)
  /-- IMPORT_GROUP (R338): A TYPE 3 import unwraps a group key and stages it for the next key-switch boundary. -/
  | importGroup (slot wrap : Nat)
  /-- IMPORT_AUTH (R338): A TYPE 4 import unwraps an authentication key of KIND WRAP or DATA, effective at the next tick. `data` is KIND. -/
  | importAuth (slot wrap : Nat) (data : Bool)
  /-- PREV_KEY_ZEROIZE (R340): 16 frames after a new key took effect, the previous key is zeroized. `k` is the slot. -/
  | prevKeyZeroize (k : Nat)
  /-- SLOT_ERASE (R343): CPH_SLOT_CMD.ERASE puts a slot into DRAINING and discards any staged key. `k` is the slot; `session` is SESSION. -/
  | slotErase (k : Nat) (session : Bool)
  /-- SLOT_ZEROIZED (R343): The last request holding the slot's key finishes, and RIND zeroizes the slot and sets it EMPTY. `k` is the slot. -/
  | slotZeroized (k : Nat)
  /-- KEY_CONTROL_SEND (R342): CPH_TERM_CMD OP 1 originates Key_Control asking the terminal for a new key at INDEX. `x` is the terminal. -/
  | keyControlSend (x index : Nat)
  /-- DS_INDEX_SWITCH (R341): CPH_TERM_CMD OP 2 requests a downstream key index switch at the next key-switch boundary. `x` is the terminal. -/
  | dsIndexSwitch (x index : Nat)
  /-- BIND_WRITE (R327): A CPH_BIND write defines a group binding, effective at the next tick, or is ignored as a duplicate. `b` is the binding, `w`
  its word. -/
  | bindWrite (b w : Nat)
  /-- DRAM_REQUEST (R352): A request reaches a pseudo-channel scheduler with its requester's class. `r` is the requester (R352); `data` is what it
  writes, none for a read. -/
  | dramRequest (r addr : Nat) (data : Option (List Nat))
  /-- DRAM_REQUEST_SERVED (R353): The scheduler issues the oldest ready request of the lowest class, with ECC correction and row-disturbance counting.
  `notReady` are the requests whose bank cannot take a command, `act` that it needs an activation, `ecc` what SEC-DED found in each of the
  burst's eight words, two bits a word from bit 0 up (0, 1 corrected, 2 uncorrectable), `drift` the lanes whose read timing has moved, with the
  adjustment from the trained value that each calls for, in units of 1/64 UI. -/
  | dramRequestServed (p : Nat) (notReady : List Nat) (act : Bool) (ecc : Nat) (drift : List (Nat × Int))
  /-- AGE_PROMOTE (R354): A request waits AGE_NS and is promoted to class 1. `id` is the request. -/
  | agePromote (p id : Nat)
  /-- PANIC (R355): A real-time requester's level crosses PANIC_LVL and its requests are served as class 0 until the level recovers. `r` is the
  requester, `level` in units of 0.1 µs. -/
  | panic (r level : Nat)
  /-- REFRESH_DUE (R356): A per-bank refresh falls due and is issued to an idle bank, postponed, or forced at POSTPONE_MAX. `busy` are the banks with
  requests waiting. -/
  | refreshDue (p : Nat) (busy : List Nat)
  /-- REFRESH_REPAY (R356): An owed refresh is repaid when a qualifying bank becomes idle. `busy` are the banks with requests waiting. -/
  | refreshRepay (p : Nat) (busy : List Nat)
  /-- SELF_REFRESH_ENTRY (R362): In LEAN or STANDBY a pseudo-channel idle for SR_IDLE with no owed refresh enters self-refresh. -/
  | selfRefreshEntry (p : Nat)
  /-- SELF_REFRESH_EXIT (R362): After residency a held request triggers the exit, and the first activate is allowed after tXS. -/
  | selfRefreshExit (p : Nat)
  /-- PATROL_SCRUB (R374): The patrol scrubber reads the next retained word and corrects single-bit errors. `ecc` is what SEC-DED found. -/
  | patrolScrub (ecc : Nat)
  /-- PTP_SYNC_RX (R384): TSU takes a Sync on a slave port and keeps it for pairing. `t1` and `cs` are in units of 1/65536 ns, `t2` is the instant
  of its arrival since the latest tick in the same units, of which TSU takes its timestamp (R391); a two-step Sync has no `t1` yet. -/
  | ptpSyncRx (u domain : Nat) (t1 : Option Int) (t2 : Nat) (cs : Int)
  /-- PTP_FOLLOW_UP_RX (R383): TSU takes a two-step Follow_Up carrying the precise Sync origin time. -/
  | ptpFollowUpRx (u : Nat) (t1 : PtpOrigin) (c : Int)
  /-- PTP_DELAY_RESP_RX (R384): TSU pairs a Delay_Resp with the latest Sync and computes the offset and mean path delay. -/
  | ptpDelayRespRx (u : Nat) (t4 : PtpOrigin) (cd : Int)
  /-- PTP_DELAY_REQ_RX (R385): A master port answers a Delay_Req within 1.0 ms. -/
  | ptpDelayReqRx (u : Nat) (q : PtpRequest)
  /-- PTP_SYNC_TX (R385): A master port sends Sync at each multiple of 62.5 ms of ToD. -/
  | ptpSyncTx (u : Nat)
  /-- PTP_DELAY_REQ_TX (R383): A slave port sends its Delay_Req at 16 per second. `t3` is the instant since the latest tick in units of
  1/65536 ns. -/
  | ptpDelayReqTx (u t3 : Nat)
  /-- PPS_IN_EDGE (R396): A 1PPS_IN rising edge is stamped, judged valid or outlier, and used as a phase measurement. `at_` is the instant since the latest tick in units of
  1/65536 ns, of which TSU takes its stamp, `since` the nanoseconds since the previous edge. -/
  | ppsInEdge (at_ since : Nat)
  /-- SER_TOD_RX (R397): A received serial time-of-day message is checked and names the next input edge, or is discarded. -/
  | serTodRx (bytes : List Nat)
  /-- TOD_REQUEST (R394): TSU_TOD_REQ GO computes a terminal's time of day for a frame ahead, or refuses it. TREE, TERMINAL and AHEAD of the word. -/
  | todRequest (n t ahead : Nat)
  /-- HEARTBEAT_TX (R401): Every 1.0 ms a beat is sent on path A and on path B. `selected` says that an armed injection draws it. -/
  | heartbeatTx (path : Nat) (selected : Bool)
  /-- HEARTBEAT_RX (R402): A valid beat is received on a path, restoring it, or signalling a gasp or dual active. `near` says that it came within 1.5
  ms of the one before, `missed` counts the beats missed since. -/
  | heartbeatRx (path : Nat) (beat : List Nat) (near : Bool) (missed : Nat)
  /-- PATH_LOST (R402): 8.0 ms pass without a valid beat on a path; the path is lost and mirroring pauses or a PEER_LOST request opens. -/
  | pathLost (path : Nat)
  /-- ARB_GNT_VERDICT (R411): A level on ARB_GNT stable for 1.0 ms is taken as a pin verdict, effective at the next tick. `level` is the pin's new
  level. -/
  | arbGntVerdict (level : Bool)
  /-- OXL_LINK_TRAINED (R97): The OXL link trains and negotiates OXL and mirror-schema versions, raising VER_NONE or VER_LIMITED. The peer's ranges.
  -/
  | oxlLinkTrained (oxlMin oxlMax schemaMin schemaMax : Nat)
  /-- MIRROR_RECORD_RX (R413): The standby applies a mirrored record into the same place in its own tables. `mg` is the mirror generation it carries.
  -/
  | mirrorRecordRx (mg : Nat) (r : MirRec)
  /-- HOST_TX_POST (R433): UPL_HTX_CMD GO posts a frame from a transmit slot, or refuses it with a code. SLOT, PORT and LEN of the command. -/
  | hostTxPost (slot port len : Nat)
  /-- BAR2_BASE_WRITE (R436): A write to HIF_BAR2_CFG waits for accepted BAR2 requests to complete and then moves the window. -/
  | bar2BaseWrite (base : Nat)
  /-- API_MINOR_SELECT (R438): A write of HIF_API_VER.SEL_MINOR selects the host API minor and gates the features of higher minors. -/
  | apiMinorSelect (minor : Nat)
  /-- I2C_TRANSACTION (R440): An I2C target read or write of a permitted BAR0 register is performed, or refused by not acknowledging. -/
  | i2cTransaction (write : Bool) (addr value : Nat)
  /-- SPI_READ (R439): HIF_SPI_CMD with READ = 1 issues a pass-through flash read, or is refused. The fields of the command. -/
  | spiRead (opcode addrBytes dummy len : Nat) (quad : Bool)
  /-- SPI_WRITE (R439): HIF_SPI_CMD with READ = 0 issues a pass-through flash command with data, or is refused. The fields of the command. -/
  | spiWrite (opcode addrBytes dummy len : Nat) (quad : Bool)
  /-- SPI_DONE (R439): A pass-through flash command completes and SPI_DONE is raised. `data` is what the flash returned, `writes` the bytes of the
  flash that changed. -/
  | spiDone (data : List Nat) (writes : List (Nat × Nat))
  /-- EVENT_OCCURRENCE (R441): An event source occurs; its status bit sets, a pending record opens or counts, the fault log and reflex rules are
  evaluated. `id` is the event number. -/
  | eventOccurrence (id : Nat)
  /-- RECORD_DUE (R442): COAL_US passes since a pending record's first occurrence and the record becomes due. `src` is the source. -/
  | recordDue (src : Nat)
  /-- EVT_RING_WRITE (R444): A write to HIF_EVT_RING takes effect after the record being written completes and sets PI and CI to 0. `w` is the word
  written. -/
  | evtRingWrite (w : Nat)
  /-- EVT_CI_WRITE (R444): A write of HIF_EVT_CI records consumed entries and frees ring room. `v` is the index written. -/
  | evtCiWrite (v : Nat)
  /-- FREEZE_END (R449): Writing 1 to a bit of HIF_RFX_FROZEN ends that tree's freeze at the next tick. `mask` is the word written. -/
  | freezeEnd (mask : Nat)
  /-- COUNTER_WRITE (R455): A write of OBS_CNT sets the counter, losing a simultaneous carry with CARRY_LOST. `i` is the counter, `w` the word, `incs`
  the increments of that cycle. -/
  | counterWrite (i w incs : Nat)
  /-- CHAINED_COUNTER_READ (R454): A read of a chained even counter latches its odd partner into OBS_CNT_HI in the same cycle. `i` is the counter. -/
  | chainedCounterRead (i : Nat)
  /-- HIST_CLEAR (R461): OBS_HIST_CFG.CLR zeroes every bin of the unit at the next tick. `h` is the histogram. -/
  | histClear (h : Nat)
  /-- VIEW_BIND (R464): A write of OBS_VIEW_BIND binds a view slot, or refuses a forbidden register with BAD. `v` is the view, `k` the word, `w` its
  value. -/
  | viewBind (v k w : Nat)
  /-- VIEW_WRITE (R463): A write to a view page is ignored, counted and raises VIEW_WRITE. `v` is the view. -/
  | viewWrite (v : Nat)
  /-- INJ_UNLOCK_KEY (R467): A KEY write to OBS_INJ_UNLOCK advances the two-key unlock of one link for 60 s, or raises INJ_REFUSED. `l` is the link.
  -/
  | injUnlockKey (l key : Nat)
  /-- INJ_EXPIRED (R467): A link's 60 s unlock expires and injection on it stops at the next tick. `l` is the link. -/
  | injExpired (l : Nat)
  /-- INJ_CFG_WRITE (R468): A write of OBS_INJ_CFG arms an injection on an unlocked link, or is kept without effect on a locked one. `l` is the link,
  `w` the word. -/
  | injCfgWrite (l w : Nat)
  /-- DEVICE_UNPOWERED (R58): The stored energy of C_HOLD, or VIN with the switch open, runs out, so the rails fall, VAUX and S0 included, and the
  device is unpowered until VIN rises again. `tornRec` and `tornFault` say that it tears the newest boot record and fault-log record. -/
  | deviceUnpowered (tornRec tornFault : Bool)
  /-- VIN_RISE (R490): VIN first rises through 4.5 V, the VAUX regulator starts and the 10 ms power-on reset timer runs. -/
  | vinRise
  /-- V_WARN_CROSS (R55): VIN stays below V_WARN for 2 µs, HOLDING is entered and the brown-out save begins with R25 suppression, unless the save is
  disarmed. -/
  | vWarnCross
  /-- CAPTURE_FROZEN (R55): At t_W + 150 µs the capture is frozen, VSER and tile rails fall, DRAM enters self-refresh and WHEY begins writing the save
  set. -/
  | captureFrozen
  /-- SAVE_HEADER_WRITTEN (R55): The save-set header with its complete marker is written last, so the copy becomes the latest valid copy, and the
  journal and fault-log records follow. -/
  | saveHeaderWritten
  /-- HOLDING_TIMEOUT (R38): 8 ms after the V_WARN confirmation WHEY stops writing and the device enters ASLEEP. -/
  | holdingTimeout
  /-- V_SAG_CROSS (R53): VIN stays below V_SAG for 2 µs and V_SAG_CROSS is raised. -/
  | vSagCross
  /-- VIN_RECOVERED (R59): VIN recovers for 50 ms after a crossing, VIN_RECOVERED is raised and the save still runs to completion. -/
  | vinRecovered
  /-- AUTO_RESUME (R39): In ASLEEP entered from HOLDING with AUTO_RESUME = 1, VIN has held V_WARN + 0.3 V for 50 ms and the device starts with CAUSE
  2. -/
  | autoResume
  /-- RAIL_UV (R46): A rail falls below its undervoltage threshold and the brown-out save starts as for a confirmed V_WARN crossing. -/
  | railUv
  /-- ILIM (R46): The input limiter engages at 19 A, and ILIM is raised and recorded. -/
  | ilim
  /-- VIN_BELOW_FLOOR (R42): VIN stays below the current mode's floor for 8 consecutive ticks; the device raises the event, sets HIGHEST_OK and keeps
  the mode. -/
  | vinBelowFloor
  /-- CHARGER_RESTART (R51): HOLD falls to the recharge start and the charger restarts towards the charge target. -/
  | chargerRestart
  /-- CHG_FAULT (R51): HOLD has not reached HOLD_OK_MV within CHG_TIMEOUT_MS of the charger starting; CHG_FAULT is set and charging continues. -/
  | chgFault
  /-- PROVING_UNLOCK_EXPIRE (R37): The 1 ms window between unlock steps expires and the PROVING unlock is cancelled. -/
  | provingUnlockExpire
  /-- SAVE_CMD (R61): PWR_SAVE_CMD.SAVE starts an in-service save that stages the save set at a tick, or merges into a running save. -/
  | saveCmd
  /-- SLEEP_CMD (R61): PWR_SAVE_CMD.SLEEP takes an in-service save, quiesces and enters ASLEEP. -/
  | sleepCmd
  /-- SAVE_STAGED (R61): The staging copy of an in-service save ends by tick + 40 µs and WHEY begins writing the target copy while traffic continues.
  -/
  | saveStaged
  /-- OPTICS_GROUP_RELEASE (R48): The optics group gap expires and the next group of at most four TPn_MEN is released. -/
  | opticsGroupRelease
  /-- SERVICE_MODE_TAKEN (R40): After service enable waited, the named mode is taken at the first tick at which HOLD_OK, the floor and the LEAN port
  limit are all met. -/
  | serviceModeTaken
  /-- BOOT_STEP_TIMEOUT (R101): A step still running at its timeout ends with outcome TIMEOUT. -/
  | bootStepTimeout
  /-- BOOT_RESTART (R112): CFG_BOOT_CMD.RESTART while halted starts again with CAUSE 5, and is otherwise ignored. -/
  | bootRestart
  /-- PM_LATCHED (R171): The copy of the live PM records into the latched bank ends, SECOND switches, and threshold crossings are compared. -/
  | pmLatched
  /-- OPEN_LOAD_SHADOW (R263): MEC_OPEN_LOAD with SRC 0 starts the check of the shadow open bank, or is refused. -/
  | openLoadShadow
  /-- OPEN_CHECK_END (R263): The word-by-word check of a new open bank ends; it passes and waits for the switch, or raises OPEN_REFUSED. -/
  | openCheckEnd
  /-- OPEN_LOADED (R264): At the first cadence tick with no engine in open privilege the banks switch and open scratch is zeroed. -/
  | openLoaded
  /-- TASK_RESULT_READ (R266): A read of MEC_TASK_RESULT that returns VALID = 1 removes the oldest result from the queue. -/
  | taskResultRead
  /-- CELL_ALLOC (R300): BPM serves a frame's allocation request whole from the free store and pool, or answers empty or refuses the charge. -/
  | cellAlloc
  /-- HOST_CELL_ALLOC (R302): A read of BPM_HOST_ALLOC takes one cell charged to HOST_POOL, or reports EMPTY. -/
  | hostCellAlloc
  /-- CIPHER_REQUEST_START (R328): A cipher request is checked and, when a lane is free, copies its key over the private bus and begins its blocks, or
  is refused. -/
  | cipherRequestStart
  /-- HREQ_RESULT_READ (R333): A read of CPH_HREQ_RESULT returning VALID = 1 removes the result and loads CPH_HREQ_OUT. -/
  | hreqResultRead
  /-- IMPORT_END (R338): A key import finishes with a code, raises IMPORT_DONE or IMPORT_REFUSED, and the blob is cleared. -/
  | importEnd
  /-- SEGMENT_ZEROED (R361): A re-retained segment finishes zeroing and held accesses to it proceed. -/
  | segmentZeroed
  /-- RH_WINDOW_END (R368): A row-disturbance window of RH_WINDOW ticks ends, its counts restart and throttling ends. -/
  | rhWindowEnd
  /-- PHASE_MEASUREMENT (R386): A measurement of the selected phase source is judged by the jump rule and steers the servo, fixes the grid or reaches
  LOCKED. -/
  | phaseMeasurement
  /-- PTP_SOURCE_LOST (R381): No Sync for 1.0 s on PTP_PORT; the source is lost and the servo enters HOLDOVER. -/
  | ptpSourceLost
  /-- PPS_SOURCE_LOST (R381): No valid 1PPS edge for 2.0 s; the source is lost and the servo enters HOLDOVER. -/
  | ppsSourceLost
  /-- SYNCE_LOST (R381): The SyncE port's link goes down or its quality check fails, and frequency holds over. -/
  | synceLost
  /-- PPS_OUT (R390): ToD reaches an integer second by advancing and 1PPS_OUT rises. -/
  | ppsOut
  /-- SER_TOD_TX (R397): 100 ms after each 1PPS_OUT edge TSU sends the serial time-of-day message naming the next edge. -/
  | serTodTx
  /-- JUMP_ACCEPT (R387): TSU_JUMP_CMD ACCEPT adds STEP to TOD_OFS at the next tick and clears the pending jump. -/
  | jumpAccept
  /-- JUMP_REBASE (R387): TSU_JUMP_CMD REBASE adds STEP to the port's ASYM_PS shadow and clears the jump at the group 50 commit. -/
  | jumpRebase
  /-- JUMP_REJECT (R387): TSU_JUMP_CMD REJECT discards the pending jump and restarts detection. -/
  | jumpReject
  /-- TIME_SNAP_READ (R392): A read of word 0 of TSU_TIME_SNAP latches both words of ToD in one cycle. -/
  | timeSnapRead
  /-- VERDICT_REQUEST_HOST (R405): PRT_VERDICT_CMD.REQUEST opens or extends a verdict request with reason HOST. -/
  | verdictRequestHost
  /-- VERDICT_TIMEOUT (R406): No verdict within VERDICT_MS; the request is issued again and SPLIT_SUSPECT is raised if both paths are lost. -/
  | verdictTimeout
  /-- PROMOTE (R410): A submitted KAP VERDICT with CODE PROMOTE is checked and acknowledged, then awaits its apply instant. -/
  | promote
  /-- DEMOTE (R410): A submitted KAP VERDICT with CODE DEMOTE is checked and acknowledged, then awaits its apply instant. -/
  | demote
  /-- VERDICT_HOLD (R410): A submitted KAP VERDICT with CODE HOLD is checked and acknowledged, and closes the request with no role change. -/
  | verdictHold
  /-- FENCE (R410): A submitted KAP VERDICT with CODE FENCE is checked and acknowledged, then awaits its apply instant. -/
  | fence
  /-- VERDICT_APPLIED (R417): At the first tick at or after its apply instant an accepted verdict takes effect: promotion, demotion or fence. -/
  | verdictApplied
  /-- KAP_TX_POP (R405): PRT_KAP_TX_STAT.POP removes the oldest outgoing KAP message. -/
  | kapTxPop
  /-- BULK_COPY_DONE (R415): The bulk copy to the standby completes and the mirror becomes CURRENT. -/
  | bulkCopyDone
  /-- REVERT_REQUEST (R421): The hold-off count reaches HOLDOFF_S and PRT opens a request with reason REVERT. -/
  | revertRequest
  /-- HOST_RX_POP (R433): UPL_HRX_POP releases the oldest received-frame descriptor and its slot. -/
  | hostRxPop
  /-- HOST_TX_SEND (R433): UPL sends a posted host frame between TMG's frames, in posting order, and counts it in DONE. -/
  | hostTxSend
  /-- PERST (R493): PERST_N resets only the PCIe endpoint, or fails a running PCIe image read at steps 5 and 6. -/
  | perst
  /-- PCIE_LINK_DOWN (R435): The PCIe link goes down and is logged, and PCIE_LINK_DOWN is raised once the link is up again. -/
  | pcieLinkDown
  /-- RECORD_WRITE (R444): The hub writes a due record by DMA into the host ring when room exists, advances PI and sends the MSI-X message. -/
  | recordWrite
  /-- SNAPSHOT (R457): OBS_SNAP_CMD.GO requests a copy of all 512 counters at the next tick. -/
  | snapshot
  /-- SKIM_RECORD (R459): A tagged frame leaves or is dropped and SKIM writes its record into the record queue. -/
  | skimRecord
  /-- SKIM_POP (R459): OBS_SKIM_STAT.POP removes the oldest SKIM record. -/
  | skimPop
  /-- PCIE_LINK_UP (R435): The PCIe link trains up again after a link-down or PERST_N, and PCIE_LINK_DOWN is raised at that moment. -/
  | pcieLinkUp
  /-- SYNCE_RESTORED (R381): The SyncE clock of SYNCE_PORT delivers again and passes its clock-quality check, so FREQ_OK returns to 1 and the servo
  leaves frequency holdover for ACQUIRING. -/
  | synceRestored
  /-- BUS_MASTER_ENABLE (R444): Host software enables bus mastering in the endpoint's configuration space, so event records held pending can again be
  written to the ring. -/
  | busMasterEnable
  deriving DecidableEq, Repr

end Sys2Proof
end

