-- ==== Sys2Proof/Decode.lean ====
section
/-! DEFINITION. Decode.lean: the command that a word of the opcode table spells. The block takes commands, and no row of
spec/opcode_table.json gives its command any bits (every row's "fields" is empty), so no word spells one. -/
namespace Sys2Proof

/-- The command that the table's bits spell: none, for every word. -/
def decodeTableWord (_nbits _w : Nat) : Option Instr := none

end Sys2Proof
end

