-- ==== Sys2Proof/Machine/Crc.lean ====
section
/-! DEFINITION. Machine/Crc.lean: the checksums the spec names: CRC-32 of IEEE 802.3 (R64, R70, R119, R159, R407), CRC-16 with
polynomial 0x1021 (R401) and CRC-8 with polynomial 0x07 (R397). -/
namespace Sys2Proof.Machine

/-- One bit of the reflected CRC-32. -/
def crc32Bit (c : Nat) : Nat := if c % 2 = 1 then (c / 2) ^^^ 0xEDB88320 else c / 2

/-- One byte of the reflected CRC-32. -/
def crc32Byte (c b : Nat) : Nat :=
  crc32Bit (crc32Bit (crc32Bit (crc32Bit (crc32Bit (crc32Bit (crc32Bit (crc32Bit (c ^^^ b))))))))

/-- CRC-32, IEEE 802.3 polynomial, over bytes given as numbers. -/
def crc32 (bs : List Nat) : Nat := (bs.foldl crc32Byte 0xFFFFFFFF) ^^^ 0xFFFFFFFF

/-- One byte of the reflected CRC-32C. -/
def crc32cByte (c b : Nat) : Nat :=
  (List.range 8).foldl (fun x _ => if x % 2 = 1 then (x / 2) ^^^ 0x82F63B78 else x / 2) (c ^^^ b)

/-- CRC-32C over bytes with an initial value, complemented at the end (R276). -/
def crc32c (init : Nat) (bs : List Nat) : Nat := (bs.foldl crc32cByte init) ^^^ 0xFFFFFFFF

/-- One bit of the CRC-16. -/
def crc16Bit (c : Nat) : Nat := if 0x8000 ≤ c then ((c * 2) ^^^ 0x1021) % 65536 else c * 2 % 65536

/-- CRC-16, polynomial 0x1021, initial value 0xFFFF. -/
def crc16 (bs : List Nat) : Nat :=
  bs.foldl (fun c b => (List.range 8).foldl (fun x _ => crc16Bit x) (c ^^^ (b * 256))) 0xFFFF

/-- One bit of the CRC-8. -/
def crc8Bit (c : Nat) : Nat := if 0x80 ≤ c then ((c * 2) ^^^ 0x07) % 256 else c * 2 % 256

/-- CRC-8, polynomial 0x07, initial value 0. -/
def crc8 (bs : List Nat) : Nat := bs.foldl (fun c b => (List.range 8).foldl (fun x _ => crc8Bit x) (c ^^^ b)) 0

/-- `n` little-endian bytes of a number, as numbers. -/
def leNats : Nat → Nat → List Nat
  | 0, _ => []
  | n + 1, v => v % 256 :: leNats n (v / 256)

/-- The little-endian number in a list of byte values. -/
def ofLe : List Nat → Nat
  | [] => 0
  | b :: bs => b % 256 + 256 * ofLe bs

end Sys2Proof.Machine
end

