-- ==== Sys2Proof/Machine/Reg.lean ====
section
/-! DEFINITION. Machine/Reg.lean: the shapes of BAR0 registers and their fields (R7, R8, R9, R471, R473) and of events (R479). -/
namespace Sys2Proof.Machine

/-- Access codes of 00_scope.md. -/
inductive Acc where
  | ro | rw | w1c | w1s | rc | wo
  deriving DecidableEq, Repr

/-- Reset letters of 00_scope.md in the combinations the tables use: `p` = P, `pt` = P, T, `pw` = P, W, `x` = X. -/
inductive Res where
  | p | pt | pw | x
  deriving DecidableEq, Repr

/-- One field of one register instance: its register's BAR0 address, lowest bit, width, access, reset letters and reset value. -/
structure Fld where
  addr : Nat
  lsb : Nat
  width : Nat
  acc : Acc
  res : Res
  rst : Nat
  deriving DecidableEq, Repr

/-- One index of a register array: stride in bytes, first and last index. -/
structure Dim where
  stride : Nat
  lo : Nat
  hi : Nat
  deriving DecidableEq, Repr

/-- The commit group of a register (R89): none, a fixed group, a fixed group plus the first index, or the group of an uplink
port (R428). -/
inductive Grp where
  | none
  | const (g : Nat)
  | plus (g : Nat)
  | uplink
  deriving DecidableEq, Repr

/-- One register array: base address, indexes, bytes of one instance (4 or 8), commit group and fields. -/
structure Reg where
  base : Nat
  dims : List Dim
  bytes : Nat
  grp : Grp
  fields : Nat → Nat → Nat → List Fld

/-- An event: its 11-bit ID (R479) and whether its block's table marks it logged. -/
structure Ev where
  id : Nat
  logged : Bool
  deriving DecidableEq, Repr

/-- The storage key of a field: register address and lowest bit together. -/
def Fld.key (f : Fld) : Nat := f.addr * 64 + f.lsb

end Sys2Proof.Machine
end

