-- ==== Sys2Proof/Machine/Events.lean ====
section
/-! DEFINITION. Machine/Events.lean: every event of the block event tables, its 11-bit ID under the ranges and offset
rules of R479, and whether its table marks it logged (R20, R481). -/
namespace Sys2Proof.Machine.E

def HIF_REFLEX_FIRED : Ev := ⟨0, true⟩
def HIF_REFLEX_DROPPED : Ev := ⟨1, true⟩
def HIF_RING_FULL : Ev := ⟨2, true⟩
def HIF_BAR2_WR_DISCARD : Ev := ⟨3, true⟩
def HIF_TILE_ACCESS : Ev := ⟨4, false⟩
def HIF_PCIE_LINK_DOWN : Ev := ⟨5, true⟩
def HIF_I2C_REFUSED : Ev := ⟨6, false⟩
def HIF_SPI_DONE : Ev := ⟨7, false⟩
def PWR_VIN_BELOW_FLOOR : Ev := ⟨8, true⟩
def PWR_V_WARN_CROSS : Ev := ⟨9, true⟩
def PWR_V_SAG_CROSS : Ev := ⟨10, true⟩
def PWR_VIN_RECOVERED : Ev := ⟨11, true⟩
def PWR_ILIM : Ev := ⟨12, true⟩
def PWR_OVER_CEIL : Ev := ⟨13, true⟩
def PWR_HOLD_NOT_READY : Ev := ⟨14, true⟩
def PWR_CHG_FAULT : Ev := ⟨15, true⟩
def PWR_SAVE_DONE : Ev := ⟨16, true⟩
def PWR_SAVE_INCOMPLETE : Ev := ⟨17, true⟩
def PWR_SAVE_ABANDONED : Ev := ⟨18, true⟩
def PWR_STAGGER_DEFER : Ev := ⟨19, false⟩
def PWR_MODE_CHANGED : Ev := ⟨20, true⟩
def PWR_MODE_REFUSED : Ev := ⟨21, true⟩
def PWR_ACTION_SUPPRESSED : Ev := ⟨22, true⟩
def PWR_RAIL_UV : Ev := ⟨23, true⟩
def PWR_SAVE_DISARMED : Ev := ⟨24, true⟩
def CFG_IMG_VERIFIED : Ev := ⟨25, true⟩
def CFG_IMG_REJECTED : Ev := ⟨26, true⟩
def CFG_RELOAD_REFUSED : Ev := ⟨27, true⟩
def CFG_RELOAD_DONE : Ev := ⟨28, true⟩
def CFG_RELOAD_ABANDONED : Ev := ⟨29, true⟩
def CFG_TILE_ISOLATED : Ev := ⟨30, true⟩
def CFG_COMMIT_REFUSED : Ev := ⟨31, true⟩
def CFG_VER_NONE : Ev := ⟨32, true⟩
def CFG_VER_LIMITED : Ev := ⟨33, true⟩
def CFG_SLOT_WRITTEN : Ev := ⟨34, false⟩
def CFG_BOOT_STEP_FAILED : Ev := ⟨57, true⟩
def CFG_BOOT_ESCALATED : Ev := ⟨58, true⟩
def CFG_BOOT_HALTED : Ev := ⟨59, true⟩
def CFG_BOOT_SEQ_RESTART : Ev := ⟨60, true⟩
def CFG_BOOT_POLICY_FIXED : Ev := ⟨61, true⟩
def CFG_BOOT_SAG_REPEAT : Ev := ⟨62, true⟩
def CFG_WARM_RESUMED : Ev := ⟨63, true⟩
def CFG_WARM_DECLINED : Ev := ⟨64, true⟩
def CFG_JOURNAL_TORN : Ev := ⟨65, true⟩
def CFG_BOOT_DONE : Ev := ⟨66, true⟩
def TSU_TIME_LOCKED : Ev := ⟨67, true⟩
def TSU_HOLDOVER : Ev := ⟨68, true⟩
def TSU_FREERUN : Ev := ⟨69, true⟩
def TSU_SRC_LOST : Ev := ⟨70, true⟩
def TSU_JUMP_PENDING : Ev := ⟨71, true⟩
def TSU_JUMP_CLEARED : Ev := ⟨72, true⟩
def TSU_PHASE_OUTLIER : Ev := ⟨73, false⟩
def TSU_FREQ_LIMIT : Ev := ⟨74, true⟩
def TSU_RTD_CHANGED : Ev := ⟨75, false⟩
def TSU_SER_TOD_ERR : Ev := ⟨76, true⟩
def PRT_PATH_A_LOST : Ev := ⟨77, true⟩
def PRT_PATH_A_UP : Ev := ⟨78, true⟩
def PRT_PATH_B_LOST : Ev := ⟨79, true⟩
def PRT_PATH_B_UP : Ev := ⟨80, true⟩
def PRT_PEER_LOST : Ev := ⟨81, true⟩
def PRT_PEER_GASP : Ev := ⟨82, true⟩
def PRT_VERDICT_REQ : Ev := ⟨83, false⟩
def PRT_VERDICT_APPLIED : Ev := ⟨84, true⟩
def PRT_VERDICT_REFUSED : Ev := ⟨85, true⟩
def PRT_VERDICT_TIMEOUT : Ev := ⟨86, true⟩
def PRT_SPLIT_SUSPECT : Ev := ⟨87, true⟩
def PRT_MIRROR_STALE : Ev := ⟨88, true⟩
def PRT_MIRROR_CURRENT : Ev := ⟨89, true⟩
def PRT_PAGE_SKIP : Ev := ⟨90, false⟩
def PRT_SAGE_REPORT : Ev := ⟨91, false⟩
def PRT_SAGE_UNHEALTHY : Ev := ⟨92, true⟩
def PRT_CFG_MISMATCH : Ev := ⟨93, true⟩
def PRT_DUAL_ACTIVE : Ev := ⟨94, true⟩
def OBS_CNT_OVF : Ev := ⟨95, false⟩
def OBS_CARRY_LOST : Ev := ⟨96, true⟩
def OBS_SKIM_FULL : Ev := ⟨97, false⟩
def OBS_HIST_SAT : Ev := ⟨98, false⟩
def OBS_VIEW_WRITE : Ev := ⟨99, true⟩
def OBS_INJ_ACTIVE : Ev := ⟨100, true⟩
def OBS_INJ_EXPIRED : Ev := ⟨101, true⟩
def OBS_INJ_REFUSED : Ev := ⟨102, true⟩
def TPA_TREE_LOS (n : Nat) : Ev := ⟨128 + n, true⟩
def TPA_TREE_LOS_CLEAR (n : Nat) : Ev := ⟨160 + n, true⟩
def TPA_ROGUE_LIGHT (n : Nat) : Ev := ⟨192 + n, true⟩
def TPA_LOCK_FAIL_RATE (n : Nat) : Ev := ⟨224 + n, true⟩
def TPA_BRST_SKIP (n : Nat) : Ev := ⟨256 + n, false⟩
def TPA_SWITCH_LATE (n : Nat) : Ev := ⟨288 + n, false⟩
def TPA_MOD_DONE (n : Nat) : Ev := ⟨320 + n, false⟩
def TPA_MOD_FAIL (n : Nat) : Ev := ⟨352 + n, true⟩
def FRM_TERM_DEFECT (n : Nat) : Ev := ⟨384 + n, true⟩
def FRM_TERM_DEFECT_CLEAR (n : Nat) : Ev := ⟨416 + n, true⟩
def FRM_AMBIGUOUS (n : Nat) : Ev := ⟨448 + n, false⟩
def FRM_UNCONFIRMED_RATE (n : Nat) : Ev := ⟨480 + n, true⟩
def FRM_PM_TCA (n : Nat) : Ev := ⟨512 + n, true⟩
def FRM_MAP_LATE (n : Nat) : Ev := ⟨544 + n, true⟩
def FRM_DS_UNDERRUN (n : Nat) : Ev := ⟨576 + n, false⟩
def FRM_MSG_RX (n : Nat) : Ev := ⟨608 + n, false⟩
def FRM_MSG_TX_DROP (n : Nat) : Ev := ⟨640 + n, true⟩
def FRM_PM_LATCHED : Ev := ⟨672, false⟩
def MEC_SPAN_CAP_ABORT : Ev := ⟨673, false⟩
def MEC_ENG_TRAP : Ev := ⟨674, true⟩
def MEC_OPEN_TRAP : Ev := ⟨675, true⟩
def MEC_OPEN_BUDGET : Ev := ⟨676, false⟩
def MEC_DEADLINE_NEAR : Ev := ⟨677, false⟩
def MEC_OPEN_LOADED : Ev := ⟨678, true⟩
def MEC_OPEN_REFUSED : Ev := ⟨679, true⟩
def MEC_ENGMAP_LIMIT : Ev := ⟨680, true⟩
def MEC_ENGMAP_NONE : Ev := ⟨681, true⟩
def MEC_TASK_DONE : Ev := ⟨682, false⟩
def MEC_TASK_DROP : Ev := ⟨683, true⟩
def BPM_POOL_LEVEL : Ev := ⟨684, true⟩
def BPM_POOL_DROP : Ev := ⟨685, true⟩
def BPM_EMPTY : Ev := ⟨686, true⟩
def BPM_FREE_REFUSED : Ev := ⟨687, true⟩
def CPH_KEY_USE_WARN : Ev := ⟨688, true⟩
def CPH_KEY_USE_LIMIT : Ev := ⟨689, true⟩
def CPH_KEY_ACTIVE : Ev := ⟨690, false⟩
def CPH_IMPORT_DONE : Ev := ⟨691, false⟩
def CPH_IMPORT_REFUSED : Ev := ⟨692, true⟩
def CPH_SLOT_ZEROIZED : Ev := ⟨693, false⟩
def CPH_REQ_DONE : Ev := ⟨694, false⟩
def CPH_REQ_REFUSED : Ev := ⟨695, true⟩
def CPH_PAYLOAD_DROP : Ev := ⟨696, true⟩
def DRC_RH_THROTTLE : Ev := ⟨697, true⟩
def DRC_REF_FORCED : Ev := ⟨698, false⟩
def DRC_PANIC : Ev := ⟨699, false⟩
def DRC_ECC_UE : Ev := ⟨700, true⟩
def DRC_ECC_CE : Ev := ⟨701, false⟩
def DRC_SEG_FAULT : Ev := ⟨702, true⟩
def DRC_TRAIN_DRIFT : Ev := ⟨703, true⟩
def RNG_TERM_ACTIVE (n : Nat) : Ev := ⟨704 + n, true⟩
def RNG_TERM_GUARDED (n : Nat) : Ev := ⟨736 + n, true⟩
def RNG_TERM_GUARD_CLEAR (n : Nat) : Ev := ⟨768 + n, true⟩
def RNG_SN_PENDING (n : Nat) : Ev := ⟨800 + n, false⟩
def RNG_DUP_SERIAL (n : Nat) : Ev := ⟨832 + n, true⟩
def RNG_RANGE_FAILED (n : Nat) : Ev := ⟨864 + n, true⟩
def RNG_REACH_EXCEEDED (n : Nat) : Ev := ⟨896 + n, true⟩
def RNG_VERIFY_DONE (n : Nat) : Ev := ⟨928 + n, true⟩
def RNG_VERIFY_FAIL (n : Nat) : Ev := ⟨960 + n, true⟩
def RNG_EQD_STUCK (n : Nat) : Ev := ⟨992 + n, true⟩
def RNG_DISC_DEFER (n : Nat) : Ev := ⟨1024 + n, false⟩
def GNT_OVERRUN (n : Nat) : Ev := ⟨1056 + n, true⟩
def GNT_LATE_DONE (n : Nat) : Ev := ⟨1088 + n, false⟩
def GNT_PAGE_ERR (n : Nat) : Ev := ⟨1120 + n, true⟩
def GNT_PROFILE_REFUSED (n : Nat) : Ev := ⟨1152 + n, true⟩
def GNT_FIXED_REFUSED (n : Nat) : Ev := ⟨1184 + n, true⟩
def GNT_FIXED_PREEMPT (n : Nat) : Ev := ⟨1216 + n, false⟩
def GNT_REPORT_FOREIGN (n : Nat) : Ev := ⟨1248 + n, false⟩
def FWD_LEARN_LIMIT (k : Nat) : Ev := ⟨1280 + k, true⟩
def FWD_MOVE (k : Nat) : Ev := ⟨1284 + k, false⟩
def FWD_FLAPPING (k : Nat) : Ev := ⟨1288 + k, true⟩
def FWD_EVICT (k : Nat) : Ev := ⟨1292 + k, false⟩
def FWD_BUCKET_FULL (k : Nat) : Ev := ⟨1296 + k, true⟩
def FWD_LEARN_DROP (k : Nat) : Ev := ⟨1300 + k, true⟩
def FWD_STATIC_CONFLICT (k : Nat) : Ev := ⟨1304 + k, true⟩
def FWD_CHURN_PASS (k : Nat) : Ev := ⟨1308 + k, false⟩
def FWD_INGRESS_HOLD : Ev := ⟨1312, true⟩
def FWD_FLUSH_DONE (k : Nat) : Ev := ⟨1316 + k, false⟩
def FWD_TBL_ECC (k : Nat) : Ev := ⟨1320 + k, true⟩
def UPL_LINK_DOWN (u : Nat) : Ev := ⟨1324 + u, true⟩
def UPL_LINK_UP (u : Nat) : Ev := ⟨1340 + u, true⟩
def UPL_FEC_UNCORR (u : Nat) : Ev := ⟨1356 + u, true⟩
def UPL_HOST_RX_DROP (u : Nat) : Ev := ⟨1372 + u, false⟩
def UPL_PAUSE_GLOBAL_RX (u : Nat) : Ev := ⟨1388 + u, false⟩
def TMG_TREE_THROTTLED (n : Nat) : Ev := ⟨1404 + n, true⟩
def TMG_TREE_THROTTLE_CLEAR (n : Nat) : Ev := ⟨1436 + n, true⟩
def TMG_PAUSE_TX (n : Nat) : Ev := ⟨1468 + n, false⟩
def TMG_QUEUE_ERR : Ev := ⟨1500, true⟩
def TMG_SHADOW_FULL : Ev := ⟨1532, true⟩

/-- Every event as (ID of its first source, sources, logged). -/
def table : List (Nat × Nat × Bool) :=
  [(0, 1, true), (1, 1, true), (2, 1, true), (3, 1, true), (4, 1, false),
   (5, 1, true), (6, 1, false), (7, 1, false), (8, 1, true), (9, 1, true),
   (10, 1, true), (11, 1, true), (12, 1, true), (13, 1, true), (14, 1, true),
   (15, 1, true), (16, 1, true), (17, 1, true), (18, 1, true), (19, 1, false),
   (20, 1, true), (21, 1, true), (22, 1, true), (23, 1, true), (24, 1, true),
   (25, 1, true), (26, 1, true), (27, 1, true), (28, 1, true), (29, 1, true),
   (30, 1, true), (31, 1, true), (32, 1, true), (33, 1, true), (34, 1, false),
   (57, 1, true), (58, 1, true), (59, 1, true), (60, 1, true), (61, 1, true),
   (62, 1, true), (63, 1, true), (64, 1, true), (65, 1, true), (66, 1, true),
   (67, 1, true), (68, 1, true), (69, 1, true), (70, 1, true), (71, 1, true),
   (72, 1, true), (73, 1, false), (74, 1, true), (75, 1, false), (76, 1, true),
   (77, 1, true), (78, 1, true), (79, 1, true), (80, 1, true), (81, 1, true),
   (82, 1, true), (83, 1, false), (84, 1, true), (85, 1, true), (86, 1, true),
   (87, 1, true), (88, 1, true), (89, 1, true), (90, 1, false), (91, 1, false),
   (92, 1, true), (93, 1, true), (94, 1, true), (95, 1, false), (96, 1, true),
   (97, 1, false), (98, 1, false), (99, 1, true), (100, 1, true), (101, 1, true),
   (102, 1, true), (128, 32, true), (160, 32, true), (192, 32, true), (224, 32, true),
   (256, 32, false), (288, 32, false), (320, 32, false), (352, 32, true), (384, 32, true),
   (416, 32, true), (448, 32, false), (480, 32, true), (512, 32, true), (544, 32, true),
   (576, 32, false), (608, 32, false), (640, 32, true), (672, 1, false), (673, 1, false),
   (674, 1, true), (675, 1, true), (676, 1, false), (677, 1, false), (678, 1, true),
   (679, 1, true), (680, 1, true), (681, 1, true), (682, 1, false), (683, 1, true),
   (684, 1, true), (685, 1, true), (686, 1, true), (687, 1, true), (688, 1, true),
   (689, 1, true), (690, 1, false), (691, 1, false), (692, 1, true), (693, 1, false),
   (694, 1, false), (695, 1, true), (696, 1, true), (697, 1, true), (698, 1, false),
   (699, 1, false), (700, 1, true), (701, 1, false), (702, 1, true), (703, 1, true),
   (704, 32, true), (736, 32, true), (768, 32, true), (800, 32, false), (832, 32, true),
   (864, 32, true), (896, 32, true), (928, 32, true), (960, 32, true), (992, 32, true),
   (1024, 32, false), (1056, 32, true), (1088, 32, false), (1120, 32, true), (1152, 32, true),
   (1184, 32, true), (1216, 32, false), (1248, 32, false), (1280, 4, true), (1284, 4, false),
   (1288, 4, true), (1292, 4, false), (1296, 4, true), (1300, 4, true), (1304, 4, true),
   (1308, 4, false), (1312, 1, true), (1316, 4, false), (1320, 4, true), (1324, 16, true),
   (1340, 16, true), (1356, 16, true), (1372, 16, false), (1388, 16, false), (1404, 32, true),
   (1436, 32, true), (1468, 16, false), (1500, 1, true), (1532, 1, true)]

/-- The event of an ID; none where the ID is unoccupied (R480). -/
def ofId (id : Nat) : Option Ev :=
  (table.find? fun r => decide (r.1 ≤ id) && decide (id < r.1 + r.2.1)).map fun r => ⟨id, r.2.2⟩

end Sys2Proof.Machine.E
end

