-- ==== Sys2Proof/Machine/FieldsA.lean ====
section
/-! DEFINITION. Machine/FieldsA.lean: every field of every BAR0 register of HIF, CFG, PWR, TPA and FRM, one definition each:
its register's address, lowest bit, width, access code, reset letters and reset value, copied from the field tables
of the spec's chapters (R7, R8, R9, R471). A field whose table gives no reset value has 0 here (assumption 2). -/
namespace Sys2Proof.Machine.F

/-! PWR_MODE: current mode (spec/02_modes_power_holdup.md). -/

def PWR_MODE_CUR : Fld := ⟨0x200000, 0, 3, .ro, .p, 0⟩
def PWR_MODE_PREV : Fld := ⟨0x200000, 4, 3, .ro, .p, 0⟩
def PWR_MODE_PENDING : Fld := ⟨0x200000, 8, 1, .ro, .p, 0⟩
def PWR_MODE_CHANGES : Fld := ⟨0x200000, 16, 16, .ro, .p, 0⟩

/-! PWR_MODE_REQ: mode request (spec/02_modes_power_holdup.md). -/

def PWR_MODE_REQ_TARGET : Fld := ⟨0x200004, 0, 3, .rw, .p, 0⟩
def PWR_MODE_REQ_PROMOTE_TO : Fld := ⟨0x200004, 4, 3, .rw, .p, 3⟩
def PWR_MODE_REQ_GO : Fld := ⟨0x200004, 8, 1, .w1s, .p, 0⟩
def PWR_MODE_REQ_KEY : Fld := ⟨0x200004, 16, 16, .wo, .p, 0⟩

/-! PWR_MODE_STAT: refusals and floor advice (spec/02_modes_power_holdup.md). -/

def PWR_MODE_STAT_REFUSED_TARGET : Fld := ⟨0x200008, 0, 3, .ro, .p, 0⟩
def PWR_MODE_STAT_REFUSE_CODE : Fld := ⟨0x200008, 4, 4, .ro, .p, 0⟩
def PWR_MODE_STAT_HIGHEST_OK : Fld := ⟨0x200008, 8, 3, .ro, .p, 0⟩
def PWR_MODE_STAT_BELOW_FLOOR : Fld := ⟨0x200008, 11, 1, .ro, .p, 0⟩

/-! PWR_VIN: input voltage (spec/02_modes_power_holdup.md). -/

def PWR_VIN_VIN_MV : Fld := ⟨0x200010, 0, 16, .ro, .p, 0⟩
def PWR_VIN_VIN_MIN_MV : Fld := ⟨0x200010, 16, 16, .rc, .p, 0⟩

/-! PWR_IIN: input current and rail status (spec/02_modes_power_holdup.md). -/

def PWR_IIN_IIN_MA : Fld := ⟨0x200014, 0, 16, .ro, .p, 0⟩
def PWR_IIN_ILIM : Fld := ⟨0x200014, 16, 1, .ro, .p, 0⟩
def PWR_IIN_ILIM_SEEN : Fld := ⟨0x200014, 17, 1, .w1c, .p, 0⟩
def PWR_IIN_RAIL_UV_SEEN : Fld := ⟨0x200014, 18, 1, .w1c, .p, 0⟩

/-! PWR_PIN: input power (spec/02_modes_power_holdup.md). -/

def PWR_PIN_PIN_10MW : Fld := ⟨0x200018, 0, 16, .ro, .p, 0⟩
def PWR_PIN_OVER_TICKS : Fld := ⟨0x200018, 16, 16, .rc, .p, 0⟩

/-! PWR_HOLD: hold-up status (spec/02_modes_power_holdup.md). -/

def PWR_HOLD_HOLD_MV : Fld := ⟨0x200020, 0, 16, .ro, .p, 0⟩
def PWR_HOLD_HOLD_OK : Fld := ⟨0x200020, 16, 1, .ro, .p, 0⟩
def PWR_HOLD_CHG_ON : Fld := ⟨0x200020, 17, 1, .ro, .p, 0⟩
def PWR_HOLD_CHG_FAULT : Fld := ⟨0x200020, 18, 1, .w1c, .p, 0⟩
def PWR_HOLD_SAVE_ON_VIN : Fld := ⟨0x200020, 19, 1, .w1c, .p, 0⟩

/-! PWR_HOLD_CFG: hold-up settings (spec/02_modes_power_holdup.md). -/

def PWR_HOLD_CFG_HOLD_OK_MV : Fld := ⟨0x200024, 0, 16, .rw, .p, 15000⟩
def PWR_HOLD_CFG_CHG_TIMEOUT_MS : Fld := ⟨0x200024, 16, 16, .rw, .p, 2000⟩

/-! PWR_SAG_CFG: sag thresholds (spec/02_modes_power_holdup.md). -/

def PWR_SAG_CFG_V_WARN_MV : Fld := ⟨0x200028, 0, 16, .rw, .p, 6000⟩
def PWR_SAG_CFG_V_SAG_MV : Fld := ⟨0x200028, 16, 16, .rw, .p, 4400⟩

/-! PWR_SAVE_ARM: brown-out save arming (spec/02_modes_power_holdup.md). -/

def PWR_SAVE_ARM_ARMED : Fld := ⟨0x200030, 0, 1, .ro, .p, 1⟩
def PWR_SAVE_ARM_AUTO_RESUME : Fld := ⟨0x200030, 1, 1, .rw, .p, 0⟩
def PWR_SAVE_ARM_ARM : Fld := ⟨0x200030, 2, 1, .w1s, .p, 0⟩
def PWR_SAVE_ARM_KEY : Fld := ⟨0x200030, 16, 16, .wo, .p, 0⟩

/-! PWR_SAVE_CMD: save commands (spec/02_modes_power_holdup.md). -/

def PWR_SAVE_CMD_SAVE : Fld := ⟨0x200034, 0, 1, .w1s, .p, 0⟩
def PWR_SAVE_CMD_SLEEP : Fld := ⟨0x200034, 1, 1, .w1s, .p, 0⟩

/-! PWR_SAVE_STAT: save status (spec/02_modes_power_holdup.md). -/

def PWR_SAVE_STAT_LATEST : Fld := ⟨0x200038, 0, 2, .ro, .p, 0⟩
def PWR_SAVE_STAT_BUSY : Fld := ⟨0x200038, 2, 1, .ro, .p, 0⟩
def PWR_SAVE_STAT_LAST_OK : Fld := ⟨0x200038, 3, 1, .ro, .p, 0⟩
def PWR_SAVE_STAT_LAST_CAUSE : Fld := ⟨0x200038, 4, 4, .ro, .p, 0⟩
def PWR_SAVE_STAT_MERGED : Fld := ⟨0x200038, 8, 1, .w1c, .p, 0⟩
def PWR_SAVE_STAT_REWRITES : Fld := ⟨0x200038, 9, 7, .ro, .p, 0⟩
def PWR_SAVE_STAT_LAST_DUR : Fld := ⟨0x200038, 16, 16, .ro, .p, 0⟩

/-! PWR_SAVE_SEQ: latest save sequence (spec/02_modes_power_holdup.md). -/

def PWR_SAVE_SEQ_SEQ : Fld := ⟨0x20003c, 0, 32, .ro, .x, 0⟩

/-! PWR_STAGGER_CFG: stagger tightening (spec/02_modes_power_holdup.md). -/

def PWR_STAGGER_CFG_PER_TICK : Fld := ⟨0x200040, 0, 3, .rw, .p, 4⟩
def PWR_STAGGER_CFG_OPT_GROUP : Fld := ⟨0x200040, 8, 3, .rw, .p, 4⟩
def PWR_STAGGER_CFG_OPT_GAP_MS : Fld := ⟨0x200040, 16, 8, .rw, .p, 2⟩

/-! PWR_STAGGER_STAT: stagger queue (spec/02_modes_power_holdup.md). -/

def PWR_STAGGER_STAT_QUEUED : Fld := ⟨0x200044, 0, 8, .ro, .p, 0⟩
def PWR_STAGGER_STAT_QUEUED_MAX : Fld := ⟨0x200044, 8, 8, .rc, .p, 0⟩
def PWR_STAGGER_STAT_DEFERRED : Fld := ⟨0x200044, 16, 16, .rc, .p, 0⟩

/-! PWR_SS_ADDR: save-store read address (spec/02_modes_power_holdup.md). -/

def PWR_SS_ADDR_ADDR : Fld := ⟨0x200060, 2, 23, .rw, .p, 0⟩

/-! PWR_SS_DATA: save-store read data (spec/02_modes_power_holdup.md). -/

def PWR_SS_DATA_DATA : Fld := ⟨0x200064, 0, 32, .ro, .p, 0⟩

/-! CFG_IMG_STAT: slot status (spec/03_structure_image.md). -/

def CFG_IMG_STAT_VERIFIED (s : Nat) : Fld := ⟨0x100000 + 0x4 * s, 0, 1, .ro, .p, 0⟩
def CFG_IMG_STAT_RUNNING (s : Nat) : Fld := ⟨0x100000 + 0x4 * s, 1, 1, .ro, .p, 0⟩
def CFG_IMG_STAT_BUSY (s : Nat) : Fld := ⟨0x100000 + 0x4 * s, 2, 1, .ro, .p, 0⟩
def CFG_IMG_STAT_ERR (s : Nat) : Fld := ⟨0x100000 + 0x4 * s, 4, 4, .ro, .p, 0⟩
def CFG_IMG_STAT_FORMAT (s : Nat) : Fld := ⟨0x100000 + 0x4 * s, 8, 8, .ro, .p, 0⟩

/-! CFG_IMG_CMD: slot commands (spec/03_structure_image.md). -/

def CFG_IMG_CMD_SLOT : Fld := ⟨0x100008, 0, 1, .rw, .p, 0⟩
def CFG_IMG_CMD_OP : Fld := ⟨0x100008, 1, 2, .rw, .p, 0⟩
def CFG_IMG_CMD_GO : Fld := ⟨0x100008, 3, 1, .w1s, .p, 0⟩

/-! CFG_IMG_ID: slot image identity (spec/03_structure_image.md). -/

def CFG_IMG_ID_IMAGE_ID (s : Nat) : Fld := ⟨0x100010 + 0x8 * s, 0, 64, .ro, .p, 0⟩

/-! CFG_IMG_VER: slot image version (spec/03_structure_image.md). -/

def CFG_IMG_VER_IMAGE_VER (s : Nat) : Fld := ⟨0x100020 + 0x4 * s, 0, 32, .ro, .p, 0⟩

/-! CFG_RELOAD: tile reload request (spec/03_structure_image.md). -/

def CFG_RELOAD_TILE : Fld := ⟨0x100040, 0, 6, .rw, .p, 0⟩
def CFG_RELOAD_SLOT : Fld := ⟨0x100040, 6, 1, .rw, .p, 0⟩
def CFG_RELOAD_PARTNER_EN : Fld := ⟨0x100040, 7, 1, .rw, .p, 0⟩
def CFG_RELOAD_PARTNER : Fld := ⟨0x100040, 8, 6, .rw, .p, 0⟩
def CFG_RELOAD_GO : Fld := ⟨0x100040, 14, 1, .w1s, .p, 0⟩
def CFG_RELOAD_GEN : Fld := ⟨0x100040, 16, 16, .rw, .p, 0⟩

/-! CFG_RELOAD_STAT: last reload outcome (spec/03_structure_image.md). -/

def CFG_RELOAD_STAT_TILE : Fld := ⟨0x100044, 0, 6, .ro, .p, 0⟩
def CFG_RELOAD_STAT_REFUSE_CODE : Fld := ⟨0x100044, 8, 4, .ro, .p, 0⟩
def CFG_RELOAD_STAT_ABANDON_CODE : Fld := ⟨0x100044, 12, 3, .ro, .p, 0⟩
def CFG_RELOAD_STAT_ACTIVE : Fld := ⟨0x100044, 16, 8, .ro, .p, 0⟩

/-! CFG_TILE_STAT: tile status (spec/03_structure_image.md). -/

def CFG_TILE_STAT_STATE (n : Nat) : Fld := ⟨0x100100 + 0x4 * n, 0, 3, .ro, .p, 0⟩
def CFG_TILE_STAT_IF_VER (n : Nat) : Fld := ⟨0x100100 + 0x4 * n, 4, 4, .ro, .p, 0⟩
def CFG_TILE_STAT_SLOT (n : Nat) : Fld := ⟨0x100100 + 0x4 * n, 8, 1, .ro, .p, 0⟩
def CFG_TILE_STAT_LOADS (n : Nat) : Fld := ⟨0x100100 + 0x4 * n, 16, 16, .ro, .p, 0⟩

/-! CFG_TILE_BUILD: tile build (spec/03_structure_image.md). -/

def CFG_TILE_BUILD_BUILD (n : Nat) : Fld := ⟨0x100200 + 0x4 * n, 0, 32, .ro, .p, 0⟩

/-! CFG_COMMIT: commit write (spec/03_structure_image.md). -/

def CFG_COMMIT_GROUP : Fld := ⟨0x100300, 0, 6, .wo, .p, 0⟩
def CFG_COMMIT_LINK : Fld := ⟨0x100300, 6, 1, .wo, .p, 0⟩
def CFG_COMMIT_GEN : Fld := ⟨0x100300, 16, 16, .wo, .p, 0⟩

/-! CFG_COMMIT_STAT: commit refusals (spec/03_structure_image.md). -/

def CFG_COMMIT_STAT_GROUP : Fld := ⟨0x100304, 0, 6, .ro, .p, 0⟩
def CFG_COMMIT_STAT_CODE : Fld := ⟨0x100304, 8, 3, .ro, .p, 0⟩
def CFG_COMMIT_STAT_LINKED : Fld := ⟨0x100304, 12, 4, .ro, .p, 0⟩
def CFG_COMMIT_STAT_REFUSED : Fld := ⟨0x100304, 16, 16, .rc, .p, 0⟩

/-! CFG_GEN: group generation (spec/03_structure_image.md). -/

def CFG_GEN_CUR (g : Nat) : Fld := ⟨0x100400 + 0x4 * g, 0, 16, .ro, .pw, 1⟩
def CFG_GEN_PENDING (g : Nat) : Fld := ⟨0x100400 + 0x4 * g, 16, 1, .ro, .p, 0⟩
def CFG_GEN_FROZEN (g : Nat) : Fld := ⟨0x100400 + 0x4 * g, 17, 1, .ro, .p, 0⟩

/-! CFG_VER: external interface versions (spec/03_structure_image.md). -/

def CFG_VER_MIN (i : Nat) : Fld := ⟨0x100600 + 0x4 * i, 0, 8, .ro, .p, ([0, 2, 1, 1, 1].getD i 0)⟩
def CFG_VER_MAX (i : Nat) : Fld := ⟨0x100600 + 0x4 * i, 8, 8, .ro, .p, ([4, 2, 3, 2, 2].getD i 0)⟩
def CFG_VER_AGREED (i : Nat) : Fld := ⟨0x100600 + 0x4 * i, 16, 8, .ro, .p, 0⟩
def CFG_VER_NONE (i : Nat) : Fld := ⟨0x100600 + 0x4 * i, 24, 1, .ro, .p, 0⟩

/-! CFG_BOOT_STAT: sequencer status (spec/04_boot_and_restart.md). -/

def CFG_BOOT_STAT_STEP : Fld := ⟨0x100800, 0, 4, .ro, .p, 0⟩
def CFG_BOOT_STAT_FINAL : Fld := ⟨0x100800, 4, 3, .ro, .p, 0⟩
def CFG_BOOT_STAT_HALTED : Fld := ⟨0x100800, 7, 1, .ro, .p, 0⟩
def CFG_BOOT_STAT_HALT_STEP : Fld := ⟨0x100800, 8, 4, .ro, .p, 0⟩
def CFG_BOOT_STAT_HALT_OUTCOME : Fld := ⟨0x100800, 12, 4, .ro, .p, 0⟩
def CFG_BOOT_STAT_CAUSE : Fld := ⟨0x100800, 16, 3, .ro, .p, 0⟩
def CFG_BOOT_STAT_POLICY_SRC : Fld := ⟨0x100800, 19, 2, .ro, .p, 0⟩

/-! CFG_BOOT_STEP: step outcome of the current start (spec/04_boot_and_restart.md). -/

def CFG_BOOT_STEP_OUTCOME (k : Nat) : Fld := ⟨0x100800 + 0x4 * k, 0, 4, .ro, .p, 0⟩
def CFG_BOOT_STEP_ACTION (k : Nat) : Fld := ⟨0x100800 + 0x4 * k, 4, 2, .ro, .p, 0⟩
def CFG_BOOT_STEP_DIRECT (k : Nat) : Fld := ⟨0x100800 + 0x4 * k, 6, 1, .ro, .p, 0⟩
def CFG_BOOT_STEP_ATTEMPTS (k : Nat) : Fld := ⟨0x100800 + 0x4 * k, 8, 4, .ro, .p, 0⟩
def CFG_BOOT_STEP_STREAK (k : Nat) : Fld := ⟨0x100800 + 0x4 * k, 16, 8, .ro, .p, 0⟩
def CFG_BOOT_STEP_DIRECT_CNT (k : Nat) : Fld := ⟨0x100800 + 0x4 * k, 24, 8, .ro, .p, 0⟩

/-! CFG_BOOT_SEL: image source (spec/04_boot_and_restart.md). -/

def CFG_BOOT_SEL_SOURCE : Fld := ⟨0x100840, 0, 1, .rw, .x, 0⟩
def CFG_BOOT_SEL_COPY : Fld := ⟨0x100840, 1, 1, .rw, .x, 0⟩
def CFG_BOOT_SEL_COPY_USED : Fld := ⟨0x100840, 2, 1, .ro, .p, 0⟩
def CFG_BOOT_SEL_ALT_USED : Fld := ⟨0x100840, 3, 1, .ro, .p, 0⟩

/-! CFG_BOOT_CMD: sequencer commands (spec/04_boot_and_restart.md). -/

def CFG_BOOT_CMD_RESTART : Fld := ⟨0x100844, 0, 1, .w1s, .p, 0⟩
def CFG_BOOT_CMD_CLEAR_STREAK : Fld := ⟨0x100844, 1, 1, .w1s, .p, 0⟩
def CFG_BOOT_CMD_FORCE_NORMAL : Fld := ⟨0x100844, 2, 1, .w1s, .p, 0⟩
def CFG_BOOT_CMD_STEP : Fld := ⟨0x100844, 4, 4, .rw, .p, 0⟩

/-! CFG_WARM_STAT: warm resume outcome (spec/04_boot_and_restart.md). -/

def CFG_WARM_STAT_WARM : Fld := ⟨0x100848, 0, 1, .ro, .p, 0⟩
def CFG_WARM_STAT_DECLINE : Fld := ⟨0x100848, 1, 3, .ro, .p, 0⟩
def CFG_WARM_STAT_AGE_UNCHECKED : Fld := ⟨0x100848, 4, 1, .ro, .p, 0⟩
def CFG_WARM_STAT_OLDER_COPY : Fld := ⟨0x100848, 5, 1, .ro, .p, 0⟩

/-! CFG_WARM_TREES: trees restored warm (spec/04_boot_and_restart.md). -/

def CFG_WARM_TREES_TREES : Fld := ⟨0x10084c, 0, 32, .ro, .p, 0⟩

/-! CFG_JNL_STAT: journal status (spec/04_boot_and_restart.md). -/

def CFG_JNL_STAT_START_NO : Fld := ⟨0x100850, 0, 32, .ro, .p, 0⟩
def CFG_JNL_STAT_HEAD : Fld := ⟨0x100850, 32, 4, .ro, .p, 0⟩
def CFG_JNL_STAT_CTRL_OK : Fld := ⟨0x100850, 36, 1, .ro, .p, 0⟩
def CFG_JNL_STAT_HELD : Fld := ⟨0x100850, 37, 1, .ro, .p, 0⟩
def CFG_JNL_STAT_TORN : Fld := ⟨0x100850, 40, 8, .rc, .p, 0⟩

/-! TPA_CTRL: port control (spec/05_tree_ports.md). -/

def TPA_CTRL_ENABLE (n : Nat) : Fld := ⟨0x1000000 + 0x10000 * n, 0, 1, .rw, .pw, 0⟩
def TPA_CTRL_LOOPBACK (n : Nat) : Fld := ⟨0x1000000 + 0x10000 * n, 1, 2, .rw, .pt, 0⟩

/-! TPA_STAT: port status (spec/05_tree_ports.md). -/

def TPA_STAT_RATE_CLASS (n : Nat) : Fld := ⟨0x1000004 + 0x10000 * n, 0, 1, .ro, .pt, 0⟩
def TPA_STAT_PAIRED (n : Nat) : Fld := ⟨0x1000004 + 0x10000 * n, 1, 1, .ro, .pt, 0⟩
def TPA_STAT_PARTNER (n : Nat) : Fld := ⟨0x1000004 + 0x10000 * n, 2, 5, .ro, .pt, 0⟩
def TPA_STAT_MEN (n : Nat) : Fld := ⟨0x1000004 + 0x10000 * n, 7, 1, .ro, .p, 0⟩
def TPA_STAT_BEN (n : Nat) : Fld := ⟨0x1000004 + 0x10000 * n, 8, 1, .ro, .p, 0⟩
def TPA_STAT_SD (n : Nat) : Fld := ⟨0x1000004 + 0x10000 * n, 9, 1, .ro, .p, 0⟩
def TPA_STAT_LOS (n : Nat) : Fld := ⟨0x1000004 + 0x10000 * n, 10, 1, .ro, .p, 0⟩
def TPA_STAT_LB_BLOCKED (n : Nat) : Fld := ⟨0x1000004 + 0x10000 * n, 11, 1, .ro, .p, 0⟩
def TPA_STAT_PHASE (n : Nat) : Fld := ⟨0x1000004 + 0x10000 * n, 12, 2, .ro, .pt, 0⟩

/-! TPA_BRST_CFG: burst reset timing (spec/05_tree_ports.md). -/

def TPA_BRST_CFG_BRST_LAG (n : Nat) : Fld := ⟨0x1000010 + 0x10000 * n, 0, 7, .rw, .pt, 4⟩
def TPA_BRST_CFG_BRST_SETUP (n : Nat) : Fld := ⟨0x1000010 + 0x10000 * n, 8, 7, .rw, .pt, 8⟩
def TPA_BRST_CFG_BRST_MAX (n : Nat) : Fld := ⟨0x1000010 + 0x10000 * n, 16, 7, .rw, .pt, 32⟩

/-! TPA_BEN_CFG: transmit enable timing (spec/05_tree_ports.md). -/

def TPA_BEN_CFG_LEAD_TICKS (n : Nat) : Fld := ⟨0x1000014 + 0x10000 * n, 0, 8, .rw, .pt, 8⟩
def TPA_BEN_CFG_BEN_WAIT_MS (n : Nat) : Fld := ⟨0x1000014 + 0x10000 * n, 8, 8, .rw, .pt, 20⟩

/-! TPA_SD_CFG: loss and rogue thresholds (spec/05_tree_ports.md). -/

def TPA_SD_CFG_LOS_FRAMES (n : Nat) : Fld := ⟨0x1000018 + 0x10000 * n, 0, 8, .rw, .pt, 32⟩
def TPA_SD_CFG_ROGUE_NS (n : Nat) : Fld := ⟨0x1000018 + 0x10000 * n, 8, 8, .rw, .pt, 8⟩
def TPA_SD_CFG_LOCK_FAIL_TH (n : Nat) : Fld := ⟨0x1000018 + 0x10000 * n, 16, 16, .rw, .pt, 1000⟩

/-! TPA_CAL: board delay calibration (spec/05_tree_ports.md). -/

def TPA_CAL_TX_CAL_PS (n : Nat) : Fld := ⟨0x100001c + 0x10000 * n, 0, 16, .rw, .pt, 0⟩
def TPA_CAL_RX_CAL_PS (n : Nat) : Fld := ⟨0x100001c + 0x10000 * n, 16, 16, .rw, .pt, 0⟩

/-! TPA_TX_DLY: downstream reference delay (spec/05_tree_ports.md). -/

def TPA_TX_DLY_D_TX_PS (n : Nat) : Fld := ⟨0x1000020 + 0x10000 * n, 0, 32, .ro, .pt, 0⟩

/-! TPA_LAST_STAMP: latest arrival stamp (spec/05_tree_ports.md). -/

def TPA_LAST_STAMP_STAMP (n : Nat) : Fld := ⟨0x1000030 + 0x10000 * n, 0, 64, .ro, .pt, 0⟩

/-! TPA_FEC_BITS: corrected bits (spec/05_tree_ports.md). -/

def TPA_FEC_BITS_CORR_BITS (n : Nat) : Fld := ⟨0x1000040 + 0x10000 * n, 0, 48, .ro, .p, 0⟩

/-! TPA_FEC_CW: code words (spec/05_tree_ports.md). -/

def TPA_FEC_CW_CORR_CW (n : Nat) : Fld := ⟨0x1000048 + 0x10000 * n, 0, 32, .ro, .p, 0⟩
def TPA_FEC_CW_UNCORR_CW (n : Nat) : Fld := ⟨0x1000048 + 0x10000 * n, 32, 32, .ro, .p, 0⟩

/-! TPA_BURST_OK: bursts received (spec/05_tree_ports.md). -/

def TPA_BURST_OK_LOCKED (n : Nat) : Fld := ⟨0x1000050 + 0x10000 * n, 0, 32, .ro, .p, 0⟩

/-! TPA_BURST_ERR: burst failures (spec/05_tree_ports.md). -/

def TPA_BURST_ERR_NO_LOCK (n : Nat) : Fld := ⟨0x1000054 + 0x10000 * n, 0, 16, .rc, .p, 0⟩
def TPA_BURST_ERR_NO_LIGHT (n : Nat) : Fld := ⟨0x1000054 + 0x10000 * n, 16, 16, .rc, .p, 0⟩

/-! TPA_SCHED_ERR: schedule shortfalls (spec/05_tree_ports.md). -/

def TPA_SCHED_ERR_BRST_SKIPPED (n : Nat) : Fld := ⟨0x1000058 + 0x10000 * n, 0, 10, .rc, .p, 0⟩
def TPA_SCHED_ERR_SWITCH_LATE (n : Nat) : Fld := ⟨0x1000058 + 0x10000 * n, 10, 10, .rc, .p, 0⟩
def TPA_SCHED_ERR_OVERRUN_CUT (n : Nat) : Fld := ⟨0x1000058 + 0x10000 * n, 20, 10, .rc, .p, 0⟩

/-! TPA_ROGUE: rogue light (spec/05_tree_ports.md). -/

def TPA_ROGUE_COUNT (n : Nat) : Fld := ⟨0x1000060 + 0x10000 * n, 0, 16, .rc, .p, 0⟩
def TPA_ROGUE_FRAME (n : Nat) : Fld := ⟨0x1000060 + 0x10000 * n, 16, 16, .ro, .p, 0⟩
def TPA_ROGUE_OFFSET_NS (n : Nat) : Fld := ⟨0x1000060 + 0x10000 * n, 32, 32, .ro, .p, 0⟩

/-! TPA_MOD_CMD: module transaction (spec/05_tree_ports.md). -/

def TPA_MOD_CMD_DEV_ADDR (n : Nat) : Fld := ⟨0x1000100 + 0x10000 * n, 0, 7, .rw, .p, 0⟩
def TPA_MOD_CMD_READ (n : Nat) : Fld := ⟨0x1000100 + 0x10000 * n, 7, 1, .rw, .p, 0⟩
def TPA_MOD_CMD_REG (n : Nat) : Fld := ⟨0x1000100 + 0x10000 * n, 8, 8, .rw, .p, 0⟩
def TPA_MOD_CMD_LEN (n : Nat) : Fld := ⟨0x1000100 + 0x10000 * n, 16, 2, .rw, .p, 0⟩
def TPA_MOD_CMD_BUS_KHZ (n : Nat) : Fld := ⟨0x1000100 + 0x10000 * n, 18, 1, .rw, .p, 0⟩
def TPA_MOD_CMD_GO (n : Nat) : Fld := ⟨0x1000100 + 0x10000 * n, 19, 1, .w1s, .p, 0⟩

/-! TPA_MOD_DATA: module data (spec/05_tree_ports.md). -/

def TPA_MOD_DATA_DATA (n : Nat) : Fld := ⟨0x1000104 + 0x10000 * n, 0, 32, .rw, .p, 0⟩

/-! TPA_MOD_STAT: module transaction status (spec/05_tree_ports.md). -/

def TPA_MOD_STAT_STATUS (n : Nat) : Fld := ⟨0x1000108 + 0x10000 * n, 0, 3, .ro, .p, 0⟩

/-! FRM_SEARCH_CFG: delimiter search (spec/06_framer.md). -/

def FRM_SEARCH_CFG_SEARCH_HALF (n : Nat) : Fld := ⟨0x1400010 + 0x10000 * n, 0, 8, .rw, .pt, 16⟩
def FRM_SEARCH_CFG_SEARCH_GUARDED (n : Nat) : Fld := ⟨0x1400010 + 0x10000 * n, 8, 12, .rw, .pt, 512⟩
def FRM_SEARCH_CFG_DELIM_TOL (n : Nat) : Fld := ⟨0x1400010 + 0x10000 * n, 20, 4, .rw, .pt, 3⟩

/-! FRM_DEFECT_CFG: defect thresholds (spec/06_framer.md). -/

def FRM_DEFECT_CFG_LOB_FRAMES (n : Nat) : Fld := ⟨0x1400014 + 0x10000 * n, 0, 8, .rw, .pt, 4⟩
def FRM_DEFECT_CFG_SD_EXP (n : Nat) : Fld := ⟨0x1400014 + 0x10000 * n, 8, 4, .rw, .pt, 3⟩
def FRM_DEFECT_CFG_SF_EXP (n : Nat) : Fld := ⟨0x1400014 + 0x10000 * n, 12, 4, .rw, .pt, 2⟩

/-! FRM_TCA_CFG: crossing thresholds (spec/06_framer.md). -/

def FRM_TCA_CFG_MISSED_TH (n : Nat) : Fld := ⟨0x1400018 + 0x10000 * n, 0, 8, .rw, .pt, 80⟩
def FRM_TCA_CFG_HDR_TH (n : Nat) : Fld := ⟨0x1400018 + 0x10000 * n, 8, 8, .rw, .pt, 16⟩
def FRM_TCA_CFG_UNCONF_TH (n : Nat) : Fld := ⟨0x1400018 + 0x10000 * n, 16, 16, .rw, .pt, 1000⟩

/-! FRM_MSG_CFG: message space (spec/06_framer.md). -/

def FRM_MSG_CFG_MSG_MAX (n : Nat) : Fld := ⟨0x140001c + 0x10000 * n, 0, 5, .rw, .pt, 4⟩

/-! FRM_SFC: superframe counter (spec/06_framer.md). -/

def FRM_SFC_SFC (n : Nat) : Fld := ⟨0x1400020 + 0x10000 * n, 0, 51, .ro, .pw, 0⟩

/-! FRM_DS_STAT: downstream shortfalls (spec/06_framer.md). -/

def FRM_DS_STAT_MAP_LATE (n : Nat) : Fld := ⟨0x1400028 + 0x10000 * n, 0, 10, .rc, .p, 0⟩
def FRM_DS_STAT_DS_UNDERRUN (n : Nat) : Fld := ⟨0x1400028 + 0x10000 * n, 10, 10, .rc, .p, 0⟩
def FRM_DS_STAT_PLOAM_US_DROP (n : Nat) : Fld := ⟨0x1400028 + 0x10000 * n, 20, 10, .rc, .p, 0⟩

/-! FRM_AMBIG_LAST: last ambiguous search (spec/06_framer.md). -/

def FRM_AMBIG_LAST_FRAME (n : Nat) : Fld := ⟨0x1400030 + 0x10000 * n, 0, 16, .ro, .pt, 0⟩
def FRM_AMBIG_LAST_TERMINAL (n : Nat) : Fld := ⟨0x1400030 + 0x10000 * n, 16, 9, .ro, .pt, 0⟩
def FRM_AMBIG_LAST_WIN_OFS (n : Nat) : Fld := ⟨0x1400030 + 0x10000 * n, 32, 16, .ro, .pt, 0⟩
def FRM_AMBIG_LAST_CANDIDATES (n : Nat) : Fld := ⟨0x1400030 + 0x10000 * n, 48, 8, .ro, .pt, 0⟩

/-! FRM_DEFECT_LAST: last defect change (spec/06_framer.md). -/

def FRM_DEFECT_LAST_FRAME (n : Nat) : Fld := ⟨0x1400038 + 0x10000 * n, 0, 16, .ro, .pt, 0⟩
def FRM_DEFECT_LAST_TERMINAL (n : Nat) : Fld := ⟨0x1400038 + 0x10000 * n, 16, 9, .ro, .pt, 0⟩
def FRM_DEFECT_LAST_DEFECT (n : Nat) : Fld := ⟨0x1400038 + 0x10000 * n, 25, 3, .ro, .pt, 0⟩
def FRM_DEFECT_LAST_SET (n : Nat) : Fld := ⟨0x1400038 + 0x10000 * n, 28, 1, .ro, .pt, 0⟩
def FRM_DEFECT_LAST_CHANGES (n : Nat) : Fld := ⟨0x1400038 + 0x10000 * n, 32, 16, .rc, .p, 0⟩

/-! FRM_TCA_TERM: crossings of the last second (spec/06_framer.md). -/

def FRM_TCA_TERM_FIRST (n : Nat) : Fld := ⟨0x1400040 + 0x10000 * n, 0, 9, .ro, .p, 0⟩
def FRM_TCA_TERM_COUNT (n : Nat) : Fld := ⟨0x1400040 + 0x10000 * n, 16, 10, .ro, .p, 0⟩

/-! FRM_MSG_TX: downstream message body (spec/06_framer.md). -/

def FRM_MSG_TX_BYTES (n i : Nat) : Fld := ⟨0x1400100 + 0x10000 * n + 0x4 * i, 0, 32, .rw, .p, 0⟩

/-! FRM_MSG_TX_CMD: submit downstream message (spec/06_framer.md). -/

def FRM_MSG_TX_CMD_TERMINAL (n : Nat) : Fld := ⟨0x1400130 + 0x10000 * n, 0, 9, .rw, .p, 0⟩
def FRM_MSG_TX_CMD_GO (n : Nat) : Fld := ⟨0x1400130 + 0x10000 * n, 9, 1, .w1s, .p, 0⟩

/-! FRM_MSG_TX_STAT: downstream queue (spec/06_framer.md). -/

def FRM_MSG_TX_STAT_QUEUED (n : Nat) : Fld := ⟨0x1400134 + 0x10000 * n, 0, 7, .ro, .pt, 0⟩
def FRM_MSG_TX_STAT_LAST_REFUSED (n : Nat) : Fld := ⟨0x1400134 + 0x10000 * n, 7, 1, .ro, .pt, 0⟩

/-! FRM_MSG_RX: oldest upstream message (spec/06_framer.md). -/

def FRM_MSG_RX_BYTES (n i : Nat) : Fld := ⟨0x1400200 + 0x10000 * n + 0x4 * i, 0, 32, .ro, .pt, 0⟩

/-! FRM_MSG_RX_STAT: upstream queue (spec/06_framer.md). -/

def FRM_MSG_RX_STAT_VALID (n : Nat) : Fld := ⟨0x1400230 + 0x10000 * n, 0, 1, .ro, .pt, 0⟩
def FRM_MSG_RX_STAT_TERMINAL (n : Nat) : Fld := ⟨0x1400230 + 0x10000 * n, 1, 9, .ro, .pt, 0⟩
def FRM_MSG_RX_STAT_PENDING (n : Nat) : Fld := ⟨0x1400230 + 0x10000 * n, 16, 7, .ro, .pt, 0⟩

/-! FRM_MSG_RX_POP: release upstream message (spec/06_framer.md). -/

def FRM_MSG_RX_POP_POP (n : Nat) : Fld := ⟨0x1400234 + 0x10000 * n, 0, 1, .w1s, .p, 0⟩

/-! FRM_PM_SEL: PM record selection (spec/06_framer.md). -/

def FRM_PM_SEL_TERMINAL (n : Nat) : Fld := ⟨0x1400300 + 0x10000 * n, 0, 9, .rw, .p, 0⟩
def FRM_PM_SEL_TREE (n : Nat) : Fld := ⟨0x1400300 + 0x10000 * n, 9, 1, .rw, .p, 0⟩
def FRM_PM_SEL_GO (n : Nat) : Fld := ⟨0x1400300 + 0x10000 * n, 10, 1, .w1s, .p, 0⟩

/-! FRM_PM_STAT: latch status (spec/06_framer.md). -/

def FRM_PM_STAT_SECOND (n : Nat) : Fld := ⟨0x1400304 + 0x10000 * n, 0, 16, .ro, .p, 0⟩
def FRM_PM_STAT_BANK (n : Nat) : Fld := ⟨0x1400304 + 0x10000 * n, 16, 1, .ro, .p, 0⟩
def FRM_PM_STAT_DEFECTS (n : Nat) : Fld := ⟨0x1400304 + 0x10000 * n, 17, 6, .ro, .p, 0⟩

/-! FRM_PM_DATA: selected PM record (spec/06_framer.md). -/

def FRM_PM_DATA_DATA (n i : Nat) : Fld := ⟨0x1400400 + 0x10000 * n + 0x8 * i, 0, 64, .ro, .p, 0⟩

/-! HIF_API_VER: host API version (spec/16_uplinks_host_events.md). -/

def HIF_API_VER_MAJOR : Fld := ⟨0x0, 0, 8, .ro, .p, 3⟩
def HIF_API_VER_MIN_MINOR : Fld := ⟨0x0, 8, 8, .ro, .p, 0⟩
def HIF_API_VER_MAX_MINOR : Fld := ⟨0x0, 16, 8, .ro, .p, 4⟩
def HIF_API_VER_SEL_MINOR : Fld := ⟨0x0, 24, 8, .rw, .p, 0⟩

/-! HIF_PCIE_STAT: link state (spec/16_uplinks_host_events.md). -/

def HIF_PCIE_STAT_WIDTH : Fld := ⟨0x4, 0, 3, .ro, .p, 0⟩
def HIF_PCIE_STAT_SPEED : Fld := ⟨0x4, 3, 3, .ro, .p, 0⟩
def HIF_PCIE_STAT_BUS_MASTER : Fld := ⟨0x4, 6, 1, .ro, .p, 0⟩
def HIF_PCIE_STAT_LINK_DOWNS : Fld := ⟨0x4, 16, 16, .rc, .p, 0⟩

/-! HIF_BAR2_CFG: BAR2 window (spec/16_uplinks_host_events.md). -/

def HIF_BAR2_CFG_BASE : Fld := ⟨0x10, 0, 6, .rw, .p, 40⟩

/-! HIF_ERR_STAT: refused accesses (spec/16_uplinks_host_events.md). -/

def HIF_ERR_STAT_TILE_ACC : Fld := ⟨0x14, 0, 10, .rc, .p, 0⟩
def HIF_ERR_STAT_BAR2_DISCARD : Fld := ⟨0x14, 10, 10, .rc, .p, 0⟩
def HIF_ERR_STAT_I2C_REFUSED : Fld := ⟨0x14, 20, 10, .rc, .p, 0⟩

/-! HIF_EVT_RING: record ring (spec/16_uplinks_host_events.md). -/

def HIF_EVT_RING_SIZE_LOG2 : Fld := ⟨0x100, 0, 4, .rw, .p, 0⟩
def HIF_EVT_RING_BASE : Fld := ⟨0x100, 12, 52, .rw, .p, 0⟩

/-! HIF_EVT_PI: records written (spec/16_uplinks_host_events.md). -/

def HIF_EVT_PI_PI : Fld := ⟨0x108, 0, 32, .ro, .p, 0⟩

/-! HIF_EVT_CI: records consumed (spec/16_uplinks_host_events.md). -/

def HIF_EVT_CI_CI : Fld := ⟨0x10c, 0, 32, .rw, .p, 0⟩

/-! HIF_EVT_SUM: group summary (spec/16_uplinks_host_events.md). -/

def HIF_EVT_SUM_GROUPS : Fld := ⟨0x110, 0, 48, .ro, .p, 0⟩

/-! HIF_EVT_STAT: source status (spec/16_uplinks_host_events.md). -/

def HIF_EVT_STAT_STAT (g : Nat) : Fld := ⟨0x1000 + 0x4 * g, 0, 32, .w1c, .p, 0⟩

/-! HIF_EVT_EN: source enables (spec/16_uplinks_host_events.md). -/

def HIF_EVT_EN_EN (g : Nat) : Fld := ⟨0x1100 + 0x4 * g, 0, 32, .rw, .p, 0⟩

/-! HIF_EVT_COAL: coalescing (spec/16_uplinks_host_events.md). -/

def HIF_EVT_COAL_COAL_US (g : Nat) : Fld := ⟨0x1200 + 0x4 * g, 0, 16, .rw, .p, 0⟩

/-! HIF_EVT_ROUTE: source route (spec/16_uplinks_host_events.md). -/

def HIF_EVT_ROUTE_VECTOR (s : Nat) : Fld := ⟨0x2000 + 0x4 * s, 0, 8, .rw, .p, 0⟩
def HIF_EVT_ROUTE_MSIX (s : Nat) : Fld := ⟨0x2000 + 0x4 * s, 8, 1, .rw, .p, 0⟩
def HIF_EVT_ROUTE_PIN (s : Nat) : Fld := ⟨0x2000 + 0x4 * s, 9, 1, .rw, .p, 0⟩
def HIF_EVT_ROUTE_RECORD (s : Nat) : Fld := ⟨0x2000 + 0x4 * s, 10, 1, .rw, .p, 0⟩

/-! HIF_RFX_RULE: reflex rule (spec/16_uplinks_host_events.md). -/

def HIF_RFX_RULE_SOURCE (r : Nat) : Fld := ⟨0x4000 + 0x8 * r, 0, 11, .rw, .p, 0⟩
def HIF_RFX_RULE_VALID (r : Nat) : Fld := ⟨0x4000 + 0x8 * r, 11, 1, .rw, .p, 0⟩
def HIF_RFX_RULE_QUAL (r : Nat) : Fld := ⟨0x4000 + 0x8 * r, 12, 3, .rw, .p, 0⟩
def HIF_RFX_RULE_QMODE (r : Nat) : Fld := ⟨0x4000 + 0x8 * r, 15, 3, .rw, .p, 0⟩
def HIF_RFX_RULE_ACTION (r : Nat) : Fld := ⟨0x4000 + 0x8 * r, 18, 4, .rw, .p, 0⟩
def HIF_RFX_RULE_ONESHOT (r : Nat) : Fld := ⟨0x4000 + 0x8 * r, 22, 1, .rw, .p, 0⟩
def HIF_RFX_RULE_ARG (r : Nat) : Fld := ⟨0x4000 + 0x8 * r, 32, 16, .rw, .p, 0⟩
def HIF_RFX_RULE_HOLD_MS (r : Nat) : Fld := ⟨0x4000 + 0x8 * r, 48, 16, .rw, .p, 0⟩

/-! HIF_RFX_CNT: rule counts (spec/16_uplinks_host_events.md). -/

def HIF_RFX_CNT_FIRED (r : Nat) : Fld := ⟨0x4800 + 0x4 * r, 0, 16, .ro, .p, 0⟩
def HIF_RFX_CNT_DROPPED (r : Nat) : Fld := ⟨0x4800 + 0x4 * r, 16, 14, .rc, .p, 0⟩
def HIF_RFX_CNT_BAD (r : Nat) : Fld := ⟨0x4800 + 0x4 * r, 30, 1, .ro, .p, 0⟩
def HIF_RFX_CNT_SPENT (r : Nat) : Fld := ⟨0x4800 + 0x4 * r, 31, 1, .ro, .p, 0⟩

/-! HIF_RFX_FROZEN: frozen trees (spec/16_uplinks_host_events.md). -/

def HIF_RFX_FROZEN_FROZEN : Fld := ⟨0x4c00, 0, 32, .w1c, .p, 0⟩

/-! HIF_RFX_STAT: last reflex activity (spec/16_uplinks_host_events.md). -/

def HIF_RFX_STAT_LAST_FIRED : Fld := ⟨0x4c04, 0, 8, .ro, .p, 0⟩
def HIF_RFX_STAT_LAST_DROPPED : Fld := ⟨0x4c04, 8, 8, .ro, .p, 0⟩

/-! HIF_SPI_CMD: flash pass-through command (spec/16_uplinks_host_events.md). -/

def HIF_SPI_CMD_OPCODE : Fld := ⟨0x5000, 0, 8, .rw, .p, 0⟩
def HIF_SPI_CMD_ADDR_BYTES : Fld := ⟨0x5000, 8, 2, .rw, .p, 0⟩
def HIF_SPI_CMD_DUMMY : Fld := ⟨0x5000, 10, 4, .rw, .p, 0⟩
def HIF_SPI_CMD_LEN : Fld := ⟨0x5000, 14, 9, .rw, .p, 0⟩
def HIF_SPI_CMD_READ : Fld := ⟨0x5000, 23, 1, .rw, .p, 0⟩
def HIF_SPI_CMD_QUAD : Fld := ⟨0x5000, 24, 1, .rw, .p, 0⟩
def HIF_SPI_CMD_GO : Fld := ⟨0x5000, 25, 1, .w1s, .p, 0⟩

/-! HIF_SPI_ADDR: flash address (spec/16_uplinks_host_events.md). -/

def HIF_SPI_ADDR_ADDR : Fld := ⟨0x5004, 0, 32, .rw, .p, 0⟩

/-! HIF_SPI_STAT: pass-through status (spec/16_uplinks_host_events.md). -/

def HIF_SPI_STAT_BUSY : Fld := ⟨0x5008, 0, 1, .ro, .p, 0⟩
def HIF_SPI_STAT_REFUSED : Fld := ⟨0x5008, 1, 1, .ro, .p, 0⟩

/-! HIF_SPI_DATA: pass-through data (spec/16_uplinks_host_events.md). -/

def HIF_SPI_DATA_DATA (i : Nat) : Fld := ⟨0x5100 + 0x4 * i, 0, 32, .rw, .p, 0⟩

end Sys2Proof.Machine.F
end

