-- ==== Sys2Proof/Machine/FieldsB.lean ====
section
/-! DEFINITION. Machine/FieldsB.lean: every field of every BAR0 register of RNG, GNT, MEC, FWD, TMG and BPM, one definition each:
its register's address, lowest bit, width, access code, reset letters and reset value, copied from the field tables
of the spec's chapters (R7, R8, R9, R471). A field whose table gives no reset value has 0 here (assumption 2). -/
namespace Sys2Proof.Machine.F

/-! RNG_REACH_CFG: reach (spec/07_activation_ranging.md). -/

def RNG_REACH_CFG_MIN_REACH (n : Nat) : Fld := ⟨0x1800000 + 0x10000 * n, 0, 10, .rw, .pt, 0⟩
def RNG_REACH_CFG_MAX_REACH (n : Nat) : Fld := ⟨0x1800000 + 0x10000 * n, 16, 10, .rw, .pt, 200⟩

/-! RNG_TEQ: equalization target (spec/07_activation_ranging.md). -/

def RNG_TEQ_T_EQ_NS (n : Nat) : Fld := ⟨0x1800004 + 0x10000 * n, 0, 20, .ro, .pw, 0⟩
def RNG_TEQ_PENDING (n : Nat) : Fld := ⟨0x1800004 + 0x10000 * n, 20, 1, .ro, .p, 0⟩

/-! RNG_DISC_CFG: discovery (spec/07_activation_ranging.md). -/

def RNG_DISC_CFG_SHARE (n : Nat) : Fld := ⟨0x1800008 + 0x10000 * n, 0, 7, .rw, .pt, 20⟩
def RNG_DISC_CFG_AUTO_ASSIGN (n : Nat) : Fld := ⟨0x1800008 + 0x10000 * n, 7, 1, .rw, .pt, 1⟩
def RNG_DISC_CFG_RAND_US (n : Nat) : Fld := ⟨0x1800008 + 0x10000 * n, 8, 8, .rw, .pt, 48⟩
def RNG_DISC_CFG_PERIOD_MS (n : Nat) : Fld := ⟨0x1800008 + 0x10000 * n, 16, 16, .rw, .pt, 1000⟩

/-! RNG_TRACK_CFG: tracking and activation (spec/07_activation_ranging.md). -/

def RNG_TRACK_CFG_ENV_BITS (n : Nat) : Fld := ⟨0x180000c + 0x10000 * n, 0, 4, .rw, .pt, 2⟩
def RNG_TRACK_CFG_FILTER_LOG2 (n : Nat) : Fld := ⟨0x180000c + 0x10000 * n, 4, 4, .rw, .pt, 6⟩
def RNG_TRACK_CFG_STEP_CONFIRM (n : Nat) : Fld := ⟨0x180000c + 0x10000 * n, 8, 4, .rw, .pt, 3⟩
def RNG_TRACK_CFG_MISS_GUARD (n : Nat) : Fld := ⟨0x180000c + 0x10000 * n, 12, 4, .rw, .pt, 2⟩
def RNG_TRACK_CFG_RANGE_TRIES (n : Nat) : Fld := ⟨0x180000c + 0x10000 * n, 16, 4, .rw, .pt, 3⟩
def RNG_TRACK_CFG_VERIFY_N (n : Nat) : Fld := ⟨0x180000c + 0x10000 * n, 20, 4, .rw, .pt, 4⟩

/-! RNG_VERIFY_CFG: verification limit (spec/07_activation_ranging.md). -/

def RNG_VERIFY_CFG_VERIFY_FRAMES (n : Nat) : Fld := ⟨0x1800010 + 0x10000 * n, 0, 16, .rw, .pt, 8000⟩

/-! RNG_POP: terminals by state (spec/07_activation_ranging.md). -/

def RNG_POP_IN_SERVICE (n : Nat) : Fld := ⟨0x1800020 + 0x10000 * n, 0, 10, .ro, .pw, 0⟩
def RNG_POP_GUARDED (n : Nat) : Fld := ⟨0x1800020 + 0x10000 * n, 10, 10, .ro, .pw, 0⟩
def RNG_POP_VERIFYING (n : Nat) : Fld := ⟨0x1800020 + 0x10000 * n, 20, 10, .ro, .pw, 0⟩
def RNG_POP_ACTIVATING (n : Nat) : Fld := ⟨0x1800020 + 0x10000 * n, 30, 10, .ro, .p, 0⟩
def RNG_POP_FAILED (n : Nat) : Fld := ⟨0x1800020 + 0x10000 * n, 40, 10, .ro, .p, 0⟩
def RNG_POP_RESERVED (n : Nat) : Fld := ⟨0x1800020 + 0x10000 * n, 50, 10, .ro, .pw, 0⟩

/-! RNG_STBY_OFS: standby offset (spec/07_activation_ranging.md). -/

def RNG_STBY_OFS_STBY_OFS (n : Nat) : Fld := ⟨0x1800028 + 0x10000 * n, 0, 32, .ro, .p, 0⟩

/-! RNG_WIN: quiet windows and budget (spec/07_activation_ranging.md). -/

def RNG_WIN_DISC_WIN (n : Nat) : Fld := ⟨0x1800030 + 0x10000 * n, 0, 16, .ro, .pt, 0⟩
def RNG_WIN_RANGE_WIN (n : Nat) : Fld := ⟨0x1800030 + 0x10000 * n, 16, 16, .ro, .pt, 0⟩
def RNG_WIN_BUDGET (n : Nat) : Fld := ⟨0x1800030 + 0x10000 * n, 32, 16, .ro, .p, 0⟩
def RNG_WIN_WAITING (n : Nat) : Fld := ⟨0x1800030 + 0x10000 * n, 48, 1, .ro, .p, 0⟩

/-! RNG_VERIFY_STAT: verification outcome (spec/07_activation_ranging.md). -/

def RNG_VERIFY_STAT_VERIFIED (n : Nat) : Fld := ⟨0x1800038 + 0x10000 * n, 0, 10, .ro, .p, 0⟩
def RNG_VERIFY_STAT_STEPPED (n : Nat) : Fld := ⟨0x1800038 + 0x10000 * n, 10, 10, .ro, .p, 0⟩
def RNG_VERIFY_STAT_FAILED (n : Nat) : Fld := ⟨0x1800038 + 0x10000 * n, 20, 10, .ro, .p, 0⟩
def RNG_VERIFY_STAT_DONE (n : Nat) : Fld := ⟨0x1800038 + 0x10000 * n, 30, 1, .ro, .p, 0⟩

/-! RNG_DISC_CNT: activation counts (spec/07_activation_ranging.md). -/

def RNG_DISC_CNT_WINDOWS (n : Nat) : Fld := ⟨0x1800040 + 0x10000 * n, 0, 16, .rc, .p, 0⟩
def RNG_DISC_CNT_RESPONSES (n : Nat) : Fld := ⟨0x1800040 + 0x10000 * n, 16, 16, .rc, .p, 0⟩
def RNG_DISC_CNT_DUP_SERIAL (n : Nat) : Fld := ⟨0x1800040 + 0x10000 * n, 32, 16, .rc, .p, 0⟩
def RNG_DISC_CNT_PEND_DROP (n : Nat) : Fld := ⟨0x1800040 + 0x10000 * n, 48, 16, .rc, .p, 0⟩

/-! RNG_TRACK_CNT: tracking counts (spec/07_activation_ranging.md). -/

def RNG_TRACK_CNT_CORRECTIONS (n : Nat) : Fld := ⟨0x1800048 + 0x10000 * n, 0, 16, .rc, .p, 0⟩
def RNG_TRACK_CNT_OUTLIERS (n : Nat) : Fld := ⟨0x1800048 + 0x10000 * n, 16, 16, .rc, .p, 0⟩
def RNG_TRACK_CNT_STEPS (n : Nat) : Fld := ⟨0x1800048 + 0x10000 * n, 32, 16, .rc, .p, 0⟩
def RNG_TRACK_CNT_RANGE_FAIL (n : Nat) : Fld := ⟨0x1800048 + 0x10000 * n, 48, 16, .rc, .p, 0⟩

/-! RNG_EVT_LAST: latest event (spec/07_activation_ranging.md). -/

def RNG_EVT_LAST_FRAME (n : Nat) : Fld := ⟨0x1800050 + 0x10000 * n, 0, 16, .ro, .p, 0⟩
def RNG_EVT_LAST_TERMINAL (n : Nat) : Fld := ⟨0x1800050 + 0x10000 * n, 16, 9, .ro, .p, 0⟩
def RNG_EVT_LAST_EVENT (n : Nat) : Fld := ⟨0x1800050 + 0x10000 * n, 25, 4, .ro, .p, 0⟩
def RNG_EVT_LAST_CAUSE (n : Nat) : Fld := ⟨0x1800050 + 0x10000 * n, 29, 3, .ro, .p, 0⟩
def RNG_EVT_LAST_STEP_RU (n : Nat) : Fld := ⟨0x1800050 + 0x10000 * n, 32, 32, .ro, .p, 0⟩

/-! RNG_DISC_CMD: discovery request (spec/07_activation_ranging.md). -/

def RNG_DISC_CMD_NOW (n : Nat) : Fld := ⟨0x1800100 + 0x10000 * n, 0, 1, .w1s, .p, 0⟩

/-! RNG_SN_PEND: oldest pending serial number (spec/07_activation_ranging.md). -/

def RNG_SN_PEND_SERIAL (n : Nat) : Fld := ⟨0x1800108 + 0x10000 * n, 0, 64, .ro, .pt, 0⟩

/-! RNG_SN_STAT: pending list (spec/07_activation_ranging.md). -/

def RNG_SN_STAT_PENDING (n : Nat) : Fld := ⟨0x1800110 + 0x10000 * n, 0, 5, .ro, .pt, 0⟩

/-! RNG_SN_DATA: serial number to reserve (spec/07_activation_ranging.md). -/

def RNG_SN_DATA_SERIAL (n : Nat) : Fld := ⟨0x1800118 + 0x10000 * n, 0, 64, .rw, .p, 0⟩

/-! RNG_SN_CMD: serial-number command (spec/07_activation_ranging.md). -/

def RNG_SN_CMD_TERMINAL (n : Nat) : Fld := ⟨0x1800120 + 0x10000 * n, 0, 9, .rw, .p, 0⟩
def RNG_SN_CMD_OP (n : Nat) : Fld := ⟨0x1800120 + 0x10000 * n, 9, 2, .rw, .p, 0⟩
def RNG_SN_CMD_GO (n : Nat) : Fld := ⟨0x1800120 + 0x10000 * n, 11, 1, .w1s, .p, 0⟩

/-! RNG_TERM_CMD: terminal command (spec/07_activation_ranging.md). -/

def RNG_TERM_CMD_TERMINAL (n : Nat) : Fld := ⟨0x1800128 + 0x10000 * n, 0, 9, .rw, .p, 0⟩
def RNG_TERM_CMD_OP (n : Nat) : Fld := ⟨0x1800128 + 0x10000 * n, 9, 3, .rw, .p, 0⟩
def RNG_TERM_CMD_GO (n : Nat) : Fld := ⟨0x1800128 + 0x10000 * n, 12, 1, .w1s, .p, 0⟩

/-! RNG_CMD_STAT: command outcome (spec/07_activation_ranging.md). -/

def RNG_CMD_STAT_CODE (n : Nat) : Fld := ⟨0x180012c + 0x10000 * n, 0, 3, .ro, .p, 0⟩
def RNG_CMD_STAT_SOURCE (n : Nat) : Fld := ⟨0x180012c + 0x10000 * n, 3, 1, .ro, .p, 0⟩

/-! RNG_TERM_STAT: terminal state (spec/07_activation_ranging.md). -/

def RNG_TERM_STAT_STATE (n t : Nat) : Fld := ⟨0x1804000 + 0x10000 * n + 0x10 * t, 0, 3, .ro, .pw, 0⟩
def RNG_TERM_STAT_CAUSE (n t : Nat) : Fld := ⟨0x1804000 + 0x10000 * n + 0x10 * t, 3, 3, .ro, .pw, 0⟩
def RNG_TERM_STAT_MISSES (n t : Nat) : Fld := ⟨0x1804000 + 0x10000 * n + 0x10 * t, 8, 8, .ro, .p, 0⟩
def RNG_TERM_STAT_FRAME (n t : Nat) : Fld := ⟨0x1804000 + 0x10000 * n + 0x10 * t, 16, 16, .ro, .p, 0⟩
def RNG_TERM_STAT_STEP_RU (n t : Nat) : Fld := ⟨0x1804000 + 0x10000 * n + 0x10 * t, 32, 32, .ro, .pw, 0⟩

/-! RNG_TERM_EQD: terminal delays (spec/07_activation_ranging.md). -/

def RNG_TERM_EQD_EQD_RU (n t : Nat) : Fld := ⟨0x1804008 + 0x10000 * n + 0x10 * t, 0, 32, .ro, .pw, 0⟩
def RNG_TERM_EQD_RTD_RU (n t : Nat) : Fld := ⟨0x1804008 + 0x10000 * n + 0x10 * t, 32, 32, .ro, .pw, 0⟩

/-! RNG_TERM_SN: terminal serial number (spec/07_activation_ranging.md). -/

def RNG_TERM_SN_SERIAL (n t : Nat) : Fld := ⟨0x1808000 + 0x10000 * n + 0x8 * t, 0, 64, .ro, .pw, 0⟩

/-! RNG_DEV_CFG: device window limit (spec/07_activation_ranging.md). -/

def RNG_DEV_CFG_DEV_WIN : Fld := ⟨0x1a00000, 0, 5, .rw, .p, 16⟩

/-! RNG_DEV_STAT: device window queue (spec/07_activation_ranging.md). -/

def RNG_DEV_STAT_BEGUN : Fld := ⟨0x1a00004, 0, 5, .ro, .p, 0⟩
def RNG_DEV_STAT_QUEUED : Fld := ⟨0x1a00004, 8, 6, .ro, .p, 0⟩
def RNG_DEV_STAT_DEFERRED : Fld := ⟨0x1a00004, 16, 16, .rc, .p, 0⟩

/-! GNT_PROF_CFG: burst profile (spec/08_grant_engine.md). -/

def GNT_PROF_CFG_RATE (n p : Nat) : Fld := ⟨0x1c00000 + 0x20000 * n + 0x10 * p, 0, 2, .rw, .pt, 0⟩
def GNT_PROF_CFG_FEC (n p : Nat) : Fld := ⟨0x1c00000 + 0x20000 * n + 0x10 * p, 2, 1, .rw, .pt, 0⟩
def GNT_PROF_CFG_DEL64 (n p : Nat) : Fld := ⟨0x1c00000 + 0x20000 * n + 0x10 * p, 3, 1, .rw, .pt, 0⟩
def GNT_PROF_CFG_PRE_WORDS (n p : Nat) : Fld := ⟨0x1c00000 + 0x20000 * n + 0x10 * p, 4, 7, .rw, .pt, 0⟩
def GNT_PROF_CFG_VALID (n p : Nat) : Fld := ⟨0x1c00000 + 0x20000 * n + 0x10 * p, 11, 1, .rw, .pt, 0⟩

/-! GNT_PROF_DELIM: delimiter pattern (spec/08_grant_engine.md). -/

def GNT_PROF_DELIM_DELIM (n p : Nat) : Fld := ⟨0x1c00008 + 0x20000 * n + 0x10 * p, 0, 64, .rw, .pt, 0⟩

/-! GNT_GUARD_CFG: guard and profile hold (spec/08_grant_engine.md). -/

def GNT_GUARD_CFG_ONOFF_NS (n : Nat) : Fld := ⟨0x1c00040 + 0x20000 * n, 0, 8, .rw, .pt, 64⟩
def GNT_GUARD_CFG_PROF_HOLD (n : Nat) : Fld := ⟨0x1c00040 + 0x20000 * n, 8, 8, .rw, .pt, 8⟩

/-! GNT_PROF_STAT: profile status (spec/08_grant_engine.md). -/

def GNT_PROF_STAT_USABLE (n : Nat) : Fld := ⟨0x1c00044 + 0x20000 * n, 0, 4, .ro, .pt, 0⟩
def GNT_PROF_STAT_REFUSED (n : Nat) : Fld := ⟨0x1c00044 + 0x20000 * n, 4, 4, .ro, .pt, 0⟩
def GNT_PROF_STAT_HELD (n : Nat) : Fld := ⟨0x1c00044 + 0x20000 * n, 8, 4, .ro, .pt, 0⟩

/-! GNT_MAP_STAT: last frozen map (spec/08_grant_engine.md). -/

def GNT_MAP_STAT_ENTRIES (n : Nat) : Fld := ⟨0x1c00050 + 0x20000 * n, 0, 12, .ro, .pt, 0⟩
def GNT_MAP_STAT_BURSTS (n : Nat) : Fld := ⟨0x1c00050 + 0x20000 * n, 12, 12, .ro, .pt, 0⟩
def GNT_MAP_STAT_PAGE (n : Nat) : Fld := ⟨0x1c00050 + 0x20000 * n, 24, 1, .ro, .pt, 0⟩
def GNT_MAP_STAT_REUSED (n : Nat) : Fld := ⟨0x1c00050 + 0x20000 * n, 25, 1, .ro, .pt, 0⟩
def GNT_MAP_STAT_JOIN (n : Nat) : Fld := ⟨0x1c00050 + 0x20000 * n, 26, 1, .ro, .pt, 0⟩
def GNT_MAP_STAT_END_MU (n : Nat) : Fld := ⟨0x1c00050 + 0x20000 * n, 32, 24, .ro, .pt, 0⟩

/-! GNT_OVR_STAT: overruns and refusals (spec/08_grant_engine.md). -/

def GNT_OVR_STAT_OVERRUNS (n : Nat) : Fld := ⟨0x1c00058 + 0x20000 * n, 0, 16, .rc, .p, 0⟩
def GNT_OVR_STAT_LATE_DONE (n : Nat) : Fld := ⟨0x1c00058 + 0x20000 * n, 16, 16, .rc, .p, 0⟩
def GNT_OVR_STAT_TRIMMED (n : Nat) : Fld := ⟨0x1c00058 + 0x20000 * n, 32, 16, .rc, .p, 0⟩
def GNT_OVR_STAT_INSERT_REFUSED (n : Nat) : Fld := ⟨0x1c00058 + 0x20000 * n, 48, 16, .rc, .p, 0⟩

/-! GNT_REPORT_STAT: report intake (spec/08_grant_engine.md). -/

def GNT_REPORT_STAT_REPORTS (n : Nat) : Fld := ⟨0x1c00060 + 0x20000 * n, 0, 16, .rc, .p, 0⟩
def GNT_REPORT_STAT_FOREIGN (n : Nat) : Fld := ⟨0x1c00060 + 0x20000 * n, 16, 16, .rc, .p, 0⟩

/-! GNT_INSERT_LAST: last refused insertion (spec/08_grant_engine.md). -/

def GNT_INSERT_LAST_CODE (n : Nat) : Fld := ⟨0x1c00068 + 0x20000 * n, 0, 4, .ro, .pt, 0⟩
def GNT_INSERT_LAST_ALLOC (n : Nat) : Fld := ⟨0x1c00068 + 0x20000 * n, 4, 12, .ro, .pt, 0⟩
def GNT_INSERT_LAST_FRAME (n : Nat) : Fld := ⟨0x1c00068 + 0x20000 * n, 16, 16, .ro, .pt, 0⟩

/-! GNT_ALLOC_CMD: allocation-table access (spec/08_grant_engine.md). -/

def GNT_ALLOC_CMD_INDEX (n : Nat) : Fld := ⟨0x1c00100 + 0x20000 * n, 0, 12, .rw, .p, 0⟩
def GNT_ALLOC_CMD_OP (n : Nat) : Fld := ⟨0x1c00100 + 0x20000 * n, 12, 2, .rw, .p, 0⟩
def GNT_ALLOC_CMD_GO (n : Nat) : Fld := ⟨0x1c00100 + 0x20000 * n, 14, 1, .w1s, .p, 0⟩

/-! GNT_ALLOC_STAT: access outcome (spec/08_grant_engine.md). -/

def GNT_ALLOC_STAT_BUSY (n : Nat) : Fld := ⟨0x1c00104 + 0x20000 * n, 0, 1, .ro, .p, 0⟩
def GNT_ALLOC_STAT_CODE (n : Nat) : Fld := ⟨0x1c00104 + 0x20000 * n, 1, 2, .ro, .p, 0⟩

/-! GNT_ALLOC_DATA: allocation entry (spec/08_grant_engine.md). -/

def GNT_ALLOC_DATA_WORD (n i : Nat) : Fld := ⟨0x1c00108 + 0x20000 * n + 0x8 * i, 0, 64, .rw, .pw, 0⟩

/-! GNT_FIXED: fixed grant (spec/08_grant_engine.md). -/

def GNT_FIXED_ALLOC (n f : Nat) : Fld := ⟨0x1c00400 + 0x20000 * n + 0x8 * f, 0, 12, .rw, .pt, 0⟩
def GNT_FIXED_VALID (n f : Nat) : Fld := ⟨0x1c00400 + 0x20000 * n + 0x8 * f, 12, 1, .rw, .pt, 0⟩
def GNT_FIXED_PERIOD_LOG2 (n f : Nat) : Fld := ⟨0x1c00400 + 0x20000 * n + 0x8 * f, 13, 3, .rw, .pt, 0⟩
def GNT_FIXED_PHASE (n f : Nat) : Fld := ⟨0x1c00400 + 0x20000 * n + 0x8 * f, 16, 6, .rw, .pt, 0⟩
def GNT_FIXED_REPORT (n f : Nat) : Fld := ⟨0x1c00400 + 0x20000 * n + 0x8 * f, 22, 1, .rw, .pt, 0⟩
def GNT_FIXED_MSG (n f : Nat) : Fld := ⟨0x1c00400 + 0x20000 * n + 0x8 * f, 23, 1, .rw, .pt, 0⟩
def GNT_FIXED_START (n f : Nat) : Fld := ⟨0x1c00400 + 0x20000 * n + 0x8 * f, 24, 24, .rw, .pt, 0⟩
def GNT_FIXED_SIZE (n f : Nat) : Fld := ⟨0x1c00400 + 0x20000 * n + 0x8 * f, 48, 16, .rw, .pt, 0⟩

/-! GNT_FIXED_STAT: refused fixed grants (spec/08_grant_engine.md). -/

def GNT_FIXED_STAT_REFUSED (n : Nat) : Fld := ⟨0x1c00600 + 0x20000 * n, 0, 64, .ro, .pt, 0⟩

/-! GNT_PAGE0: page entry (spec/08_grant_engine.md). -/

def GNT_PAGE0_WORD0 (n pg e : Nat) : Fld := ⟨0x1c10000 + 0x20000 * n + 0x8000 * pg + 0x10 * e, 0, 64, .ro, .pt, 0⟩

/-! GNT_PAGE1: page entry (spec/08_grant_engine.md). -/

def GNT_PAGE1_WORD1 (n pg e : Nat) : Fld := ⟨0x1c10008 + 0x20000 * n + 0x8000 * pg + 0x10 * e, 0, 64, .ro, .pt, 0⟩

/-! MEC_CS0: control-store word (spec/09_thyme_engines.md). -/

def MEC_CS0_LOW (w : Nat) : Fld := ⟨0x2000000 + 0x10 * w, 0, 64, .rw, .pt, 0⟩

/-! MEC_CS1: control-store word (spec/09_thyme_engines.md). -/

def MEC_CS1_HIGH (w : Nat) : Fld := ⟨0x2000008 + 0x10 * w, 0, 64, .rw, .pt, 0⟩

/-! MEC_OPEN_CFG: open-partition limits (spec/09_thyme_engines.md). -/

/-- Zero until M0 takes it from PARAM (R236, R477), whose value R262 names. -/
def MEC_OPEN_CFG_OPEN_CYC : Fld := ⟨0x2100000, 0, 4, .rw, .pt, 0⟩
def MEC_OPEN_CFG_HOOK_EN : Fld := ⟨0x2100000, 4, 4, .rw, .pt, 0⟩
def MEC_OPEN_CFG_HOOK_MAX : Fld := ⟨0x2100000, 8, 10, .rw, .pt, 0⟩

/-! MEC_OPEN_LOAD: open-partition load (spec/09_thyme_engines.md). -/

def MEC_OPEN_LOAD_SRC : Fld := ⟨0x2100004, 0, 1, .rw, .p, 0⟩
def MEC_OPEN_LOAD_SLOT : Fld := ⟨0x2100004, 1, 1, .rw, .p, 0⟩
def MEC_OPEN_LOAD_GO : Fld := ⟨0x2100004, 2, 1, .w1s, .p, 0⟩

/-! MEC_OPEN_STAT: open-partition load status (spec/09_thyme_engines.md). -/

def MEC_OPEN_STAT_STATE : Fld := ⟨0x2100008, 0, 2, .ro, .p, 0⟩
def MEC_OPEN_STAT_BANK : Fld := ⟨0x2100008, 2, 1, .ro, .pt, 0⟩
def MEC_OPEN_STAT_ERR : Fld := ⟨0x2100008, 4, 4, .ro, .p, 0⟩
def MEC_OPEN_STAT_WORD : Fld := ⟨0x2100008, 8, 16, .ro, .p, 0⟩
def MEC_OPEN_STAT_LOADS : Fld := ⟨0x2100008, 24, 8, .ro, .p, 0⟩

/-! MEC_OPEN_PARAM: open parameters (spec/09_thyme_engines.md). -/

def MEC_OPEN_PARAM_PARAM (i : Nat) : Fld := ⟨0x2100020 + 0x4 * i, 0, 32, .rw, .pt, 0⟩

/-! MEC_TASK_POST: post a task (spec/09_thyme_engines.md). -/

def MEC_TASK_POST_TYPE : Fld := ⟨0x2100040, 0, 8, .rw, .p, 0⟩
def MEC_TASK_POST_ENGINE : Fld := ⟨0x2100040, 8, 7, .rw, .p, 0⟩
def MEC_TASK_POST_GO : Fld := ⟨0x2100040, 15, 1, .w1s, .p, 0⟩
def MEC_TASK_POST_TAG : Fld := ⟨0x2100040, 16, 16, .rw, .p, 0⟩
def MEC_TASK_POST_ARG : Fld := ⟨0x2100040, 32, 32, .rw, .p, 0⟩

/-! MEC_TASK_STAT: task queues (spec/09_thyme_engines.md). -/

def MEC_TASK_STAT_QUEUED : Fld := ⟨0x2100048, 0, 9, .ro, .p, 0⟩
def MEC_TASK_STAT_RESULTS : Fld := ⟨0x2100048, 9, 9, .ro, .p, 0⟩
def MEC_TASK_STAT_LAST_REFUSED : Fld := ⟨0x2100048, 18, 1, .ro, .p, 0⟩

/-! MEC_TASK_RESULT: oldest task result (spec/09_thyme_engines.md). -/

def MEC_TASK_RESULT_TAG : Fld := ⟨0x2100050, 0, 16, .ro, .p, 0⟩
def MEC_TASK_RESULT_VALID : Fld := ⟨0x2100050, 16, 1, .rc, .p, 0⟩
def MEC_TASK_RESULT_ENGINE : Fld := ⟨0x2100050, 17, 7, .ro, .p, 0⟩
def MEC_TASK_RESULT_STATUS : Fld := ⟨0x2100050, 24, 8, .ro, .p, 0⟩
def MEC_TASK_RESULT_RESULT : Fld := ⟨0x2100050, 32, 32, .ro, .p, 0⟩

/-! MEC_ENG_MAP: engine map (spec/09_thyme_engines.md). -/

def MEC_ENG_MAP_TREE (e : Nat) : Fld := ⟨0x2100100 + 0x4 * e, 0, 5, .rw, .pt, 0⟩
def MEC_ENG_MAP_VALID (e : Nat) : Fld := ⟨0x2100100 + 0x4 * e, 5, 1, .rw, .pt, 0⟩

/-! MEC_TREE_STAT: last recomputation of a tree (spec/09_thyme_engines.md). -/

def MEC_TREE_STAT_ENGINES (n : Nat) : Fld := ⟨0x2100200 + 0x4 * n, 0, 4, .ro, .pt, 0⟩
def MEC_TREE_STAT_DONE_CYCLE (n : Nat) : Fld := ⟨0x2100200 + 0x4 * n, 4, 18, .ro, .p, 0⟩
def MEC_TREE_STAT_LATE (n : Nat) : Fld := ⟨0x2100200 + 0x4 * n, 22, 1, .ro, .p, 0⟩
def MEC_TREE_STAT_OVERRAN (n : Nat) : Fld := ⟨0x2100200 + 0x4 * n, 23, 1, .ro, .p, 0⟩
def MEC_TREE_STAT_EARLY (n : Nat) : Fld := ⟨0x2100200 + 0x4 * n, 24, 1, .ro, .p, 0⟩

/-! MEC_ENG_CTRL: engine control (spec/09_thyme_engines.md). -/

def MEC_ENG_CTRL_STOP (e : Nat) : Fld := ⟨0x2101000 + 0x40 * e, 0, 1, .rw, .p, 0⟩

/-! MEC_ENG_STAT: engine status (spec/09_thyme_engines.md). -/

def MEC_ENG_STAT_STATE (e : Nat) : Fld := ⟨0x2101004 + 0x40 * e, 0, 3, .ro, .p, 0⟩
def MEC_ENG_STAT_SPAN (e : Nat) : Fld := ⟨0x2101004 + 0x40 * e, 3, 1, .ro, .p, 0⟩
def MEC_ENG_STAT_OPEN (e : Nat) : Fld := ⟨0x2101004 + 0x40 * e, 4, 1, .ro, .p, 0⟩
def MEC_ENG_STAT_PC (e : Nat) : Fld := ⟨0x2101004 + 0x40 * e, 6, 16, .ro, .p, 0⟩

/-! MEC_ENG_CNT: engine counts (spec/09_thyme_engines.md). -/

def MEC_ENG_CNT_SPAN_ABORTS (e : Nat) : Fld := ⟨0x2101008 + 0x40 * e, 0, 16, .rc, .p, 0⟩
def MEC_ENG_CNT_TRAPS (e : Nat) : Fld := ⟨0x2101008 + 0x40 * e, 16, 16, .rc, .p, 0⟩
def MEC_ENG_CNT_OPEN_OVER (e : Nat) : Fld := ⟨0x2101008 + 0x40 * e, 32, 16, .rc, .p, 0⟩
def MEC_ENG_CNT_NEAR (e : Nat) : Fld := ⟨0x2101008 + 0x40 * e, 48, 16, .rc, .p, 0⟩

/-! MEC_SPAN_LAST: last aborted span (spec/09_thyme_engines.md). -/

def MEC_SPAN_LAST_SPAN_PC (e : Nat) : Fld := ⟨0x2101010 + 0x40 * e, 0, 16, .ro, .p, 0⟩
def MEC_SPAN_LAST_CYCLES (e : Nat) : Fld := ⟨0x2101010 + 0x40 * e, 16, 10, .ro, .p, 0⟩
def MEC_SPAN_LAST_DISCARDED (e : Nat) : Fld := ⟨0x2101010 + 0x40 * e, 26, 6, .ro, .p, 0⟩
def MEC_SPAN_LAST_REASON (e : Nat) : Fld := ⟨0x2101010 + 0x40 * e, 32, 4, .ro, .p, 0⟩
def MEC_SPAN_LAST_FRAME (e : Nat) : Fld := ⟨0x2101010 + 0x40 * e, 48, 16, .ro, .p, 0⟩

/-! MEC_TRAP_LAST: last trap (spec/09_thyme_engines.md). -/

def MEC_TRAP_LAST_PC (e : Nat) : Fld := ⟨0x2101018 + 0x40 * e, 0, 16, .ro, .p, 0⟩
def MEC_TRAP_LAST_CODE (e : Nat) : Fld := ⟨0x2101018 + 0x40 * e, 16, 4, .ro, .p, 0⟩
def MEC_TRAP_LAST_OPEN (e : Nat) : Fld := ⟨0x2101018 + 0x40 * e, 20, 1, .ro, .p, 0⟩
def MEC_TRAP_LAST_FRAME (e : Nat) : Fld := ⟨0x2101018 + 0x40 * e, 32, 16, .ro, .p, 0⟩

/-! FWD_PART_CFG: partition policy (spec/10_forwarding_tables.md). -/

/-- Zero until F`k` takes it from PARAM (R274, R477), whose value R288 names. -/
def FWD_PART_CFG_AGE_S (k : Nat) : Fld := ⟨0x3000000 + 0x40 * k, 0, 16, .rw, .pt, 0⟩
def FWD_PART_CFG_EVICT (k : Nat) : Fld := ⟨0x3000000 + 0x40 * k, 16, 1, .rw, .pt, 0⟩
def FWD_PART_CFG_FLAP_TH (k : Nat) : Fld := ⟨0x3000000 + 0x40 * k, 17, 8, .rw, .pt, 0⟩

/-! FWD_PART_STAT: partition state (spec/10_forwarding_tables.md). -/

def FWD_PART_STAT_BR_LOG2 (k : Nat) : Fld := ⟨0x3000004 + 0x40 * k, 0, 5, .ro, .pt, 0⟩
def FWD_PART_STAT_WAYS4 (k : Nat) : Fld := ⟨0x3000004 + 0x40 * k, 5, 1, .ro, .pt, 0⟩
def FWD_PART_STAT_QUEUED (k : Nat) : Fld := ⟨0x3000004 + 0x40 * k, 6, 13, .ro, .p, 0⟩
def FWD_PART_STAT_FLUSHING (k : Nat) : Fld := ⟨0x3000004 + 0x40 * k, 19, 1, .ro, .p, 0⟩

/-! FWD_LEARN_STAT: learning counts (spec/10_forwarding_tables.md). -/

def FWD_LEARN_STAT_LEARNED (k : Nat) : Fld := ⟨0x3000008 + 0x40 * k, 0, 16, .rc, .p, 0⟩
def FWD_LEARN_STAT_MOVES (k : Nat) : Fld := ⟨0x3000008 + 0x40 * k, 16, 16, .rc, .p, 0⟩
def FWD_LEARN_STAT_AGED (k : Nat) : Fld := ⟨0x3000008 + 0x40 * k, 32, 16, .rc, .p, 0⟩
def FWD_LEARN_STAT_EVICTED (k : Nat) : Fld := ⟨0x3000008 + 0x40 * k, 48, 16, .rc, .p, 0⟩

/-! FWD_ERR_STAT: learning refusals (spec/10_forwarding_tables.md). -/

def FWD_ERR_STAT_LEARN_DROP (k : Nat) : Fld := ⟨0x3000010 + 0x40 * k, 0, 16, .rc, .p, 0⟩
def FWD_ERR_STAT_BUCKET_FULL (k : Nat) : Fld := ⟨0x3000010 + 0x40 * k, 16, 16, .rc, .p, 0⟩
def FWD_ERR_STAT_STATIC_CONFLICT (k : Nat) : Fld := ⟨0x3000010 + 0x40 * k, 32, 16, .rc, .p, 0⟩
def FWD_ERR_STAT_LIMIT_HIT (k : Nat) : Fld := ⟨0x3000010 + 0x40 * k, 48, 16, .rc, .p, 0⟩

/-! FWD_CHURN_STAT: sweep progress (spec/10_forwarding_tables.md). -/

def FWD_CHURN_STAT_POS (k : Nat) : Fld := ⟨0x3000018 + 0x40 * k, 0, 22, .ro, .pt, 0⟩
def FWD_CHURN_STAT_PASSES (k : Nat) : Fld := ⟨0x3000018 + 0x40 * k, 32, 32, .ro, .p, 0⟩

/-! FWD_FLAP_LAST: last flapping address (spec/10_forwarding_tables.md). -/

def FWD_FLAP_LAST_MAC (k : Nat) : Fld := ⟨0x3000020 + 0x40 * k, 0, 48, .ro, .p, 0⟩
def FWD_FLAP_LAST_BD (k : Nat) : Fld := ⟨0x3000020 + 0x40 * k, 48, 14, .ro, .p, 0⟩

/-! FWD_ECC_LAST: last unreadable bucket (spec/10_forwarding_tables.md). -/

def FWD_ECC_LAST_BUCKET (k : Nat) : Fld := ⟨0x3000028 + 0x40 * k, 0, 22, .ro, .p, 0⟩
def FWD_ECC_LAST_COUNT (k : Nat) : Fld := ⟨0x3000028 + 0x40 * k, 22, 8, .rc, .p, 0⟩

/-! FWD_CACHE_STAT: cache miss ratios (spec/10_forwarding_tables.md). -/

def FWD_CACHE_STAT_BR_MISS : Fld := ⟨0x3000100, 0, 16, .ro, .p, 0⟩
def FWD_CACHE_STAT_FL_MISS : Fld := ⟨0x3000100, 16, 16, .ro, .p, 0⟩

/-! FWD_DROP_STAT: forwarding drops (spec/10_forwarding_tables.md). -/

def FWD_DROP_STAT_NO_DOMAIN : Fld := ⟨0x3000108, 0, 16, .rc, .p, 0⟩
def FWD_DROP_STAT_NO_FLOW : Fld := ⟨0x3000108, 16, 16, .rc, .p, 0⟩
def FWD_DROP_STAT_DEST_MISS : Fld := ⟨0x3000108, 32, 16, .rc, .p, 0⟩
def FWD_DROP_STAT_LIMIT_DROP : Fld := ⟨0x3000108, 48, 16, .rc, .p, 0⟩

/-! FWD_HOLD_STAT: ingress hold (spec/10_forwarding_tables.md). -/

def FWD_HOLD_STAT_HOLDING : Fld := ⟨0x3000110, 0, 1, .ro, .p, 0⟩
def FWD_HOLD_STAT_HOLD_TICKS : Fld := ⟨0x3000110, 16, 16, .rc, .p, 0⟩

/-! FWD_LIMIT_LAST: last owner at its limit (spec/10_forwarding_tables.md). -/

def FWD_LIMIT_LAST_OWNER : Fld := ⟨0x3000118, 0, 15, .ro, .p, 0⟩
def FWD_LIMIT_LAST_FRAME : Fld := ⟨0x3000118, 16, 16, .ro, .p, 0⟩

/-! FWD_TBL_CMD: table operation (spec/10_forwarding_tables.md). -/

def FWD_TBL_CMD_TABLE : Fld := ⟨0x3000200, 0, 3, .rw, .p, 0⟩
def FWD_TBL_CMD_OP : Fld := ⟨0x3000200, 3, 3, .rw, .p, 0⟩
def FWD_TBL_CMD_CLR_CNT : Fld := ⟨0x3000200, 6, 1, .rw, .p, 0⟩
def FWD_TBL_CMD_WR_COUNT : Fld := ⟨0x3000200, 7, 1, .rw, .p, 0⟩
def FWD_TBL_CMD_GO : Fld := ⟨0x3000200, 8, 1, .w1s, .p, 0⟩

/-! FWD_TBL_KEY: table key (spec/10_forwarding_tables.md). -/

def FWD_TBL_KEY_KEY : Fld := ⟨0x3000208, 0, 64, .rw, .p, 0⟩

/-! FWD_TBL_DATA: table data (spec/10_forwarding_tables.md). -/

def FWD_TBL_DATA_WORD (i : Nat) : Fld := ⟨0x3000210 + 0x8 * i, 0, 64, .rw, .p, 0⟩

/-! FWD_TBL_STAT: table operation outcome (spec/10_forwarding_tables.md). -/

def FWD_TBL_STAT_BUSY : Fld := ⟨0x3000250, 0, 1, .ro, .p, 0⟩
def FWD_TBL_STAT_CODE : Fld := ⟨0x3000250, 1, 3, .ro, .p, 0⟩

/-! TMG_TBL_CMD: table operation (spec/11_traffic_and_buffers.md). -/

def TMG_TBL_CMD_TABLE : Fld := ⟨0x3400000, 0, 3, .rw, .p, 0⟩
def TMG_TBL_CMD_OP : Fld := ⟨0x3400000, 3, 2, .rw, .p, 0⟩
def TMG_TBL_CMD_GO : Fld := ⟨0x3400000, 5, 1, .w1s, .p, 0⟩

/-! TMG_TBL_KEY: table index (spec/11_traffic_and_buffers.md). -/

def TMG_TBL_KEY_INDEX : Fld := ⟨0x3400004, 0, 20, .rw, .p, 0⟩

/-! TMG_TBL_DATA: table data (spec/11_traffic_and_buffers.md). -/

def TMG_TBL_DATA_WORD (i : Nat) : Fld := ⟨0x3400010 + 0x8 * i, 0, 64, .rw, .p, 0⟩

/-! TMG_TBL_STAT: table outcome (spec/11_traffic_and_buffers.md). -/

def TMG_TBL_STAT_BUSY : Fld := ⟨0x3400040, 0, 1, .ro, .p, 0⟩
def TMG_TBL_STAT_CODE : Fld := ⟨0x3400040, 1, 3, .ro, .p, 0⟩
def TMG_TBL_STAT_PENDING : Fld := ⟨0x3400040, 4, 12, .ro, .p, 0⟩

/-! TMG_BP_CFG: back-pressure settings (spec/11_traffic_and_buffers.md). -/

def TMG_BP_CFG_THR_WARN : Fld := ⟨0x3400100, 0, 4, .rw, .p, 12⟩
def TMG_BP_CFG_THR_DEEP : Fld := ⟨0x3400100, 4, 4, .rw, .p, 4⟩
def TMG_BP_CFG_QUANTA : Fld := ⟨0x3400100, 8, 16, .rw, .p, 65535⟩

/-! TMG_THR_STAT: trees throttled (spec/11_traffic_and_buffers.md). -/

def TMG_THR_STAT_WARN_TREES : Fld := ⟨0x3400108, 0, 32, .ro, .p, 0⟩
def TMG_THR_STAT_DEEP_TREES : Fld := ⟨0x3400108, 32, 32, .ro, .p, 0⟩

/-! TMG_PAUSE_STAT: pause state (spec/11_traffic_and_buffers.md). -/

def TMG_PAUSE_STAT_XOFF_TX (u : Nat) : Fld := ⟨0x3400200 + 0x4 * u, 0, 8, .ro, .p, 0⟩
def TMG_PAUSE_STAT_XOFF_RX (u : Nat) : Fld := ⟨0x3400200 + 0x4 * u, 8, 8, .ro, .p, 0⟩

/-! TMG_DROP_STAT: policy drops (spec/11_traffic_and_buffers.md). -/

def TMG_DROP_STAT_POL_DROP : Fld := ⟨0x3400300, 0, 32, .ro, .p, 0⟩
def TMG_DROP_STAT_QUEUE_ERR : Fld := ⟨0x3400300, 32, 32, .ro, .p, 0⟩

/-! BPM_FS_CFG: free store (spec/11_traffic_and_buffers.md). -/

def BPM_FS_CFG_MODE : Fld := ⟨0x3800000, 0, 1, .rw, .p, 0⟩
def BPM_FS_CFG_HOST_POOL : Fld := ⟨0x3800000, 1, 6, .rw, .p, 0⟩

/-! BPM_FS_STAT: free cells (spec/11_traffic_and_buffers.md). -/

def BPM_FS_STAT_FREE : Fld := ⟨0x3800008, 0, 26, .ro, .p, 0⟩
def BPM_FS_STAT_RING : Fld := ⟨0x3800008, 26, 1, .ro, .p, 0⟩
def BPM_FS_STAT_LOW_WATER : Fld := ⟨0x3800008, 32, 26, .rc, .p, 0⟩

/-! BPM_ING_MAP: ingress pool (spec/11_traffic_and_buffers.md). -/

def BPM_ING_MAP_POOL (s : Nat) : Fld := ⟨0x3800100 + 0x4 * s, 0, 6, .rw, .p, 0⟩

/-! BPM_POOL_THR: thresholds (spec/11_traffic_and_buffers.md). -/

def BPM_POOL_THR_WARN (p : Nat) : Fld := ⟨0x3801000 + 0x40 * p, 0, 20, .rw, .p, 0⟩
def BPM_POOL_THR_THROTTLE (p : Nat) : Fld := ⟨0x3801000 + 0x40 * p, 20, 20, .rw, .p, 0⟩
def BPM_POOL_THR_STOP (p : Nat) : Fld := ⟨0x3801000 + 0x40 * p, 40, 20, .rw, .p, 0⟩

/-! BPM_POOL_CFG: back-pressure targets (spec/11_traffic_and_buffers.md). -/

def BPM_POOL_CFG_BP_TREES (p : Nat) : Fld := ⟨0x3801008 + 0x40 * p, 0, 32, .rw, .p, 0⟩
def BPM_POOL_CFG_BP_PORTS (p : Nat) : Fld := ⟨0x3801008 + 0x40 * p, 32, 16, .rw, .p, 0⟩
def BPM_POOL_CFG_BP_PRIO (p : Nat) : Fld := ⟨0x3801008 + 0x40 * p, 48, 8, .rw, .p, 0⟩
def BPM_POOL_CFG_HYST (p : Nat) : Fld := ⟨0x3801008 + 0x40 * p, 56, 8, .rw, .p, 0⟩

/-! BPM_POOL_STAT: occupancy (spec/11_traffic_and_buffers.md). -/

def BPM_POOL_STAT_IN_USE (p : Nat) : Fld := ⟨0x3801010 + 0x40 * p, 0, 26, .ro, .p, 0⟩
def BPM_POOL_STAT_LEVEL (p : Nat) : Fld := ⟨0x3801010 + 0x40 * p, 26, 2, .ro, .p, 0⟩
def BPM_POOL_STAT_PEAK (p : Nat) : Fld := ⟨0x3801010 + 0x40 * p, 32, 26, .rc, .p, 0⟩

/-! BPM_POOL_STOP_DROP: stop drops (spec/11_traffic_and_buffers.md). -/

def BPM_POOL_STOP_DROP_FRAMES (p : Nat) : Fld := ⟨0x3801018 + 0x40 * p, 0, 48, .ro, .p, 0⟩

/-! BPM_POOL_EMPTY_DROP: empty drops (spec/11_traffic_and_buffers.md). -/

def BPM_POOL_EMPTY_DROP_FRAMES (p : Nat) : Fld := ⟨0x3801020 + 0x40 * p, 0, 48, .ro, .p, 0⟩

/-! BPM_FREE_ERR: last refused free (spec/11_traffic_and_buffers.md). -/

def BPM_FREE_ERR_CELL : Fld := ⟨0x3802000, 0, 25, .ro, .p, 0⟩
def BPM_FREE_ERR_CODE : Fld := ⟨0x3802000, 25, 3, .ro, .p, 0⟩
def BPM_FREE_ERR_REQUESTER : Fld := ⟨0x3802000, 32, 24, .ro, .p, 0⟩

/-! BPM_FREE_ERR_CNT: refused frees (spec/11_traffic_and_buffers.md). -/

def BPM_FREE_ERR_CNT_REFUSED : Fld := ⟨0x3802008, 0, 32, .ro, .p, 0⟩

/-! BPM_HOST_ALLOC: host cell allocation (spec/11_traffic_and_buffers.md). -/

def BPM_HOST_ALLOC_CELL : Fld := ⟨0x3802010, 0, 25, .rc, .p, 0⟩
def BPM_HOST_ALLOC_EMPTY : Fld := ⟨0x3802010, 25, 1, .rc, .p, 0⟩

/-! BPM_HOST_FREE: host cell free (spec/11_traffic_and_buffers.md). -/

def BPM_HOST_FREE_CELL : Fld := ⟨0x3802014, 0, 25, .wo, .p, 0⟩

/-! BPM_RING_STAT: ring position (spec/11_traffic_and_buffers.md). -/

def BPM_RING_STAT_HEAD : Fld := ⟨0x3802020, 0, 25, .ro, .p, 0⟩
def BPM_RING_STAT_TAIL : Fld := ⟨0x3802020, 32, 25, .ro, .p, 0⟩

end Sys2Proof.Machine.F
end

