-- ==== Sys2Proof/Machine/FieldsC.lean ====
section
/-! DEFINITION. Machine/FieldsC.lean: every field of every BAR0 register of CPH, DRC, UPL, TSU, PRT and OBS, one definition each:
its register's address, lowest bit, width, access code, reset letters and reset value, copied from the field tables
of the spec's chapters (R7, R8, R9, R471). A field whose table gives no reset value has 0 here (assumption 2). -/
namespace Sys2Proof.Machine.F

/-! CPH_CFG: posture and lane policy (spec/12_cipher_and_keys.md). -/

def CPH_CFG_POSTURE : Fld := ⟨0x3a00000, 0, 1, .rw, .pt, 0⟩
def CPH_CFG_KEEP_ALL : Fld := ⟨0x3a00000, 1, 1, .rw, .pt, 0⟩
def CPH_CFG_KS_LOG2 : Fld := ⟨0x3a00000, 4, 4, .rw, .pt, 13⟩
def CPH_CFG_HOST_LANES : Fld := ⟨0x3a00000, 8, 5, .rw, .pt, 8⟩

/-! CPH_LANE_STAT: lanes in service (spec/12_cipher_and_keys.md). -/

def CPH_LANE_STAT_ACTIVE : Fld := ⟨0x3a00004, 0, 9, .ro, .p, 0⟩
def CPH_LANE_STAT_POSTURE : Fld := ⟨0x3a00004, 9, 1, .ro, .p, 0⟩
def CPH_LANE_STAT_BUSY_PEAK : Fld := ⟨0x3a00004, 16, 9, .rc, .p, 0⟩

/-! CPH_ERR_CNT: refusals by code (spec/12_cipher_and_keys.md). -/

def CPH_ERR_CNT_COUNT (c : Nat) : Fld := ⟨0x3a00040 + 0x4 * c, 0, 32, .rc, .p, 0⟩

/-! CPH_PAYLOAD_DROP: payload frames refused (spec/12_cipher_and_keys.md). -/

def CPH_PAYLOAD_DROP_DS : Fld := ⟨0x3a00080, 0, 32, .ro, .p, 0⟩
def CPH_PAYLOAD_DROP_US : Fld := ⟨0x3a00080, 32, 32, .ro, .p, 0⟩

/-! CPH_WARN_LAST: last use warning or limit (spec/12_cipher_and_keys.md). -/

def CPH_WARN_LAST_SLOT : Fld := ⟨0x3a00088, 0, 16, .ro, .p, 0⟩
def CPH_WARN_LAST_DIR : Fld := ⟨0x3a00088, 16, 1, .ro, .p, 0⟩
def CPH_WARN_LAST_LIMIT : Fld := ⟨0x3a00088, 17, 1, .ro, .p, 0⟩
def CPH_WARN_LAST_FRAME : Fld := ⟨0x3a00088, 32, 16, .ro, .p, 0⟩

/-! CPH_HREQ_CMD: host request (spec/12_cipher_and_keys.md). -/

def CPH_HREQ_CMD_MODE : Fld := ⟨0x3a00100, 0, 3, .rw, .p, 0⟩
def CPH_HREQ_CMD_DECRYPT : Fld := ⟨0x3a00100, 3, 1, .rw, .p, 0⟩
def CPH_HREQ_CMD_GO : Fld := ⟨0x3a00100, 4, 1, .w1s, .p, 0⟩
def CPH_HREQ_CMD_SLOT : Fld := ⟨0x3a00100, 8, 8, .rw, .p, 0⟩
def CPH_HREQ_CMD_TAG : Fld := ⟨0x3a00100, 16, 16, .rw, .p, 0⟩
def CPH_HREQ_CMD_LEN : Fld := ⟨0x3a00100, 32, 17, .rw, .p, 0⟩

/-! CPH_HREQ_SRC: data addresses (spec/12_cipher_and_keys.md). -/

def CPH_HREQ_SRC_ADDR : Fld := ⟨0x3a00108, 6, 29, .rw, .p, 0⟩

/-! CPH_HREQ_DST: data addresses (spec/12_cipher_and_keys.md). -/

def CPH_HREQ_DST_ADDR : Fld := ⟨0x3a00110, 6, 29, .rw, .p, 0⟩

/-! CPH_HREQ_IV: supplied IV or counter block (spec/12_cipher_and_keys.md). -/

def CPH_HREQ_IV_IV (i : Nat) : Fld := ⟨0x3a00118 + 0x8 * i, 0, 64, .rw, .p, 0⟩

/-! CPH_HREQ_RESULT: oldest host result (spec/12_cipher_and_keys.md). -/

def CPH_HREQ_RESULT_TAG : Fld := ⟨0x3a00130, 0, 16, .ro, .p, 0⟩
def CPH_HREQ_RESULT_VALID : Fld := ⟨0x3a00130, 16, 1, .rc, .p, 0⟩
def CPH_HREQ_RESULT_CODE : Fld := ⟨0x3a00130, 17, 4, .ro, .p, 0⟩

/-! CPH_HREQ_OUT: returned value (spec/12_cipher_and_keys.md). -/

def CPH_HREQ_OUT_OUT (i : Nat) : Fld := ⟨0x3a00138 + 0x8 * i, 0, 64, .ro, .p, 0⟩

/-! CPH_IMPORT_CMD: key import (spec/12_cipher_and_keys.md). -/

def CPH_IMPORT_CMD_SLOT : Fld := ⟨0x3a00200, 0, 16, .rw, .p, 0⟩
def CPH_IMPORT_CMD_TYPE : Fld := ⟨0x3a00200, 16, 3, .rw, .p, 0⟩
def CPH_IMPORT_CMD_WRAP : Fld := ⟨0x3a00200, 19, 8, .rw, .p, 0⟩
def CPH_IMPORT_CMD_KIND : Fld := ⟨0x3a00200, 27, 1, .rw, .p, 0⟩
def CPH_IMPORT_CMD_GO : Fld := ⟨0x3a00200, 28, 1, .w1s, .p, 0⟩

/-! CPH_IMPORT_BLOB: wrapped key (spec/12_cipher_and_keys.md). -/

def CPH_IMPORT_BLOB_BLOB (i : Nat) : Fld := ⟨0x3a00208 + 0x8 * i, 0, 64, .wo, .p, 0⟩

/-! CPH_IMPORT_STAT: import outcome (spec/12_cipher_and_keys.md). -/

def CPH_IMPORT_STAT_CODE : Fld := ⟨0x3a00220, 0, 4, .ro, .p, 0⟩
def CPH_IMPORT_STAT_BUSY : Fld := ⟨0x3a00220, 4, 1, .ro, .p, 0⟩
def CPH_IMPORT_STAT_REFUSED : Fld := ⟨0x3a00220, 16, 16, .rc, .p, 0⟩

/-! CPH_SLOT_CMD: slot selection and erase (spec/12_cipher_and_keys.md). -/

def CPH_SLOT_CMD_SLOT : Fld := ⟨0x3a00300, 0, 16, .rw, .p, 0⟩
def CPH_SLOT_CMD_ERASE : Fld := ⟨0x3a00300, 16, 1, .w1s, .p, 0⟩
def CPH_SLOT_CMD_ERASE_SESSION : Fld := ⟨0x3a00300, 17, 1, .rw, .p, 0⟩

/-! CPH_SLOT_STAT: selected slot (spec/12_cipher_and_keys.md). -/

def CPH_SLOT_STAT_STATE : Fld := ⟨0x3a00308, 0, 2, .ro, .p, 0⟩
def CPH_SLOT_STAT_STAGED : Fld := ⟨0x3a00308, 2, 1, .ro, .p, 0⟩
def CPH_SLOT_STAT_PREV_HELD : Fld := ⟨0x3a00308, 3, 1, .ro, .p, 0⟩
def CPH_SLOT_STAT_KIND : Fld := ⟨0x3a00308, 4, 1, .ro, .p, 0⟩
def CPH_SLOT_STAT_SESSION : Fld := ⟨0x3a00308, 5, 1, .ro, .p, 0⟩
def CPH_SLOT_STAT_GEN : Fld := ⟨0x3a00308, 32, 32, .ro, .pw, 0⟩

/-! CPH_SLOT_USE0: selected slot's use (spec/12_cipher_and_keys.md). -/

def CPH_SLOT_USE0_USE_DS : Fld := ⟨0x3a00310, 0, 33, .ro, .p, 0⟩

/-! CPH_SLOT_USE1: selected slot's use (spec/12_cipher_and_keys.md). -/

def CPH_SLOT_USE1_USE_US : Fld := ⟨0x3a00318, 0, 33, .ro, .p, 0⟩

/-! CPH_TERM_CMD: terminal key commands (spec/12_cipher_and_keys.md). -/

def CPH_TERM_CMD_TERM : Fld := ⟨0x3a00400, 0, 14, .rw, .p, 0⟩
def CPH_TERM_CMD_OP : Fld := ⟨0x3a00400, 14, 2, .rw, .p, 0⟩
def CPH_TERM_CMD_INDEX : Fld := ⟨0x3a00400, 16, 1, .rw, .p, 0⟩
def CPH_TERM_CMD_GO : Fld := ⟨0x3a00400, 17, 1, .w1s, .p, 0⟩

/-! CPH_TERM_STAT: state of terminal TERM (spec/12_cipher_and_keys.md). -/

def CPH_TERM_STAT_DS_INDEX : Fld := ⟨0x3a00404, 0, 1, .ro, .pw, 0⟩
def CPH_TERM_STAT_SWITCH_PENDING : Fld := ⟨0x3a00404, 1, 1, .ro, .p, 0⟩
def CPH_TERM_STAT_REKEY_PENDING : Fld := ⟨0x3a00404, 2, 1, .ro, .p, 0⟩

/-! CPH_BIND: group binding (spec/12_cipher_and_keys.md). -/

def CPH_BIND_VALID (b : Nat) : Fld := ⟨0x3a10000 + 0x4 * b, 0, 1, .rw, .p, 0⟩
def CPH_BIND_CLEAR (b : Nat) : Fld := ⟨0x3a10000 + 0x4 * b, 1, 1, .rw, .p, 0⟩
def CPH_BIND_TREE (b : Nat) : Fld := ⟨0x3a10000 + 0x4 * b, 2, 5, .rw, .p, 0⟩
def CPH_BIND_TPORT (b : Nat) : Fld := ⟨0x3a10000 + 0x4 * b, 7, 16, .rw, .p, 0⟩
def CPH_BIND_DS_INDEX (b : Nat) : Fld := ⟨0x3a10000 + 0x4 * b, 23, 1, .rw, .pw, 0⟩

/-! DRC_CLASS_CFG: requester classes (spec/13_dram.md). -/

def DRC_CLASS_CFG_CLASS : Fld := ⟨0x3c00000, 0, 42, .rw, .p, 4319337625234⟩

/-! DRC_AGE_CFG: age promotion (spec/13_dram.md). -/

def DRC_AGE_CFG_AGE_NS : Fld := ⟨0x3c00008, 0, 16, .rw, .p, 200⟩

/-! DRC_PANIC_CFG: panic levels (spec/13_dram.md). -/

def DRC_PANIC_CFG_PANIC_LVL (r : Nat) : Fld := ⟨0x3c00010 + 0x4 * r, 0, 8, .rw, .p, (if r = 1 then 30 else 80)⟩
def DRC_PANIC_CFG_PANIC_HYST (r : Nat) : Fld := ⟨0x3c00010 + 0x4 * r, 8, 8, .rw, .p, 20⟩

/-! DRC_REF_CFG: refresh postponement (spec/13_dram.md). -/

def DRC_REF_CFG_POSTPONE_MAX : Fld := ⟨0x3c00018, 0, 4, .rw, .p, 8⟩

/-! DRC_SR_CFG: idle self-refresh (spec/13_dram.md). -/

def DRC_SR_CFG_SR_IDLE : Fld := ⟨0x3c0001c, 0, 12, .rw, .p, 100⟩

/-! DRC_SEG_KEEP: segments kept (spec/13_dram.md). -/

def DRC_SEG_KEEP_KEEP : Fld := ⟨0x3c00020, 0, 64, .rw, .p, 0⟩

/-! DRC_SEG_STAT: segments released (spec/13_dram.md). -/

def DRC_SEG_STAT_RELEASED : Fld := ⟨0x3c00028, 0, 64, .ro, .p, 0⟩

/-! DRC_RH_CFG: row-disturbance limits (spec/13_dram.md). -/

def DRC_RH_CFG_RH_BUDGET : Fld := ⟨0x3c00030, 0, 16, .rw, .p, 2048⟩
def DRC_RH_CFG_RH_WINDOW : Fld := ⟨0x3c00030, 16, 8, .rw, .p, 32⟩
def DRC_RH_CFG_RH_GAP : Fld := ⟨0x3c00030, 24, 8, .rw, .p, 10⟩

/-! DRC_RH_LAST: last budget crossing (spec/13_dram.md). -/

def DRC_RH_LAST_PC : Fld := ⟨0x3c00038, 0, 5, .ro, .p, 0⟩
def DRC_RH_LAST_ROW_GROUP : Fld := ⟨0x3c00038, 5, 14, .ro, .p, 0⟩
def DRC_RH_LAST_REQUESTER : Fld := ⟨0x3c00038, 19, 4, .ro, .p, 0⟩
def DRC_RH_LAST_PANIC : Fld := ⟨0x3c00038, 23, 1, .ro, .p, 0⟩
def DRC_RH_LAST_FRAME : Fld := ⟨0x3c00038, 32, 16, .ro, .p, 0⟩
def DRC_RH_LAST_REQ_ACTS : Fld := ⟨0x3c00038, 48, 16, .ro, .p, 0⟩

/-! DRC_RH_STAT: throttling (spec/13_dram.md). -/

def DRC_RH_STAT_THROTTLED : Fld := ⟨0x3c00040, 0, 14, .ro, .p, 0⟩
def DRC_RH_STAT_CROSSINGS : Fld := ⟨0x3c00040, 16, 16, .rc, .p, 0⟩

/-! DRC_PANIC_STAT: panic (spec/13_dram.md). -/

def DRC_PANIC_STAT_PANIC : Fld := ⟨0x3c00048, 0, 2, .ro, .p, 0⟩
def DRC_PANIC_STAT_PANIC_TICKS : Fld := ⟨0x3c00048, 16, 16, .rc, .p, 0⟩

/-! DRC_ECC_LAST: last uncorrectable or refused access (spec/13_dram.md). -/

def DRC_ECC_LAST_ADDR : Fld := ⟨0x3c00050, 6, 29, .ro, .p, 0⟩
def DRC_ECC_LAST_REQUESTER : Fld := ⟨0x3c00050, 35, 4, .ro, .p, 0⟩
def DRC_ECC_LAST_KIND : Fld := ⟨0x3c00050, 39, 1, .ro, .p, 0⟩
def DRC_ECC_LAST_FRAME : Fld := ⟨0x3c00050, 48, 16, .ro, .p, 0⟩

/-! DRC_PATROL_CFG: patrol period (spec/13_dram.md). -/

def DRC_PATROL_CFG_PATROL_H : Fld := ⟨0x3c00058, 0, 8, .rw, .p, 24⟩

/-! DRC_TRAIN_STAT: training outcome (spec/13_dram.md). -/

def DRC_TRAIN_STAT_PASS : Fld := ⟨0x3c00060, 0, 32, .ro, .p, 0⟩
def DRC_TRAIN_STAT_DRIFT : Fld := ⟨0x3c00060, 32, 32, .ro, .p, 0⟩

/-! DRC_TRAIN_INFO: training source (spec/13_dram.md). -/

def DRC_TRAIN_INFO_FIRST_FAIL : Fld := ⟨0x3c00068, 0, 8, .ro, .p, 255⟩
def DRC_TRAIN_INFO_STORED_USED : Fld := ⟨0x3c00068, 8, 1, .ro, .p, 0⟩
def DRC_TRAIN_INFO_STORED_WRITTEN : Fld := ⟨0x3c00068, 9, 1, .ro, .p, 0⟩
def DRC_TRAIN_INFO_COPY : Fld := ⟨0x3c00068, 10, 1, .ro, .p, 0⟩
def DRC_TRAIN_INFO_SEQ : Fld := ⟨0x3c00068, 16, 16, .ro, .x, 0⟩

/-! DRC_PC_STAT: pseudo-channel state (spec/13_dram.md). -/

def DRC_PC_STAT_STATE (p : Nat) : Fld := ⟨0x3c00100 + 0x20 * p, 0, 2, .ro, .p, 0⟩
def DRC_PC_STAT_OWED (p : Nat) : Fld := ⟨0x3c00100 + 0x20 * p, 2, 4, .ro, .p, 0⟩

/-! DRC_SR_STAT: self-refresh counts (spec/13_dram.md). -/

def DRC_SR_STAT_ENTRIES (p : Nat) : Fld := ⟨0x3c00104 + 0x20 * p, 0, 16, .rc, .p, 0⟩
def DRC_SR_STAT_HELD (p : Nat) : Fld := ⟨0x3c00104 + 0x20 * p, 16, 8, .rc, .p, 0⟩
def DRC_SR_STAT_ABORTED (p : Nat) : Fld := ⟨0x3c00104 + 0x20 * p, 24, 8, .rc, .p, 0⟩

/-! DRC_REF_STAT: refresh counts (spec/13_dram.md). -/

def DRC_REF_STAT_POSTPONED (p : Nat) : Fld := ⟨0x3c00108 + 0x20 * p, 0, 16, .rc, .p, 0⟩
def DRC_REF_STAT_FORCED (p : Nat) : Fld := ⟨0x3c00108 + 0x20 * p, 16, 16, .rc, .p, 0⟩

/-! DRC_ECC_STAT: ECC counts (spec/13_dram.md). -/

def DRC_ECC_STAT_CE (p : Nat) : Fld := ⟨0x3c00110 + 0x20 * p, 0, 32, .ro, .p, 0⟩
def DRC_ECC_STAT_UE (p : Nat) : Fld := ⟨0x3c00110 + 0x20 * p, 32, 16, .rc, .p, 0⟩
def DRC_ECC_STAT_SEG_FAULT (p : Nat) : Fld := ⟨0x3c00110 + 0x20 * p, 48, 16, .rc, .p, 0⟩

/-! TSU_CTRL: source selection (spec/14_time_sync.md). -/

def TSU_CTRL_SRC_MODE : Fld := ⟨0x3e00000, 0, 2, .rw, .p, 0⟩
def TSU_CTRL_PTP_PORT : Fld := ⟨0x3e00000, 2, 4, .rw, .p, 0⟩
def TSU_CTRL_SYNCE_PORT : Fld := ⟨0x3e00000, 6, 4, .rw, .p, 0⟩
def TSU_CTRL_DOMAIN : Fld := ⟨0x3e00000, 10, 6, .rw, .p, 0⟩

/-! TSU_STAT: servo state (spec/14_time_sync.md). -/

def TSU_STAT_STATE : Fld := ⟨0x3e00004, 0, 2, .ro, .p, 0⟩
def TSU_STAT_GRID_FIXED : Fld := ⟨0x3e00004, 2, 1, .ro, .p, 0⟩
def TSU_STAT_PENDING : Fld := ⟨0x3e00004, 3, 1, .ro, .p, 0⟩
def TSU_STAT_PHASE_OK : Fld := ⟨0x3e00004, 4, 1, .ro, .p, 0⟩
def TSU_STAT_FREQ_OK : Fld := ⟨0x3e00004, 5, 1, .ro, .p, 0⟩
def TSU_STAT_OUTLIERS : Fld := ⟨0x3e00004, 16, 16, .rc, .p, 0⟩

/-! TSU_SERVO_CFG: servo settings (spec/14_time_sync.md). -/

def TSU_SERVO_CFG_LOOP_S : Fld := ⟨0x3e00008, 0, 5, .rw, .p, 8⟩
def TSU_SERVO_CFG_LOCK_NS : Fld := ⟨0x3e00008, 8, 8, .rw, .p, 10⟩
def TSU_SERVO_CFG_HOLD_AVG_S : Fld := ⟨0x3e00008, 16, 8, .rw, .p, 16⟩

/-! TSU_JUMP_CFG: jump rule (spec/14_time_sync.md). -/

def TSU_JUMP_CFG_JUMP_TH : Fld := ⟨0x3e0000c, 0, 17, .rw, .p, 100⟩
def TSU_JUMP_CFG_JUMP_CONFIRM : Fld := ⟨0x3e0000c, 17, 4, .rw, .p, 4⟩

/-! TSU_TIME_SNAP0: ToD snapshot (spec/14_time_sync.md). -/

def TSU_TIME_SNAP0_SECONDS : Fld := ⟨0x3e00010, 0, 48, .ro, .p, 0⟩

/-! TSU_TIME_SNAP1: ToD snapshot (spec/14_time_sync.md). -/

def TSU_TIME_SNAP1_FRAC : Fld := ⟨0x3e00018, 0, 16, .ro, .p, 0⟩
def TSU_TIME_SNAP1_NS : Fld := ⟨0x3e00018, 16, 32, .ro, .p, 0⟩

/-! TSU_TOD_OFS: ToD offset (spec/14_time_sync.md). -/

def TSU_TOD_OFS_OFS_PS : Fld := ⟨0x3e00020, 0, 64, .ro, .pw, 0⟩

/-! TSU_FREQ: steering (spec/14_time_sync.md). -/

def TSU_FREQ_FREQ : Fld := ⟨0x3e00028, 0, 32, .ro, .pw, 0⟩

/-! TSU_TICK_CNT: tick count (spec/14_time_sync.md). -/

def TSU_TICK_CNT_TICKS : Fld := ⟨0x3e00030, 0, 64, .ro, .p, 0⟩

/-! TSU_JUMP_STAT: pending jump (spec/14_time_sync.md). -/

def TSU_JUMP_STAT_PENDING : Fld := ⟨0x3e00040, 0, 1, .ro, .p, 0⟩
def TSU_JUMP_STAT_PORT : Fld := ⟨0x3e00040, 1, 4, .ro, .p, 0⟩
def TSU_JUMP_STAT_SOURCE : Fld := ⟨0x3e00040, 5, 1, .ro, .p, 0⟩
def TSU_JUMP_STAT_CAUSE : Fld := ⟨0x3e00040, 6, 2, .ro, .p, 0⟩
def TSU_JUMP_STAT_FRAME : Fld := ⟨0x3e00040, 16, 16, .ro, .p, 0⟩
def TSU_JUMP_STAT_STEP_NS : Fld := ⟨0x3e00040, 32, 32, .ro, .p, 0⟩

/-! TSU_JUMP_CMD: jump decision (spec/14_time_sync.md). -/

def TSU_JUMP_CMD_OP : Fld := ⟨0x3e00048, 0, 2, .rw, .p, 0⟩
def TSU_JUMP_CMD_GO : Fld := ⟨0x3e00048, 2, 1, .w1s, .p, 0⟩

/-! TSU_PORT_CFG: PTP port (spec/14_time_sync.md). -/

def TSU_PORT_CFG_ROLE (u : Nat) : Fld := ⟨0x3e00100 + 0x10 * u, 0, 2, .rw, .p, 0⟩
def TSU_PORT_CFG_MAC_FWD (u : Nat) : Fld := ⟨0x3e00100 + 0x10 * u, 2, 1, .rw, .p, 0⟩
def TSU_PORT_CFG_ASYM_PS (u : Nat) : Fld := ⟨0x3e00100 + 0x10 * u, 32, 32, .rw, .pw, 0⟩

/-! TSU_PORT_STAT: last measurement (spec/14_time_sync.md). -/

def TSU_PORT_STAT_OFFSET_NS (u : Nat) : Fld := ⟨0x3e00108 + 0x10 * u, 0, 32, .ro, .p, 0⟩
def TSU_PORT_STAT_MPD_NS (u : Nat) : Fld := ⟨0x3e00108 + 0x10 * u, 32, 32, .ro, .p, 0⟩

/-! TSU_TREE_CFG: terminal time of day (spec/14_time_sync.md). -/

def TSU_TREE_CFG_TREE_OFS_PS (n : Nat) : Fld := ⟨0x3e00200 + 0x8 * n, 0, 32, .rw, .pw, 0⟩
def TSU_TREE_CFG_ASYM_PPM (n : Nat) : Fld := ⟨0x3e00200 + 0x8 * n, 32, 16, .rw, .pw, 0⟩
def TSU_TREE_CFG_RESP_NS (n : Nat) : Fld := ⟨0x3e00200 + 0x8 * n, 48, 16, .rw, .p, 3500⟩

/-! TSU_TOD_REQ: time-of-day request (spec/14_time_sync.md). -/

def TSU_TOD_REQ_TREE : Fld := ⟨0x3e00300, 0, 5, .rw, .p, 0⟩
def TSU_TOD_REQ_TERMINAL : Fld := ⟨0x3e00300, 5, 9, .rw, .p, 0⟩
def TSU_TOD_REQ_AHEAD : Fld := ⟨0x3e00300, 14, 13, .rw, .p, 0⟩
def TSU_TOD_REQ_GO : Fld := ⟨0x3e00300, 27, 1, .w1s, .p, 0⟩

/-! TSU_TOD_RES0: time-of-day result (spec/14_time_sync.md). -/

def TSU_TOD_RES0_SFC : Fld := ⟨0x3e00308, 0, 51, .ro, .p, 0⟩
def TSU_TOD_RES0_VALID : Fld := ⟨0x3e00308, 51, 1, .ro, .p, 0⟩
def TSU_TOD_RES0_UNLOCKED : Fld := ⟨0x3e00308, 52, 1, .ro, .p, 0⟩
def TSU_TOD_RES0_STALE : Fld := ⟨0x3e00308, 53, 1, .ro, .p, 0⟩
def TSU_TOD_RES0_CODE : Fld := ⟨0x3e00308, 54, 2, .ro, .p, 0⟩

/-! TSU_TOD_RES1: time-of-day result (spec/14_time_sync.md). -/

def TSU_TOD_RES1_SECONDS : Fld := ⟨0x3e00310, 0, 48, .ro, .p, 0⟩

/-! TSU_TOD_RES2: time-of-day result (spec/14_time_sync.md). -/

def TSU_TOD_RES2_FRAC : Fld := ⟨0x3e00318, 0, 16, .ro, .p, 0⟩
def TSU_TOD_RES2_NS : Fld := ⟨0x3e00318, 16, 32, .ro, .p, 0⟩
def TSU_TOD_RES2_RTD_TERM : Fld := ⟨0x3e00318, 48, 9, .ro, .p, 0⟩
def TSU_TOD_RES2_RTD_TREE : Fld := ⟨0x3e00318, 57, 5, .ro, .p, 0⟩

/-! TSU_PPS_CFG: 1PPS and serial port (spec/14_time_sync.md). -/

def TSU_PPS_CFG_PPS_WIDTH_MS : Fld := ⟨0x3e00400, 0, 10, .rw, .p, 100⟩
def TSU_PPS_CFG_BAUD : Fld := ⟨0x3e00400, 10, 1, .rw, .p, 0⟩
def TSU_PPS_CFG_SER_OUT_EN : Fld := ⟨0x3e00400, 11, 1, .rw, .p, 1⟩
def TSU_PPS_CFG_UTC_VALID : Fld := ⟨0x3e00400, 12, 1, .rw, .p, 0⟩
def TSU_PPS_CFG_UTC_OFFSET : Fld := ⟨0x3e00400, 16, 16, .rw, .p, 0⟩

/-! TSU_PPS_IN: last 1PPS_IN edge (spec/14_time_sync.md). -/

def TSU_PPS_IN_STAMP32 : Fld := ⟨0x3e00408, 0, 32, .ro, .p, 0⟩
def TSU_PPS_IN_FRAC : Fld := ⟨0x3e00408, 32, 16, .ro, .p, 0⟩
def TSU_PPS_IN_USED : Fld := ⟨0x3e00408, 48, 1, .ro, .p, 0⟩

/-! PRT_CFG: domain settings (spec/15_protection.md). -/

def PRT_CFG_CLASS : Fld := ⟨0x3e80000, 0, 2, .ro, .p, 0⟩
def PRT_CFG_ARB_MODE : Fld := ⟨0x3e80000, 2, 1, .ro, .p, 0⟩
def PRT_CFG_HOME : Fld := ⟨0x3e80000, 3, 1, .ro, .p, 0⟩
def PRT_CFG_REVERTIVE : Fld := ⟨0x3e80000, 4, 1, .ro, .p, 0⟩
def PRT_CFG_DOMAIN_ID : Fld := ⟨0x3e80000, 16, 16, .ro, .p, 0⟩

/-! PRT_ID: identities (spec/15_protection.md). -/

def PRT_ID_DEVICE_ID : Fld := ⟨0x3e80004, 0, 12, .ro, .p, 0⟩
def PRT_ID_PEER_ID : Fld := ⟨0x3e80004, 16, 12, .ro, .p, 0⟩

/-! PRT_TIMER_CFG: timers (spec/15_protection.md). -/

def PRT_TIMER_CFG_VERDICT_MS : Fld := ⟨0x3e80008, 0, 10, .rw, .p, 50⟩
def PRT_TIMER_CFG_HOLDOFF_S : Fld := ⟨0x3e80008, 10, 16, .rw, .p, 300⟩
def PRT_TIMER_CFG_MIRROR_LAG : Fld := ⟨0x3e80008, 26, 6, .rw, .p, 16⟩

/-! PRT_STAT: protection state (spec/15_protection.md). -/

def PRT_STAT_ROLE : Fld := ⟨0x3e80010, 0, 2, .ro, .pw, 0⟩
def PRT_STAT_PEER_ROLE : Fld := ⟨0x3e80010, 2, 2, .ro, .p, 0⟩
def PRT_STAT_PATH_A : Fld := ⟨0x3e80010, 4, 1, .ro, .p, 0⟩
def PRT_STAT_PATH_B : Fld := ⟨0x3e80010, 5, 1, .ro, .p, 0⟩
def PRT_STAT_MIRROR : Fld := ⟨0x3e80010, 6, 2, .ro, .p, 0⟩
def PRT_STAT_REQ_OPEN : Fld := ⟨0x3e80010, 8, 1, .ro, .p, 0⟩
def PRT_STAT_SPLIT : Fld := ⟨0x3e80010, 9, 1, .ro, .p, 0⟩
def PRT_STAT_FENCED : Fld := ⟨0x3e80010, 10, 1, .ro, .pw, 0⟩
def PRT_STAT_HOLDOFF : Fld := ⟨0x3e80010, 16, 16, .ro, .p, 0⟩

/-! PRT_HB_STAT: heartbeat counts (spec/15_protection.md). -/

def PRT_HB_STAT_MISSED_A : Fld := ⟨0x3e80018, 0, 16, .rc, .p, 0⟩
def PRT_HB_STAT_MISSED_B : Fld := ⟨0x3e80018, 16, 16, .rc, .p, 0⟩
def PRT_HB_STAT_LOST_A : Fld := ⟨0x3e80018, 32, 16, .rc, .p, 0⟩
def PRT_HB_STAT_LOST_B : Fld := ⟨0x3e80018, 48, 16, .rc, .p, 0⟩

/-! PRT_MIRROR_STAT: mirror progress (spec/15_protection.md). -/

def PRT_MIRROR_STAT_MG : Fld := ⟨0x3e80020, 0, 32, .ro, .pw, 0⟩
def PRT_MIRROR_STAT_LAG : Fld := ⟨0x3e80020, 32, 16, .ro, .p, 0⟩
def PRT_MIRROR_STAT_PAGE_SKIP : Fld := ⟨0x3e80020, 48, 16, .rc, .p, 0⟩

/-! PRT_VERDICT_CMD: host request (spec/15_protection.md). -/

def PRT_VERDICT_CMD_REQUEST : Fld := ⟨0x3e80030, 0, 1, .w1s, .p, 0⟩

/-! PRT_SAGE_CFG: SAGE limits (spec/15_protection.md). -/

def PRT_SAGE_CFG_EYE_MIN : Fld := ⟨0x3e80034, 0, 6, .rw, .p, 20⟩

/-! PRT_KAP_TX: oldest outgoing KAP message (spec/15_protection.md). -/

def PRT_KAP_TX_BYTES (i : Nat) : Fld := ⟨0x3e80100 + 0x4 * i, 0, 32, .ro, .p, 0⟩

/-! PRT_KAP_TX_STAT: outgoing queue (spec/15_protection.md). -/

def PRT_KAP_TX_STAT_PENDING : Fld := ⟨0x3e80140, 0, 3, .ro, .p, 0⟩
def PRT_KAP_TX_STAT_POP : Fld := ⟨0x3e80140, 3, 1, .w1s, .p, 0⟩

/-! PRT_KAP_RX: incoming KAP message (spec/15_protection.md). -/

def PRT_KAP_RX_BYTES (i : Nat) : Fld := ⟨0x3e80200 + 0x4 * i, 0, 32, .rw, .p, 0⟩

/-! PRT_KAP_RX_CMD: submit incoming message (spec/15_protection.md). -/

def PRT_KAP_RX_CMD_GO : Fld := ⟨0x3e80240, 0, 1, .w1s, .p, 0⟩

/-! PRT_KAP_RX_STAT: verdict outcome (spec/15_protection.md). -/

def PRT_KAP_RX_STAT_CODE : Fld := ⟨0x3e80244, 0, 4, .ro, .p, 0⟩
def PRT_KAP_RX_STAT_WAITING : Fld := ⟨0x3e80244, 4, 1, .ro, .p, 0⟩
def PRT_KAP_RX_STAT_EPOCH : Fld := ⟨0x3e80244, 32, 32, .ro, .pw, 0⟩

/-! PRT_SAGE: latest SAGE report (spec/15_protection.md). -/

def PRT_SAGE_BYTES (i : Nat) : Fld := ⟨0x3e80300 + 0x8 * i, 0, 64, .ro, .p, 0⟩

/-! UPL_PORT_CFG: port settings (spec/16_uplinks_host_events.md). -/

def UPL_PORT_CFG_MAX_FRAME (u : Nat) : Fld := ⟨0x3d00000 + 0x1000 * u, 0, 14, .rw, .pt, 9728⟩
def UPL_PORT_CFG_TRAP_ESMC (u : Nat) : Fld := ⟨0x3d00000 + 0x1000 * u, 14, 1, .rw, .pt, 1⟩
def UPL_PORT_CFG_TRAP_LLDP (u : Nat) : Fld := ⟨0x3d00000 + 0x1000 * u, 15, 1, .rw, .pt, 0⟩

/-! UPL_PORT_STAT: port state (spec/16_uplinks_host_events.md). -/

def UPL_PORT_STAT_WIDTH (u : Nat) : Fld := ⟨0x3d00004 + 0x1000 * u, 0, 2, .ro, .pt, 0⟩
def UPL_PORT_STAT_LINK (u : Nat) : Fld := ⟨0x3d00004 + 0x1000 * u, 2, 1, .ro, .p, 0⟩
def UPL_PORT_STAT_FIRST_LANE (u : Nat) : Fld := ⟨0x3d00004 + 0x1000 * u, 4, 4, .ro, .pt, 0⟩
def UPL_PORT_STAT_LINK_DOWNS (u : Nat) : Fld := ⟨0x3d00004 + 0x1000 * u, 16, 16, .rc, .p, 0⟩

/-! UPL_CNT: port counters (spec/16_uplinks_host_events.md). -/

def UPL_CNT_COUNT (u i : Nat) : Fld := ⟨0x3d00100 + 0x1000 * u + 0x8 * i, 0, 64, .ro, .p, 0⟩

/-! UPL_HOST_CFG: host path placement (spec/16_uplinks_host_events.md). -/

def UPL_HOST_CFG_RX_BASE : Fld := ⟨0x3d10000, 0, 16, .rw, .p, 0⟩
def UPL_HOST_CFG_TX_BASE : Fld := ⟨0x3d10000, 32, 18, .rw, .p, 0⟩

/-! UPL_HRX_DESC: oldest received frame (spec/16_uplinks_host_events.md). -/

def UPL_HRX_DESC_VALID : Fld := ⟨0x3d10008, 0, 1, .ro, .p, 0⟩
def UPL_HRX_DESC_PORT : Fld := ⟨0x3d10008, 1, 4, .ro, .p, 0⟩
def UPL_HRX_DESC_KIND : Fld := ⟨0x3d10008, 5, 3, .ro, .p, 0⟩
def UPL_HRX_DESC_SLOT : Fld := ⟨0x3d10008, 8, 8, .ro, .p, 0⟩
def UPL_HRX_DESC_LEN : Fld := ⟨0x3d10008, 16, 12, .ro, .p, 0⟩
def UPL_HRX_DESC_STAMP : Fld := ⟨0x3d10008, 32, 32, .ro, .p, 0⟩

/-! UPL_HRX_POP: release received frame (spec/16_uplinks_host_events.md). -/

def UPL_HRX_POP_POP : Fld := ⟨0x3d10010, 0, 1, .w1s, .p, 0⟩

/-! UPL_HTX_CMD: post a frame (spec/16_uplinks_host_events.md). -/

def UPL_HTX_CMD_SLOT : Fld := ⟨0x3d10018, 0, 6, .rw, .p, 0⟩
def UPL_HTX_CMD_PORT : Fld := ⟨0x3d10018, 6, 4, .rw, .p, 0⟩
def UPL_HTX_CMD_LEN : Fld := ⟨0x3d10018, 10, 12, .rw, .p, 0⟩
def UPL_HTX_CMD_GO : Fld := ⟨0x3d10018, 22, 1, .w1s, .p, 0⟩

/-! UPL_HTX_STAT: transmit outcome (spec/16_uplinks_host_events.md). -/

def UPL_HTX_STAT_PENDING : Fld := ⟨0x3d1001c, 0, 7, .ro, .p, 0⟩
def UPL_HTX_STAT_CODE : Fld := ⟨0x3d1001c, 8, 3, .ro, .p, 0⟩
def UPL_HTX_STAT_DONE : Fld := ⟨0x3d1001c, 16, 16, .ro, .p, 0⟩

/-! OBS_VIEW_BIND: slot binding (spec/17_observation_injection.md). -/

def OBS_VIEW_BIND_KIND (v s : Nat) : Fld := ⟨0x3f10000 + 0x1000 * v + 0x8 * s, 0, 3, .rw, .p, 0⟩
def OBS_VIEW_BIND_BAD (v s : Nat) : Fld := ⟨0x3f10000 + 0x1000 * v + 0x8 * s, 3, 1, .ro, .p, 0⟩
def OBS_VIEW_BIND_ARG (v s : Nat) : Fld := ⟨0x3f10000 + 0x1000 * v + 0x8 * s, 32, 26, .rw, .p, 0⟩

/-! OBS_VIEW_CFG: page settings (spec/17_observation_injection.md). -/

def OBS_VIEW_CFG_ENGINE (v : Nat) : Fld := ⟨0x3f20000 + 0x4 * v, 0, 1, .rw, .p, 0⟩
def OBS_VIEW_CFG_WRITES (v : Nat) : Fld := ⟨0x3f20000 + 0x4 * v, 16, 16, .rc, .p, 0⟩

/-! OBS_CNT_SEL: count point (spec/17_observation_injection.md). -/

def OBS_CNT_SEL_KIND (i : Nat) : Fld := ⟨0x3f30000 + 0x10 * i, 0, 2, .rw, .p, 0⟩
def OBS_CNT_SEL_DIR (i : Nat) : Fld := ⟨0x3f30000 + 0x10 * i, 2, 1, .rw, .p, 0⟩
def OBS_CNT_SEL_STAGE (i : Nat) : Fld := ⟨0x3f30000 + 0x10 * i, 3, 3, .rw, .p, 0⟩
def OBS_CNT_SEL_INDEX (i : Nat) : Fld := ⟨0x3f30000 + 0x10 * i, 6, 5, .rw, .p, 0⟩
def OBS_CNT_SEL_ALL (i : Nat) : Fld := ⟨0x3f30000 + 0x10 * i, 11, 1, .rw, .p, 0⟩
def OBS_CNT_SEL_SOURCE (i : Nat) : Fld := ⟨0x3f30000 + 0x10 * i, 12, 11, .rw, .p, 0⟩
def OBS_CNT_SEL_CHAIN (i : Nat) : Fld := ⟨0x3f30000 + 0x10 * i, 23, 1, .rw, .p, 0⟩
def OBS_CNT_SEL_OVF_EVT (i : Nat) : Fld := ⟨0x3f30000 + 0x10 * i, 24, 1, .rw, .p, 0⟩

/-! OBS_CNT: counter (spec/17_observation_injection.md). -/

def OBS_CNT_COUNT (i : Nat) : Fld := ⟨0x3f30008 + 0x10 * i, 0, 48, .rw, .pw, 0⟩
def OBS_CNT_OVF (i : Nat) : Fld := ⟨0x3f30008 + 0x10 * i, 48, 1, .w1c, .pw, 0⟩
def OBS_CNT_CARRY_LOST (i : Nat) : Fld := ⟨0x3f30008 + 0x10 * i, 49, 1, .w1c, .pw, 0⟩

/-! OBS_CNT_HI: latched high half (spec/17_observation_injection.md). -/

def OBS_CNT_HI_COUNT : Fld := ⟨0x3f32000, 0, 48, .ro, .p, 0⟩

/-! OBS_SNAP_CMD: snapshot control (spec/17_observation_injection.md). -/

def OBS_SNAP_CMD_GO : Fld := ⟨0x3f32008, 0, 1, .w1s, .p, 0⟩
def OBS_SNAP_CMD_AUTO : Fld := ⟨0x3f32008, 1, 1, .rw, .p, 0⟩
def OBS_SNAP_CMD_SEQ : Fld := ⟨0x3f32008, 16, 16, .ro, .p, 0⟩

/-! OBS_SNAP: snapshot counter (spec/17_observation_injection.md). -/

def OBS_SNAP_COUNT (i : Nat) : Fld := ⟨0x3f34000 + 0x8 * i, 0, 48, .ro, .p, 0⟩

/-! OBS_SKIM_CFG: tagging (spec/17_observation_injection.md). -/

def OBS_SKIM_CFG_N : Fld := ⟨0x3f40000, 0, 5, .rw, .p, 16⟩
def OBS_SKIM_CFG_EN_UP : Fld := ⟨0x3f40000, 5, 1, .rw, .p, 0⟩
def OBS_SKIM_CFG_EN_DN : Fld := ⟨0x3f40000, 6, 1, .rw, .p, 0⟩
def OBS_SKIM_CFG_PORTS : Fld := ⟨0x3f40000, 16, 16, .rw, .p, 0⟩
def OBS_SKIM_CFG_TREES : Fld := ⟨0x3f40000, 32, 32, .rw, .p, 0⟩

/-! OBS_SKIM_STAT: tagging status (spec/17_observation_injection.md). -/

def OBS_SKIM_STAT_RECORDS : Fld := ⟨0x3f40008, 0, 10, .ro, .p, 0⟩
def OBS_SKIM_STAT_POP : Fld := ⟨0x3f40008, 10, 1, .w1s, .p, 0⟩
def OBS_SKIM_STAT_SKIPPED : Fld := ⟨0x3f40008, 16, 16, .rc, .p, 0⟩

/-! OBS_SKIM_REC: oldest record (spec/17_observation_injection.md). -/

def OBS_SKIM_REC_BYTES (i : Nat) : Fld := ⟨0x3f40100 + 0x8 * i, 0, 64, .ro, .p, 0⟩

/-! OBS_HIST_CFG: histogram source (spec/17_observation_injection.md). -/

def OBS_HIST_CFG_SRC (h : Nat) : Fld := ⟨0x3f50000 + 0x200 * h, 0, 2, .rw, .p, 0⟩
def OBS_HIST_CFG_DIR (h : Nat) : Fld := ⟨0x3f50000 + 0x200 * h, 2, 1, .rw, .p, 0⟩
def OBS_HIST_CFG_STAGE_A (h : Nat) : Fld := ⟨0x3f50000 + 0x200 * h, 3, 3, .rw, .p, 0⟩
def OBS_HIST_CFG_STAGE_B (h : Nat) : Fld := ⟨0x3f50000 + 0x200 * h, 6, 3, .rw, .p, 0⟩
def OBS_HIST_CFG_INDEX (h : Nat) : Fld := ⟨0x3f50000 + 0x200 * h, 9, 5, .rw, .p, 0⟩
def OBS_HIST_CFG_UNIT_LOG2 (h : Nat) : Fld := ⟨0x3f50000 + 0x200 * h, 14, 4, .rw, .p, 0⟩
def OBS_HIST_CFG_CLR (h : Nat) : Fld := ⟨0x3f50000 + 0x200 * h, 18, 1, .w1s, .p, 0⟩

/-! OBS_HIST_BIN: bin count (spec/17_observation_injection.md). -/

def OBS_HIST_BIN_COUNT (h b : Nat) : Fld := ⟨0x3f50100 + 0x200 * h + 0x4 * b, 0, 32, .ro, .p, 0⟩

/-! OBS_MIRROR: mirror session (spec/17_observation_injection.md). -/

def OBS_MIRROR_EN (m : Nat) : Fld := ⟨0x3f58000 + 0x8 * m, 0, 1, .rw, .p, 0⟩
def OBS_MIRROR_DIR (m : Nat) : Fld := ⟨0x3f58000 + 0x8 * m, 1, 1, .rw, .p, 0⟩
def OBS_MIRROR_STAGE (m : Nat) : Fld := ⟨0x3f58000 + 0x8 * m, 2, 3, .rw, .p, 0⟩
def OBS_MIRROR_INDEX (m : Nat) : Fld := ⟨0x3f58000 + 0x8 * m, 5, 5, .rw, .p, 0⟩
def OBS_MIRROR_DEST (m : Nat) : Fld := ⟨0x3f58000 + 0x8 * m, 10, 4, .rw, .p, 0⟩
def OBS_MIRROR_CLASS (m : Nat) : Fld := ⟨0x3f58000 + 0x8 * m, 14, 3, .rw, .p, 0⟩
def OBS_MIRROR_SAMPLE (m : Nat) : Fld := ⟨0x3f58000 + 0x8 * m, 17, 5, .rw, .p, 0⟩

/-! OBS_INJ_UNLOCK: injection unlock (spec/17_observation_injection.md). -/

def OBS_INJ_UNLOCK_LINK : Fld := ⟨0x3f60000, 0, 6, .wo, .p, 0⟩
def OBS_INJ_UNLOCK_KEY : Fld := ⟨0x3f60000, 16, 16, .wo, .p, 0⟩

/-! OBS_INJ_CFG: injection (spec/17_observation_injection.md). -/

def OBS_INJ_CFG_ACTION (l : Nat) : Fld := ⟨0x3f60100 + 0x20 * l, 0, 2, .rw, .p, 0⟩
def OBS_INJ_CFG_SEL_LOG2 (l : Nat) : Fld := ⟨0x3f60100 + 0x20 * l, 2, 5, .rw, .p, 0⟩
def OBS_INJ_CFG_TERM (l : Nat) : Fld := ⟨0x3f60100 + 0x20 * l, 7, 9, .rw, .p, 0⟩
def OBS_INJ_CFG_SHIFT (l : Nat) : Fld := ⟨0x3f60100 + 0x20 * l, 16, 12, .rw, .p, 0⟩
def OBS_INJ_CFG_DEPTH (l : Nat) : Fld := ⟨0x3f60100 + 0x20 * l, 28, 4, .rw, .p, 0⟩
def OBS_INJ_CFG_RATE_M (l : Nat) : Fld := ⟨0x3f60100 + 0x20 * l, 32, 4, .rw, .p, 0⟩
def OBS_INJ_CFG_RATE_E (l : Nat) : Fld := ⟨0x3f60100 + 0x20 * l, 36, 4, .rw, .p, 0⟩
def OBS_INJ_CFG_COUNT (l : Nat) : Fld := ⟨0x3f60100 + 0x20 * l, 40, 24, .rw, .p, 0⟩

/-! OBS_INJ_STAT: injection status (spec/17_observation_injection.md). -/

def OBS_INJ_STAT_UNLOCKED (l : Nat) : Fld := ⟨0x3f60108 + 0x20 * l, 0, 1, .ro, .p, 0⟩
def OBS_INJ_STAT_ARMED (l : Nat) : Fld := ⟨0x3f60108 + 0x20 * l, 1, 1, .ro, .p, 0⟩
def OBS_INJ_STAT_SECONDS (l : Nat) : Fld := ⟨0x3f60108 + 0x20 * l, 8, 8, .ro, .p, 0⟩
def OBS_INJ_STAT_INJECTED (l : Nat) : Fld := ⟨0x3f60108 + 0x20 * l, 32, 32, .ro, .p, 0⟩

end Sys2Proof.Machine.F
end

