-- ==== Sys2Proof/Machine/RegTable.lean ====
section
/-! DEFINITION. Machine/RegTable.lean: the BAR0 register map (R471), one row per register array: base address, the strides
and index ranges of its instances, its size in bytes, its commit group (R89) and its fields as a function of the indexes. -/
namespace Sys2Proof.Machine

/-- Registers of PWR. -/
def regsPWR : List Reg := [
  ⟨0x200000, [], 4, .none, fun _ _ _ => [F.PWR_MODE_CUR, F.PWR_MODE_PREV, F.PWR_MODE_PENDING, F.PWR_MODE_CHANGES]⟩,
  ⟨0x200004, [], 4, .none, fun _ _ _ => [F.PWR_MODE_REQ_TARGET, F.PWR_MODE_REQ_PROMOTE_TO, F.PWR_MODE_REQ_GO, F.PWR_MODE_REQ_KEY]⟩,
  ⟨0x200008, [], 4, .none, fun _ _ _ => [F.PWR_MODE_STAT_REFUSED_TARGET, F.PWR_MODE_STAT_REFUSE_CODE, F.PWR_MODE_STAT_HIGHEST_OK, F.PWR_MODE_STAT_BELOW_FLOOR]⟩,
  ⟨0x200010, [], 4, .none, fun _ _ _ => [F.PWR_VIN_VIN_MV, F.PWR_VIN_VIN_MIN_MV]⟩,
  ⟨0x200014, [], 4, .none, fun _ _ _ => [F.PWR_IIN_IIN_MA, F.PWR_IIN_ILIM, F.PWR_IIN_ILIM_SEEN, F.PWR_IIN_RAIL_UV_SEEN]⟩,
  ⟨0x200018, [], 4, .none, fun _ _ _ => [F.PWR_PIN_PIN_10MW, F.PWR_PIN_OVER_TICKS]⟩,
  ⟨0x200020, [], 4, .none, fun _ _ _ => [F.PWR_HOLD_HOLD_MV, F.PWR_HOLD_HOLD_OK, F.PWR_HOLD_CHG_ON, F.PWR_HOLD_CHG_FAULT, F.PWR_HOLD_SAVE_ON_VIN]⟩,
  ⟨0x200024, [], 4, .none, fun _ _ _ => [F.PWR_HOLD_CFG_HOLD_OK_MV, F.PWR_HOLD_CFG_CHG_TIMEOUT_MS]⟩,
  ⟨0x200028, [], 4, .none, fun _ _ _ => [F.PWR_SAG_CFG_V_WARN_MV, F.PWR_SAG_CFG_V_SAG_MV]⟩,
  ⟨0x200030, [], 4, .none, fun _ _ _ => [F.PWR_SAVE_ARM_ARMED, F.PWR_SAVE_ARM_AUTO_RESUME, F.PWR_SAVE_ARM_ARM, F.PWR_SAVE_ARM_KEY]⟩,
  ⟨0x200034, [], 4, .none, fun _ _ _ => [F.PWR_SAVE_CMD_SAVE, F.PWR_SAVE_CMD_SLEEP]⟩,
  ⟨0x200038, [], 4, .none, fun _ _ _ => [F.PWR_SAVE_STAT_LATEST, F.PWR_SAVE_STAT_BUSY, F.PWR_SAVE_STAT_LAST_OK, F.PWR_SAVE_STAT_LAST_CAUSE, F.PWR_SAVE_STAT_MERGED, F.PWR_SAVE_STAT_REWRITES, F.PWR_SAVE_STAT_LAST_DUR]⟩,
  ⟨0x20003c, [], 4, .none, fun _ _ _ => [F.PWR_SAVE_SEQ_SEQ]⟩,
  ⟨0x200040, [], 4, .none, fun _ _ _ => [F.PWR_STAGGER_CFG_PER_TICK, F.PWR_STAGGER_CFG_OPT_GROUP, F.PWR_STAGGER_CFG_OPT_GAP_MS]⟩,
  ⟨0x200044, [], 4, .none, fun _ _ _ => [F.PWR_STAGGER_STAT_QUEUED, F.PWR_STAGGER_STAT_QUEUED_MAX, F.PWR_STAGGER_STAT_DEFERRED]⟩,
  ⟨0x200060, [], 4, .none, fun _ _ _ => [F.PWR_SS_ADDR_ADDR]⟩,
  ⟨0x200064, [], 4, .none, fun _ _ _ => [F.PWR_SS_DATA_DATA]⟩]

/-- Registers of CFG. -/
def regsCFG : List Reg := [
  ⟨0x100000, [⟨4, 0, 1⟩], 4, .none, fun a _ _ => [F.CFG_IMG_STAT_VERIFIED a, F.CFG_IMG_STAT_RUNNING a, F.CFG_IMG_STAT_BUSY a, F.CFG_IMG_STAT_ERR a, F.CFG_IMG_STAT_FORMAT a]⟩,
  ⟨0x100008, [], 4, .none, fun _ _ _ => [F.CFG_IMG_CMD_SLOT, F.CFG_IMG_CMD_OP, F.CFG_IMG_CMD_GO]⟩,
  ⟨0x100010, [⟨8, 0, 1⟩], 8, .none, fun a _ _ => [F.CFG_IMG_ID_IMAGE_ID a]⟩,
  ⟨0x100020, [⟨4, 0, 1⟩], 4, .none, fun a _ _ => [F.CFG_IMG_VER_IMAGE_VER a]⟩,
  ⟨0x100040, [], 4, .none, fun _ _ _ => [F.CFG_RELOAD_TILE, F.CFG_RELOAD_SLOT, F.CFG_RELOAD_PARTNER_EN, F.CFG_RELOAD_PARTNER, F.CFG_RELOAD_GO, F.CFG_RELOAD_GEN]⟩,
  ⟨0x100044, [], 4, .none, fun _ _ _ => [F.CFG_RELOAD_STAT_TILE, F.CFG_RELOAD_STAT_REFUSE_CODE, F.CFG_RELOAD_STAT_ABANDON_CODE, F.CFG_RELOAD_STAT_ACTIVE]⟩,
  ⟨0x100100, [⟨4, 0, 47⟩], 4, .none, fun a _ _ => [F.CFG_TILE_STAT_STATE a, F.CFG_TILE_STAT_IF_VER a, F.CFG_TILE_STAT_SLOT a, F.CFG_TILE_STAT_LOADS a]⟩,
  ⟨0x100200, [⟨4, 0, 47⟩], 4, .none, fun a _ _ => [F.CFG_TILE_BUILD_BUILD a]⟩,
  ⟨0x100300, [], 4, .none, fun _ _ _ => [F.CFG_COMMIT_GROUP, F.CFG_COMMIT_LINK, F.CFG_COMMIT_GEN]⟩,
  ⟨0x100304, [], 4, .none, fun _ _ _ => [F.CFG_COMMIT_STAT_GROUP, F.CFG_COMMIT_STAT_CODE, F.CFG_COMMIT_STAT_LINKED, F.CFG_COMMIT_STAT_REFUSED]⟩,
  ⟨0x100400, [⟨4, 0, 63⟩], 4, .none, fun a _ _ => [F.CFG_GEN_CUR a, F.CFG_GEN_PENDING a, F.CFG_GEN_FROZEN a]⟩,
  ⟨0x100600, [⟨4, 0, 4⟩], 4, .none, fun a _ _ => [F.CFG_VER_MIN a, F.CFG_VER_MAX a, F.CFG_VER_AGREED a, F.CFG_VER_NONE a]⟩,
  ⟨0x100800, [], 4, .none, fun _ _ _ => [F.CFG_BOOT_STAT_STEP, F.CFG_BOOT_STAT_FINAL, F.CFG_BOOT_STAT_HALTED, F.CFG_BOOT_STAT_HALT_STEP, F.CFG_BOOT_STAT_HALT_OUTCOME, F.CFG_BOOT_STAT_CAUSE, F.CFG_BOOT_STAT_POLICY_SRC]⟩,
  ⟨0x100800, [⟨4, 1, 14⟩], 4, .none, fun a _ _ => [F.CFG_BOOT_STEP_OUTCOME a, F.CFG_BOOT_STEP_ACTION a, F.CFG_BOOT_STEP_DIRECT a, F.CFG_BOOT_STEP_ATTEMPTS a, F.CFG_BOOT_STEP_STREAK a, F.CFG_BOOT_STEP_DIRECT_CNT a]⟩,
  ⟨0x100840, [], 4, .none, fun _ _ _ => [F.CFG_BOOT_SEL_SOURCE, F.CFG_BOOT_SEL_COPY, F.CFG_BOOT_SEL_COPY_USED, F.CFG_BOOT_SEL_ALT_USED]⟩,
  ⟨0x100844, [], 4, .none, fun _ _ _ => [F.CFG_BOOT_CMD_RESTART, F.CFG_BOOT_CMD_CLEAR_STREAK, F.CFG_BOOT_CMD_FORCE_NORMAL, F.CFG_BOOT_CMD_STEP]⟩,
  ⟨0x100848, [], 4, .none, fun _ _ _ => [F.CFG_WARM_STAT_WARM, F.CFG_WARM_STAT_DECLINE, F.CFG_WARM_STAT_AGE_UNCHECKED, F.CFG_WARM_STAT_OLDER_COPY]⟩,
  ⟨0x10084c, [], 4, .none, fun _ _ _ => [F.CFG_WARM_TREES_TREES]⟩,
  ⟨0x100850, [], 8, .none, fun _ _ _ => [F.CFG_JNL_STAT_START_NO, F.CFG_JNL_STAT_HEAD, F.CFG_JNL_STAT_CTRL_OK, F.CFG_JNL_STAT_HELD, F.CFG_JNL_STAT_TORN]⟩]

/-- Registers of TPA. -/
def regsTPA : List Reg := [
  ⟨0x1000000, [⟨65536, 0, 31⟩], 4, .none, fun a _ _ => [F.TPA_CTRL_ENABLE a, F.TPA_CTRL_LOOPBACK a]⟩,
  ⟨0x1000004, [⟨65536, 0, 31⟩], 4, .none, fun a _ _ => [F.TPA_STAT_RATE_CLASS a, F.TPA_STAT_PAIRED a, F.TPA_STAT_PARTNER a, F.TPA_STAT_MEN a, F.TPA_STAT_BEN a, F.TPA_STAT_SD a, F.TPA_STAT_LOS a, F.TPA_STAT_LB_BLOCKED a, F.TPA_STAT_PHASE a]⟩,
  ⟨0x1000010, [⟨65536, 0, 31⟩], 4, (.plus 0), fun a _ _ => [F.TPA_BRST_CFG_BRST_LAG a, F.TPA_BRST_CFG_BRST_SETUP a, F.TPA_BRST_CFG_BRST_MAX a]⟩,
  ⟨0x1000014, [⟨65536, 0, 31⟩], 4, (.plus 0), fun a _ _ => [F.TPA_BEN_CFG_LEAD_TICKS a, F.TPA_BEN_CFG_BEN_WAIT_MS a]⟩,
  ⟨0x1000018, [⟨65536, 0, 31⟩], 4, (.plus 0), fun a _ _ => [F.TPA_SD_CFG_LOS_FRAMES a, F.TPA_SD_CFG_ROGUE_NS a, F.TPA_SD_CFG_LOCK_FAIL_TH a]⟩,
  ⟨0x100001c, [⟨65536, 0, 31⟩], 4, (.plus 0), fun a _ _ => [F.TPA_CAL_TX_CAL_PS a, F.TPA_CAL_RX_CAL_PS a]⟩,
  ⟨0x1000020, [⟨65536, 0, 31⟩], 4, .none, fun a _ _ => [F.TPA_TX_DLY_D_TX_PS a]⟩,
  ⟨0x1000030, [⟨65536, 0, 31⟩], 8, .none, fun a _ _ => [F.TPA_LAST_STAMP_STAMP a]⟩,
  ⟨0x1000040, [⟨65536, 0, 31⟩], 8, .none, fun a _ _ => [F.TPA_FEC_BITS_CORR_BITS a]⟩,
  ⟨0x1000048, [⟨65536, 0, 31⟩], 8, .none, fun a _ _ => [F.TPA_FEC_CW_CORR_CW a, F.TPA_FEC_CW_UNCORR_CW a]⟩,
  ⟨0x1000050, [⟨65536, 0, 31⟩], 4, .none, fun a _ _ => [F.TPA_BURST_OK_LOCKED a]⟩,
  ⟨0x1000054, [⟨65536, 0, 31⟩], 4, .none, fun a _ _ => [F.TPA_BURST_ERR_NO_LOCK a, F.TPA_BURST_ERR_NO_LIGHT a]⟩,
  ⟨0x1000058, [⟨65536, 0, 31⟩], 4, .none, fun a _ _ => [F.TPA_SCHED_ERR_BRST_SKIPPED a, F.TPA_SCHED_ERR_SWITCH_LATE a, F.TPA_SCHED_ERR_OVERRUN_CUT a]⟩,
  ⟨0x1000060, [⟨65536, 0, 31⟩], 8, .none, fun a _ _ => [F.TPA_ROGUE_COUNT a, F.TPA_ROGUE_FRAME a, F.TPA_ROGUE_OFFSET_NS a]⟩,
  ⟨0x1000100, [⟨65536, 0, 31⟩], 4, .none, fun a _ _ => [F.TPA_MOD_CMD_DEV_ADDR a, F.TPA_MOD_CMD_READ a, F.TPA_MOD_CMD_REG a, F.TPA_MOD_CMD_LEN a, F.TPA_MOD_CMD_BUS_KHZ a, F.TPA_MOD_CMD_GO a]⟩,
  ⟨0x1000104, [⟨65536, 0, 31⟩], 4, .none, fun a _ _ => [F.TPA_MOD_DATA_DATA a]⟩,
  ⟨0x1000108, [⟨65536, 0, 31⟩], 4, .none, fun a _ _ => [F.TPA_MOD_STAT_STATUS a]⟩]

/-- Registers of FRM. -/
def regsFRM : List Reg := [
  ⟨0x1400010, [⟨65536, 0, 31⟩], 4, (.plus 0), fun a _ _ => [F.FRM_SEARCH_CFG_SEARCH_HALF a, F.FRM_SEARCH_CFG_SEARCH_GUARDED a, F.FRM_SEARCH_CFG_DELIM_TOL a]⟩,
  ⟨0x1400014, [⟨65536, 0, 31⟩], 4, (.plus 0), fun a _ _ => [F.FRM_DEFECT_CFG_LOB_FRAMES a, F.FRM_DEFECT_CFG_SD_EXP a, F.FRM_DEFECT_CFG_SF_EXP a]⟩,
  ⟨0x1400018, [⟨65536, 0, 31⟩], 4, (.plus 0), fun a _ _ => [F.FRM_TCA_CFG_MISSED_TH a, F.FRM_TCA_CFG_HDR_TH a, F.FRM_TCA_CFG_UNCONF_TH a]⟩,
  ⟨0x140001c, [⟨65536, 0, 31⟩], 4, (.plus 0), fun a _ _ => [F.FRM_MSG_CFG_MSG_MAX a]⟩,
  ⟨0x1400020, [⟨65536, 0, 31⟩], 8, .none, fun a _ _ => [F.FRM_SFC_SFC a]⟩,
  ⟨0x1400028, [⟨65536, 0, 31⟩], 4, .none, fun a _ _ => [F.FRM_DS_STAT_MAP_LATE a, F.FRM_DS_STAT_DS_UNDERRUN a, F.FRM_DS_STAT_PLOAM_US_DROP a]⟩,
  ⟨0x1400030, [⟨65536, 0, 31⟩], 8, .none, fun a _ _ => [F.FRM_AMBIG_LAST_FRAME a, F.FRM_AMBIG_LAST_TERMINAL a, F.FRM_AMBIG_LAST_WIN_OFS a, F.FRM_AMBIG_LAST_CANDIDATES a]⟩,
  ⟨0x1400038, [⟨65536, 0, 31⟩], 8, .none, fun a _ _ => [F.FRM_DEFECT_LAST_FRAME a, F.FRM_DEFECT_LAST_TERMINAL a, F.FRM_DEFECT_LAST_DEFECT a, F.FRM_DEFECT_LAST_SET a, F.FRM_DEFECT_LAST_CHANGES a]⟩,
  ⟨0x1400040, [⟨65536, 0, 31⟩], 4, .none, fun a _ _ => [F.FRM_TCA_TERM_FIRST a, F.FRM_TCA_TERM_COUNT a]⟩,
  ⟨0x1400100, [⟨65536, 0, 31⟩, ⟨4, 0, 9⟩], 4, .none, fun a b _ => [F.FRM_MSG_TX_BYTES a b]⟩,
  ⟨0x1400130, [⟨65536, 0, 31⟩], 4, .none, fun a _ _ => [F.FRM_MSG_TX_CMD_TERMINAL a, F.FRM_MSG_TX_CMD_GO a]⟩,
  ⟨0x1400134, [⟨65536, 0, 31⟩], 4, .none, fun a _ _ => [F.FRM_MSG_TX_STAT_QUEUED a, F.FRM_MSG_TX_STAT_LAST_REFUSED a]⟩,
  ⟨0x1400200, [⟨65536, 0, 31⟩, ⟨4, 0, 11⟩], 4, .none, fun a b _ => [F.FRM_MSG_RX_BYTES a b]⟩,
  ⟨0x1400230, [⟨65536, 0, 31⟩], 4, .none, fun a _ _ => [F.FRM_MSG_RX_STAT_VALID a, F.FRM_MSG_RX_STAT_TERMINAL a, F.FRM_MSG_RX_STAT_PENDING a]⟩,
  ⟨0x1400234, [⟨65536, 0, 31⟩], 4, .none, fun a _ _ => [F.FRM_MSG_RX_POP_POP a]⟩,
  ⟨0x1400300, [⟨65536, 0, 31⟩], 4, .none, fun a _ _ => [F.FRM_PM_SEL_TERMINAL a, F.FRM_PM_SEL_TREE a, F.FRM_PM_SEL_GO a]⟩,
  ⟨0x1400304, [⟨65536, 0, 31⟩], 4, .none, fun a _ _ => [F.FRM_PM_STAT_SECOND a, F.FRM_PM_STAT_BANK a, F.FRM_PM_STAT_DEFECTS a]⟩,
  ⟨0x1400400, [⟨65536, 0, 31⟩, ⟨8, 0, 31⟩], 8, .none, fun a b _ => [F.FRM_PM_DATA_DATA a b]⟩]

/-- Registers of RNG. -/
def regsRNG : List Reg := [
  ⟨0x1800000, [⟨65536, 0, 31⟩], 4, (.plus 0), fun a _ _ => [F.RNG_REACH_CFG_MIN_REACH a, F.RNG_REACH_CFG_MAX_REACH a]⟩,
  ⟨0x1800004, [⟨65536, 0, 31⟩], 4, .none, fun a _ _ => [F.RNG_TEQ_T_EQ_NS a, F.RNG_TEQ_PENDING a]⟩,
  ⟨0x1800008, [⟨65536, 0, 31⟩], 4, (.plus 0), fun a _ _ => [F.RNG_DISC_CFG_SHARE a, F.RNG_DISC_CFG_AUTO_ASSIGN a, F.RNG_DISC_CFG_RAND_US a, F.RNG_DISC_CFG_PERIOD_MS a]⟩,
  ⟨0x180000c, [⟨65536, 0, 31⟩], 4, (.plus 0), fun a _ _ => [F.RNG_TRACK_CFG_ENV_BITS a, F.RNG_TRACK_CFG_FILTER_LOG2 a, F.RNG_TRACK_CFG_STEP_CONFIRM a, F.RNG_TRACK_CFG_MISS_GUARD a, F.RNG_TRACK_CFG_RANGE_TRIES a, F.RNG_TRACK_CFG_VERIFY_N a]⟩,
  ⟨0x1800010, [⟨65536, 0, 31⟩], 4, (.plus 0), fun a _ _ => [F.RNG_VERIFY_CFG_VERIFY_FRAMES a]⟩,
  ⟨0x1800020, [⟨65536, 0, 31⟩], 8, .none, fun a _ _ => [F.RNG_POP_IN_SERVICE a, F.RNG_POP_GUARDED a, F.RNG_POP_VERIFYING a, F.RNG_POP_ACTIVATING a, F.RNG_POP_FAILED a, F.RNG_POP_RESERVED a]⟩,
  ⟨0x1800028, [⟨65536, 0, 31⟩], 4, .none, fun a _ _ => [F.RNG_STBY_OFS_STBY_OFS a]⟩,
  ⟨0x1800030, [⟨65536, 0, 31⟩], 8, .none, fun a _ _ => [F.RNG_WIN_DISC_WIN a, F.RNG_WIN_RANGE_WIN a, F.RNG_WIN_BUDGET a, F.RNG_WIN_WAITING a]⟩,
  ⟨0x1800038, [⟨65536, 0, 31⟩], 4, .none, fun a _ _ => [F.RNG_VERIFY_STAT_VERIFIED a, F.RNG_VERIFY_STAT_STEPPED a, F.RNG_VERIFY_STAT_FAILED a, F.RNG_VERIFY_STAT_DONE a]⟩,
  ⟨0x1800040, [⟨65536, 0, 31⟩], 8, .none, fun a _ _ => [F.RNG_DISC_CNT_WINDOWS a, F.RNG_DISC_CNT_RESPONSES a, F.RNG_DISC_CNT_DUP_SERIAL a, F.RNG_DISC_CNT_PEND_DROP a]⟩,
  ⟨0x1800048, [⟨65536, 0, 31⟩], 8, .none, fun a _ _ => [F.RNG_TRACK_CNT_CORRECTIONS a, F.RNG_TRACK_CNT_OUTLIERS a, F.RNG_TRACK_CNT_STEPS a, F.RNG_TRACK_CNT_RANGE_FAIL a]⟩,
  ⟨0x1800050, [⟨65536, 0, 31⟩], 8, .none, fun a _ _ => [F.RNG_EVT_LAST_FRAME a, F.RNG_EVT_LAST_TERMINAL a, F.RNG_EVT_LAST_EVENT a, F.RNG_EVT_LAST_CAUSE a, F.RNG_EVT_LAST_STEP_RU a]⟩,
  ⟨0x1800100, [⟨65536, 0, 31⟩], 4, .none, fun a _ _ => [F.RNG_DISC_CMD_NOW a]⟩,
  ⟨0x1800108, [⟨65536, 0, 31⟩], 8, .none, fun a _ _ => [F.RNG_SN_PEND_SERIAL a]⟩,
  ⟨0x1800110, [⟨65536, 0, 31⟩], 4, .none, fun a _ _ => [F.RNG_SN_STAT_PENDING a]⟩,
  ⟨0x1800118, [⟨65536, 0, 31⟩], 8, .none, fun a _ _ => [F.RNG_SN_DATA_SERIAL a]⟩,
  ⟨0x1800120, [⟨65536, 0, 31⟩], 4, .none, fun a _ _ => [F.RNG_SN_CMD_TERMINAL a, F.RNG_SN_CMD_OP a, F.RNG_SN_CMD_GO a]⟩,
  ⟨0x1800128, [⟨65536, 0, 31⟩], 4, .none, fun a _ _ => [F.RNG_TERM_CMD_TERMINAL a, F.RNG_TERM_CMD_OP a, F.RNG_TERM_CMD_GO a]⟩,
  ⟨0x180012c, [⟨65536, 0, 31⟩], 4, .none, fun a _ _ => [F.RNG_CMD_STAT_CODE a, F.RNG_CMD_STAT_SOURCE a]⟩,
  ⟨0x1804000, [⟨65536, 0, 31⟩, ⟨16, 0, 511⟩], 8, .none, fun a b _ => [F.RNG_TERM_STAT_STATE a b, F.RNG_TERM_STAT_CAUSE a b, F.RNG_TERM_STAT_MISSES a b, F.RNG_TERM_STAT_FRAME a b, F.RNG_TERM_STAT_STEP_RU a b]⟩,
  ⟨0x1804008, [⟨65536, 0, 31⟩, ⟨16, 0, 511⟩], 8, .none, fun a b _ => [F.RNG_TERM_EQD_EQD_RU a b, F.RNG_TERM_EQD_RTD_RU a b]⟩,
  ⟨0x1808000, [⟨65536, 0, 31⟩, ⟨8, 0, 511⟩], 8, .none, fun a b _ => [F.RNG_TERM_SN_SERIAL a b]⟩,
  ⟨0x1a00000, [], 4, .none, fun _ _ _ => [F.RNG_DEV_CFG_DEV_WIN]⟩,
  ⟨0x1a00004, [], 4, .none, fun _ _ _ => [F.RNG_DEV_STAT_BEGUN, F.RNG_DEV_STAT_QUEUED, F.RNG_DEV_STAT_DEFERRED]⟩]

/-- Registers of GNT. -/
def regsGNT : List Reg := [
  ⟨0x1c00000, [⟨131072, 0, 31⟩, ⟨16, 0, 3⟩], 8, (.plus 0), fun a b _ => [F.GNT_PROF_CFG_RATE a b, F.GNT_PROF_CFG_FEC a b, F.GNT_PROF_CFG_DEL64 a b, F.GNT_PROF_CFG_PRE_WORDS a b, F.GNT_PROF_CFG_VALID a b]⟩,
  ⟨0x1c00008, [⟨131072, 0, 31⟩, ⟨16, 0, 3⟩], 8, (.plus 0), fun a b _ => [F.GNT_PROF_DELIM_DELIM a b]⟩,
  ⟨0x1c00040, [⟨131072, 0, 31⟩], 4, (.plus 0), fun a _ _ => [F.GNT_GUARD_CFG_ONOFF_NS a, F.GNT_GUARD_CFG_PROF_HOLD a]⟩,
  ⟨0x1c00044, [⟨131072, 0, 31⟩], 4, .none, fun a _ _ => [F.GNT_PROF_STAT_USABLE a, F.GNT_PROF_STAT_REFUSED a, F.GNT_PROF_STAT_HELD a]⟩,
  ⟨0x1c00050, [⟨131072, 0, 31⟩], 8, .none, fun a _ _ => [F.GNT_MAP_STAT_ENTRIES a, F.GNT_MAP_STAT_BURSTS a, F.GNT_MAP_STAT_PAGE a, F.GNT_MAP_STAT_REUSED a, F.GNT_MAP_STAT_JOIN a, F.GNT_MAP_STAT_END_MU a]⟩,
  ⟨0x1c00058, [⟨131072, 0, 31⟩], 8, .none, fun a _ _ => [F.GNT_OVR_STAT_OVERRUNS a, F.GNT_OVR_STAT_LATE_DONE a, F.GNT_OVR_STAT_TRIMMED a, F.GNT_OVR_STAT_INSERT_REFUSED a]⟩,
  ⟨0x1c00060, [⟨131072, 0, 31⟩], 4, .none, fun a _ _ => [F.GNT_REPORT_STAT_REPORTS a, F.GNT_REPORT_STAT_FOREIGN a]⟩,
  ⟨0x1c00068, [⟨131072, 0, 31⟩], 4, .none, fun a _ _ => [F.GNT_INSERT_LAST_CODE a, F.GNT_INSERT_LAST_ALLOC a, F.GNT_INSERT_LAST_FRAME a]⟩,
  ⟨0x1c00100, [⟨131072, 0, 31⟩], 4, .none, fun a _ _ => [F.GNT_ALLOC_CMD_INDEX a, F.GNT_ALLOC_CMD_OP a, F.GNT_ALLOC_CMD_GO a]⟩,
  ⟨0x1c00104, [⟨131072, 0, 31⟩], 4, .none, fun a _ _ => [F.GNT_ALLOC_STAT_BUSY a, F.GNT_ALLOC_STAT_CODE a]⟩,
  ⟨0x1c00108, [⟨131072, 0, 31⟩, ⟨8, 0, 1⟩], 8, .none, fun a b _ => [F.GNT_ALLOC_DATA_WORD a b]⟩,
  ⟨0x1c00400, [⟨131072, 0, 31⟩, ⟨8, 0, 63⟩], 8, (.plus 0), fun a b _ => [F.GNT_FIXED_ALLOC a b, F.GNT_FIXED_VALID a b, F.GNT_FIXED_PERIOD_LOG2 a b, F.GNT_FIXED_PHASE a b, F.GNT_FIXED_REPORT a b, F.GNT_FIXED_MSG a b, F.GNT_FIXED_START a b, F.GNT_FIXED_SIZE a b]⟩,
  ⟨0x1c00600, [⟨131072, 0, 31⟩], 8, .none, fun a _ _ => [F.GNT_FIXED_STAT_REFUSED a]⟩,
  ⟨0x1c10000, [⟨131072, 0, 31⟩, ⟨32768, 0, 1⟩, ⟨16, 0, 2047⟩], 8, .none, fun a b c => [F.GNT_PAGE0_WORD0 a b c]⟩,
  ⟨0x1c10008, [⟨131072, 0, 31⟩, ⟨32768, 0, 1⟩, ⟨16, 0, 2047⟩], 8, .none, fun a b c => [F.GNT_PAGE1_WORD1 a b c]⟩]

/-- Registers of MEC. -/
def regsMEC : List Reg := [
  ⟨0x2000000, [⟨16, 0, 65535⟩], 8, .none, fun a _ _ => [F.MEC_CS0_LOW a]⟩,
  ⟨0x2000008, [⟨16, 0, 65535⟩], 8, .none, fun a _ _ => [F.MEC_CS1_HIGH a]⟩,
  ⟨0x2100000, [], 4, (.const 47), fun _ _ _ => [F.MEC_OPEN_CFG_OPEN_CYC, F.MEC_OPEN_CFG_HOOK_EN, F.MEC_OPEN_CFG_HOOK_MAX]⟩,
  ⟨0x2100004, [], 4, .none, fun _ _ _ => [F.MEC_OPEN_LOAD_SRC, F.MEC_OPEN_LOAD_SLOT, F.MEC_OPEN_LOAD_GO]⟩,
  ⟨0x2100008, [], 4, .none, fun _ _ _ => [F.MEC_OPEN_STAT_STATE, F.MEC_OPEN_STAT_BANK, F.MEC_OPEN_STAT_ERR, F.MEC_OPEN_STAT_WORD, F.MEC_OPEN_STAT_LOADS]⟩,
  ⟨0x2100020, [⟨4, 0, 7⟩], 4, (.const 47), fun a _ _ => [F.MEC_OPEN_PARAM_PARAM a]⟩,
  ⟨0x2100040, [], 8, .none, fun _ _ _ => [F.MEC_TASK_POST_TYPE, F.MEC_TASK_POST_ENGINE, F.MEC_TASK_POST_GO, F.MEC_TASK_POST_TAG, F.MEC_TASK_POST_ARG]⟩,
  ⟨0x2100048, [], 4, .none, fun _ _ _ => [F.MEC_TASK_STAT_QUEUED, F.MEC_TASK_STAT_RESULTS, F.MEC_TASK_STAT_LAST_REFUSED]⟩,
  ⟨0x2100050, [], 8, .none, fun _ _ _ => [F.MEC_TASK_RESULT_TAG, F.MEC_TASK_RESULT_VALID, F.MEC_TASK_RESULT_ENGINE, F.MEC_TASK_RESULT_STATUS, F.MEC_TASK_RESULT_RESULT]⟩,
  ⟨0x2100100, [⟨4, 0, 63⟩], 4, (.const 47), fun a _ _ => [F.MEC_ENG_MAP_TREE a, F.MEC_ENG_MAP_VALID a]⟩,
  ⟨0x2100200, [⟨4, 0, 31⟩], 4, .none, fun a _ _ => [F.MEC_TREE_STAT_ENGINES a, F.MEC_TREE_STAT_DONE_CYCLE a, F.MEC_TREE_STAT_LATE a, F.MEC_TREE_STAT_OVERRAN a, F.MEC_TREE_STAT_EARLY a]⟩,
  ⟨0x2101000, [⟨64, 0, 63⟩], 4, .none, fun a _ _ => [F.MEC_ENG_CTRL_STOP a]⟩,
  ⟨0x2101004, [⟨64, 0, 63⟩], 4, .none, fun a _ _ => [F.MEC_ENG_STAT_STATE a, F.MEC_ENG_STAT_SPAN a, F.MEC_ENG_STAT_OPEN a, F.MEC_ENG_STAT_PC a]⟩,
  ⟨0x2101008, [⟨64, 0, 63⟩], 8, .none, fun a _ _ => [F.MEC_ENG_CNT_SPAN_ABORTS a, F.MEC_ENG_CNT_TRAPS a, F.MEC_ENG_CNT_OPEN_OVER a, F.MEC_ENG_CNT_NEAR a]⟩,
  ⟨0x2101010, [⟨64, 0, 63⟩], 8, .none, fun a _ _ => [F.MEC_SPAN_LAST_SPAN_PC a, F.MEC_SPAN_LAST_CYCLES a, F.MEC_SPAN_LAST_DISCARDED a, F.MEC_SPAN_LAST_REASON a, F.MEC_SPAN_LAST_FRAME a]⟩,
  ⟨0x2101018, [⟨64, 0, 63⟩], 8, .none, fun a _ _ => [F.MEC_TRAP_LAST_PC a, F.MEC_TRAP_LAST_CODE a, F.MEC_TRAP_LAST_OPEN a, F.MEC_TRAP_LAST_FRAME a]⟩]

/-- Registers of FWD. -/
def regsFWD : List Reg := [
  ⟨0x3000000, [⟨64, 0, 3⟩], 4, (.plus 40), fun a _ _ => [F.FWD_PART_CFG_AGE_S a, F.FWD_PART_CFG_EVICT a, F.FWD_PART_CFG_FLAP_TH a]⟩,
  ⟨0x3000004, [⟨64, 0, 3⟩], 4, .none, fun a _ _ => [F.FWD_PART_STAT_BR_LOG2 a, F.FWD_PART_STAT_WAYS4 a, F.FWD_PART_STAT_QUEUED a, F.FWD_PART_STAT_FLUSHING a]⟩,
  ⟨0x3000008, [⟨64, 0, 3⟩], 8, .none, fun a _ _ => [F.FWD_LEARN_STAT_LEARNED a, F.FWD_LEARN_STAT_MOVES a, F.FWD_LEARN_STAT_AGED a, F.FWD_LEARN_STAT_EVICTED a]⟩,
  ⟨0x3000010, [⟨64, 0, 3⟩], 8, .none, fun a _ _ => [F.FWD_ERR_STAT_LEARN_DROP a, F.FWD_ERR_STAT_BUCKET_FULL a, F.FWD_ERR_STAT_STATIC_CONFLICT a, F.FWD_ERR_STAT_LIMIT_HIT a]⟩,
  ⟨0x3000018, [⟨64, 0, 3⟩], 8, .none, fun a _ _ => [F.FWD_CHURN_STAT_POS a, F.FWD_CHURN_STAT_PASSES a]⟩,
  ⟨0x3000020, [⟨64, 0, 3⟩], 8, .none, fun a _ _ => [F.FWD_FLAP_LAST_MAC a, F.FWD_FLAP_LAST_BD a]⟩,
  ⟨0x3000028, [⟨64, 0, 3⟩], 4, .none, fun a _ _ => [F.FWD_ECC_LAST_BUCKET a, F.FWD_ECC_LAST_COUNT a]⟩,
  ⟨0x3000100, [], 4, .none, fun _ _ _ => [F.FWD_CACHE_STAT_BR_MISS, F.FWD_CACHE_STAT_FL_MISS]⟩,
  ⟨0x3000108, [], 8, .none, fun _ _ _ => [F.FWD_DROP_STAT_NO_DOMAIN, F.FWD_DROP_STAT_NO_FLOW, F.FWD_DROP_STAT_DEST_MISS, F.FWD_DROP_STAT_LIMIT_DROP]⟩,
  ⟨0x3000110, [], 4, .none, fun _ _ _ => [F.FWD_HOLD_STAT_HOLDING, F.FWD_HOLD_STAT_HOLD_TICKS]⟩,
  ⟨0x3000118, [], 4, .none, fun _ _ _ => [F.FWD_LIMIT_LAST_OWNER, F.FWD_LIMIT_LAST_FRAME]⟩,
  ⟨0x3000200, [], 4, .none, fun _ _ _ => [F.FWD_TBL_CMD_TABLE, F.FWD_TBL_CMD_OP, F.FWD_TBL_CMD_CLR_CNT, F.FWD_TBL_CMD_WR_COUNT, F.FWD_TBL_CMD_GO]⟩,
  ⟨0x3000208, [], 8, .none, fun _ _ _ => [F.FWD_TBL_KEY_KEY]⟩,
  ⟨0x3000210, [⟨8, 0, 7⟩], 8, .none, fun a _ _ => [F.FWD_TBL_DATA_WORD a]⟩,
  ⟨0x3000250, [], 4, .none, fun _ _ _ => [F.FWD_TBL_STAT_BUSY, F.FWD_TBL_STAT_CODE]⟩]

/-- Registers of TMG. -/
def regsTMG : List Reg := [
  ⟨0x3400000, [], 4, .none, fun _ _ _ => [F.TMG_TBL_CMD_TABLE, F.TMG_TBL_CMD_OP, F.TMG_TBL_CMD_GO]⟩,
  ⟨0x3400004, [], 4, .none, fun _ _ _ => [F.TMG_TBL_KEY_INDEX]⟩,
  ⟨0x3400010, [⟨8, 0, 3⟩], 8, .none, fun a _ _ => [F.TMG_TBL_DATA_WORD a]⟩,
  ⟨0x3400040, [], 4, .none, fun _ _ _ => [F.TMG_TBL_STAT_BUSY, F.TMG_TBL_STAT_CODE, F.TMG_TBL_STAT_PENDING]⟩,
  ⟨0x3400100, [], 4, .none, fun _ _ _ => [F.TMG_BP_CFG_THR_WARN, F.TMG_BP_CFG_THR_DEEP, F.TMG_BP_CFG_QUANTA]⟩,
  ⟨0x3400108, [], 8, .none, fun _ _ _ => [F.TMG_THR_STAT_WARN_TREES, F.TMG_THR_STAT_DEEP_TREES]⟩,
  ⟨0x3400200, [⟨4, 0, 15⟩], 4, .none, fun a _ _ => [F.TMG_PAUSE_STAT_XOFF_TX a, F.TMG_PAUSE_STAT_XOFF_RX a]⟩,
  ⟨0x3400300, [], 8, .none, fun _ _ _ => [F.TMG_DROP_STAT_POL_DROP, F.TMG_DROP_STAT_QUEUE_ERR]⟩]

/-- Registers of BPM. -/
def regsBPM : List Reg := [
  ⟨0x3800000, [], 4, .none, fun _ _ _ => [F.BPM_FS_CFG_MODE, F.BPM_FS_CFG_HOST_POOL]⟩,
  ⟨0x3800008, [], 8, .none, fun _ _ _ => [F.BPM_FS_STAT_FREE, F.BPM_FS_STAT_RING, F.BPM_FS_STAT_LOW_WATER]⟩,
  ⟨0x3800100, [⟨4, 0, 47⟩], 4, .none, fun a _ _ => [F.BPM_ING_MAP_POOL a]⟩,
  ⟨0x3801000, [⟨64, 0, 63⟩], 8, .none, fun a _ _ => [F.BPM_POOL_THR_WARN a, F.BPM_POOL_THR_THROTTLE a, F.BPM_POOL_THR_STOP a]⟩,
  ⟨0x3801008, [⟨64, 0, 63⟩], 8, .none, fun a _ _ => [F.BPM_POOL_CFG_BP_TREES a, F.BPM_POOL_CFG_BP_PORTS a, F.BPM_POOL_CFG_BP_PRIO a, F.BPM_POOL_CFG_HYST a]⟩,
  ⟨0x3801010, [⟨64, 0, 63⟩], 8, .none, fun a _ _ => [F.BPM_POOL_STAT_IN_USE a, F.BPM_POOL_STAT_LEVEL a, F.BPM_POOL_STAT_PEAK a]⟩,
  ⟨0x3801018, [⟨64, 0, 63⟩], 8, .none, fun a _ _ => [F.BPM_POOL_STOP_DROP_FRAMES a]⟩,
  ⟨0x3801020, [⟨64, 0, 63⟩], 8, .none, fun a _ _ => [F.BPM_POOL_EMPTY_DROP_FRAMES a]⟩,
  ⟨0x3802000, [], 8, .none, fun _ _ _ => [F.BPM_FREE_ERR_CELL, F.BPM_FREE_ERR_CODE, F.BPM_FREE_ERR_REQUESTER]⟩,
  ⟨0x3802008, [], 4, .none, fun _ _ _ => [F.BPM_FREE_ERR_CNT_REFUSED]⟩,
  ⟨0x3802010, [], 4, .none, fun _ _ _ => [F.BPM_HOST_ALLOC_CELL, F.BPM_HOST_ALLOC_EMPTY]⟩,
  ⟨0x3802014, [], 4, .none, fun _ _ _ => [F.BPM_HOST_FREE_CELL]⟩,
  ⟨0x3802020, [], 8, .none, fun _ _ _ => [F.BPM_RING_STAT_HEAD, F.BPM_RING_STAT_TAIL]⟩]

/-- Registers of CPH. -/
def regsCPH : List Reg := [
  ⟨0x3a00000, [], 4, (.const 46), fun _ _ _ => [F.CPH_CFG_POSTURE, F.CPH_CFG_KEEP_ALL, F.CPH_CFG_KS_LOG2, F.CPH_CFG_HOST_LANES]⟩,
  ⟨0x3a00004, [], 4, .none, fun _ _ _ => [F.CPH_LANE_STAT_ACTIVE, F.CPH_LANE_STAT_POSTURE, F.CPH_LANE_STAT_BUSY_PEAK]⟩,
  ⟨0x3a00040, [⟨4, 1, 13⟩], 4, .none, fun a _ _ => [F.CPH_ERR_CNT_COUNT a]⟩,
  ⟨0x3a00080, [], 8, .none, fun _ _ _ => [F.CPH_PAYLOAD_DROP_DS, F.CPH_PAYLOAD_DROP_US]⟩,
  ⟨0x3a00088, [], 8, .none, fun _ _ _ => [F.CPH_WARN_LAST_SLOT, F.CPH_WARN_LAST_DIR, F.CPH_WARN_LAST_LIMIT, F.CPH_WARN_LAST_FRAME]⟩,
  ⟨0x3a00100, [], 8, .none, fun _ _ _ => [F.CPH_HREQ_CMD_MODE, F.CPH_HREQ_CMD_DECRYPT, F.CPH_HREQ_CMD_GO, F.CPH_HREQ_CMD_SLOT, F.CPH_HREQ_CMD_TAG, F.CPH_HREQ_CMD_LEN]⟩,
  ⟨0x3a00108, [], 8, .none, fun _ _ _ => [F.CPH_HREQ_SRC_ADDR]⟩,
  ⟨0x3a00110, [], 8, .none, fun _ _ _ => [F.CPH_HREQ_DST_ADDR]⟩,
  ⟨0x3a00118, [⟨8, 0, 1⟩], 8, .none, fun a _ _ => [F.CPH_HREQ_IV_IV a]⟩,
  ⟨0x3a00130, [], 4, .none, fun _ _ _ => [F.CPH_HREQ_RESULT_TAG, F.CPH_HREQ_RESULT_VALID, F.CPH_HREQ_RESULT_CODE]⟩,
  ⟨0x3a00138, [⟨8, 0, 1⟩], 8, .none, fun a _ _ => [F.CPH_HREQ_OUT_OUT a]⟩,
  ⟨0x3a00200, [], 4, .none, fun _ _ _ => [F.CPH_IMPORT_CMD_SLOT, F.CPH_IMPORT_CMD_TYPE, F.CPH_IMPORT_CMD_WRAP, F.CPH_IMPORT_CMD_KIND, F.CPH_IMPORT_CMD_GO]⟩,
  ⟨0x3a00208, [⟨8, 0, 2⟩], 8, .none, fun a _ _ => [F.CPH_IMPORT_BLOB_BLOB a]⟩,
  ⟨0x3a00220, [], 4, .none, fun _ _ _ => [F.CPH_IMPORT_STAT_CODE, F.CPH_IMPORT_STAT_BUSY, F.CPH_IMPORT_STAT_REFUSED]⟩,
  ⟨0x3a00300, [], 4, .none, fun _ _ _ => [F.CPH_SLOT_CMD_SLOT, F.CPH_SLOT_CMD_ERASE, F.CPH_SLOT_CMD_ERASE_SESSION]⟩,
  ⟨0x3a00308, [], 8, .none, fun _ _ _ => [F.CPH_SLOT_STAT_STATE, F.CPH_SLOT_STAT_STAGED, F.CPH_SLOT_STAT_PREV_HELD, F.CPH_SLOT_STAT_KIND, F.CPH_SLOT_STAT_SESSION, F.CPH_SLOT_STAT_GEN]⟩,
  ⟨0x3a00310, [], 8, .none, fun _ _ _ => [F.CPH_SLOT_USE0_USE_DS]⟩,
  ⟨0x3a00318, [], 8, .none, fun _ _ _ => [F.CPH_SLOT_USE1_USE_US]⟩,
  ⟨0x3a00400, [], 4, .none, fun _ _ _ => [F.CPH_TERM_CMD_TERM, F.CPH_TERM_CMD_OP, F.CPH_TERM_CMD_INDEX, F.CPH_TERM_CMD_GO]⟩,
  ⟨0x3a00404, [], 4, .none, fun _ _ _ => [F.CPH_TERM_STAT_DS_INDEX, F.CPH_TERM_STAT_SWITCH_PENDING, F.CPH_TERM_STAT_REKEY_PENDING]⟩,
  ⟨0x3a10000, [⟨4, 0, 2047⟩], 4, .none, fun a _ _ => [F.CPH_BIND_VALID a, F.CPH_BIND_CLEAR a, F.CPH_BIND_TREE a, F.CPH_BIND_TPORT a, F.CPH_BIND_DS_INDEX a]⟩]

/-- Registers of DRC. -/
def regsDRC : List Reg := [
  ⟨0x3c00000, [], 8, .none, fun _ _ _ => [F.DRC_CLASS_CFG_CLASS]⟩,
  ⟨0x3c00008, [], 4, .none, fun _ _ _ => [F.DRC_AGE_CFG_AGE_NS]⟩,
  ⟨0x3c00010, [⟨4, 0, 1⟩], 4, .none, fun a _ _ => [F.DRC_PANIC_CFG_PANIC_LVL a, F.DRC_PANIC_CFG_PANIC_HYST a]⟩,
  ⟨0x3c00018, [], 4, .none, fun _ _ _ => [F.DRC_REF_CFG_POSTPONE_MAX]⟩,
  ⟨0x3c0001c, [], 4, .none, fun _ _ _ => [F.DRC_SR_CFG_SR_IDLE]⟩,
  ⟨0x3c00020, [], 8, .none, fun _ _ _ => [F.DRC_SEG_KEEP_KEEP]⟩,
  ⟨0x3c00028, [], 8, .none, fun _ _ _ => [F.DRC_SEG_STAT_RELEASED]⟩,
  ⟨0x3c00030, [], 4, .none, fun _ _ _ => [F.DRC_RH_CFG_RH_BUDGET, F.DRC_RH_CFG_RH_WINDOW, F.DRC_RH_CFG_RH_GAP]⟩,
  ⟨0x3c00038, [], 8, .none, fun _ _ _ => [F.DRC_RH_LAST_PC, F.DRC_RH_LAST_ROW_GROUP, F.DRC_RH_LAST_REQUESTER, F.DRC_RH_LAST_PANIC, F.DRC_RH_LAST_FRAME, F.DRC_RH_LAST_REQ_ACTS]⟩,
  ⟨0x3c00040, [], 4, .none, fun _ _ _ => [F.DRC_RH_STAT_THROTTLED, F.DRC_RH_STAT_CROSSINGS]⟩,
  ⟨0x3c00048, [], 4, .none, fun _ _ _ => [F.DRC_PANIC_STAT_PANIC, F.DRC_PANIC_STAT_PANIC_TICKS]⟩,
  ⟨0x3c00050, [], 8, .none, fun _ _ _ => [F.DRC_ECC_LAST_ADDR, F.DRC_ECC_LAST_REQUESTER, F.DRC_ECC_LAST_KIND, F.DRC_ECC_LAST_FRAME]⟩,
  ⟨0x3c00058, [], 4, .none, fun _ _ _ => [F.DRC_PATROL_CFG_PATROL_H]⟩,
  ⟨0x3c00060, [], 8, .none, fun _ _ _ => [F.DRC_TRAIN_STAT_PASS, F.DRC_TRAIN_STAT_DRIFT]⟩,
  ⟨0x3c00068, [], 4, .none, fun _ _ _ => [F.DRC_TRAIN_INFO_FIRST_FAIL, F.DRC_TRAIN_INFO_STORED_USED, F.DRC_TRAIN_INFO_STORED_WRITTEN, F.DRC_TRAIN_INFO_COPY, F.DRC_TRAIN_INFO_SEQ]⟩,
  ⟨0x3c00100, [⟨32, 0, 31⟩], 4, .none, fun a _ _ => [F.DRC_PC_STAT_STATE a, F.DRC_PC_STAT_OWED a]⟩,
  ⟨0x3c00104, [⟨32, 0, 31⟩], 4, .none, fun a _ _ => [F.DRC_SR_STAT_ENTRIES a, F.DRC_SR_STAT_HELD a, F.DRC_SR_STAT_ABORTED a]⟩,
  ⟨0x3c00108, [⟨32, 0, 31⟩], 4, .none, fun a _ _ => [F.DRC_REF_STAT_POSTPONED a, F.DRC_REF_STAT_FORCED a]⟩,
  ⟨0x3c00110, [⟨32, 0, 31⟩], 8, .none, fun a _ _ => [F.DRC_ECC_STAT_CE a, F.DRC_ECC_STAT_UE a, F.DRC_ECC_STAT_SEG_FAULT a]⟩]

/-- Registers of TSU. -/
def regsTSU : List Reg := [
  ⟨0x3e00000, [], 4, (.const 50), fun _ _ _ => [F.TSU_CTRL_SRC_MODE, F.TSU_CTRL_PTP_PORT, F.TSU_CTRL_SYNCE_PORT, F.TSU_CTRL_DOMAIN]⟩,
  ⟨0x3e00004, [], 4, .none, fun _ _ _ => [F.TSU_STAT_STATE, F.TSU_STAT_GRID_FIXED, F.TSU_STAT_PENDING, F.TSU_STAT_PHASE_OK, F.TSU_STAT_FREQ_OK, F.TSU_STAT_OUTLIERS]⟩,
  ⟨0x3e00008, [], 4, (.const 50), fun _ _ _ => [F.TSU_SERVO_CFG_LOOP_S, F.TSU_SERVO_CFG_LOCK_NS, F.TSU_SERVO_CFG_HOLD_AVG_S]⟩,
  ⟨0x3e0000c, [], 4, (.const 50), fun _ _ _ => [F.TSU_JUMP_CFG_JUMP_TH, F.TSU_JUMP_CFG_JUMP_CONFIRM]⟩,
  ⟨0x3e00010, [], 8, .none, fun _ _ _ => [F.TSU_TIME_SNAP0_SECONDS]⟩,
  ⟨0x3e00018, [], 8, .none, fun _ _ _ => [F.TSU_TIME_SNAP1_FRAC, F.TSU_TIME_SNAP1_NS]⟩,
  ⟨0x3e00020, [], 8, .none, fun _ _ _ => [F.TSU_TOD_OFS_OFS_PS]⟩,
  ⟨0x3e00028, [], 4, .none, fun _ _ _ => [F.TSU_FREQ_FREQ]⟩,
  ⟨0x3e00030, [], 8, .none, fun _ _ _ => [F.TSU_TICK_CNT_TICKS]⟩,
  ⟨0x3e00040, [], 8, .none, fun _ _ _ => [F.TSU_JUMP_STAT_PENDING, F.TSU_JUMP_STAT_PORT, F.TSU_JUMP_STAT_SOURCE, F.TSU_JUMP_STAT_CAUSE, F.TSU_JUMP_STAT_FRAME, F.TSU_JUMP_STAT_STEP_NS]⟩,
  ⟨0x3e00048, [], 4, .none, fun _ _ _ => [F.TSU_JUMP_CMD_OP, F.TSU_JUMP_CMD_GO]⟩,
  ⟨0x3e00100, [⟨16, 0, 15⟩], 8, (.const 50), fun a _ _ => [F.TSU_PORT_CFG_ROLE a, F.TSU_PORT_CFG_MAC_FWD a, F.TSU_PORT_CFG_ASYM_PS a]⟩,
  ⟨0x3e00108, [⟨16, 0, 15⟩], 8, .none, fun a _ _ => [F.TSU_PORT_STAT_OFFSET_NS a, F.TSU_PORT_STAT_MPD_NS a]⟩,
  ⟨0x3e00200, [⟨8, 0, 31⟩], 8, (.const 50), fun a _ _ => [F.TSU_TREE_CFG_TREE_OFS_PS a, F.TSU_TREE_CFG_ASYM_PPM a, F.TSU_TREE_CFG_RESP_NS a]⟩,
  ⟨0x3e00300, [], 4, .none, fun _ _ _ => [F.TSU_TOD_REQ_TREE, F.TSU_TOD_REQ_TERMINAL, F.TSU_TOD_REQ_AHEAD, F.TSU_TOD_REQ_GO]⟩,
  ⟨0x3e00308, [], 8, .none, fun _ _ _ => [F.TSU_TOD_RES0_SFC, F.TSU_TOD_RES0_VALID, F.TSU_TOD_RES0_UNLOCKED, F.TSU_TOD_RES0_STALE, F.TSU_TOD_RES0_CODE]⟩,
  ⟨0x3e00310, [], 8, .none, fun _ _ _ => [F.TSU_TOD_RES1_SECONDS]⟩,
  ⟨0x3e00318, [], 8, .none, fun _ _ _ => [F.TSU_TOD_RES2_FRAC, F.TSU_TOD_RES2_NS, F.TSU_TOD_RES2_RTD_TERM, F.TSU_TOD_RES2_RTD_TREE]⟩,
  ⟨0x3e00400, [], 4, .none, fun _ _ _ => [F.TSU_PPS_CFG_PPS_WIDTH_MS, F.TSU_PPS_CFG_BAUD, F.TSU_PPS_CFG_SER_OUT_EN, F.TSU_PPS_CFG_UTC_VALID, F.TSU_PPS_CFG_UTC_OFFSET]⟩,
  ⟨0x3e00408, [], 8, .none, fun _ _ _ => [F.TSU_PPS_IN_STAMP32, F.TSU_PPS_IN_FRAC, F.TSU_PPS_IN_USED]⟩]

/-- Registers of PRT. -/
def regsPRT : List Reg := [
  ⟨0x3e80000, [], 4, .none, fun _ _ _ => [F.PRT_CFG_CLASS, F.PRT_CFG_ARB_MODE, F.PRT_CFG_HOME, F.PRT_CFG_REVERTIVE, F.PRT_CFG_DOMAIN_ID]⟩,
  ⟨0x3e80004, [], 4, .none, fun _ _ _ => [F.PRT_ID_DEVICE_ID, F.PRT_ID_PEER_ID]⟩,
  ⟨0x3e80008, [], 4, (.const 51), fun _ _ _ => [F.PRT_TIMER_CFG_VERDICT_MS, F.PRT_TIMER_CFG_HOLDOFF_S, F.PRT_TIMER_CFG_MIRROR_LAG]⟩,
  ⟨0x3e80010, [], 4, .none, fun _ _ _ => [F.PRT_STAT_ROLE, F.PRT_STAT_PEER_ROLE, F.PRT_STAT_PATH_A, F.PRT_STAT_PATH_B, F.PRT_STAT_MIRROR, F.PRT_STAT_REQ_OPEN, F.PRT_STAT_SPLIT, F.PRT_STAT_FENCED, F.PRT_STAT_HOLDOFF]⟩,
  ⟨0x3e80018, [], 8, .none, fun _ _ _ => [F.PRT_HB_STAT_MISSED_A, F.PRT_HB_STAT_MISSED_B, F.PRT_HB_STAT_LOST_A, F.PRT_HB_STAT_LOST_B]⟩,
  ⟨0x3e80020, [], 8, .none, fun _ _ _ => [F.PRT_MIRROR_STAT_MG, F.PRT_MIRROR_STAT_LAG, F.PRT_MIRROR_STAT_PAGE_SKIP]⟩,
  ⟨0x3e80030, [], 4, .none, fun _ _ _ => [F.PRT_VERDICT_CMD_REQUEST]⟩,
  ⟨0x3e80034, [], 4, .none, fun _ _ _ => [F.PRT_SAGE_CFG_EYE_MIN]⟩,
  ⟨0x3e80100, [⟨4, 0, 15⟩], 4, .none, fun a _ _ => [F.PRT_KAP_TX_BYTES a]⟩,
  ⟨0x3e80140, [], 4, .none, fun _ _ _ => [F.PRT_KAP_TX_STAT_PENDING, F.PRT_KAP_TX_STAT_POP]⟩,
  ⟨0x3e80200, [⟨4, 0, 15⟩], 4, .none, fun a _ _ => [F.PRT_KAP_RX_BYTES a]⟩,
  ⟨0x3e80240, [], 4, .none, fun _ _ _ => [F.PRT_KAP_RX_CMD_GO]⟩,
  ⟨0x3e80244, [], 8, .none, fun _ _ _ => [F.PRT_KAP_RX_STAT_CODE, F.PRT_KAP_RX_STAT_WAITING, F.PRT_KAP_RX_STAT_EPOCH]⟩,
  ⟨0x3e80300, [⟨8, 0, 7⟩], 8, .none, fun a _ _ => [F.PRT_SAGE_BYTES a]⟩]

/-- Registers of UPL. -/
def regsUPL : List Reg := [
  ⟨0x3d00000, [⟨4096, 0, 15⟩], 4, .uplink, fun a _ _ => [F.UPL_PORT_CFG_MAX_FRAME a, F.UPL_PORT_CFG_TRAP_ESMC a, F.UPL_PORT_CFG_TRAP_LLDP a]⟩,
  ⟨0x3d00004, [⟨4096, 0, 15⟩], 4, .none, fun a _ _ => [F.UPL_PORT_STAT_WIDTH a, F.UPL_PORT_STAT_LINK a, F.UPL_PORT_STAT_FIRST_LANE a, F.UPL_PORT_STAT_LINK_DOWNS a]⟩,
  ⟨0x3d00100, [⟨4096, 0, 15⟩, ⟨8, 0, 13⟩], 8, .none, fun a b _ => [F.UPL_CNT_COUNT a b]⟩,
  ⟨0x3d10000, [], 8, .none, fun _ _ _ => [F.UPL_HOST_CFG_RX_BASE, F.UPL_HOST_CFG_TX_BASE]⟩,
  ⟨0x3d10008, [], 8, .none, fun _ _ _ => [F.UPL_HRX_DESC_VALID, F.UPL_HRX_DESC_PORT, F.UPL_HRX_DESC_KIND, F.UPL_HRX_DESC_SLOT, F.UPL_HRX_DESC_LEN, F.UPL_HRX_DESC_STAMP]⟩,
  ⟨0x3d10010, [], 4, .none, fun _ _ _ => [F.UPL_HRX_POP_POP]⟩,
  ⟨0x3d10018, [], 4, .none, fun _ _ _ => [F.UPL_HTX_CMD_SLOT, F.UPL_HTX_CMD_PORT, F.UPL_HTX_CMD_LEN, F.UPL_HTX_CMD_GO]⟩,
  ⟨0x3d1001c, [], 4, .none, fun _ _ _ => [F.UPL_HTX_STAT_PENDING, F.UPL_HTX_STAT_CODE, F.UPL_HTX_STAT_DONE]⟩]

/-- Registers of HIF. -/
def regsHIF : List Reg := [
  ⟨0x0, [], 4, .none, fun _ _ _ => [F.HIF_API_VER_MAJOR, F.HIF_API_VER_MIN_MINOR, F.HIF_API_VER_MAX_MINOR, F.HIF_API_VER_SEL_MINOR]⟩,
  ⟨0x4, [], 4, .none, fun _ _ _ => [F.HIF_PCIE_STAT_WIDTH, F.HIF_PCIE_STAT_SPEED, F.HIF_PCIE_STAT_BUS_MASTER, F.HIF_PCIE_STAT_LINK_DOWNS]⟩,
  ⟨0x10, [], 4, .none, fun _ _ _ => [F.HIF_BAR2_CFG_BASE]⟩,
  ⟨0x14, [], 4, .none, fun _ _ _ => [F.HIF_ERR_STAT_TILE_ACC, F.HIF_ERR_STAT_BAR2_DISCARD, F.HIF_ERR_STAT_I2C_REFUSED]⟩,
  ⟨0x100, [], 8, .none, fun _ _ _ => [F.HIF_EVT_RING_SIZE_LOG2, F.HIF_EVT_RING_BASE]⟩,
  ⟨0x108, [], 4, .none, fun _ _ _ => [F.HIF_EVT_PI_PI]⟩,
  ⟨0x10c, [], 4, .none, fun _ _ _ => [F.HIF_EVT_CI_CI]⟩,
  ⟨0x110, [], 8, .none, fun _ _ _ => [F.HIF_EVT_SUM_GROUPS]⟩,
  ⟨0x1000, [⟨4, 0, 47⟩], 4, .none, fun a _ _ => [F.HIF_EVT_STAT_STAT a]⟩,
  ⟨0x1100, [⟨4, 0, 47⟩], 4, (.const 48), fun a _ _ => [F.HIF_EVT_EN_EN a]⟩,
  ⟨0x1200, [⟨4, 0, 47⟩], 4, (.const 48), fun a _ _ => [F.HIF_EVT_COAL_COAL_US a]⟩,
  ⟨0x2000, [⟨4, 0, 1535⟩], 4, (.const 48), fun a _ _ => [F.HIF_EVT_ROUTE_VECTOR a, F.HIF_EVT_ROUTE_MSIX a, F.HIF_EVT_ROUTE_PIN a, F.HIF_EVT_ROUTE_RECORD a]⟩,
  ⟨0x4000, [⟨8, 0, 255⟩], 8, (.const 49), fun a _ _ => [F.HIF_RFX_RULE_SOURCE a, F.HIF_RFX_RULE_VALID a, F.HIF_RFX_RULE_QUAL a, F.HIF_RFX_RULE_QMODE a, F.HIF_RFX_RULE_ACTION a, F.HIF_RFX_RULE_ONESHOT a, F.HIF_RFX_RULE_ARG a, F.HIF_RFX_RULE_HOLD_MS a]⟩,
  ⟨0x4800, [⟨4, 0, 255⟩], 4, .none, fun a _ _ => [F.HIF_RFX_CNT_FIRED a, F.HIF_RFX_CNT_DROPPED a, F.HIF_RFX_CNT_BAD a, F.HIF_RFX_CNT_SPENT a]⟩,
  ⟨0x4c00, [], 4, .none, fun _ _ _ => [F.HIF_RFX_FROZEN_FROZEN]⟩,
  ⟨0x4c04, [], 4, .none, fun _ _ _ => [F.HIF_RFX_STAT_LAST_FIRED, F.HIF_RFX_STAT_LAST_DROPPED]⟩,
  ⟨0x5000, [], 4, .none, fun _ _ _ => [F.HIF_SPI_CMD_OPCODE, F.HIF_SPI_CMD_ADDR_BYTES, F.HIF_SPI_CMD_DUMMY, F.HIF_SPI_CMD_LEN, F.HIF_SPI_CMD_READ, F.HIF_SPI_CMD_QUAD, F.HIF_SPI_CMD_GO]⟩,
  ⟨0x5004, [], 4, .none, fun _ _ _ => [F.HIF_SPI_ADDR_ADDR]⟩,
  ⟨0x5008, [], 4, .none, fun _ _ _ => [F.HIF_SPI_STAT_BUSY, F.HIF_SPI_STAT_REFUSED]⟩,
  ⟨0x5100, [⟨4, 0, 63⟩], 4, .none, fun a _ _ => [F.HIF_SPI_DATA_DATA a]⟩]

/-- Registers of OBS. -/
def regsOBS : List Reg := [
  ⟨0x3f10000, [⟨4096, 0, 15⟩, ⟨8, 0, 511⟩], 8, .none, fun a b _ => [F.OBS_VIEW_BIND_KIND a b, F.OBS_VIEW_BIND_BAD a b, F.OBS_VIEW_BIND_ARG a b]⟩,
  ⟨0x3f20000, [⟨4, 0, 15⟩], 4, .none, fun a _ _ => [F.OBS_VIEW_CFG_ENGINE a, F.OBS_VIEW_CFG_WRITES a]⟩,
  ⟨0x3f30000, [⟨16, 0, 511⟩], 4, .none, fun a _ _ => [F.OBS_CNT_SEL_KIND a, F.OBS_CNT_SEL_DIR a, F.OBS_CNT_SEL_STAGE a, F.OBS_CNT_SEL_INDEX a, F.OBS_CNT_SEL_ALL a, F.OBS_CNT_SEL_SOURCE a, F.OBS_CNT_SEL_CHAIN a, F.OBS_CNT_SEL_OVF_EVT a]⟩,
  ⟨0x3f30008, [⟨16, 0, 511⟩], 8, .none, fun a _ _ => [F.OBS_CNT_COUNT a, F.OBS_CNT_OVF a, F.OBS_CNT_CARRY_LOST a]⟩,
  ⟨0x3f32000, [], 8, .none, fun _ _ _ => [F.OBS_CNT_HI_COUNT]⟩,
  ⟨0x3f32008, [], 4, .none, fun _ _ _ => [F.OBS_SNAP_CMD_GO, F.OBS_SNAP_CMD_AUTO, F.OBS_SNAP_CMD_SEQ]⟩,
  ⟨0x3f34000, [⟨8, 0, 511⟩], 8, .none, fun a _ _ => [F.OBS_SNAP_COUNT a]⟩,
  ⟨0x3f40000, [], 8, .none, fun _ _ _ => [F.OBS_SKIM_CFG_N, F.OBS_SKIM_CFG_EN_UP, F.OBS_SKIM_CFG_EN_DN, F.OBS_SKIM_CFG_PORTS, F.OBS_SKIM_CFG_TREES]⟩,
  ⟨0x3f40008, [], 4, .none, fun _ _ _ => [F.OBS_SKIM_STAT_RECORDS, F.OBS_SKIM_STAT_POP, F.OBS_SKIM_STAT_SKIPPED]⟩,
  ⟨0x3f40100, [⟨8, 0, 7⟩], 8, .none, fun a _ _ => [F.OBS_SKIM_REC_BYTES a]⟩,
  ⟨0x3f50000, [⟨512, 0, 31⟩], 4, .none, fun a _ _ => [F.OBS_HIST_CFG_SRC a, F.OBS_HIST_CFG_DIR a, F.OBS_HIST_CFG_STAGE_A a, F.OBS_HIST_CFG_STAGE_B a, F.OBS_HIST_CFG_INDEX a, F.OBS_HIST_CFG_UNIT_LOG2 a, F.OBS_HIST_CFG_CLR a]⟩,
  ⟨0x3f50100, [⟨512, 0, 31⟩, ⟨4, 0, 63⟩], 4, .none, fun a b _ => [F.OBS_HIST_BIN_COUNT a b]⟩,
  ⟨0x3f58000, [⟨8, 0, 15⟩], 8, .none, fun a _ _ => [F.OBS_MIRROR_EN a, F.OBS_MIRROR_DIR a, F.OBS_MIRROR_STAGE a, F.OBS_MIRROR_INDEX a, F.OBS_MIRROR_DEST a, F.OBS_MIRROR_CLASS a, F.OBS_MIRROR_SAMPLE a]⟩,
  ⟨0x3f60000, [], 4, .none, fun _ _ _ => [F.OBS_INJ_UNLOCK_LINK, F.OBS_INJ_UNLOCK_KEY]⟩,
  ⟨0x3f60100, [⟨32, 0, 50⟩], 8, .none, fun a _ _ => [F.OBS_INJ_CFG_ACTION a, F.OBS_INJ_CFG_SEL_LOG2 a, F.OBS_INJ_CFG_TERM a, F.OBS_INJ_CFG_SHIFT a, F.OBS_INJ_CFG_DEPTH a, F.OBS_INJ_CFG_RATE_M a, F.OBS_INJ_CFG_RATE_E a, F.OBS_INJ_CFG_COUNT a]⟩,
  ⟨0x3f60108, [⟨32, 0, 50⟩], 8, .none, fun a _ _ => [F.OBS_INJ_STAT_UNLOCKED a, F.OBS_INJ_STAT_ARMED a, F.OBS_INJ_STAT_SECONDS a, F.OBS_INJ_STAT_INJECTED a]⟩]

/-- Every register of BAR0, block by block. -/
def regTable : List Reg :=
  regsPWR ++ regsCFG ++ regsTPA ++ regsFRM ++ regsRNG ++ regsGNT ++ regsMEC ++ regsFWD ++ regsTMG ++ regsBPM ++ regsCPH ++ regsDRC ++ regsTSU ++ regsPRT ++ regsUPL ++ regsHIF ++ regsOBS

end Sys2Proof.Machine
end

