-- ==== Sys2Proof/Config.lean ====
section
/-! DEFINITION. Config.lean: free values. Each constant has no body: nothing can be proved of its value. -/
namespace Sys2Proof.Config

/-- The instant of a command inside its frame, in nanoseconds. -/
opaque instant : Nat → Nat

/-- The signing-key position is neither blank nor revoked in the fuses (R74). -/
opaque keyUsable : Nat → Bool
/-- SHA-384 of a run of bytes, as a number (R70, R121). -/
opaque sha384 : List Byte → Nat
/-- The ECDSA P-384 signature of a digest verifies under the key of a position (R72, R74). -/
opaque ecdsaOk : Nat → Nat → List Byte → Bool
/-- The regions a GLOBAL section places, the image store first; the spec gives no layout (R72). -/
opaque globalRegions : List Byte → List (Nat × Nat)
/-- A field of a PROTECTION section: 0 CLASS, 1 DOMAIN_ID, 2 DEVICE_ID, 3 PEER_ID, 4 HOME, 5 REVERTIVE, 6 ARB_MODE, and from 20
the narrowed ranges of OXL, KAP and the mirror schema; the spec gives no layout (R398). -/
opaque protField : List Byte → Nat → Nat
/-- The initial register values a DEFAULTS section carries, as (field key, value); the spec gives no layout (R72). -/
opaque defaultsWrites : List Byte → List (Nat × Nat)
/-- The reflex rules a REFLEX section carries, as (rule, 64-bit word); the spec gives no layout (R72). -/
opaque reflexWords : List Byte → List (Nat × Nat)
/-- The group and field values that a reloaded tile's section gives, as (field key, value); the spec gives no layout (R82). -/
opaque tileDefaults : List Byte → List (Nat × Nat)
/-- The entries of the tables under a commit group that a DEFAULTS or a TILE section gives, as (table, index, words): tables 0 to 2 of TMG,
and 16 for the learn owners of FWD with LIMIT and MODE; the spec gives no layout (R72, R82). -/
opaque sectionTables : List Byte → List (Nat × Nat × List Nat)

/-- Byte `o` of the body, or of BODY_CRC, of the save set with sequence number `seq`; the spec gives no layout inside a region (R63). -/
opaque saveByte : Nat → Nat → Nat
/-- Byte of a fault-log record of a source and a stamp; the spec gives no layout (R62). -/
opaque faultByte : Nat → Nat → Nat → Nat
/-- A byte that a training finds: training, byte of the 32 records (R370, R371). -/
opaque trainValue : Nat → Nat → Nat
/-- The MAC address of an uplink port, which its pause frames carry as their source (R431); the spec gives none. -/
opaque portAddress : Nat → Nat
/-- FEC code words of a received frame that an injected bit error ratio of M × 10^−E leaves corrected, and uncorrectable: M, E, the frame's
length, draw (R466). -/
opaque bitErrors : Nat → Nat → Nat → Nat → Nat × Nat
/-- Lanes and speed to which the PCIe link trains by itself at step 2 (R434): modulo 3, the base-2 logarithm of its lanes; modulo 4, one of the
four speeds. -/
opaque linkWidth : Nat → Nat
opaque linkSpeed : Nat → Nat

/-- Length in MU of a burst at a rate code with FEC on or off, from the start of its first entry, whose entries have these sizes and
REPORT + 2 × MSG flags; the Recommendations lay it out, and the spec does not restate them (R215). -/
opaque burstMu : Nat → Bool → List (Nat × Nat) → Nat
/-- MU from the start of a burst's first entry to that of its entry number `k`, in the burst laid out as a whole: rate code, FEC, sizes and flags of
the entries, k (R215). -/
opaque entryMu : Nat → Bool → List (Nat × Nat) → Nat → Nat
/-- Where the key field of a Key_Report lies among the message's bytes; the Recommendations place it (R161). -/
opaque keyField : Nat × Nat
/-- The integrity check of a message to or from a terminal under its integrity key, none for the default key: key, kind, terminal,
argument and body; the Recommendations lay the message out (R152, R153, R326). -/
opaque micOf : Option (List Nat) → Nat → Nat → Int → List Nat → Nat
/-- Host-memory address of an image read over PCIe at start-up; the spec names none (R101 step 5). -/
opaque hostImage : Nat

/-- Control-store address of the vendor idle loop; the spec does not give it (R267). -/
opaque idleLoop : Nat
/-- Where the vendor handler goes on when it skips the span whose SPAN_OPEN lies at an address (R250); the spec does not give it. -/
opaque spanSkip : Nat → Nat
/-- A BRANCH or WAIT condition that R238 reserves holds. -/
opaque reservedCond : Nat → Bool
/-- SIZE as the Recommendations encode a number of words at a rate code with FEC on or off (R215, R240). -/
opaque sizeOf : Nat → Bool → Nat → Nat
/-- Byte `i` of a frame's 32-byte descriptor, by its first cell and what it holds: cell count, length, flow index, pool and owner tags; and of
one in no use. The spec lists the contents and gives no layout (R298). -/
opaque descByte : Nat → List Nat → Nat → Nat
/-- What the metadata word of a free cell holds beside FREE (R298). -/
opaque freeMeta : Nat → Nat
/-- Where the native free store looks for its next free cell: the refill buffers hold any 1,024 free cells (R301, R302). -/
opaque cellPick : Nat → Nat
/-- An allocation falls in the datapath cycle of the frees before it (R300, R307). -/
opaque sameCycle : Nat → Bool
/-- How many received frames beside the oldest ask for their cells in its cycle, and by how many requesters the first place has passed on since
the allocation before (R300, R306). -/
opaque sameArrival : Nat → Nat
opaque rotation : Nat → Nat
/-- A CHURN visit that would remove an entry falls in the slot of the lookup before it (R294). -/
opaque sameSlot : Nat → Bool
/-- Payload bytes that a downstream frame has left beside its header, its map and its messages: rate class, entries, messages; the Recommendations
lay the frame out (R315). -/
opaque frameRoom : Nat → Nat → Nat → Nat
/-- The initial counter block of PON payload as the Recommendations build it: upstream, superframe counter, position (R334). -/
opaque payloadBlock : Bool → Nat → Nat → Nat
/-- The set of the flow cache (true) or the bridge cache in which a line lies, before it is cut to the cache's size (R277); the spec does not
give it. -/
opaque cacheSet : Bool → Nat → Nat
/-- The pseudo-random choice of a way to evict (R286). -/
opaque evictPick : Nat → Nat
/-- The pseudo-random START_ID of RIND in a start without a kept START_NO (R335). -/
opaque startId : Nat → Nat
/-- The wrapping key of root slot `a` that RIND derives from the fuses (R325), and whether its fuse position is usable. -/
opaque rootKey : Nat → List Nat
/-- The message-integrity key and the key-encryption key that the Recommendations derive from a session key (R326). -/
opaque mikOf : List Nat → List Nat
opaque kekOf : List Nat → List Nat
/-- A word of a table entry that DRC reports uncorrectable, as a read returns it (R287). -/
opaque unreadable : Nat → Nat
/-- VIN in mV as the monitor measures it in ASLEEP, where no tick carries it (R32). -/
opaque asleepVin : Nat → Nat
/-- HOLD in mV as it is measured in ASLEEP, where the charger is off and the capacitors leak (R51). -/
opaque asleepHold : Nat → Nat
/-- Latency of a 64-byte DRAM read in nanoseconds (R366, R460); the spec bounds it and gives no value. -/
opaque readLatency : Nat → Nat
/-- An access whose bank a row must be opened for needs an activation (R368); no rule says which rows stay open. -/
opaque opensRow : Nat → Bool
/-- A draw with which fault injection selects an item when SEL_LOG2 is not 0 (R466). -/
opaque chosen : Nat → Bool

/-- The steering that the servo asks for, in units of 0.01 ppb, before its limits: draw, time constant in seconds, phase error in picoseconds
(R375, R381); the spec gives no gains. -/
opaque servoAsk : Nat → Nat → Int → Int
/-- The steering that the SyncE frequency loop asks for, with its time constant of 1 s (R381). -/
opaque synceAsk : Nat → Int
/-- How long after a multiple of 62.5 ms of the ToD the Sync's first bit leaves, in units of 1/65536 ns (R385, R391). -/
opaque syncLag : Nat → Nat
/-- The offset that the servo state predicts, in picoseconds; the spec gives no formula (R386). -/
opaque predict : Nat → Int
/-- What a register shows of a number that lies outside its format. -/
opaque outOfRange : Nat → Nat

/-- Bytes of a mirrored page's header on OXL; the spec gives no layout (R413, R414). -/
opaque pageHeader : Nat → Nat

/-- The first row of a bank on which alternate 1 of step 7 writes its 64 KiB pattern, by pseudo-channel and bank, and the pattern's byte at a device
address; the spec gives neither (R372). -/
opaque patternRow : Nat → Nat → Nat
opaque patternByte : Nat → Nat
/-- A byte of a DRAM burst that DRC returns marked uncorrectable (R350): draw, byte. -/
opaque badByte : Nat → Nat → Nat

end Sys2Proof.Config
end

