-- ==== Sys2Proof/Machine/SMap.lean ====
section
/-! DEFINITION. Machine/SMap.lean: sparse maps as lists of (key, value) pairs with strictly rising keys, and sparse byte memories
in one canonical form: rising addresses, no entry equal to 0, what an unlisted address reads as (assumption 3). -/
namespace Sys2Proof.Machine

/-- A sparse map from naturals, kept with strictly rising keys. -/
abbrev SMap (α : Type) := List (Nat × α)

/-- The value listed at a key. -/
def SMap.find? {α : Type} (m : SMap α) (k : Nat) : Option α :=
  match m with
  | [] => none
  | (k', v) :: r => if k' = k then some v else SMap.find? r k

/-- The value at a key, `d` where the key is not listed. -/
def SMap.getD {α : Type} (m : SMap α) (k : Nat) (d : α) : α := (SMap.find? m k).getD d

/-- Sets a key, keeping the keys rising. -/
def SMap.put {α : Type} (m : SMap α) (k : Nat) (v : α) : SMap α :=
  match m with
  | [] => [(k, v)]
  | (k', v') :: r =>
    if k' < k then (k', v') :: SMap.put r k v
    else if k' = k then (k, v) :: r
    else (k, v) :: (k', v') :: r

/-- Removes a key. -/
def SMap.del {α : Type} (m : SMap α) (k : Nat) : SMap α :=
  m.filter fun e => e.1 != k

/-- Keys strictly rise. -/
def SMap.rising {α : Type} : SMap α → Bool
  | [] => true
  | [_] => true
  | a :: b :: r => decide (a.1 < b.1) && SMap.rising (b :: r)

/-- A sparse byte memory. -/
abbrev Memory := List Host.Cell

/-- The byte at an address; an unlisted address reads 0 (assumption 3). -/
def Memory.read (m : Memory) (a : Nat) : Byte := SMap.getD m a 0

/-- Writes one byte, keeping the canonical form: writing 0 removes the entry. -/
def Memory.write (m : Memory) (a : Nat) (b : Byte) : Memory :=
  if b = 0 then SMap.del m a else SMap.put m a b

/-- The canonical form: strictly rising addresses and no listed 0. -/
def Memory.wf (m : Memory) : Bool := SMap.rising m && m.all fun e => e.2 != 0

/-- Writes a run of bytes from an address upwards. -/
def Memory.writeBytes (m : Memory) (a : Nat) : List Byte → Memory
  | [] => m
  | b :: bs => Memory.writeBytes (Memory.write m a b) (a + 1) bs

/-- Reads `n` bytes from an address upwards. -/
def Memory.readBytes (m : Memory) (a n : Nat) : List Byte :=
  (List.range n).map fun i => Memory.read m (a + i)

/-- The little-endian number in a list of bytes (R473). -/
def leNat : List Byte → Nat
  | [] => 0
  | b :: bs => b.toNat + 256 * leNat bs

/-- `n` little-endian bytes of a number (R473). -/
def leBytes : Nat → Nat → List Byte
  | 0, _ => []
  | n + 1, v => BitVec.ofNat 8 v :: leBytes n (v / 256)

/-- The little-endian number in `n` bytes of a memory. -/
def Memory.le (m : Memory) (a n : Nat) : Nat := leNat (Memory.readBytes m a n)

end Sys2Proof.Machine
end

