-- ==== Sys2Proof/Machine/State.lean ====
section
/-! DEFINITION. Machine/State.lean: the machine's state as plain data. The BAR0 registers are one sparse file of fields
(`regs`, with the shadow copies of commit groups in `shadow`); beside it stands every piece of state the spec gives a block and
no register shows, one structure per block. -/
namespace Sys2Proof.Machine

/-- Which way an access reaches BAR0: the PCIe endpoint or the cabinet controller's I2C target (R475). -/
inductive Path where
  | pcie | i2c
  deriving DecidableEq, Repr

/-- What a path remembers of its previous access (R474): nothing, the high word of a lower-word read, or an upper-word write
that is held back. `reg` is the BAR0 address of the 64-bit register. -/
inductive PathMem where
  | none
  | readLow (reg : Nat) (hi : Nat)
  | heldUpper (reg : Nat) (hi : Nat)
  deriving DecidableEq, Repr

/-- An event record that is pending in the hub (R442); `stamp` words are STAMP32 values. -/
structure PRec where
  src : Nat
  count : Nat
  sat : Bool
  first : Nat
  last : Nat
  logged : Bool
  held : Bool
  reflex : Bool
  due : Bool
  /-- Instant at which it opened, in nanoseconds of the model's free clock (R442). -/
  opened : Nat
  deriving DecidableEq, Repr

/-- One firing of a reflex rule that waits for its tick (R447). -/
structure Firing where
  rule : Nat
  action : Nat
  arg : Nat
  deriving DecidableEq, Repr

/-- One MSI-X vector's masking state as PCI Express keeps it (R445). -/
structure Msix where
  masked : Bool
  pendingBit : Bool
  sent : Nat
  /-- Message address and data of the table entry. -/
  addr : Nat
  data : Nat
  deriving DecidableEq, Repr

/-- The event hub's state that no register shows (R441 to R450). -/
structure Hub where
  /-- Pending records, oldest first (R442). -/
  recs : List PRec
  /-- SEQ of the last record written, 24 bits (R443). -/
  seq : Nat
  /-- The ring has been found full since it last had room (R444). -/
  ringFull : Bool
  /-- Firings since the last tick, oldest first (R447). -/
  fired : List Firing
  /-- FREEZE, PORT_OFF and VERDICT firings of a tick at which a verdict takes effect: they act after it (R26). -/
  after : List Firing
  /-- Instant of each rule's last firing, in nanoseconds of the model's free clock (R448). -/
  lastFire : SMap Nat
  /-- Events whose once-per-second raise has been spent in this second. -/
  secRaised : List Nat
  /-- MSI-X vectors that have been used or masked (R434, R445). -/
  msix : SMap Msix
  /-- Trees whose freeze takes effect or ends at the next tick, bit per tree (R449). -/
  unfreeze : Nat
  /-- Trees whose maps are frozen: the effect of HIF_RFX_FROZEN, in force until the tick after the bit is cleared (R449). -/
  mapFrozen : Nat
  /-- Occurrences before step 9 that wait for EVENT_ROUTE, oldest first (R105). -/
  early : List (Nat × Bool)
  deriving DecidableEq, Repr

/-- The host interface beside its registers (R434 to R440, R474). -/
structure HostIf where
  /-- The PCIe link is up (R435). -/
  pcieLive : Bool
  /-- A link-down that waits to be raised when the link is up again (R435). -/
  linkDownDue : Bool
  /-- The endpoint is live: step 2 has been reached (R435, R490). -/
  endpoint : Bool
  pcieMem : PathMem
  i2cMem : PathMem
  /-- Data of the last read completion on each path. -/
  lastRead : Nat
  lastI2c : Nat
  /-- The last I2C transaction was acknowledged (R440). -/
  i2cAck : Bool
  /-- Unsupported requests recorded under AER (R473). -/
  aer : Nat
  /-- A pass-through flash command is in progress (R439). -/
  spiBusy : Bool
  /-- The next slot of the receive ring (R433). -/
  hrxNext : Nat
  /-- A write of HIF_BAR2_CFG that waits for the BAR2 requests accepted before it (R436). -/
  baseWait : Option Nat
  deriving DecidableEq, Repr

/-- One frame waiting for host software, or its descriptor (R433). -/
structure HrxDesc where
  port : Nat
  kind : Nat
  slot : Nat
  len : Nat
  stamp : Nat
  deriving DecidableEq, Repr

/-- A posted host frame (R433). -/
structure HtxPost where
  slot : Nat
  port : Nat
  len : Nat
  deriving DecidableEq, Repr

/-- How far the supply has come up (R490, R492): no supply, VAUX up with the reset timer running, reset held by RST_N,
reset held until the save ends (R495), or running. -/
inductive PowerPhase where
  | unpowered | vauxUp | resetHeld | running
  deriving DecidableEq, Repr

/-- What follows an in-service save (R61). -/
inductive SaveThen where
  | resume | sleep | restart
  deriving DecidableEq, Repr

/-- A save that is running (R55, R61). -/
structure SaveRun where
  /-- A brown-out save; otherwise an in-service save. -/
  brownout : Bool
  /-- The cause as PWR_SAVE_STAT.LAST_CAUSE codes it. -/
  cause : Nat
  after : SaveThen
  /-- Only journal and fault-log records are written (R57, R58). -/
  journalOnly : Bool
  /-- Nothing is written to the save store (alternate 5 of R101). -/
  noStore : Bool
  /-- R58 applies and a copy would otherwise have been written. -/
  lowHold : Bool
  /-- The target copy: 1 is A, 2 is B (R64). -/
  target : Nat
  /-- The capture is frozen (brown-out) or staged (in service). -/
  captured : Bool
  /-- The staging copy has begun at its tick (R61). -/
  staging : Bool
  /-- Blocks written and read back good (R55). -/
  block : Nat
  /-- Mismatches of the current block, and blocks rewritten in this save (R56). -/
  mism : Nat
  rewrites : Nat
  /-- The header with its complete marker is written (R55). -/
  header : Bool
  deriving DecidableEq, Repr

/-- An accepted mode request that waits for its tick or its stagger (R43): target 0 is SLEEP and 1 an orderly restart; `rule` is the reflex
rule that made it, none for the host. -/
structure ModeReq where
  target : Nat
  rule : Option Nat
  deriving DecidableEq, Repr

/-- An entry of the stagger queue (R49). -/
inductive BringUp where
  | tile (n : Nat)
  | men (p : Nat)
  | ben (p : Nat)
  deriving DecidableEq, Repr

/-- The rails that step 2 brings up, in its order (R490). -/
inductive Rail where
  | vcore | vsram | vdramCore | vdramIo | vser090 | vser120 | viob
  deriving DecidableEq, Repr

/-- PWR's state that no register shows. -/
structure Pwr where
  phase : PowerPhase
  /-- CAUSE that the next start takes (R118). -/
  nextCause : Nat
  modeReq : Option ModeReq
  /-- Ticks since the mode took effect (R33). -/
  cadence : Nat
  save : Option SaveRun
  /-- The hold-up switch is closed (R52). -/
  switchClosed : Bool
  /-- The VIN path is open, that is, disconnected (R52). -/
  vinPathOpen : Bool
  /-- The quiesce of R55 or of a SLEEP or restart (R61) is in force. -/
  quiesced : Bool
  /-- R25 suppression is in force. -/
  suppress : Bool
  /-- The first disarm key has been written, and when, in nanoseconds (R66). -/
  disarmKey : Bool
  disarmAt : Nat
  /-- Keys of the PROVING unlock accepted so far, 0 to 2 (R37). -/
  provKeys : Nat
  /-- The V_WARN and V_SAG detectors are armed (R53). -/
  warnReady : Bool
  sagReady : Bool
  /-- VIN_RECOVERED is owed for a crossing (event 3). -/
  recoverOwed : Bool
  /-- Consecutive ticks with VIN below the mode's floor (R42). -/
  belowTicks : Nat
  /-- ASLEEP was entered from HOLDING (R39). -/
  fromHolding : Bool
  /-- OVER_TICKS rose since the last one-second boundary (R47). -/
  overRose : Bool
  /-- The stagger queue, oldest first, and those of its entries that the next tick begins: no limit held them back when they came, and
  they do not count as waiting (R49). -/
  queue : List BringUp
  accepted : List BringUp
  /-- Bring-ups begun since the last tick (R48). -/
  begun : Nat
  /-- Tick of the last optics group while its gap runs (R48). -/
  opticsAt : Option Nat
  /-- STAGGER_DEFER has been raised since the last tick. -/
  deferRaised : Bool
  /-- The mode that service enable waits for (R40). -/
  waiting : Option Nat
  /-- Milliseconds for which the charger has run below HOLD_OK_MV, in ticks (R51). -/
  chgTicks : Nat
  /-- CHG_FAULT has been raised for this charge (R51). -/
  chgFaulted : Bool
  /-- A board reset waits for the end of the save (R495). -/
  resetWaits : Bool
  /-- The in-service save of a SLEEP or orderly restart has ended, and the change it was taken for waits for its tick (R31, R61). -/
  leaving : SaveThen
  /-- Rails in regulation, in the order in which they came up (R490); VAUX, which no event turns off, is up in every phase but `unpowered`. -/
  rails : List Rail
  deriving DecidableEq, Repr

/-- One entry of an image's section table (R71). -/
structure Sect where
  typ : Nat
  inst : Nat
  off : Nat
  len : Nat
  ifMin : Nat
  ifMax : Nat
  sflags : Nat
  crc : Nat
  deriving DecidableEq, Repr

/-- A boot-policy entry as its section holds it (R107). -/
structure PolicyEntry where
  step : Nat
  optional : Bool
  tries : Nat
  retryMax : Nat
  escalate : Nat
  alt : Nat
  afterAlt : Nat
  recheck : Nat
  timeoutMs : Nat
  deriving DecidableEq, Repr

/-- A boot policy: its header (R106) and its fourteen entries (R107). -/
structure Policy where
  serviceMode : Nat
  autoResume : Nat
  warm : Nat
  warmMaxAge : Nat
  entries : List PolicyEntry
  deriving DecidableEq, Repr

/-- What CFG keeps of a verified image: the header's identity (R70), its section table (R71) and the GLOBAL and
KEY_FMT sections (R80, R121). -/
structure ImageMeta where
  id : Nat
  ver : Nat
  len : Nat
  sects : List Sect
  glob : List Byte
  keyFmt : List Byte
  deriving DecidableEq, Repr

/-- One of the two image slots (R68, R69, R77). -/
structure Slot where
  img : Option ImageMeta
  /-- A verification is reading the slot. -/
  verifying : Bool
  /-- SLOT_WRITTEN has been raised in this second. -/
  writtenRaised : Bool
  deriving DecidableEq, Repr

/-- A tile load or reload that has not ended (R80 to R85). -/
structure Reload where
  slot : Nat
  gen : Nat
  partner : Option Nat
  /-- A full load of step 9; it takes no generation and drains nothing. -/
  full : Bool
  /-- Ticks left of DRAINING (R82). -/
  drainLeft : Nat
  /-- Ticks since DRAINING began (R85). -/
  ticks : Nat
  /-- The section has been read and the tile's memories initialized; negotiation is next. -/
  read : Bool
  /-- Negotiation succeeded with this version; JOINED is taken at the next tick. -/
  negotiated : Option Nat
  /-- The tile was JOINED when the reload was accepted: its resource works until the drain (R82, R83). -/
  live : Bool
  /-- The section's IF_MIN and IF_MAX as they were read (R82, R97). -/
  range : Nat × Nat
  /-- The values that the section gives, as they were read: fields as (key, value), and entries of the tables under its commit group as
  (table, index, words) (R82). -/
  defaults : List (Nat × Nat)
  tables : List (Nat × Nat × List Nat)
  /-- What a load of M0 has read: its engine map, and the words of MICROCODE and of MICROCODE_OPEN (R82, R237). -/
  engMap : List Nat
  vendor : SMap Nat
  openWords : SMap Nat
  deriving DecidableEq, Repr

/-- A verified tile descriptor (R75). -/
structure TileDesc where
  typ : Nat
  index : Nat
  build : Nat
  /-- The 52 PARAM bytes. -/
  param : List Nat
  deriving DecidableEq, Repr

/-- A member of an open linked set, or of an accepted commit (R91, R94). -/
structure CommitReq where
  group : Nat
  gen : Nat
  deriving DecidableEq, Repr

/-- One record of the boot journal (R119); the CRC is kept as a flag that is false for a torn record (R115). -/
structure JRec where
  kind : Nat
  step : Nat
  attempt : Nat
  path : Nat
  outcome : Nat
  alt : Nat
  detail : Nat
  uptime : Nat
  mask : Nat
  arg : Nat
  whole : Bool
  deriving DecidableEq, Repr

/-- A start area of the boot journal (R118). -/
structure StartArea where
  startNo : Nat
  cause : Nat
  final : Nat
  policySrc : Nat
  warm : Nat
  imageVer : Nat
  imageId : Nat
  time : Nat
  durationMs : Nat
  recs : List JRec
  deriving DecidableEq, Repr

/-- The memory of one step across starts (R110, R113). -/
structure StepMem where
  streak : Nat
  direct : Nat
  altBad : Bool
  force : Bool
  deriving DecidableEq, Repr

/-- A journal control copy (R117); `valid` stands for its CRC. -/
structure CtrlCopy where
  valid : Bool
  seq : Nat
  head : Nat
  source : Nat
  copy : Nat
  startNo : Nat
  policy : Option Policy
  mem : List StepMem
  deriving DecidableEq, Repr

/-- A fault-log record (R20): its source and STAMP32, or, under alternate 5, a record of the journal that is held in S0 (R120). The 64-byte
layout is not given; the bytes are free values. -/
structure FaultRec where
  src : Nat
  stamp : Nat
  journal : Option JRec
  deriving DecidableEq, Repr

/-- The step that is running (R101, R110). -/
structure RunStep where
  step : Nat
  /-- False on the normal path, true on the alternate. -/
  alternate : Bool
  attempt : Nat
  direct : Bool
  deriving DecidableEq, Repr

/-- CFG's state that no register shows: image handling, reloads, commits and the boot sequencer. -/
structure Cfg where
  slotA : Slot
  slotB : Slot
  /-- The running image (R79), with the slot it was loaded from. -/
  running : Option ImageMeta
  runSlot : Nat
  /-- DS_QUEUES of each tree's TILE section in the running image (R311). -/
  dsq : SMap Nat
  /-- The image that step 6 verified in this start. -/
  picked : Option ImageMeta
  /-- The source from which step 6 read: flash offset, or none for host memory. -/
  pickedFlash : Option Nat
  /-- Loads and reloads by tile. -/
  loads : SMap Reload
  /-- Descriptor of each tile last loaded. -/
  tiles : SMap TileDesc
  /-- WIDTH that each U tile declares, by number: of the section that it joined with, until then of the image that was loaded (R75, R428). -/
  uplinks : SMap Nat
  /-- Trees whose fill generator drives the downstream (R83), bit per tree. -/
  filler : Nat
  /-- Trees whose first map after JOINED is a full recomputation (R84), bit per tree. -/
  joinRecompute : Nat
  /-- Accepted commits that wait for the next tick (R91). -/
  commits : List CommitReq
  /-- The open linked set, in the order written (R94). -/
  linked : List CommitReq
  /-- EVENT_ROUTE has been applied in this start (R105). -/
  routed : Bool
  /-- The step that is running; none when halted or when all have ended. -/
  run : Option RunStep
  /-- The policy for steps 5 to 14 as read in this start. -/
  policy : Policy
  /-- Cross-start memory of the fourteen steps, as held in S0 and in the control copy (R110). -/
  mem : List StepMem
  /-- Records of this start that are held in S0 until step 4 ends, or for good under alternate 5 (R120). -/
  held : List JRec
  /-- Alternate 5 is in force (R101). -/
  alt5 : Bool
  /-- A journal area has been chosen for this start. -/
  area : Option Nat
  /-- The policy entries for which BOOT_POLICY_FIXED has been raised. -/
  fixedRaised : List Nat
  /-- SCAN_N was low at the release of power-on reset (R494). -/
  scan : Bool
  /-- Uplink ports and peer lanes that alternate 3 left disabled, as the bits 32 to 50 of a record's MASK (R101, R119). -/
  disabled : Nat
  deriving DecidableEq, Repr

/-- A request queued at a pseudo-channel scheduler (R352 to R355). -/
structure DramReq where
  id : Nat
  requester : Nat
  addr : Nat
  /-- The bytes of a write; none for a read of one 64-byte burst. -/
  data : Option (List Nat)
  /-- Class at arrival; 1 once aged (R354). -/
  cls : Nat
  /-- The tick before its arrival and AGE_NS as it stood then, in units of 10 ns (R354). -/
  arrived : Nat
  age : Nat
  /-- Held by R361 or R364 until its segment is zeroed or the exit ends. -/
  held : Bool
  deriving DecidableEq, Repr

/-- A pseudo-channel beside its registers (R356 to R365, R368). -/
structure PseudoCh where
  queue : List DramReq
  /-- Banks refreshed in the current round, bit per bank (R356). -/
  round : Nat
  /-- The entry command has been issued and tCKESR has passed (R362). -/
  resident : Bool
  /-- Activations in this window by row group and by requester (R368). -/
  rowActs : SMap Nat
  reqActs : SMap Nat
  /-- Requesters throttled on this pseudo-channel until the window ends (R369). -/
  throttled : List Nat
  /-- Activations of throttled requesters since the latest tick (R369). -/
  gapActs : SMap Nat
  /-- Adjustment of each lane from its trained value in units of 1/64 UI, and the lanes that need more than the limit (R373). -/
  lanes : SMap Int
  beyondLim : List Nat
  deriving DecidableEq, Repr

/-- DRC's state that no register shows. -/
structure Drc where
  pcs : SMap PseudoCh
  /-- Segments that are retained again and not yet zeroed (R361), bit per segment. -/
  unzeroed : Nat
  /-- Position of the patrol scrubber as a device address (R374). -/
  patrol : Nat
  /-- The tick at which the patrol's latest pass began (R374). -/
  patrolAt : Option Nat
  nextId : Nat
  /-- The last read returned: requester, bytes, and the words of 64 bits that are marked uncorrectable, bit per word (R350, R360). -/
  returned : Option (Nat × List Nat × Nat)
  /-- The training whose values are in use (R370, R372). -/
  trained : Option Nat
  /-- A real-time requester has been in panic since the latest tick (R355). -/
  panicked : Bool
  /-- Words that the patrol has corrected, and has found uncorrectable, since SAGE's latest report (R374, R426). -/
  patrolCe : Nat
  patrolUe : Nat
  deriving DecidableEq, Repr

/-- A port's PTP exchange (R383, R384), instants in picoseconds of ToD. -/
structure PtpPort where
  /-- t1 of the latest Sync; none while a two-step Follow_Up is awaited. Timestamps are in units of 1/65536 ns. -/
  t1 : Option Int
  t2 : Int
  cs : Int
  haveSync : Bool
  t3 : Int
  haveReq : Bool
  /-- t3, t4 and correction of a Delay_Resp that waits for the Follow_Up of the latest Sync (R383, R384). -/
  resp : Option (Int × Int × Int)
  /-- Sync and Delay_Req messages sent, and Delay_Resp answers sent (R385). -/
  syncTx : Nat
  reqTx : Nat
  respTx : Nat
  /-- The last of each: destination address (R383), and the timestamp that it carries or that TSU takes of it (R391). -/
  lastSync : Option (Nat × Int)
  lastReq : Option (Nat × Int)
  lastResp : Option (Nat × Int)
  /-- The multiple of 62.5 ms of the ToD, counted from 0, at which the last Sync was sent (R385). -/
  syncAt : Option Nat
  deriving DecidableEq, Repr

/-- TSU's state that no register shows; offsets and steps in picoseconds. -/
structure Tsu where
  /-- The time unit at the latest tick, at the release before the first tick, or, once the step of R377 has been made in this interval, at the step (R375, R377). -/
  sec : Nat
  ns : Nat
  /-- Its fraction of a nanosecond in 40 bits: 16 that are exposed and 24 internal ones (R375). -/
  frac : Nat
  /-- Step 11 is running and no measurement has come yet (R377). -/
  awaitStep : Bool
  /-- Step 11 was skipped and no measurement has come yet (R378). -/
  awaitOfs : Bool
  /-- The step of R377 has been made since the last tick: the nanoseconds may read zero without one (R17). -/
  stepped : Bool
  /-- Then: the nanoseconds from the latest tick to the step, and the time unit at the tick that ends the interval (R377). -/
  since : Nat
  nextNs : Nat
  /-- Consecutive measurements within LOCK_NS (R381). -/
  inLock : Nat
  /-- The predicted offset (R386). -/
  pred : Int
  /-- The run of consecutive outliers, offsets in order (R386). -/
  outliers : List Int
  /-- Consecutive measurements back within JUMP_TH while a jump is pending (R386). -/
  backRun : Nat
  /-- STEP of the pending jump (R386). -/
  step : Int
  /-- ACCEPT waits for the next tick (R387). -/
  accept : Bool
  /-- REBASE waits for the commit of group 50 (R387). -/
  rebase : Bool
  /-- Amount that REBASE writes have added to each port's ASYM_PS shadow since its last commit (R388). -/
  rebased : SMap Int
  ptp : SMap PtpPort
  /-- Offsets of PTP_PORT that PHASE_MEASUREMENT has yet to judge, oldest first (R384). -/
  meas : List Int
  /-- The steering as it has changed, newest first: the tick of each change and the value from then on (R375, R381). -/
  freqs : List (Nat × Int)
  /-- The frequency that HOLDOVER holds (R381). -/
  holdAt : Option Int
  /-- ToD second of the last 1PPS_IN edge used; and the second that the serial input names, with the tick of its message (R396, R397). -/
  ppsSec : Option Nat
  serNamed : Option (Nat × Nat)
  /-- An earlier 1PPS_IN edge exists (R396). -/
  ppsHave : Bool
  /-- ToD seconds that 1PPS_OUT has marked, as runs from a first to a last second, the latest first (R390), and edges emitted. -/
  marked : List (Nat × Nat)
  ppsOut : Nat
  /-- The last tick at which the latest pulse is still high (R396). -/
  ppsUntil : Option Nat
  /-- The last serial message sent (R397). -/
  serSent : List Nat
  /-- The terminal-time request in force: tree, terminal and the tick count of frame N (R394, R395). -/
  todReq : Option (Nat × Nat × Nat)
  /-- RTD_CHANGED has been raised in this tick. -/
  rtdRaised : Bool
  deriving DecidableEq, Repr

/-- A SKIM record (R459). -/
structure SkimRec where
  seq : Nat
  flags : Nat
  flow : Nat
  endStage : Nat
  len : Nat
  port : Nat
  stamps : List Nat
  deriving DecidableEq, Repr

/-- An injection link beside its registers (R466 to R469). -/
structure InjLink where
  /-- Items injected since the injection was armed (R466). -/
  items : Nat
  /-- The link locks at the next tick because its unlock expired (R467). -/
  expiring : Bool
  /-- Tick at which the unlock ends; 0 for none (R467). -/
  ends : Nat
  /-- Beats or records held back for a reorder, oldest first: later items still to pass, and the bytes (R466, R469). -/
  held : List (Nat × List Nat)
  deriving DecidableEq, Repr

/-- OBS's state that no register shows. -/
structure Obs where
  /-- A snapshot is wanted at the next tick (R457). -/
  snapWanted : Bool
  /-- SKIM records, oldest first (R459). -/
  skim : List SkimRec
  /-- Records of tagged frames that have ended and are not yet written, oldest first (SEQ still 0). -/
  finished : List SkimRec
  /-- Frames that mirror session `m` has seen (R462). -/
  mirrored : SMap Nat
  skimSeq : Nat
  /-- Tagged frames in flight (R458). -/
  inFlight : Nat
  /-- SKIM_FULL has been raised for this filling (R459). -/
  skimFull : Bool
  /-- Histogram units to be zeroed at the next tick (R461). -/
  histClear : List Nat
  /-- Units whose saturation has been raised since they were zeroed (R461). -/
  histSat : List Nat
  links : SMap InjLink
  /-- The first unlock key: its link and instant in nanoseconds (R467). -/
  injKey : Option (Nat × Nat)
  deriving DecidableEq, Repr

/-- A module command (R148): device address, read, register, bytes, the data to write, and its place in the order of arrival on its
master. -/
structure ModCmd where
  dev : Nat
  read : Bool
  reg : Nat
  len : Nat
  data : Nat
  order : Nat
  deriving DecidableEq, Repr

/-- A tree port beside its registers (R130 to R151). -/
structure TpaPort where
  /-- Ticks for which MEN has been active (R132). -/
  menTicks : Nat
  /-- LEAD_TICKS fill frames left (R132). -/
  lead : Nat
  /-- ENABLE was cleared: the port goes down at the next tick (R150). -/
  downNext : Bool
  /-- Consecutive counting frames with SD low in every window (R146). -/
  losRun : Nat
  /-- Frames that opened a window and are not yet judged, oldest first: tick of the frame, and whether SD was high in one of its windows
  (R146). -/
  winFrames : List (Nat × Bool)
  /-- Upstream frames over 9,728 bytes that were dropped; no register shows them (R28, assumption 62). -/
  tooLong : Nat
  /-- NO_LOCK and NO_LIGHT in this second. -/
  lockFails : Nat
  /-- The module command in progress or queued (R148). -/
  modCmd : Option ModCmd
  deriving DecidableEq, Repr

/-- A heartbeat path (R402). -/
structure HbPath where
  /-- Consecutive valid beats within 1.5 ms of each other since the loss (R402). -/
  good : Nat
  /-- SEQ of the last beat sent (R401). -/
  seqTx : Nat
  /-- The last beat that was sent, as 16 bytes. -/
  sent : List Nat
  deriving DecidableEq, Repr

/-- An accepted verdict that waits for its apply instant (R409). -/
structure Verdict where
  code : Nat
  mode : Nat
  epoch : Nat
  apply : Nat
  applyTick : Nat
  seq : Nat
  replaces : Nat
  unprot : Nat
  /-- A pin verdict (R411). -/
  pin : Bool
  /-- Its apply instant has come: it takes effect at the current tick (R409). -/
  due : Bool
  deriving DecidableEq, Repr

/-- A message of the KAP transmit queue: 64 bytes as numbers, and whether it is an ACK (PRT_KAP_TX_STAT). -/
structure KapMsg where
  ack : Bool
  bytes : List Nat
  deriving DecidableEq, Repr

/-- PRT's state that no register shows. -/
structure Prt where
  pathA : HbPath
  pathB : HbPath
  /-- SEQ and REASONS of the open request (R405); the SEQ outlives it. -/
  reqSeq : Nat
  reasons : Nat
  /-- Milliseconds since the request was issued, in ticks (R406). -/
  reqTicks : Nat
  /-- The transmit queue, oldest first, at most 4 (PRT_KAP_TX_STAT). -/
  txq : List KapMsg
  /-- The saved role that step 12 offers to the peer (R124). -/
  offered : Option Nat
  verdict : Option Verdict
  /-- A verdict has been applied at this tick: MODE firings of the tick are dropped (R26). -/
  appliedTick : Bool
  /-- The bulk copy to the standby is under way, and whether SAGE's hold-off has already asked (R421). -/
  bulk : Bool
  revertAsked : Bool
  /-- The level driven on ARB_REQ and the last level of ARB_GNT taken (R411). -/
  arbReq : Bool
  arbGnt : Option Bool
  /-- SEQ of the SAGE report and its health bit (R427). -/
  sageSeq : Nat
  healthy : Bool
  /-- Engines whose SELFCHECK has failed since the latest report, bit per engine (R426). -/
  engineFail : Nat
  /-- Lanes whose eye has last been measured below EYE_MIN, bit per lane of R119; the last SAGE report and digests sent to the peer (R414, R426). -/
  laneFail : Nat
  sageTx : Option (List Nat × Digests)
  /-- Trees that are not mirrored (R100, R407), bit per tree. -/
  unprot : Nat
  /-- OXL version agreed (R97), zero for none. -/
  oxl : Nat
  /-- The mode that a PROMOTE named in STARTING (R104, R410). -/
  startMode : Option Nat
  /-- Something has been sent to the standby in this tick (R413). -/
  sentTick : Bool
  /-- Frozen pages that wait to be sent, as (tree, entries) (R413, R414). -/
  pages : List (Nat × Nat)
  /-- ACKs that were replaced before the host had read them; no register shows them (R19, assumption 62). -/
  ackLost : Nat
  deriving DecidableEq, Repr

/-- A region that GLOBAL places in DRAM (R72, R351). -/
structure Region where
  base : Nat
  len : Nat
  deriving DecidableEq, Repr

/-- The DRAM partition in force (R72, R351): the image store and every other region. -/
structure Partition where
  image : Region
  others : List Region
  deriving DecidableEq, Repr

/-- One management message on its way downstream (R153, R155). Its order is its origin: 0 RNG, 1 CPH, 2 FRM, 3 host. The kinds
are 1 Burst_Profile, 2 Assign_ONU-ID, 3 Ranging_Time, 4 Request_Registration, 5 Key_Control, 6 Sleep_Allow (OFF), 7 the
error indication of SD and SF, 8 the failed-message indication, 9 the key request, 10 broadcast relative Ranging_Time, and
11 a host message. -/
structure Msg where
  origin : Nat
  kind : Nat
  /-- Addressed terminal; 0x1FF for broadcast. -/
  term : Nat
  arg : Int
  body : List Nat
  deriving DecidableEq, Repr

/-- A user frame as a downstream frame carries it, by the header fields that the spec uses: its flow, addresses, the tag that DS_VOP and
DS_VID leave it with the tags beneath (R278), its length, and the counter block that CPH used for it (R334). -/
structure SentFrame where
  flow : Nat
  dst : Nat
  smac : Nat
  tagged : Bool
  vid : Nat
  pcp : Nat
  len : Nat
  inner : List (Nat × Nat)
  icb : Option Nat
  deriving DecidableEq, Repr

/-- A downstream frame as FRM hands it to TPA (R154): its map is the page that turns active with its tick; here stand its messages with their
integrity checks (R152, R153), the user frames it carries, bytes of payload and of idle framing (R157), whether its grant map is
empty (R132, R156), and whether the tile's fill generator made it (R83). -/
structure DsFrame where
  msgs : List (Msg × Nat)
  frames : List SentFrame
  payload : Nat
  idle : Nat
  empty : Bool
  fill : Bool
  deriving DecidableEq, Repr

/-- A terminal's PM record (R170). -/
structure TermPm where
  bursts : Nat
  missed : Nat
  hdrErr : Nat
  corrBits : Nat
  uncorrCw : Nat
  usBytes : Nat
  deriving DecidableEq, Repr

/-- A bank of PM records of a tree: its 23 tree counters in the order of R170, and its terminal records. -/
structure PmBank where
  tree : SMap Nat
  terms : SMap TermPm
  deriving DecidableEq, Repr

/-- What RNG and FRM hold of a terminal beside its registers (R168, R186, R190 to R200). -/
structure Term where
  /-- Sum and number of the samples in the block (R191). -/
  blkSum : Int
  blkN : Nat
  /-- The latest consecutive outliers, latest first, in RU (R194), at most 8. -/
  outs : List Int
  /-- Consecutive samples within the envelope (R195, R200). -/
  ins : Nat
  /-- A correction that the terminal has not shown to have applied (R192): its RU, bursts seen since, sendings. -/
  corr : Option Int
  corrBursts : Nat
  corrSends : Nat
  /-- The pending correction is an ACCEPT's (R196). -/
  accepting : Bool
  /-- RTD by which the ranging window is placed, in RU (R180), and whether it is a saved RTD. -/
  est : Int
  saved : Bool
  /-- A ranging window is due after RERANGE (R196), or is open. -/
  due : Bool
  open_ : Bool
  /-- Ranging windows without a confirmed burst (R184). -/
  tries : Nat
  /-- Ranging_Time sendings without an Acknowledge, and ticks since the last (R186); 0 sendings when none is awaited. -/
  rtSends : Nat
  rtTicks : Nat
  /-- Its Registration has reached RNG since its ranging window began (R153, R186). -/
  registered : Bool
  /-- Frames in VERIFYING without a confirmed burst (R200). -/
  vFrames : Nat
  /-- Active defects, bit c - 1 for code c of R168. -/
  defects : Nat
  /-- Consecutive frames granted without a confirmed burst; granted and confirmed in this frame (R168). -/
  lob : Nat
  granted : Bool
  confirmed : Bool
  /-- Upstream bits, corrected bits and uncorrectable bits of this second (R169). -/
  secBits : Nat
  secCorr : Nat
  secUncorr : Nat
  /-- Consecutive seconds good enough to clear SD and SF. -/
  sdGood : Nat
  sfGood : Nat
  /-- The live PM record. -/
  pm : TermPm
  /-- MISSED and HDR_ERR at the last latch (R173). -/
  lastMissed : Nat
  lastHdr : Nat
  /-- Its record was zeroed while a latch copy was under way (R170, R171). -/
  zeroed : Bool
  /-- Host messages and Key_Control messages sent to the terminal and not yet acknowledged. -/
  hostAcks : Nat
  cphAcks : Nat
  deriving DecidableEq, Repr

/-- A grant-map entry (R215). `start` and `len` in MU. -/
structure Entry where
  alloc : Nat
  term : Nat
  profile : Nat
  newBurst : Bool
  report : Bool
  msg : Bool
  kind : Nat
  wide : Bool
  start : Nat
  size : Nat
  len : Nat
  deriving DecidableEq, Repr

/-- An allocation-table entry (R217). -/
structure Alloc where
  valid : Bool
  allocId : Nat
  term : Nat
  profile : Nat
  typ : Nat
  assured : Nat
  maximum : Nat
  weight : Nat
  lastReport : Nat
  reportFrame : Nat
  reportValid : Bool
  fixed : Nat
  deriving DecidableEq, Repr

/-- A burst window that GNT has handed to TPA and FRM (R226), in order. Instants in RU from tick `frame`. -/
structure Win where
  /-- Tick count of the frame whose map granted it. -/
  frame : Nat
  term : Nat
  kind : Nat
  rate : Nat
  fec : Bool
  wide : Bool
  /-- Burst offset s_k and P_k in RU; opening and close in nanoseconds (R226). -/
  sOfs : Int
  p : Int
  opens : Int
  closes : Int
  /-- Search half-width in RU: W_k, or the whole window for discovery (R163, R226). -/
  half : Int
  confirmed : Bool
  /-- Responses accepted, for a discovery window, and the offset in eighths of a bit at which the search goes on after the last (R166). -/
  accepted : Nat
  resume : Int
  /-- Fault injection discards a burst's bits; a burst whose bits it leaves has arrived (R466). -/
  lost : Bool
  light : Bool
  /-- What the burst has added to the tree counters, by their position in R170, and to its terminal's record: both count when the window
  closes (R170). -/
  held : SMap Nat
  heldPm : TermPm
  deriving DecidableEq, Repr

/-- A quiet window that RNG has begun (R182, R230): terminal 0x1FF for discovery; its length in nanoseconds and, once GNT has placed
it, its position in RU from the start of upstream frame `frame`. -/
structure QWin where
  term : Nat
  lenNs : Nat
  frame : Nat
  posMu : Nat
  lenMu : Nat
  deriving DecidableEq, Repr

/-- A bandwidth recomputation of a tree (R205, R209). -/
structure Recomp where
  /-- Tick at which it began and the tick whose frame holds its deadline. -/
  start : Nat
  deadline : Nat
  join : Bool
  /-- Allocation entries as they stood at its start (R205). -/
  snap : SMap Alloc
  /-- Entries accepted so far. -/
  ins : List Entry
  /-- DONE has been counted in time. -/
  done : Bool
  deriving DecidableEq, Repr

/-- A host command that takes effect at the next tick (R184): operation 1 ACCEPT, 2 RERANGE, 3 RELEASE, 4 RETRY, 5 admit, 6 drop,
7 reserve; terminal and serial number. -/
structure RngCmd where
  op : Nat
  term : Nat
  sn : Nat
  deriving DecidableEq, Repr

/-- A tree's FRM, RNG and GNT state that no register shows. -/
structure Tree where
  /-- Messages waiting, in the order of their submission (R155), and those selected for the next frame. -/
  msgs : List Msg
  sel : List Msg
  /-- Upstream messages for the host: terminal and 48 bytes, oldest first (R162). -/
  rxq : List (Nat × List Nat)
  /-- Live PM counters of the tree and the two latched banks (R170, R171). -/
  pm : SMap Nat
  bankA : PmBank
  bankB : PmBank
  /-- The latch copy is in progress (R171). -/
  latching : Bool
  /-- The superframe counter has been started (R159), and the ceiling written for it. -/
  sfcOn : Bool
  /-- The stored ceiling from which the counter started in this start; none where no valid one could be read (R123, R125, R159). -/
  sfcFrom : Option Nat
  ceiling : Nat
  /-- US_MISSED at the last one-second boundary; UNCONFIRMED_RATE raised in this second (R165). -/
  secMissed : Nat
  rateRaised : Bool
  /-- TPA FEC counts at the last latch (R143). -/
  fecBits : Nat
  fecCw : Nat
  fecUncorr : Nat
  /-- Frames since each profile was announced (R153), by profile. -/
  profAge : SMap Nat
  /-- MSG_SELECT, MAP_FREEZE, MAP_LATE and FRAME_HANDOFF have acted in this frame. -/
  selected : Bool
  frozen : Bool
  late : Bool
  handed : Bool
  /-- The frame handed to TPA for the next tick, and the one on the line (R154). -/
  next : Option DsFrame
  onAir : Option DsFrame
  /-- Payload bytes prefetched for the next frame, and its user frames (R154). -/
  payload : Nat
  ready : List SentFrame
  /-- Integrity checks that CPH has computed for messages of this frame (R152, R328). -/
  mics : List (Msg × Nat)
  /-- Picoseconds of T_EQ beyond T_EQ_NS (R176). -/
  teqSub : Nat
  /-- Quiet-window budget in nanoseconds (R182). -/
  budget : Nat
  /-- A discovery window is wanted (R181), ticks since the last one, none before the first, and whether that accepted a response or counted a
  collision. -/
  discWanted : Bool
  discTicks : Option Nat
  discHit : Bool
  /-- A window is queued under R183, and its place in the device's queue: 32 × the tick at which it was queued + the tree. -/
  waiting : Option Nat
  /-- Discovery responses accepted and not yet handled: serial number, RTD in RU, and the frame of their window (R185, R188). -/
  resps : List (Nat × Int × Nat)
  /-- The pending list (R185): serial number, and the RTD in RU that its ranging window is placed by (R180). -/
  pend : List (Nat × Int)
  cmd : Option RngCmd
  /-- Quiet windows begun that still run into frames to come. -/
  quiet : List QWin
  /-- In-service samples of this second in STANDBY: sum and number (R193). -/
  stbySum : Int
  stbyN : Nat
  /-- The two pages (R214), and which one is active. -/
  pageA : List Entry
  pageB : List Entry
  active : Nat
  /-- The allocation table (R217) and the writes that wait for the tick, as index and words (R218). -/
  alloc : SMap Alloc
  allocWr : List (Nat × Nat × Nat)
  /-- Reports of the sets that are not yet closed, oldest first: frame of arrival, terminal, allocation, words (R167, R204, R231). -/
  reports : List (Nat × Nat × Nat × Nat)
  /-- The dynamic part of the last completed recomputation (R206), whether it is fresh, and whether the join recomputation made it. -/
  dyn : List Entry
  dynFresh : Bool
  dynJoin : Bool
  /-- The map before was withheld: the next one is a reused map (R211). -/
  pageErr : Bool
  recomp : Option Recomp
  /-- The join recomputation, beside it (R209). -/
  joinRec : Option Recomp
  /-- Tick until which a changed profile is held (R222), by profile, and the content last committed. -/
  hold : SMap Nat
  profSeen : SMap Nat
  /-- Burst windows to come, in order (R226), and the last one that closed (R167). -/
  wins : List Win
  closed : Option Win
  deriving DecidableEq, Repr


/-- A write that an atomic span stages (R247): scratch bytes, a window line, an addition to an accumulator, or an insertion as
the two words of its page entry. -/
inductive Staged where
  | scratch (addr value : Nat)
  | line (window : Nat) (bytes : List Byte)
  | acc (index value : Nat)
  | ins (word0 word1 : Nat)
  deriving DecidableEq, Repr

/-- An open span (R247): address of its SPAN_OPEN, cycle of its first cycle, G1 to G61 as copied, and its staged writes. -/
structure AtomSpan where
  pc : Nat
  start : Nat
  shadow : SMap Nat
  staged : List Staged
  deriving DecidableEq, Repr

/-- A hook call in open privilege (R258 to R261): hook number, address that the vendor caller continues at, cycle of the HOOK word,
the arguments, and the calls nested inside it. -/
structure HookCall where
  num : Nat
  back : Nat
  start : Nat
  args : List Nat
  depth : Nat
  deriving DecidableEq, Repr

/-- A slow-path task (R266). `engine` is 64 or more for any engine. -/
structure SlowTask where
  typ : Nat
  engine : Nat
  tag : Nat
  arg : Nat
  /-- SAGE posted it; its outcome goes into SAGE's report (R426). -/
  sage : Bool
  deriving DecidableEq, Repr

/-- A task result (MEC_TASK_RESULT). -/
structure TaskResult where
  tag : Nat
  engine : Nat
  status : Nat
  result : Nat
  deriving DecidableEq, Repr

/-- A recomputation start as MEC hands it to an engine (R242): tree, rank, k, cadence, first frame governed, free MU, and A of R262. -/
structure Start where
  tree : Nat
  rank : Nat
  k : Nat
  cadence : Nat
  frame : Nat
  freeMu : Nat
  allocs : Nat
  /-- The report set it begins with was closed at this tick + 2.0 µs. -/
  tick : Nat
  /-- The join recomputation of R209. -/
  join : Bool
  deriving DecidableEq, Repr

/-- What an engine works on: nothing, a recomputation or a task with the status it has earned. -/
inductive Work where
  | none
  | recomp (st : Start)
  | task (t : SlowTask) (start status : Nat)
  deriving DecidableEq, Repr

/-- An assist or line result that is not yet written (R239, R240): the cycle it is due, its first register and its values. -/
structure Pending where
  due : Nat
  reg : Nat
  values : List Nat
  /-- A word in open privilege started it: it goes with a hook whose results are discarded (R261). -/
  open_ : Bool
  /-- A word of the open span started it: it goes with the span when that is aborted (R249). -/
  span : Bool
  /-- The hook that returned in the word that started it, with its arguments: MEC bounds what it writes (R259). -/
  bound : Option (Nat × List Nat)
  deriving DecidableEq, Repr

/-- A THYME engine (R238 to R249). Cycles are absolute: 187,500 × tick count + cycle of the frame. -/
structure Engine where
  /-- 0 idle, 1 recomputation, 2 task, 3 handler, 4 stopped. -/
  state : Nat
  pc : Nat
  /-- G1 to G61; a register not listed holds 0. -/
  regs : SMap Nat
  /-- Local scratch by byte address (R243). -/
  scratch : Memory
  /-- Flags Z, N, C, V in bits 3 to 0, INS_CODE, INS_INDEX and the code of the last signal taken (STATUS). -/
  flags : Nat
  insCode : Nat
  insIndex : Nat
  sigCode : Nat
  /-- The first cycle at which the next word can execute. -/
  ready : Nat
  work : Work
  /-- Recomputation starts not yet taken by IDLE, oldest first. -/
  starts : List Start
  /-- The handler that runs: signal code and saved address (R245). -/
  handler : Option (Nat × Nat)
  /-- Signals pending, bit per code. -/
  pend : Nat
  span : Option AtomSpan
  hook : Option HookCall
  /-- Cycles spent in open privilege in this recomputation (R262). -/
  openUsed : Nat
  /-- SPAN_CAP aborts of the span since it last closed or was skipped, in this work unit (R250). -/
  caps : Nat
  /-- Line transfers in flight, oldest first: the window line, and the scratch line that a fetch writes; none for an STL (R244). -/
  lines : List (Nat × Option Nat)
  /-- Window line held by each scratch line (R244). -/
  held : SMap Nat
  assists : List Pending
  /-- Barrier last named by BAR. -/
  bar : Nat
  /-- Tick at which a WAIT for the next tick began (COND 3). -/
  waitTick : Option Nat
  /-- A task result that waits for room (R266). -/
  result : Option TaskResult
  deriving DecidableEq, Repr

/-- What MEC holds for a recomputation of a tree, a join recomputation beside its cadence's having its own (R209): 16 accumulators, engines arrived at each barrier (bit per engine), the append cursor of R241 in MU,
the engines whose DONE is awaited, and its insertion queue, as (cycle of arrival, engine, entry words). -/
structure MecTree where
  acc : SMap Nat
  bars : SMap Nat
  cursor : Nat
  running : List Nat
  /-- The engines of the recomputation that began last, and whether DEADLINE_NEAR has been delivered in it. -/
  engines : List Nat
  near : Bool
  /-- The cycle at which the last of its engines issued DONE (R255). -/
  doneAt : Option Nat
  queue : List (Nat × Nat × List (Nat × Nat))
  deriving DecidableEq, Repr

/-- MEC's state that no register shows. Words are 128-bit numbers; a word not listed is the TRAP word (R237). -/
structure Mec where
  vendor : SMap Nat
  openA : SMap Nat
  openB : SMap Nat
  engines : SMap Engine
  trees : SMap MecTree
  /-- The map in force: tree of each engine (R233, R234). -/
  map : SMap Nat
  /-- A map change waits for its cadence tick (R234). -/
  mapDue : Bool
  tasks : List SlowTask
  results : List TaskResult
  deriving DecidableEq, Repr

/-- A frame inside the device (R298), by the header fields that the spec uses; `len` without FCS. Key numbers of frames are their
first cell. -/
structure Frame where
  /-- Upstream; otherwise downstream. -/
  up : Bool
  /-- Ingress source of BPM_ING_MAP: 0 to 15 uplink port, 16 to 47 tree port. -/
  src : Nat
  len : Nat
  dst : Nat
  smac : Nat
  tagged : Bool
  vid : Nat
  pcp : Nat
  /-- Of an upstream frame: transport port, terminal, key index in its header, and the superframe counter of the frame whose map
  granted its burst (R334). -/
  tport : Nat
  term : Nat
  key : Nat
  sfc : Nat
  flow : Nat
  cells : List Nat
  /-- Pool charged. -/
  pool : Nat
  /-- Marked drop-eligible (R313). -/
  red : Bool
  /-- VID and PCP of the tags beneath the outer one, outermost first (R278). -/
  inner : List (Nat × Nat)
  /-- Where the frame lies in its burst, and the counter block that CPH used to decrypt it (R334). -/
  pos : Nat
  icb : Option Nat
  /-- The owner tag of each copy, as the frame's descriptor holds them (R298). -/
  tags : List Nat
  /-- More than one copy was made (R308). -/
  copies : Bool
  /-- Stages passed with their STAMP32, oldest first, when SKIM follows the frame (R459). -/
  marks : Option (List (Nat × Nat))
  deriving DecidableEq, Repr

/-- A flow context (R278): words 0 to 2, the counters of words 3 to 6 and the bits of word 7. -/
structure FlowCtx where
  w0 : Nat
  w1 : Nat
  w2 : Nat
  usFrames : Nat
  usBytes : Nat
  dsFrames : Nat
  dsBytes : Nat
  hit : Bool
  stale : Bool
  idle : Bool
  deriving DecidableEq, Repr

/-- A bridge entry in use (R279); `bad` marks one that DRC reported uncorrectable (R287). -/
structure BEntry where
  mac : Nat
  bd : Nat
  static : Bool
  flow : Nat
  uplink : Nat
  dkind : Nat
  owner : Nat
  hit : Bool
  stale : Bool
  flap : Bool
  learnS : Nat
  moveS : Nat
  moves : Nat
  bad : Bool
  deriving DecidableEq, Repr

/-- A learn owner (R282): limit and mode in force, their shadow, and the live count. -/
structure Owner where
  limit : Nat
  mode : Nat
  count : Nat
  shadow : Option (Nat × Nat)
  deriving DecidableEq, Repr

/-- An entry of a partition's learning queue (R284, R293): a learn request, or a host operation on table 0 or 1 with its key and
words. -/
inductive LearnReq where
  | learn (mac bd owner flow uplink dkind : Nat)
  | host (table op key : Nat) (words : List Nat)
  deriving DecidableEq, Repr

/-- A partition beside its registers: learning queue; a flush as owner, first bucket not yet walked and tick of its start (R291);
CHURN's flow-context position and which of its two sweeps have ended in this pass (R288). -/
structure FwdPart where
  queue : List LearnReq
  flush : Option (Nat × Nat × Nat)
  churnFlow : Nat
  bucketsDone : Bool
  flowsDone : Bool
  deriving DecidableEq, Repr

/-- FWD's state that no register shows. -/
structure Fwd where
  /-- Flow contexts by flow index; a context not listed is all zero. -/
  flows : SMap FlowCtx
  /-- Bridge entries by 2^22 × partition + slot; a slot not listed is empty. -/
  bridge : SMap BEntry
  /-- Bridge domains as the words of R280, by number. -/
  domains : SMap Nat
  /-- VLAN map by 4,096 × uplink port + VID, port classes by 65,536 × tree + transport port, PCP maps by 16 × partition + map (R281). -/
  vlans : SMap Nat
  pclass : SMap Nat
  pcpMaps : SMap Nat
  owners : SMap Owner
  parts : SMap FwdPart
  /-- Writes of tables 3, 4, 5 and 7 that wait for the next tick (R292): table, key, word. -/
  waiting : List (Nat × Nat × Nat)
  /-- Frames in the ingress stage, oldest first (R28). -/
  ingress : List Nat
  /-- Lookups and misses of the bridge cache and the flow cache in this second (FWD_CACHE_STAT). -/
  brLook : Nat
  brMiss : Nat
  flLook : Nat
  flMiss : Nat
  /-- Lines of the bridge cache and of the flow cache by set, the one last used first: storage keys of bridge entries, and flow indices (R277). -/
  brCache : SMap (List Nat)
  flCache : SMap (List Nat)
  /-- What DRAM still holds of cached entries and contexts whose HIT or counters the cache has advanced (R277). -/
  brOld : SMap BEntry
  flOld : SMap FlowCtx
  /-- Entries due for removal whose HIT the latest lookup has set: the removal may fall in the lookup's own slot (R294). -/
  saved : List Nat
  deriving DecidableEq, Repr

/-- A downstream queue (R312, R314): words 0 and 1 of its table entry, counters, frames as (first cell, flow), depth in cells and
tokens in bytes. -/
structure TQueue where
  w0 : Nat
  w1 : Nat
  enqBytes : Nat
  stopFrames : Nat
  frames : List (Nat × Nat)
  depth : Nat
  tokens : Int
  deriving DecidableEq, Repr

/-- A terminal node (R314): its two words, its CIR and PIR buckets, and the queue in turn with frames left, by PRIO (R315). -/
structure TNode where
  w0 : Nat
  w1 : Nat
  cir : Int
  pir : Int
  qturn : SMap (Nat × Nat)
  deriving DecidableEq, Repr

/-- A tree node: its word and its bucket, the weighted round robin of R315 by pass (terminal in turn, and frames left), and the bytes of a
frame that runs on into the next downstream frame. -/
structure TTree where
  w0 : Nat
  tokens : Int
  turn : SMap (Nat × Nat)
  carry : Nat
  deriving DecidableEq, Repr

/-- A policer (R313): its two words and the buckets of RFC 2698 in bytes. -/
structure Policer where
  w0 : Nat
  w1 : Nat
  tc : Nat
  tp : Nat
  deriving DecidableEq, Repr

/-- An upstream class queue (R318): its word, frames as (first cell, owner tag), and its deficit. -/
structure ClassQ where
  w0 : Nat
  frames : List (Nat × Nat)
  deficit : Nat
  deriving DecidableEq, Repr

/-- A frame dequeued for a tree's next downstream frame (R315): first cell, flow and owner tag, the counter block it is encrypted from, and
whether its encryption is complete. -/
structure OutFrame where
  id : Nat
  flow : Nat
  tag : Nat
  /-- The pass of R315 that dequeued it. -/
  pass : Nat
  icb : Option Nat
  done : Bool
  deriving DecidableEq, Repr

/-- TMG's state that no register shows. -/
structure Tmg where
  queues : SMap TQueue
  nodes : SMap TNode
  trees : SMap TTree
  policers : SMap Policer
  classes : SMap ClassQ
  /-- Shadow entries of tables 0 to 2 by half: table, index, words (R317). -/
  shadow : SMap (List (Nat × Nat × List Nat))
  /-- Writes of tables 3 and 4 that wait for the next tick. -/
  waiting : List (Nat × Nat × List Nat)
  /-- Frames dequeued for each tree's next downstream frame, in their order. -/
  out : SMap (List OutFrame)
  /-- Class of the port whose turn it is in deficit round robin, by port. -/
  drr : SMap Nat
  /-- The half that a write reached last, whose shadow entries PENDING counts. -/
  lastHalf : Nat
  deriving DecidableEq, Repr

/-- The metadata of an allocated cell (R298). -/
structure CellMeta where
  next : Nat
  owners : Nat
  last : Nat
  lastPend : Bool
  pool : Nat
  deriving DecidableEq, Repr

/-- BPM's state that no register shows. -/
structure Bpm where
  /-- Cells that are allocated; a cell not listed is free (R300). -/
  cells : SMap CellMeta
  /-- Ring entries that differ from their own number (R301). -/
  ring : SMap Nat
  /-- Native mode (R301): free cells in the refill buffers, at most 1,024. -/
  refill : List Nat
  /-- Free cells of the bitmap below `mark`, in rising order. -/
  loose : List Nat
  /-- From this cell on every cell is in the bitmap, free. -/
  mark : Nat
  /-- Received frames that wait for cells, in order of arrival, with the ticks of their arrival, and those left of the cycle whose requests are being
  served, in their order (R300, R303). -/
  arriving : List (Nat × Frame)
  turn : List Frame
  /-- Frames that hold cells, by first cell. -/
  frames : SMap Frame
  /-- Frees that TMG owes: first cell and owner tag (R310). -/
  owed : List (Nat × Nat)
  /-- WARN, THROTTLE and STOP of each pool as they stood at its latest charge (R305). -/
  thr : SMap (Nat × Nat × Nat)
  /-- Cells freed in the cycle under way, which an allocation of the same cycle does not see (R300, R307). -/
  freed : List Nat
  /-- The ingress source that is first in the rotating order (R300). -/
  first : Nat
  deriving DecidableEq, Repr

/-- A frame as an uplink port sends it, by the header fields that the spec uses: addresses, outer VLAN tag, length, and the tags beneath. -/
structure TxHeader where
  dst : Nat
  smac : Nat
  tagged : Bool
  vid : Nat
  pcp : Nat
  len : Nat
  inner : List (Nat × Nat)
  deriving DecidableEq, Repr

/-- A received frame that an injected reorder holds back, by where it goes (R432, R466): to FWD, to the host receive path with its KIND and
bytes, or nowhere but to a count. -/
inductive HeldRx where
  | forward (f : Frame)
  | host (kind : Nat) (bytes : List Nat)
  | counted
  deriving DecidableEq, Repr

/-- An uplink port beside its registers: header of the last frame sent, and pause frames sent. -/
structure UplPort where
  lastTx : Option TxHeader
  pauseTx : Nat
  /-- The last pause frame sent: each priority that it enables, with its pause quanta (R320). -/
  lastPause : List (Nat × Nat)
  /-- Its bytes, without the FCS (R431). -/
  lastPauseFrame : List Nat
  /-- Received frames held back for a reorder, oldest first: later frames still to pass, and the frame (R466, R469). -/
  held : List (Nat × HeldRx)
  /-- Frames for the host that a lock has released: they reach the host path within the tick that locks (R469). -/
  released : List (Nat × List Nat)
  /-- Received frames that STANDBY does not forward: a count of the model's own (R28, R36). -/
  notForwarded : Nat
  deriving DecidableEq, Repr

/-- A key-store slot (R324, R339 to R344). Keys are 16 byte values. -/
structure KeySlot where
  /-- 0 EMPTY, 1 PENDING, 2 ACTIVE, 3 DRAINING. -/
  state : Nat
  key : Option (List Nat)
  staged : Option (List Nat)
  /-- The previous key, the superframe counter of the boundary that ended it, and the tick at which it ended (R340). -/
  prev : Option (List Nat × Nat × Nat)
  /-- Authentication slots: false WRAP, true DATA. -/
  data : Bool
  gen : Nat
  loadSfc : Nat
  useDs : Nat
  useUs : Nat
  /-- KEY_USE_WARN and KEY_USE_LIMIT raised, bit 0 and 1 downstream, bit 2 and 3 upstream (R337). -/
  raised : Nat
  /-- Blocks processed under the previous key, downstream and upstream (R348). -/
  prevDs : Nat
  prevUs : Nat
  /-- The erase also zeroizes the session record (R343). -/
  eraseSession : Bool
  deriving DecidableEq, Repr

/-- What CPH holds of a terminal: the session key with the integrity key and the KEK that derive from it (R326), its downstream key index,
a switch that waits for the next boundary, one that waits for the boundary after it, and the index asked for by Key_Control (R341, R342). -/
structure KeyTerm where
  session : Option (List Nat)
  mik : Option (List Nat)
  kek : Option (List Nat)
  dsIndex : Nat
  switch : Option Nat
  later : Option Nat
  rekey : Option Nat
  deriving DecidableEq, Repr

/-- What a cipher request is for (R328): payload or a host request, the integrity check of a management message, the key field of a Key_Report
(tree, terminal, key index, field), or the unwrapping of a host import. -/
inductive CipherJob where
  | data
  | check (msg : Option (Nat × Msg))
  | report (n term index : Nat) (field : List Nat) (win : Win)
  | unwrap
  deriving DecidableEq, Repr

/-- A cipher request (R328): priority 1 upstream payload, 2 downstream payload, 3 management messages, 4 key import, 5 host. -/
structure CipherReq where
  prio : Nat
  slot : Nat
  blocks : Nat
  /-- Superframe counter of a payload frame. -/
  sfc : Nat
  /-- Frame, flow and owner tag of a payload request. -/
  frame : Nat
  flow : Nat
  tag : Nat
  /-- Host request: MODE, DECRYPT, TAG, LEN, SRC, DST, IV and counter block. -/
  mode : Nat
  decrypt : Bool
  htag : Nat
  len : Nat
  src : Nat
  dst : Nat
  iv : Nat
  icb : Nat
  job : CipherJob
  deriving DecidableEq, Repr

/-- A request that holds a lane, with its own copy of the key (R328); `prev` when the copy is of the previous key, `gen` the slot's key
generation at the copy of the current one, `missed` when its frame has gone back to its queue (R157). -/
structure CipherRun where
  req : CipherReq
  key : List Nat
  prev : Bool
  guarded : Bool
  gen : Nat
  missed : Bool
  deriving DecidableEq, Repr

/-- The result of a host request (CPH_HREQ_RESULT, CPH_HREQ_OUT). -/
structure HostResult where
  tag : Nat
  code : Nat
  out : Nat
  deriving DecidableEq, Repr

/-- A host import that runs (R338). -/
structure KeyImport where
  typ : Nat
  slot : Nat
  wrap : Nat
  data : Bool
  deriving DecidableEq, Repr

/-- CPH's state that no register shows. -/
structure Cph where
  slots : SMap KeySlot
  terms : SMap KeyTerm
  /-- Requests waiting for a lane, oldest first, and those that hold one. -/
  waiting : List CipherReq
  running : List CipherRun
  results : List HostResult
  imp : Option KeyImport
  /-- SESSION and AUTH imports that take effect at the next tick (R339). -/
  due : List (KeyImport × List Nat)
  /-- Bindings in force as the words of CPH_BIND, with a DS_INDEX that waits for its boundary (R327, R341), and writes for the next tick, each with
  whether it came after payload of the boundary frame was dequeued. -/
  binds : SMap Nat
  bindWr : List (Nat × Nat × Bool)
  bindSwitch : SMap Nat
  /-- Host requests on each authentication slot in this tick (R335). -/
  seqs : SMap Nat
  /-- START_ID of a start whose journal is held in S0 (R335). -/
  startId : Option Nat
  /-- What RIND drew at step 3 (R335). -/
  drawnId : Nat
  /-- Trees of whose next frame, a boundary frame, payload has been dequeued (R341). -/
  cut : Nat
  /-- Lanes in BALANCED (R34): blocks asked for in this tick, the highest of a tick in this second, and 256 lanes in service. -/
  demand : Nat
  peakNow : Nat
  wide : Bool
  keyRaised : Bool
  deriving DecidableEq, Repr

/-- The restored regions of a save set (R63): the fields whose reset letters hold W, and the hidden parts of the regions. -/
structure SaveSet where
  /-- Every field with reset letter W, by key (R63, R478). -/
  regs : SMap Nat
  /-- Digest of GLOBAL and KEY_FMT in the image-identity region (R121). -/
  gkDigest : Nat
  /-- RATE_CLASS and PARTNER of each tree tile (R123). -/
  classes : SMap (Nat × Nat)
  /-- Identity of the running image (R63). -/
  imageId : Nat
  /-- Terminals with their drift-filter state and PM record, allocation tables by tree, and tree PM counters. -/
  terms : SMap Term
  allocs : SMap (SMap Alloc)
  treePm : SMap (SMap Nat)
  /-- GEN of each slot, and DS_INDEX with a pending switch by terminal. -/
  gens : SMap Nat
  keyTerms : SMap (Nat × Option Nat)
  /-- The index in force of each group binding, with the switch that waits for its boundary (R341). -/
  bindKeys : SMap (Nat × Option Nat)
  /-- Seconds of the time unit. -/
  seconds : Nat
  /-- Domain and peer identity. -/
  domain : Nat
  peer : Nat
  deriving DecidableEq, Repr

/-- One of the two save-set copies (R62, R64): header fields and content; `complete` stands for COMPLETE, `bodyOk` for MAGIC,
LENGTH and BODY_CRC together. -/
structure SaveCopy where
  complete : Bool
  bodyOk : Bool
  seq : Nat
  schema : Nat
  cause : Nat
  time : Nat
  content : Option SaveSet
  deriving DecidableEq, Repr

/-- One copy of the DRAM training values (R369, R370). -/
structure TrainCopy where
  valid : Bool
  seq : Nat
  time : Nat
  /-- Which training found the values: each record's free bytes are Config.trainValue of this number. -/
  run : Nat
  deriving DecidableEq, Repr

/-- The 32 MiB save store (R62). -/
structure Store where
  copyA : SaveCopy
  copyB : SaveCopy
  ctrlA : CtrlCopy
  ctrlB : CtrlCopy
  /-- Start areas whose header CRC checks, by number 0 to 15. -/
  areas : SMap StartArea
  trainA : TrainCopy
  trainB : TrainCopy
  /-- Valid superframe ceilings by tree (R159). -/
  ceilings : SMap Nat
  /-- The fault log by ring index, and the index of the next record (R62). -/
  faults : SMap FaultRec
  faultNext : Nat
  deriving DecidableEq, Repr

/-- The state of the SLM3250. -/
structure State where
  /-- Active copies of register fields by key; a field not listed holds its reset value (R7 to R9, R90). -/
  regs : SMap Nat
  /-- Shadow copies of grouped fields by key, as (commit group, value); a field not listed equals its active copy (R90). -/
  shadow : SMap (Nat × Nat)
  /-- Commands that wait, first in first out. -/
  pending : List Instr
  /-- The model's own: how many free values have been taken. -/
  fresh : Nat
  /-- Ticks since power-on reset release (R393), also read at TSU_TICK_CNT. -/
  ticks : Nat
  /-- The host interface. -/
  hostIf : HostIf
  /-- The event hub. -/
  hub : Hub
  /-- Received frames for the host, oldest first, at most 256 (R433). -/
  hrx : List HrxDesc
  /-- Posted host frames not yet sent, oldest first, at most 64 (R433). -/
  htx : List HtxPost
  /-- PWR. -/
  pwr : Pwr
  /-- CFG and the boot sequencer. -/
  cfg : Cfg
  /-- The save store (R62). -/
  store : Store
  /-- Tree ports by number; a port not listed is as TpaPort.initial. -/
  tpa : SMap TpaPort
  /-- PRT. -/
  prt : Prt
  /-- TSU. -/
  tsu : Tsu
  /-- DRC. -/
  drc : Drc
  /-- OBS. -/
  obs : Obs
  /-- Device DRAM by device address (R349). -/
  dram : Memory
  /-- The quad-SPI flash (R439). -/
  flash : Memory
  /-- Host memory that the device reads and writes by DMA (R434, R444). -/
  hostMem : Memory
  /-- Where GLOBAL places the DRAM regions (R351, R437). -/
  partn : Partition
  /-- Each tree's FRM, RNG and GNT; a tree not listed is as Tree.initial. -/
  trees : SMap Tree
  /-- Terminals by 512 × tree + ID; one not listed is as Term.initial. -/
  terms : SMap Term
  /-- STATE of each terminal as it reached GNT at the latest tick (R195), by 512 × tree + ID; FREE is not listed. -/
  gview : SMap Nat
  /-- MEC. -/
  mec : Mec
  /-- FWD. -/
  fwd : Fwd
  /-- TMG. -/
  tmg : Tmg
  /-- BPM and the frames that hold its cells. -/
  bpm : Bpm
  /-- Uplink ports by number. -/
  upl : SMap UplPort
  /-- CPH and the key store. -/
  cph : Cph
  /-- The save set of the save that is running: staged at its tick (R61), or captured from the quiesced device (R55, R60). -/
  capture : Option SaveSet
  /-- Tick of the latest one-second boundary (R17); 0 before the first. -/
  secondAt : Nat
  deriving DecidableEq, Repr

/-- No command of this model ends in a fault: the spec gives every command an effect, a refusal that it counts, or no
effect (safe: nothing stops). -/
inductive Fault where
  deriving DecidableEq, Repr

/-- Why the model has no meaning for a command. -/
inductive Refusal where
  /-- Raised by a dispatch arm whose command has no meaning yet; safe, nothing is claimed of it. No arm raises it now. -/
  | notModelled (mnemonic : String)
  deriving DecidableEq, Repr

/-- An MSI-X vector after the endpoint is reset: PCI Express sets its mask bit. -/
def Msix.initial : Msix := ⟨true, false, 0, 0, 0⟩
def HostIf.initial : HostIf := ⟨false, false, false, .none, .none, 0, 0, false, 0, false, 0, none⟩
def Hub.initial : Hub := ⟨[], 0, false, [], [], [], [], [], 0, 0, []⟩
def Pwr.initial : Pwr :=
  { phase := .unpowered, nextCause := 1, modeReq := none, cadence := 0, save := none, switchClosed := false, vinPathOpen := false,
    quiesced := false, suppress := false, disarmKey := false, disarmAt := 0, provKeys := 0, warnReady := true, sagReady := true,
    recoverOwed := false, belowTicks := 0, fromHolding := false, overRose := false, queue := [], accepted := [], begun := 0, opticsAt := none,
    deferRaised := false, waiting := none, chgTicks := 0, chgFaulted := false, resetWaits := false, leaving := .resume, rails := [] }
/-- The built-in policy of R109 for steps 5 and 6; the entries of the other steps act as HALT. -/
def Policy.builtIn : Policy :=
  ⟨3, 0, 0, 0, (List.range 14).map fun i =>
    if i = 4 ∨ i = 5 then ⟨i + 1, false, 3, 2, 2, 2, 3, 8, 0⟩ else ⟨i + 1, false, 3, 0, 3, 0, 3, 0, 0⟩⟩
def StepMem.clear : StepMem := ⟨0, 0, false, false⟩
def Slot.empty : Slot := ⟨none, false, false⟩
def Cfg.initial : Cfg :=
  { slotA := Slot.empty, slotB := Slot.empty, running := none, runSlot := 0, dsq := [], picked := none, pickedFlash := none, loads := [],
    tiles := [], uplinks := [], filler := 0, joinRecompute := 0, commits := [], linked := [], routed := false, run := none,
    policy := Policy.builtIn, mem := List.replicate 14 StepMem.clear, held := [], alt5 := false, area := none,
    fixedRaised := [], scan := false, disabled := 0 }
def CtrlCopy.none : CtrlCopy := ⟨false, 0, 0, 0, 0, 0, Option.none, List.replicate 14 StepMem.clear⟩
def SaveCopy.none : SaveCopy := ⟨false, false, 0, 0, 0, 0, Option.none⟩
def TrainCopy.none : TrainCopy := ⟨false, 0, 0, 0⟩
/-- A save store as the device leaves the factory: no valid copy of anything (assumption 6). -/
def Store.initial : Store :=
  { copyA := SaveCopy.none, copyB := SaveCopy.none, ctrlA := CtrlCopy.none, ctrlB := CtrlCopy.none, areas := [],
    trainA := TrainCopy.none, trainB := TrainCopy.none, ceilings := [], faults := [], faultNext := 0 }
def TpaPort.initial : TpaPort := ⟨0, 0, false, 0, [], 0, 0, none⟩
def HbPath.initial : HbPath := ⟨0, 0, []⟩
def Prt.initial : Prt :=
  { pathA := HbPath.initial, pathB := HbPath.initial, reqSeq := 0, reasons := 0, reqTicks := 0, txq := [], offered := none, verdict := none,
    appliedTick := false, bulk := false, revertAsked := false, arbReq := false, arbGnt := none, sageSeq := 0, healthy := true,
    unprot := 0, oxl := 0, startMode := none, sentTick := false, pages := [], ackLost := 0, engineFail := 0, laneFail := 0, sageTx := none }
def PtpPort.initial : PtpPort := ⟨none, 0, 0, false, 0, false, none, 0, 0, 0, none, none, none, none⟩
def Tsu.initial : Tsu :=
  { sec := 0, ns := 0, frac := 0, awaitStep := false, awaitOfs := false, stepped := false, since := 0, nextNs := 0, inLock := 0, pred := 0, outliers := [], backRun := 0, step := 0,
    accept := false, rebase := false, rebased := [], ptp := [], meas := [], freqs := [], holdAt := none, ppsSec := none, serNamed := none, ppsHave := false, marked := [],
    ppsOut := 0, ppsUntil := none, serSent := [], todReq := none, rtdRaised := false }
def PseudoCh.initial : PseudoCh := ⟨[], 0, false, [], [], [], [], [], []⟩
def Drc.initial : Drc := ⟨[], 0, 0, none, 0, none, none, false, 0, 0⟩
def Obs.initial : Obs := ⟨false, [], [], [], 0, 0, false, [], [], [], none⟩
def InjLink.initial : InjLink := ⟨0, false, 0, []⟩
/-- The partition of the vendor image (R351). -/
def Partition.vendor : Partition :=
  ⟨⟨0x280000000, 0x10000000⟩,
   [⟨0, 0x200000000⟩, ⟨0x200000000, 0x40000000⟩, ⟨0x240000000, 0x20000000⟩, ⟨0x260000000, 0x10000000⟩, ⟨0x270000000, 0x8000000⟩,
    ⟨0x278000000, 0x8000000⟩, ⟨0x290000000, 0x2000000⟩, ⟨0x292000000, 0x1000000⟩, ⟨0x293000000, 0x2000000⟩,
    ⟨0x295000000, 0x400000⟩, ⟨0x295400000, 0x400000⟩]⟩
def TermPm.zero : TermPm := ⟨0, 0, 0, 0, 0, 0⟩
def PmBank.zero : PmBank := ⟨[], []⟩
def Term.initial : Term :=
  { blkSum := 0, blkN := 0, outs := [], ins := 0, corr := none, corrBursts := 0, corrSends := 0, accepting := false, est := 0,
    saved := false, due := false, open_ := false, tries := 0, rtSends := 0, rtTicks := 0, registered := false, vFrames := 0, defects := 0, lob := 0, granted := false,
    confirmed := false, secBits := 0, secCorr := 0, secUncorr := 0, sdGood := 0, sfGood := 0, pm := TermPm.zero, lastMissed := 0,
    lastHdr := 0, zeroed := false, hostAcks := 0, cphAcks := 0 }
def Tree.initial : Tree :=
  { msgs := [], sel := [], rxq := [], pm := [], bankA := PmBank.zero, bankB := PmBank.zero, latching := false, sfcOn := false, sfcFrom := none,
    ceiling := 0, secMissed := 0, rateRaised := false, fecBits := 0, fecCw := 0, fecUncorr := 0, profAge := [],
    selected := false, frozen := false, late := false, handed := false, next := none, onAir := none, payload := 0, ready := [], mics := [], teqSub := 0, budget := 0, discWanted := false,
    discTicks := none, discHit := false, waiting := none, resps := [], pend := [], cmd := none, quiet := [], stbySum := 0, stbyN := 0,
    pageA := [], pageB := [], active := 0, alloc := [], allocWr := [], reports := [], dyn := [], dynFresh := false, dynJoin := false, pageErr := false,
    recomp := none, joinRec := none, hold := [], profSeen := [], wins := [], closed := none }
def Alloc.empty : Alloc := ⟨false, 0, 0, 0, 0, 0, 0, 0, 0, 0, false, 127⟩
def Engine.initial : Engine :=
  { state := 0, pc := 0, regs := [], scratch := [], flags := 0, insCode := 0, insIndex := 0, sigCode := 0, ready := 0,
    work := .none, starts := [], handler := none, pend := 0, span := none, hook := none, openUsed := 0, caps := 0, lines := [], held := [],
    assists := [], bar := 0, waitTick := none, result := none }
def MecTree.initial : MecTree := ⟨[], [], 0, [], [], false, none, []⟩
def Mec.initial : Mec := ⟨[], [], [], [], [], [], false, [], []⟩
def FlowCtx.empty : FlowCtx := ⟨0, 0, 0, 0, 0, 0, 0, false, false, false⟩
def Owner.initial : Owner := ⟨0, 0, 0, none⟩
def FwdPart.initial : FwdPart := ⟨[], none, 0, false, false⟩
def Fwd.initial : Fwd :=
  { flows := [], bridge := [], domains := [], vlans := [], pclass := [], pcpMaps := [], owners := [], parts := [], waiting := [],
    ingress := [], brLook := 0, brMiss := 0, flLook := 0, flMiss := 0, brCache := [], flCache := [], brOld := [], flOld := [], saved := [] }
def TQueue.initial : TQueue := ⟨0, 0, 0, 0, [], 0, 0⟩
def TNode.initial : TNode := ⟨0, 0, 0, 0, []⟩
def TTree.initial : TTree := ⟨0, 0, [], 0⟩
def Policer.initial : Policer := ⟨0, 0, 0, 0⟩
def ClassQ.initial : ClassQ := ⟨0, [], 0⟩
def Tmg.initial : Tmg := ⟨[], [], [], [], [], [], [], [], [], 0⟩
def Bpm.initial : Bpm := ⟨[], [], [], [], 0, [], [], [], [], [], [], 0⟩
def UplPort.initial : UplPort := ⟨none, 0, [], [], [], [], 0⟩
def KeySlot.initial : KeySlot := ⟨0, none, none, none, false, 0, 0, 0, 0, 0, 0, 0, false⟩
def KeyTerm.initial : KeyTerm := ⟨none, none, none, 0, none, none, none⟩
def Cph.initial : Cph :=
  { slots := [], terms := [], waiting := [], running := [], results := [], imp := none, due := [], binds := [], bindWr := [],
    bindSwitch := [], seqs := [], startId := none, drawnId := 0, cut := 0, demand := 0, peakNow := 0, wide := true, keyRaised := false }

/-- Every part of the state as the release of power-on reset leaves it before the mode is taken (R375, R477, R478): each
register field at the reset value of its table, every queue empty. -/
def State.initial : State :=
  { regs := [],
    shadow := [],
    pending := [],
    fresh := 0,
    ticks := 0,
    hostIf := HostIf.initial,
    hub := Hub.initial,
    hrx := [],
    htx := [],
    pwr := Pwr.initial,
    cfg := Cfg.initial,
    store := Store.initial,
    tpa := [],
    prt := Prt.initial,
    tsu := Tsu.initial,
    drc := Drc.initial,
    obs := Obs.initial,
    dram := [],
    flash := [],
    hostMem := [],
    partn := Partition.vendor,
    trees := [],
    terms := [],
    gview := [],
    mec := Mec.initial,
    fwd := Fwd.initial,
    tmg := Tmg.initial,
    bpm := Bpm.initial,
    upl := [],
    cph := Cph.initial,
    capture := none,
    secondAt := 0 }

/-- The machine right after reset: power-on reset is released, the mode is STARTING with CAUSE 1 and step 1 begun (R39, R101, R105,
R477), and TSU_FREERUN raised by TSU's entry to FREERUN (R15, R381). Measurements that no tick has taken yet stand at 0 (assumption 2). -/
def State.reset : State :=
  { State.initial with
    regs := [((F.HIF_EVT_STAT_STAT 2).key, 32), (F.CFG_BOOT_STAT_STEP.key, 1), (F.CFG_BOOT_STAT_CAUSE.key, 1), ((F.CFG_BOOT_STEP_OUTCOME 1).key, 7),
      ((F.CFG_BOOT_STEP_ATTEMPTS 1).key, 1), (F.PWR_MODE_CUR.key, 1)]
    hub := { Hub.initial with early := [(69, true)] }
    pwr := { Pwr.initial with phase := .running }
    store := { Store.initial with faults := [(0, ⟨69, 0, none⟩)], faultNext := 1 }
    cfg := { Cfg.initial with
      run := some ⟨1, false, 1, false⟩
      held := [{ kind := 1, step := 1, attempt := 1, path := 0, outcome := 0, alt := 0, detail := 0, uptime := 0, mask := 0, arg := 0,
                 whole := true }] } }

end Sys2Proof.Machine
end

