-- ==== Sys2Proof/Machine/Ops.lean ====
section
/-! DEFINITION. Machine/Ops.lean: the named operations over the state that every block shares: reading and writing register
fields (R7 to R9, R90), free instants (R392), and raising an event through the hub (R20, R441 to R450). -/
namespace Sys2Proof.Machine

/-- What a command answers. -/
abbrev Out := Host.Outcome State Fault Refusal

/-- 1 for true, 0 for false, as a register bit. -/
def bit (b : Bool) : Nat := if b then 1 else 0

/-- Bit `i` of a number. -/
def hasBit (v i : Nat) : Bool := v.testBit i

/-- A number with bit `i` set. -/
def withBit (v i : Nat) : Nat := v ||| (1 <<< i)

/-- A number with bit `i` cleared. -/
def noBit (v i : Nat) : Nat := if v.testBit i then v - 2 ^ i else v

/-- Bits `lo` to `lo + w - 1` of a number. -/
def slice (v lo w : Nat) : Nat := v / 2 ^ lo % 2 ^ w

/-- A number kept between two limits: values outside act as the nearer one. -/
def clampTo (lo hi v : Nat) : Nat := if v < lo then lo else if hi < v then hi else v

/-- A `w`-bit number read as two's complement. -/
def toSigned (w v : Nat) : Int := if v % 2 ^ w < 2 ^ (w - 1) then (v % 2 ^ w : Nat) else (v % 2 ^ w : Nat) - (2 ^ w : Nat)

/-- The low `w` bits of an integer's two's complement. -/
def ofSigned (w : Nat) (i : Int) : Nat := (i % (2 ^ w : Nat)).toNat

/-- `a` lies ahead of `b` by 1 to 2^(w-1) - 1, taking the signed `w`-bit difference (R64, R92). -/
def aheadOf (w a b : Nat) : Bool :=
  let d := (a + 2 ^ w - b % 2 ^ w) % 2 ^ w
  decide (0 < d) && decide (d < 2 ^ (w - 1))

/-- `a` lies behind `b`, taking the signed `w`-bit difference (R409). -/
def behind (w a b : Nat) : Bool := decide (2 ^ (w - 1) ≤ (a + 2 ^ w - b % 2 ^ w) % 2 ^ w)

/-! Registers. -/

/-- The active value of a field: what every block reads (R90). -/
def State.rd (s : State) (f : Fld) : Nat := SMap.getD s.regs f.key f.rst

/-- Lists a field's value in a register file, where a field at its reset value is not listed. -/
def putFld (f : Fld) (v : Nat) (m : SMap Nat) : SMap Nat := if v = f.rst then SMap.del m f.key else SMap.put m f.key v

/-- Gives a field's active copy a value, cut to its width. -/
def State.wr (f : Fld) (v : Nat) (s : State) : State := { s with regs := putFld f (v % 2 ^ f.width) s.regs }

/-- The value that a host read of a grouped field returns: the shadow copy (R90). -/
def State.rdShadow (s : State) (f : Fld) : Nat :=
  match SMap.find? s.shadow f.key with
  | some e => e.2
  | none => s.rd f

/-- Gives a grouped field's shadow copy a value (R90). -/
def State.wrShadow (g : Nat) (f : Fld) (v : Nat) (s : State) : State :=
  { s with shadow := SMap.put s.shadow f.key (g, v % 2 ^ f.width) }

/-- The field reads 1. -/
def State.on (s : State) (f : Fld) : Bool := s.rd f == 1

/-- Adds to a field that saturates. -/
def State.sat (f : Fld) (n : Nat) (s : State) : State := s.wr f (min (s.rd f + n) (2 ^ f.width - 1))

/-- Adds to a field that wraps. -/
def State.wrap (f : Fld) (n : Nat) (s : State) : State := s.wr f (s.rd f + n)

/-- The indexes below `n` at which an array field, whose reset value is 0, holds a value other than 0, in ascending order.
`stride` is the array's stride in bytes and `f0` its first field. -/
def State.armed (s : State) (f0 : Fld) (stride n : Nat) : List Nat :=
  s.regs.filterMap fun e =>
    let d := e.1 - f0.key
    if f0.key ≤ e.1 ∧ d % (stride * 64) = 0 ∧ d / (stride * 64) < n ∧ e.2 ≠ 0 then some (d / (stride * 64)) else none

/-- The modes of R31. -/
def mAsleep : Nat := 0
def mStarting : Nat := 1
def mPeak : Nat := 2
def mBalanced : Nat := 3
def mLean : Nat := 4
def mStandby : Nat := 5
def mHolding : Nat := 6
def mProving : Nat := 7

/-- The current mode (R31). -/
def State.mode (s : State) : Nat := s.rd F.PWR_MODE_CUR

/-- PEAK, BALANCED or LEAN. -/
def isService (m : Nat) : Bool := m == mPeak || m == mBalanced || m == mLean

/-- The device is powered and its power-on reset is released. -/
def State.awake (s : State) : Bool := s.pwr.phase == .running

/-- Tree ticks run: every mode but ASLEEP (R31). -/
def State.ticking (s : State) : Bool := s.awake && s.mode != mAsleep

/-- The blocks beside PWR work: neither ASLEEP nor HOLDING, in which only the save runs (R31, R32, R55). -/
def State.works (s : State) : Bool := s.ticking && s.mode != mHolding && !s.pwr.quiesced

/-! Instants. The model knows the tick, and the instant inside a frame is a free value (assumption 4). -/

/-- TOD_OFS in picoseconds (R376). -/
def State.todOfsPs (s : State) : Int := toSigned 64 (s.rd F.TSU_TOD_OFS_OFS_PS)

/-- The time unit at the latest tick, in nanoseconds, and with its 40 bits of fraction (R375). -/
def State.unitNs (s : State) : Nat := s.tsu.sec * 1000000000 + s.tsu.ns
def State.unitFine (s : State) : Nat := s.unitNs * 2 ^ 40 + s.tsu.frac
/-- The time unit at the next tick, and the nanoseconds of the tick interval: 125,000, or up to 250,000 with the step of R377 in it. -/
def State.nextUnit (s : State) : Nat := if s.tsu.stepped then s.tsu.nextNs else s.unitNs + 125000
def State.frameNs (s : State) : Nat := if s.tsu.stepped then s.tsu.since + (s.tsu.nextNs - s.unitNs) else 125000

/-- Nanoseconds of this instant after the tick that opens the frame: free, below the length of the interval. -/
def State.offsetNs (s : State) : Nat := Config.instant s.fresh % s.frameNs

/-- Picoseconds in units of 2^-40 ns. -/
def psFine (ps : Int) : Int := ps * 2 ^ 40 / 1000

/-- The time of day where the time unit is held, at the latest tick or at the step in its interval, in units of 2^-40 ns (R376, R377). -/
def State.todFine (s : State) : Int := (s.unitFine : Int) + psFine s.todOfsPs

/-- The time of day in nanoseconds at an offset from the latest tick (R376). -/
def State.todAt (s : State) (ofs : Nat) : Int := s.todFine / 2 ^ 40 + ofs - s.tsu.since

/-- STAMP32 of this instant (R392). -/
def State.stamp32 (s : State) : Nat := ofSigned 32 (s.todAt s.offsetNs)

/-- Nanoseconds since power-on reset release at this instant, for hold times. -/
def State.nowNs (s : State) : Nat := s.ticks * 125000 + s.offsetNs

/-- Takes one free value: the next one is another. -/
def State.draw (s : State) : State := { s with fresh := s.fresh + 1 }

/-- Low 16 bits of the tick count: the FRAME fields of the blocks (R393). -/
def State.frame16 (s : State) : Nat := s.ticks % 65536

/-! Counters of OBS that events and frames feed (R451 to R453). -/

/-- Adds to counter `i`; answers the state and whether an unchained counter wrapped with OVF_EVT = 1. A chained even counter
carries into its odd neighbour (R453). -/
def obsAdd (i n : Nat) (s : State) : State × Bool :=
  let v := s.rd (F.OBS_CNT_COUNT i) + n
  let s1 := s.wr (F.OBS_CNT_COUNT i) v
  if v < 2 ^ 48 then (s1, false)
  else if i % 2 = 0 ∧ s.on (F.OBS_CNT_SEL_CHAIN i) then
    let h := s.rd (F.OBS_CNT_COUNT (i + 1)) + v / 2 ^ 48
    let s2 := s1.wr (F.OBS_CNT_COUNT (i + 1)) h
    (if h < 2 ^ 48 then s2 else s2.wr (F.OBS_CNT_OVF (i + 1)) 1, false)
  else (s1.wr (F.OBS_CNT_OVF i) 1, s.on (F.OBS_CNT_SEL_OVF_EVT i))

/-- Counter `i` is the odd half of a chained pair and ignores its own selection (R453). -/
def obsChainedOdd (s : State) (i : Nat) : Bool := i % 2 == 1 && s.on (F.OBS_CNT_SEL_CHAIN (i - 1))

/-- Counters whose KIND is not 0, in ascending order. -/
def obsActive (s : State) : List Nat :=
  (s.armed (F.OBS_CNT_SEL_KIND 0) 16 512).filter fun i => !obsChainedOdd s i

/-- Counts occurrences of an event source in every counter of KIND 1 that names it (R451). -/
def obsEvent (id : Nat) (s : State) : State × Bool :=
  ((obsActive s).filter fun i => s.rd (F.OBS_CNT_SEL_KIND i) == 1 && s.rd (F.OBS_CNT_SEL_SOURCE i) == id).foldl
    (fun a i => let r := obsAdd i 1 a.1; (r.1, a.2 || r.2)) (s, false)

/-! The event hub. -/

/-- The hub's functions on its own state. -/
def State.modHub (g : Hub → Hub) (s : State) : State := { s with hub := g s.hub }

/-- Sets a source's status bit (R441). -/
def setStatus (id : Nat) (s : State) : State :=
  s.wr (F.HIF_EVT_STAT_STAT (id / 32)) (withBit (s.rd (F.HIF_EVT_STAT_STAT (id / 32))) (id % 32))

/-- The source is enabled (R441). -/
def State.evtEnabled (s : State) (id : Nat) : Bool := hasBit (s.rd (F.HIF_EVT_EN_EN (id / 32))) (id % 32)

/-- Adds a fault-log record (R20, R62); nothing is written with SCAN_N low (R494). -/
def faultLog (id stamp : Nat) (s : State) : State :=
  if s.cfg.scan then s
  else { s with store :=
    { s.store with
      faults := SMap.put s.store.faults s.store.faultNext ⟨id, stamp, none⟩
      faultNext := (s.store.faultNext + 1) % 262144 } }

/-- The endpoint can send a message: the link is up and bus mastering on. The model's endpoint has MSI-X enabled, its function unmasked and power
state D0 whenever it is up (assumption 58). -/
def State.msixLive (s : State) : Bool := s.hostIf.pcieLive && s.on F.HIF_PCIE_STAT_BUS_MASTER

/-- A vector's message: sent, or pending while the vector is masked or no message can be sent (R445). -/
def sendMsix (v : Nat) (s : State) : State :=
  let m := SMap.getD s.hub.msix v Msix.initial
  s.modHub fun h => { h with msix := SMap.put h.msix v (if m.masked || !s.msixLive then { m with pendingBit := true } else { m with sent := m.sent + 1 }) }

/-- Messages that waited for the endpoint go, but those of masked vectors (R445). -/
def sendPending (s : State) : State :=
  (s.hub.msix.filter fun e => e.2.pendingBit && !e.2.masked).foldl (fun a e =>
    if a.msixLive then
      sendMsix e.1 (a.modHub fun h => { h with msix := SMap.put h.msix e.1 { (SMap.getD h.msix e.1 Msix.initial) with pendingBit := false } })
    else a) s

/-- An occurrence opens or counts in the source's pending record (R442); with SEL_MINOR below 2, LAST and FLAGS are written as
zero when the record is written (R438). -/
def noteRecord (id : Nat) (logged reflex : Bool) (stamp now : Nat) (due : Bool) (l : List PRec) : List PRec :=
  if l.any fun r => r.src == id then
    l.map fun r =>
      if r.src == id then
        { r with count := min (r.count + 1) 65535, sat := r.sat || decide (65535 < r.count + 1), last := stamp,
                 reflex := r.reflex || reflex }
      else r
  else l ++ [⟨id, 1, false, stamp, stamp, logged, false, reflex, due, now⟩]

/-- Delivers an occurrence to records and messages under the source's enable bit and route (R441, R442, R445). -/
def deliver (id : Nat) (logged reflex : Bool) (stamp : Nat) (s : State) : State :=
  if s.evtEnabled id then
    if s.on (F.HIF_EVT_ROUTE_RECORD id) then
      s.modHub fun h => { h with recs := noteRecord id logged reflex stamp s.nowNs (s.rd (F.HIF_EVT_COAL_COAL_US (id / 32)) == 0) h.recs }
    else if s.on (F.HIF_EVT_ROUTE_MSIX id) then sendMsix (s.rd (F.HIF_EVT_ROUTE_VECTOR id)) s
    else s
  else s

/-- The part of an occurrence that involves no reflex rule: status, fault log, record or message, counters (R20, R105, R441,
R442). Answers the state and whether a counter asks for CNT_OVF. -/
def occur (e : Ev) (reflex : Bool) (s : State) : State × Bool :=
  let st := s.stamp32
  let s1 := setStatus e.id s.draw
  let s2 := if e.logged then faultLog e.id st s1 else s1
  let s3 := if s.cfg.routed then deliver e.id e.logged reflex st s2
            else s2.modHub fun h => { h with early := h.early ++ [(e.id, e.logged)] }
  obsEvent e.id s3

/-- The host API minor selected, at most 4 (R438). -/
def State.minor (s : State) : Nat := min (s.rd F.HIF_API_VER_SEL_MINOR) 4

/-- The qualifier of rule `r` holds now (R447); below minor 1, QUAL 3 to 7 never hold (R438). -/
def qualHolds (s : State) (r : Nat) : Bool :=
  let q := s.rd (F.HIF_RFX_RULE_QUAL r)
  if q = 0 then true
  else if q = 1 then s.rd F.PRT_STAT_ROLE == 1
  else if q = 2 then s.rd F.PRT_STAT_ROLE == 2
  else if s.minor = 0 then false
  else if q = 3 then s.on F.PRT_STAT_PATH_B
  else if q = 4 then !s.on F.PRT_STAT_PATH_A && !s.on F.PRT_STAT_PATH_B
  else if q = 5 then s.rd F.TSU_STAT_STATE == 2
  else if q = 6 then s.mode == s.rd (F.HIF_RFX_RULE_QMODE r)
  else s.mode != s.rd (F.HIF_RFX_RULE_QMODE r)

/-- HOLD_MS has passed since the rule's last firing (R448); below minor 1, HOLD_MS acts as 0 (R438). -/
def holdPassed (s : State) (r : Nat) : Bool :=
  let hold := if s.minor = 0 then 0 else s.rd (F.HIF_RFX_RULE_HOLD_MS r)
  match SMap.find? s.hub.lastFire r with
  | none => true
  | some t => decide (t + hold * 1000000 ≤ s.nowNs) || hold == 0

/-- An action and its argument that the table of R447 refuses. -/
def badRule (action arg : Nat) : Bool :=
  decide (5 < action) || (action == 4 && (arg % 8 < 2 || 5 < arg % 8))

/-- The valid rules that name a source and fire on an occurrence now, in ascending order (R447, R448). A rule whose source lies
in the HIF range never fires, and an unallocated source never occurs (R480). -/
def firingRules (s : State) (id : Nat) : List Nat :=
  if id < 8 then []
  else (s.armed (F.HIF_RFX_RULE_VALID 0) 8 256).filter fun r =>
    s.rd (F.HIF_RFX_RULE_SOURCE r) == id && !s.on (F.HIF_RFX_CNT_BAD r) && !s.on (F.HIF_RFX_CNT_SPENT r) &&
    qualHolds s r && holdPassed s r

/-- Books one firing: FIRED, LAST_FIRED, SPENT, the hold time, and its action for the next tick (R447, R448). -/
def bookFiring (r : Nat) (s : State) : State :=
  let s1 := (s.wrap (F.HIF_RFX_CNT_FIRED r) 1).wr F.HIF_RFX_STAT_LAST_FIRED r
  let s2 := if s.on (F.HIF_RFX_RULE_ONESHOT r) then s1.wr (F.HIF_RFX_CNT_SPENT r) 1 else s1
  s2.modHub fun h =>
    { h with
      lastFire := SMap.put h.lastFire r s.nowNs
      fired := h.fired ++ [⟨r, s.rd (F.HIF_RFX_RULE_ACTION r), s.rd (F.HIF_RFX_RULE_ARG r)⟩] }

/-- Raises an event: its occurrence, the rules that fire on it with their REFLEX_FIRED, and a counter overflow's CNT_OVF. The
number bounds how often a counter's overflow may raise CNT_OVF in turn; CNT_OVF is raised at most once per second (R452), so
the bound of `raise` is never met. -/
def raiseN : Nat → Ev → State → State
  | 0, _, s => s
  | n + 1, e, s =>
    let rules := firingRules s e.id
    let o := occur e (!rules.isEmpty) s
    let f := rules.foldl (fun a r => let q := occur E.HIF_REFLEX_FIRED false (bookFiring r a.1); (q.1, a.2 || q.2)) o
    if f.2 ∧ !f.1.hub.secRaised.contains E.OBS_CNT_OVF.id then
      raiseN n E.OBS_CNT_OVF (f.1.modHub fun h => { h with secRaised := E.OBS_CNT_OVF.id :: h.secRaised })
    else f.1

/-- Raises an event (R20, R441, R447, R448). -/
def raise (e : Ev) (s : State) : State := raiseN 3 e s

/-- Raises an event at most once per second: not again before the next one-second boundary (R17). -/
def raiseSec (e : Ev) (s : State) : State :=
  if s.hub.secRaised.contains e.id then s
  else raise e (s.modHub fun h => { h with secRaised := e.id :: h.secRaised })

/-- Does something when a condition holds. -/
def State.when (c : Bool) (g : State → State) (s : State) : State := if c then g s else s

/-- EVT_N is driven low: a source has status 1, enable 1 and PIN 1 (R445). -/
def State.evtN (s : State) : Bool :=
  (List.range 1536).any fun i =>
    hasBit (s.rd (F.HIF_EVT_STAT_STAT (i / 32))) (i % 32) && s.evtEnabled i && s.on (F.HIF_EVT_ROUTE_PIN i)

/-- Access to one block's structure. -/
def State.modPwr (g : Pwr → Pwr) (s : State) : State := { s with pwr := g s.pwr }
def State.modCfg (g : Cfg → Cfg) (s : State) : State := { s with cfg := g s.cfg }
def State.modStore (g : Store → Store) (s : State) : State := { s with store := g s.store }
def State.modPrt (g : Prt → Prt) (s : State) : State := { s with prt := g s.prt }
def State.modTsu (g : Tsu → Tsu) (s : State) : State := { s with tsu := g s.tsu }
def State.modDrc (g : Drc → Drc) (s : State) : State := { s with drc := g s.drc }
def State.modObs (g : Obs → Obs) (s : State) : State := { s with obs := g s.obs }
def State.modHost (g : HostIf → HostIf) (s : State) : State := { s with hostIf := g s.hostIf }

/-- A tree port. -/
def State.port (s : State) (p : Nat) : TpaPort := SMap.getD s.tpa p TpaPort.initial
def State.modPort (p : Nat) (g : TpaPort → TpaPort) (s : State) : State := { s with tpa := SMap.put s.tpa p (g (s.port p)) }

/-- A tree's structure. -/
def State.tree (s : State) (n : Nat) : Tree := SMap.getD s.trees n Tree.initial
def State.modTree (n : Nat) (g : Tree → Tree) (s : State) : State := { s with trees := SMap.put s.trees n (g (s.tree n)) }

/-- A terminal's structure. -/
def State.term (s : State) (n t : Nat) : Term := SMap.getD s.terms (512 * n + t) Term.initial
def State.modTerm (n t : Nat) (g : Term → Term) (s : State) : State :=
  { s with terms := SMap.put s.terms (512 * n + t) (g (s.term n t)) }

/-- Terminals of a tree that hold a structure, in ascending ID. -/
def State.termsOf (s : State) (n : Nat) : List Nat :=
  s.terms.filterMap fun e => if e.1 / 512 = n then some (e.1 % 512) else none

end Sys2Proof.Machine
end

