-- ==== Sys2Proof/Machine/Segments.lean ====
section
/-! DEFINITION. Machine/Segments.lean: DRAM segments and pseudo-channels (R349, R359 to R364): what is released, what waits to be zeroed,
and what that does to queued requests. -/
namespace Sys2Proof.Machine

/-- Bitwise difference: the bits of `a` that `b` does not have. -/
def without (a b : Nat) : Nat := a ^^^ (a &&& b)

/-- The pseudo-channel and the segment of a device address (R349). -/
def pcOf (a : Nat) : Nat := a / 256 % 32
def segOf (a : Nat) : Nat := a / 0x20000000 % 64

/-- A segment is retained again and waits to be zeroed; or it is released (R359, R361). -/
def State.unzeroedSeg (s : State) (g : Nat) : Bool := hasBit s.drc.unzeroed g
def State.releasedSeg (s : State) (g : Nat) : Bool := hasBit (s.rd F.DRC_SEG_STAT_RELEASED) g && !s.unzeroedSeg g

/-- Records an access in DRC_ECC_LAST (R350, R360). -/
def eccLast (kind r addr : Nat) (s : State) : State :=
  (((s.wr F.DRC_ECC_LAST_ADDR (addr / 64)).wr F.DRC_ECC_LAST_REQUESTER r).wr F.DRC_ECC_LAST_KIND kind).wr F.DRC_ECC_LAST_FRAME s.frame16

/-- An access to a released segment is refused: a read returns all ones, every word marked (R360). -/
def segFault (r addr : Nat) (read : Bool) (s : State) : State :=
  let s1 := eccLast 1 r addr (s.sat (F.DRC_ECC_STAT_SEG_FAULT (pcOf addr)) 1)
  raiseSec E.DRC_SEG_FAULT (s1.when read fun a => a.modDrc fun d => { d with returned := some (r, List.replicate 64 255, 255) })

/-- A pseudo-channel. -/
def State.pc (s : State) (p : Nat) : PseudoCh := SMap.getD s.drc.pcs p PseudoCh.initial
def State.modPc (p : Nat) (g : PseudoCh → PseudoCh) (s : State) : State :=
  s.modDrc fun d => { d with pcs := SMap.put d.pcs p (g (s.pc p)) }

/-- Shows a pseudo-channel's holds again: a request waits while its segment is to be zeroed, or the pseudo-channel is not active (R361, R364). -/
def rehold (p : Nat) (s : State) : State :=
  let away := s.rd (F.DRC_PC_STAT_STATE p) != 0
  s.modPc p fun c => { c with queue := c.queue.map fun q => { q with held := away || s.unzeroedSeg (segOf q.addr) } }
def reholdAll (s : State) : State := s.drc.pcs.foldl (fun a e => rehold e.1 a) s

/-- Segments that hold no region placed by GLOBAL, bit per segment (R359). -/
def Partition.free (p : Partition) : Nat :=
  (List.range 64).foldl (fun a i =>
    if (p.image :: p.others).any fun r => r.base < (i + 1) * 0x20000000 && i * 0x20000000 < r.base + r.len && r.len != 0
    then a else withBit a i) 0

/-- Requests that wait for a segment being released are accesses to a released segment: they are refused at its release (R359, R360). -/
def refuseQueued (bits : Nat) (s : State) : State :=
  s.drc.pcs.foldl (fun a e =>
    (e.2.queue.filter fun q => hasBit bits (segOf q.addr)).foldl (fun b q => segFault q.requester q.addr q.data.isNone b)
      (a.modPc e.1 fun c => { c with queue := c.queue.filter fun q => !hasBit bits (segOf q.addr) })) s

/-- Releases segments: they receive no refresh and no access, and their contents are lost (R359). -/
def releaseSegs (bits : Nat) (s : State) : State :=
  let r := s.wr F.DRC_SEG_STAT_RELEASED (s.rd F.DRC_SEG_STAT_RELEASED ||| bits)
  reholdAll (refuseQueued bits { r with dram := r.dram.filter fun e => !hasBit bits (e.1 / 0x20000000)
                                        drc := { r.drc with unzeroed := without r.drc.unzeroed bits } })

/-- Retains every segment outside `keep` again, to be zeroed before any access (R359, R361). -/
def retainSegs (keep : Nat) (s : State) : State :=
  reholdAll (s.modDrc fun d => { d with unzeroed := without (s.rd F.DRC_SEG_STAT_RELEASED) keep })

/-- What DRC does at the tick at which a mode takes effect: it releases segments on entering LEAN or STANDBY, and retains
every segment again on leaving them (R359, R361); idle self-refresh ends in the other modes (R362). -/
def drcOnMode (new : Nat) (s : State) : State :=
  if new = mLean ∨ new = mStandby then
    releaseSegs (without s.partn.free (s.rd F.DRC_SEG_KEEP_KEEP)) s
  else
    retainSegs 0 ((s.armed (F.DRC_PC_STAT_STATE 0) 0x20 32).foldl (fun a p =>
      if s.rd (F.DRC_PC_STAT_STATE p) = 2 then a.wr (F.DRC_PC_STAT_STATE p) 3
      else if s.rd (F.DRC_PC_STAT_STATE p) = 1 then a.wr (F.DRC_PC_STAT_STATE p) 0 else a) s)

end Sys2Proof.Machine
end

