-- ==== Sys2Proof/Machine/Modes.lean ====
section
/-! DEFINITION. Machine/Modes.lean: the operating modes (R31 to R45), the stagger queue (R48, R49) and the quiesce of R55, as the
operations that several blocks share. -/
namespace Sys2Proof.Machine

/-- VIN floor of a mode in millivolts; 4,500 where R32 gives none. -/
def floorMv (m : Nat) : Nat := if m = mPeak ∨ m = mProving then 7500 else if m = mBalanced then 5500 else 4500

/-- Power ceiling of a mode in units of 10 mW (R32). -/
def ceiling10mw (m : Nat) : Nat :=
  if m = mAsleep then 40 else if m = mStarting then 4000 else if m = mPeak ∨ m = mProving then 11800
  else if m = mBalanced then 8600 else if m = mLean then 5200 else if m = mStandby then 3400 else 950

/-- VIN is at or above the floor of a mode (R32). -/
def State.floorMet (s : State) (m : Nat) : Bool := decide (floorMv m ≤ s.rd F.PWR_VIN_VIN_MV)

/-- The highest-power service mode whose floor VIN meets (R42). Below 4.5 V VIN meets none, and the spec gives no value: LEAN, the lowest
(DEDUCED, assumption 60). -/
def State.highestOk (s : State) : Nat :=
  if s.floorMet mPeak then mPeak else if s.floorMet mBalanced then mBalanced else mLean

/-- F50-equivalents of the enabled ports, in fifths (R35). -/
def State.leanUnits (s : State) : Nat :=
  (s.armed (F.TPA_CTRL_ENABLE 0) 0x10000 32).foldl (fun a p => a + if s.on (F.TPA_STAT_RATE_CLASS p) then 5 else 1) 0

/-- The count of R35 is at most 16.0. -/
def State.leanFits (s : State) : Bool := decide (s.leanUnits ≤ 80)

/-- PROMOTE_TO, where a value other than 2, 3 or 4 acts as 3. -/
def State.promoteTo (s : State) : Nat :=
  let m := s.rd F.PWR_MODE_REQ_PROMOTE_TO
  if isService m then m else mBalanced

/-- CLASS 0 of the protection domain (R398). -/
def State.unprotected (s : State) : Bool := s.rd F.PRT_CFG_CLASS == 0

/-- Keeps the mode and records why (R43): REFUSE_CODE, REFUSED_TARGET and MODE_REFUSED. -/
def refuseMode (target code : Nat) (s : State) : State :=
  raise E.PWR_MODE_REFUSED ((s.wr F.PWR_MODE_STAT_REFUSED_TARGET target).wr F.PWR_MODE_STAT_REFUSE_CODE code)

/-- Drops register entries that a test on (address, lowest bit) selects: those fields return to their reset values. -/
def State.clearRegs (p : Nat → Nat → Bool) (s : State) : State :=
  { s with regs := s.regs.filter fun e => !p (e.1 / 64) (e.1 % 64) }

/-- Something is sent to the standby in this tick: MG advances once per tick (R413). -/
def mirrorMark (s : State) : State :=
  if s.prt.sentTick then s
  else (s.wrap F.PRT_MIRROR_STAT_MG 1).modPrt fun p => { p with sentTick := true }

/-- The frames for FWD, and those for the host, among frames held back. -/
def HeldRx.forwards (l : List HeldRx) : List Frame := l.filterMap fun h => match h with
  | .forward f => some f
  | _ => none
def HeldRx.hosts (l : List HeldRx) : List (Nat × List Nat) := l.filterMap fun h => match h with
  | .host k b => some (k, b)
  | _ => none

/-- Items held back on a link are released at once, in the order they were received: frames go on to their port, a beat is the last
one sent on its path, and a record reaches the standby (R469). -/
def releaseHeld (l : Nat) (s : State) : State :=
  let k := SMap.getD s.obs.links l InjLink.initial
  let s1 := s.modObs fun o => { o with links := SMap.put o.links l { k with held := [] } }
  if 32 ≤ l ∧ l < 48 then
    let u := SMap.getD s.upl (l - 32) UplPort.initial
    let h := u.held.map (·.2)
    { s1 with upl := SMap.put s1.upl (l - 32) { u with held := [], released := u.released ++ HeldRx.hosts h }
              bpm := { s1.bpm with arriving := s1.bpm.arriving ++ (HeldRx.forwards h).map fun f => (s.ticks, f) } }
  else
    match k.held.getLast? with
    | none => s1
    | some e =>
      if l = 48 then s1.modPrt fun p => { p with pathA := { p.pathA with sent := e.2 } }
      else if l = 49 then s1.modPrt fun p => { p with pathB := { p.pathB with sent := e.2 } }
      else mirrorMark s1

/-- Locks one link: its injection ends and nothing stays held back (R467, R469). -/
def lockLink (l : Nat) (s : State) : State :=
  releaseHeld l (((s.wr (F.OBS_INJ_STAT_UNLOCKED l) 0).wr (F.OBS_INJ_STAT_ARMED l) 0).wr (F.OBS_INJ_STAT_SECONDS l) 0)

/-- Locks every injection link and clears every OBS_INJ_CFG (R468); items held back are released at once (R469). -/
def lockInjection (s : State) : State :=
  let s1 := (List.range 51).foldl (fun a l => if (a.obs.links.any fun e => e.1 == l) || (a.upl.any fun e => e.1 + 32 == l)
    then releaseHeld l a else a) s
  let s2 := s1.clearRegs fun a l =>
    decide (0x3F60100 ≤ a) && decide (a < 0x3F60760) && ((a - 0x3F60100) % 0x20 == 0 || decide (l < 32))
  s2.modObs fun o => { o with links := [], injKey := none }

/-- In PROVING every link is unlocked (R467). -/
def unlockAll (s : State) : State := (List.range 51).foldl (fun a l => a.wr (F.OBS_INJ_STAT_UNLOCKED l) 1) s

/-- Every BEN goes inactive (R36, R55, R420). -/
def benOff (s : State) : State :=
  (s.armed (F.TPA_STAT_BEN 0) 0x10000 32).foldl (fun a p => (a.wr (F.TPA_STAT_BEN p) 0).modPort p fun t =>
    { t with lead := 0 }) s

/-- Ports that BEN_ASSERT or LEAD_END had taken beyond MEN fall back to MEN released. -/
def phasesDown (s : State) : State :=
  (s.armed (F.TPA_STAT_PHASE 0) 0x10000 32).foldl (fun a p =>
    if 1 < a.rd (F.TPA_STAT_PHASE p) then a.wr (F.TPA_STAT_PHASE p) 1 else a) s

/-- The forwarding caches change size with LEAN (R33); their lines do not survive it (assumption 65). -/
def emptyCaches (s : State) : State := { s with fwd := { s.fwd with brCache := [], flCache := [], brOld := [], flOld := [] } }

/-- The lanes that the mode puts in service: 16 in the modes that forward nothing; in BALANCED 128 or 256 (R33, R34, R36). -/
def State.lanes (s : State) : Nat :=
  if s.mode = mPeak ∨ s.mode = mProving then 256
  else if s.mode = mBalanced then (if s.on F.CPH_CFG_KEEP_ALL || s.cph.wide then 256 else 128)
  else if s.mode = mLean then 128
  else 16

/-- ACTIVE: a lane that leaves service counts until its request has finished (R329). -/
def showLanes (s : State) : State := s.wr F.CPH_LANE_STAT_ACTIVE (max s.lanes s.cph.running.length)

/-- The loopback of a port is in effect: its serializer is turned back to its own receiver, which runs in continuous mode at the downstream
rate, and BEN is inactive (R151). -/
def State.looped (s : State) (n : Nat) : Bool :=
  s.mode == mProving && s.rd (F.TPA_CTRL_LOOPBACK n) == 1 && !s.on (F.TPA_STAT_LB_BLOCKED n)

/-- BEN is inactive on a port whose loopback has effect (R132, R151). -/
def loopBen (n : Nat) (s : State) : State :=
  if s.looped n ∧ s.on (F.TPA_STAT_BEN n) then
    ((s.wr (F.TPA_STAT_BEN n) 0).wr (F.TPA_STAT_PHASE n) 1).modPort n fun t => { t with lead := 0 }
  else s

/-- RNG_STBY_OFS reads zero outside STANDBY (R193). -/
def offsetsOff (s : State) : State :=
  (s.armed (F.RNG_STBY_OFS_STBY_OFS 0) 0x10000 32).foldl (fun a n => a.wr (F.RNG_STBY_OFS_STBY_OFS n) 0)
    { s with trees := s.trees.map fun e => (e.1, { e.2 with stbySum := 0, stbyN := 0 }) }

/-- Takes a mode (R31): PREV, CHANGES, MODE_CHANGED, the cadence count, and what the change itself brings: BEN inactive in STANDBY
(R36), the injection lock on leaving PROVING or entering ASLEEP (R468), the lanes of R329, and the segments of R359. -/
def setMode (m : Nat) (s : State) : State :=
  let old := s.mode
  if m = old then s
  else
    let s1 := (((s.wr F.PWR_MODE_PREV old).wr F.PWR_MODE_CUR m).wrap F.PWR_MODE_CHANGES 1).modPwr fun p =>
      { p with cadence := 0, belowTicks := 0 }
    let s2 := raise E.PWR_MODE_CHANGED (s1.wr F.PWR_MODE_STAT_BELOW_FLOOR 0)
    let s3 := (s2.when (m == mStandby) fun t => phasesDown (benOff t)).when (old == mStandby) offsetsOff
    let s4 := showLanes (s3.when ((old == mLean) != (m == mLean)) emptyCaches)
    let s5 := (s4.when (old == mProving || m == mAsleep) lockInjection).when (m == mProving) fun a =>
      (a.armed (F.TPA_CTRL_LOOPBACK 0) 0x10000 32).foldl (fun b n => loopBen n b) (unlockAll a)
    if m = mAsleep then s5 else drcOnMode m s5

/-- Checks a request for one of the modes 2, 3, 4, 5 or 7 against R39, R37, the floors and R35; 0 when it can be met. In STARTING a role
other than ACTIVE allows none of them (R399). -/
def checkMode (s : State) (t : Nat) : Nat :=
  let m := s.mode
  if ¬ (isService t || t == mStandby || t == mProving) ∨ m = mAsleep ∨ m = mHolding ∨ m = mProving then 4
  else if m = mStarting then
    if s.pwr.waiting = none ∨ t = mStandby ∨ (¬ s.unprotected ∧ s.rd F.PRT_STAT_ROLE ≠ 1) then 4
    else if t = mProving ∧ ¬ s.unprotected then 5 else 0
  else if t = m then 4
  else if t = mProving then
    if ¬ s.unprotected then 5 else if ¬ s.floorMet t then 1 else 0
  else if t = mStandby then (if isService m then (if s.floorMet t then 0 else 1) else 4)
  else if m = mStandby ∧ ¬ s.unprotected then 4
  else if ¬ s.floorMet t then 1
  else if t = mLean ∧ ¬ s.leanFits then 2
  else 0

/-- An accepted request waits for its tick (R43); it replaces one that waits already. -/
def pendMode (rule : Option Nat) (t : Nat) (s : State) : State :=
  (s.wr F.PWR_MODE_PENDING 1).modPwr fun p => { p with modeReq := some ⟨t, rule⟩ }

/-- No request waits. -/
def noPending (s : State) : State := (s.wr F.PWR_MODE_PENDING 0).modPwr fun p => { p with modeReq := none }

/-- Submits a mode request from the host (`rule` none) or from a reflex rule (R41, R43): refused with its code, or accepted for the
first tick after. A request accepted while service enable waits names another mode from that tick on (R40). -/
def requestMode (rule : Option Nat) (t : Nat) (s : State) : State :=
  let c := checkMode s t
  if c ≠ 0 then refuseMode t c s else pendMode rule t s

/-- Drops a pending mode request, answering its target as refused with a code (R44, R45). -/
def dropRequest (code : Nat) (s : State) : State :=
  match s.pwr.modeReq with
  | none => s
  | some r => refuseMode r.target code (noPending s)

/-! The stagger (R48, R49). -/

/-- PER_TICK, where 0 and values above 4 act as 4. -/
def State.perTick (s : State) : Nat :=
  let v := s.rd F.PWR_STAGGER_CFG_PER_TICK
  if v = 0 ∨ 4 < v then 4 else v

/-- OPT_GROUP, where 0 and values above 4 act as 4. -/
def State.optGroup (s : State) : Nat :=
  let v := s.rd F.PWR_STAGGER_CFG_OPT_GROUP
  if v = 0 ∨ 4 < v then 4 else v

/-- Requests that wait: those that the next tick begins do not count (R49: of 48 tiles asked for in one cycle four begin and 44 wait). -/
def State.queued (s : State) : Nat := (s.pwr.queue.filter fun b => !s.pwr.accepted.contains b).length

/-- Shows the requests that wait. -/
def showQueue (s : State) : State :=
  let n := s.queued
  let s1 := s.wr F.PWR_STAGGER_STAT_QUEUED n
  if s1.rd F.PWR_STAGGER_STAT_QUEUED_MAX < n then s1.wr F.PWR_STAGGER_STAT_QUEUED_MAX n else s1

/-- A module enable. -/
def BringUp.isMen : BringUp → Bool
  | .men _ => true
  | _ => false

/-- The next tick can begin all of these requests: at most PER_TICK, and of module enables at most one optics group, once the gap after
the last has passed (R48). -/
def State.allBegin (s : State) (l : List BringUp) : Bool :=
  let mens := (l.filter BringUp.isMen).length
  decide (l.length ≤ s.perTick) && (mens == 0 || (decide (mens ≤ s.optGroup) && s.pwr.opticsAt.isNone))

/-- Asks for a bring-up (R49): a request for an entry already queued joins it; one that the next tick cannot begin waits, counts in
DEFERRED, and raises STAGGER_DEFER at most once per tick. -/
def bringUp (b : BringUp) (s : State) : State :=
  if s.pwr.queue.contains b then s
  else
    let s1 := s.modPwr fun p => { p with queue := p.queue ++ [b] }
    if s.allBegin s1.pwr.queue then s1.modPwr fun p => { p with accepted := p.accepted ++ [b] }
    else
      let s2 := showQueue (s1.sat F.PWR_STAGGER_STAT_DEFERRED 1)
      if s.pwr.deferRaised then s2
      else raise E.PWR_STAGGER_DEFER (s2.modPwr fun p => { p with deferRaised := true })

/-- Removes a port's entry from the stagger queue (R49, R150). -/
def dropBringUp (p : Nat) (s : State) : State :=
  showQueue (s.modPwr fun w => { w with queue := w.queue.filter fun b => b != .men p && b != .ben p })

/-- Asserts MEN of a port (R131). -/
def menOn (p : Nat) (s : State) : State :=
  ((s.wr (F.TPA_STAT_MEN p) 1).wr (F.TPA_STAT_PHASE p) 1).modPort p fun t => { t with menTicks := 0, downNext := false }

/-- Ports that the device may bring up now: enabled with a JOINED tile (R131, R150). -/
def State.portReady (s : State) (p : Nat) : Bool := s.on (F.TPA_CTRL_ENABLE p) && s.rd (F.CFG_TILE_STAT_STATE p) == 3

/-- The wait from MEN to BEN in ticks (TPA_BEN_CFG). -/
def State.benWait (s : State) (n : Nat) : Nat := 8 * max 1 (s.rd (F.TPA_BEN_CFG_BEN_WAIT_MS n))

/-- MEN of a port has been active for BEN_WAIT_MS (R132). -/
def State.menLong (s : State) (n : Nat) : Bool := s.on (F.TPA_STAT_MEN n) && decide (s.benWait n ≤ (s.port n).menTicks)

/-- Asks for BEN of every enabled port, EMPTY and ISOLATED tiles apart, whose wait after MEN has passed, in ascending port number (R43, R132, R417). -/
def releaseBens (s : State) : State :=
  ((List.range 32).filter fun p => s.on (F.TPA_CTRL_ENABLE p) && s.rd (F.CFG_TILE_STAT_STATE p) != 0 && s.rd (F.CFG_TILE_STAT_STATE p) != 4 && s.menLong p).foldl (fun a p => bringUp (.ben p) a) s

/-- Takes a port down: MEN and BEN inactive, its entry removed (R131, R132, R150). -/
def portDown (p : Nat) (s : State) : State :=
  let s1 := ((s.wr (F.TPA_STAT_MEN p) 0).wr (F.TPA_STAT_BEN p) 0).wr (F.TPA_STAT_PHASE p) 0
  dropBringUp p (s1.modPort p fun t => { t with menTicks := 0, lead := 0, downNext := false })

/-! The quiesce (R55, R61). -/

/-- The PCIe link goes down (R435): the device logs it and owes PCIE_LINK_DOWN. -/
def pcieDown (s : State) : State :=
  if s.hostIf.pcieLive then
    (s.sat F.HIF_PCIE_STAT_LINK_DOWNS 1).modHost fun h => { h with pcieLive := false, linkDownDue := true }
  else s

/-- The uplinks' transmitters go off: every link is down. -/
def uplinksOff (s : State) : State :=
  (s.armed (F.UPL_PORT_STAT_LINK 0) 0x1000 16).foldl (fun a u =>
    raise (E.UPL_LINK_DOWN u) ((a.wr (F.UPL_PORT_STAT_LINK u) 0).sat (F.UPL_PORT_STAT_LINK_DOWNS u) 1)) s

end Sys2Proof.Machine
end

