-- ==== Sys2Proof/Machine/Windows.lean ====
section
/-! DEFINITION. Machine/Windows.lean: the BAR0 registers whose content lives in a block's own structure: the grant pages (R215), the
control store (MEC_CS), and the slot and terminal that CPH's commands select (CPH_SLOT_STAT, CPH_TERM_STAT). -/
namespace Sys2Proof.Machine

/-! Page entries as host software reads them (R215). -/

def Entry.word0 (e : Entry) : Nat :=
  e.alloc + e.term * 2 ^ 12 + e.profile * 2 ^ 21 + bit e.newBurst * 2 ^ 23 + bit e.report * 2 ^ 24 + bit e.msg * 2 ^ 25 +
  e.kind * 2 ^ 26 + bit e.wide * 2 ^ 28 + e.start * 2 ^ 32
def Entry.word1 (e : Entry) : Nat := e.size + e.len * 2 ^ 16

/-- A word of a page: entries beyond the last read zero (GNT_PAGE). -/
def State.pageWord (s : State) (n pg e w : Nat) : Nat :=
  match (if pg = 0 then (s.tree n).pageA else (s.tree n).pageB)[e]? with
  | none => 0
  | some x => if w = 0 then x.word0 else x.word1

/-! The control store (R237). -/

/-- The TRAP word: CTL = 15 and every other field zero (R237). -/
def trapWord : Nat := 15 * 2 ^ 124

/-- A word of the open bank 0 or 1. -/
def State.openBank (s : State) (b : Nat) : SMap Nat := if b = 0 then s.mec.openA else s.mec.openB
/-- The active bank. -/
def State.bank (s : State) : Nat := s.rd F.MEC_OPEN_STAT_BANK

/-- A word of the store that the engines run (R237). -/
def State.csWord (s : State) (w : Nat) : Nat :=
  if w < 0xC000 then SMap.getD s.mec.vendor w trapWord else SMap.getD (s.openBank s.bank) w trapWord

/-- Puts a word into an open bank. -/
def setOpenWord (b w v : Nat) (m : Mec) : Mec :=
  if b = 0 then { m with openA := SMap.put m.openA w v } else { m with openB := SMap.put m.openB w v }

/-- The low and high halves of a control-store word as MEC_CS returns them: zero below 0xC000 outside PROVING. -/
def State.csHalf (s : State) (w h : Nat) : Nat :=
  if w < 0xC000 ∧ s.mode ≠ mProving then 0
  else if h = 0 then s.csWord w % 2 ^ 64 else s.csWord w / 2 ^ 64

/-- A write of one half of MEC_CS: words 0xC000 and above go to the shadow bank, other writes are ignored. -/
def writeCs (w h v : Nat) (s : State) : State :=
  if w < 0xC000 then s
  else
    let b := 1 - s.bank
    let old := SMap.getD (s.openBank b) w trapWord
    let new := if h = 0 then old / 2 ^ 64 * 2 ^ 64 + v else old % 2 ^ 64 + v * 2 ^ 64
    { s with mec := setOpenWord b w new s.mec }

/-- The words of CPH_SLOT_STAT for the slot that CPH_SLOT_CMD selects; one not in use is EMPTY with GEN 0. -/
def State.slotStat (s : State) (l : Nat) : Nat :=
  let k := s.rd F.CPH_SLOT_CMD_SLOT
  match SMap.find? s.cph.slots k with
  | none => if l = 5 then (if k < 32768 ∧ ((SMap.find? s.cph.terms (k / 2)).bind KeyTerm.session).isSome then 1 else 0) else 0
  | some x =>
    if l = 0 then x.state
    else if l = 2 then (if x.staged.isSome then 1 else 0)
    else if l = 3 then (if x.prev.isSome then 1 else 0)
    else if l = 4 then (if x.data then 1 else 0)
    else if l = 5 then (if k < 32768 ∧ ((SMap.find? s.cph.terms (k / 2)).bind KeyTerm.session).isSome then 1 else 0)
    else x.gen
/-- CPH_SLOT_USE of the selected slot. -/
def State.slotUse (s : State) (us : Bool) : Nat :=
  match SMap.find? s.cph.slots (s.rd F.CPH_SLOT_CMD_SLOT) with
  | none => 0
  | some x => if us then x.useUs else x.useDs
/-- CPH_TERM_STAT of the terminal that CPH_TERM_CMD names. -/
def State.termStat (s : State) (l : Nat) : Nat :=
  match SMap.find? s.cph.terms (s.rd F.CPH_TERM_CMD_TERM) with
  | none => 0
  | some x => if l = 0 then x.dsIndex else if l = 1 then (if x.switch.isSome then 1 else 0) else if x.rekey.isSome then 1 else 0

/-- What a read of a field returns where its content lives in a structure. -/
def State.window (s : State) (f : Fld) : Option Nat :=
  if 0x1C00000 ≤ f.addr ∧ f.addr < 0x2000000 ∧ 0x10000 ≤ (f.addr - 0x1C00000) % 0x20000 then
    let o := (f.addr - 0x1C00000) % 0x20000 - 0x10000
    some (s.pageWord ((f.addr - 0x1C00000) / 0x20000) (o / 0x8000) (o % 0x8000 / 16) (o % 16 / 8))
  else if 0x2000000 ≤ f.addr ∧ f.addr < 0x2100000 then some (s.csHalf ((f.addr - 0x2000000) / 16) (f.addr % 16 / 8))
  else if f.addr = 0x3A00308 then some (s.slotStat f.lsb)
  else if f.addr = 0x3A00310 then some (s.slotUse false)
  else if f.addr = 0x3A00318 then some (s.slotUse true)
  else if f.addr = 0x3A00404 then some (s.termStat f.lsb)
  else none

/-- A write of a field whose content lives in a structure; none where the field is an ordinary one. -/
def windowWrite (f : Fld) (v : Nat) (s : State) : Option State :=
  if 0x2000000 ≤ f.addr ∧ f.addr < 0x2100000 then some (writeCs ((f.addr - 0x2000000) / 16) (f.addr % 16 / 8) v s)
  else none

end Sys2Proof.Machine
end

