-- ==== Sys2Proof/Machine/Operands.lean ====
section
/-! DEFINITION. Machine/Operands.lean: how an access names and reaches a BAR0 register: address decoding (R471), access
widths and split accesses (R473 to R476), shadows and locks (R90, R93), tiles that are not JOINED (R435), access codes (R7, R8)
and the fields that a host API minor hides (R438). -/
namespace Sys2Proof.Machine

/-- The indexes of the array instance at an offset from the array's base, and the offset inside the instance. -/
def splitDims : List Dim → Nat → Option (List Nat × Nat)
  | [], off => some ([], off)
  | d :: ds, off =>
    let i := off / d.stride
    if i < d.lo ∨ d.hi < i then none
    else (splitDims ds (off % d.stride)).map fun r => (i :: r.1, r.2)

/-- The register of a row at a BAR0 address, with its indexes and the offset of the address inside it. -/
def Reg.at? (r : Reg) (addr : Nat) : Option (List Nat × Nat) :=
  if addr < r.base then none
  else match splitDims r.dims (addr - r.base) with
    | none => none
    | some (ix, o) => if o < r.bytes then some (ix, o) else none

/-- A register instance: its row, its indexes and its own address. -/
structure RegRef where
  reg : Reg
  idx : List Nat
  addr : Nat

/-- The register that holds a BAR0 address (R471); none where no register lies. -/
def regAt (addr : Nat) : Option RegRef :=
  regTable.findSome? fun r => (r.at? addr).map fun m => ⟨r, m.1, addr - m.2⟩

/-- The fields of a register instance. -/
def RegRef.fields (r : RegRef) : List Fld := r.reg.fields (r.idx.getD 0 0) (r.idx.getD 1 0) (r.idx.getD 2 0)

/-- The field stored under a key. -/
def fldOfKey (k : Nat) : Option Fld :=
  match regAt (k / 64) with
  | none => none
  | some r => r.fields.find? fun f => f.key == k

/-- First lane of uplink port `u` and its U tile's commit group (R428). -/
def State.uplinkGroup (s : State) (u : Nat) : Nat := 32 + s.rd (F.UPL_PORT_STAT_FIRST_LANE u) / 2

/-- The commit group of a register instance (R89, R428). -/
def State.groupOf (s : State) (r : RegRef) : Option Nat :=
  match r.reg.grp with
  | .none => none
  | .const g => some g
  | .plus g => some (g + r.idx.getD 0 0)
  | .uplink => some (s.uplinkGroup (r.idx.getD 0 0))

/-- The tree whose FRM, RNG or GNT page an address lies in (R471). -/
def treePage (addr : Nat) : Option Nat :=
  if 0x1400000 ≤ addr ∧ addr < 0x1600000 then some ((addr - 0x1400000) / 0x10000)
  else if 0x1800000 ≤ addr ∧ addr < 0x1A00000 then some ((addr - 0x1800000) / 0x10000)
  else if 0x1C00000 ≤ addr ∧ addr < 0x2000000 then some ((addr - 0x1C00000) / 0x20000)
  else none

/-- Offsets of the TPA registers whose every field has reset letter T: timing, thresholds, calibration and the last arrival stamp. -/
def tpaTileOffsets : List Nat := [0x10, 0x14, 0x18, 0x1C, 0x20, 0x30, 0x34]

/-- The tile that holds a register, by its address (R10, R435). The pages of FRM, RNG and GNT lie in their tree's tile; of TPA, MEC, FWD,
CPH and UPL the registers whose every field has reset letter T lie in the tile that R10 gives their block; every other register is held
in S0. DEDUCED (assumption 9). -/
def State.tileOf (s : State) (addr : Nat) : Option Nat :=
  match treePage addr with
  | some n => some n
  | none =>
    if 0x1000000 ≤ addr ∧ addr < 0x1200000 then
      (if tpaTileOffsets.contains (addr % 0x10000) then some ((addr - 0x1000000) / 0x10000) else none)
    else if 0x2000000 ≤ addr ∧ addr < 0x2100000 ∨ addr = F.MEC_OPEN_CFG_OPEN_CYC.addr ∨ 0x2100020 ≤ addr ∧ addr < 0x2100040 ∨
      0x2100100 ≤ addr ∧ addr < 0x2100200 then some 47
    else if 0x3000000 ≤ addr ∧ addr < 0x3000100 ∧ addr % 0x40 < 4 then some (40 + (addr - 0x3000000) / 0x40)
    else if addr = F.CPH_CFG_POSTURE.addr then some 46
    else if 0x3D00000 ≤ addr ∧ addr < 0x3D10000 ∧ addr % 0x1000 < 4 then
      (let u := (addr - 0x3D00000) / 0x1000
       if s.rd (F.UPL_PORT_STAT_WIDTH u) = 0 then none else some (s.uplinkGroup u))
    else none

/-- Tile `n` is JOINED (R82). -/
def State.joined (s : State) (n : Nat) : Bool := s.rd (F.CFG_TILE_STAT_STATE n) == 3

/-- Tile `n`'s resource works in full: it is JOINED, or it is JOINED still and only waits in QUEUED for its reload (R82, R83). -/
def State.inService (s : State) (n : Nat) : Bool :=
  s.joined n || (s.rd (F.CFG_TILE_STAT_STATE n) == 5 && (SMap.find? s.cfg.loads n).any Reload.live)

/-- Tile `n` carries its traffic: in service, or DRAINING what was begun before (R82, R83). -/
def State.carries (s : State) (n : Nat) : Bool :=
  s.inService n || (s.rd (F.CFG_TILE_STAT_STATE n) == 1 && (SMap.find? s.cfg.loads n).any Reload.live)

/-- The register at an address lies in a tile that is not JOINED (R435). -/
def State.tileAway (s : State) (addr : Nat) : Bool :=
  match s.tileOf addr with
  | none => false
  | some n => !s.joined n

/-- Counts an access to a tile that is not JOINED; the first in each second raises TILE_ACCESS (R435). -/
def tileAccess (s : State) : State := raiseSec E.HIF_TILE_ACCESS (s.sat F.HIF_ERR_STAT_TILE_ACC 1)

/-- The field belongs to a host API minor above the selected one (R438). -/
def State.hidden (s : State) (f : Fld) : Bool :=
  let m := s.minor
  if f.addr < 0x4000 then false
  else if f.addr < 0x4800 then m == 0 && f.lsb == 48
  else if 0x5000 ≤ f.addr ∧ f.addr < 0x5200 then decide (m < 4)
  else if 0x3D10000 ≤ f.addr ∧ f.addr < 0x3D10020 then decide (m < 3)
  else false

/-- Bits of the groups that hold a source with status 1 and enable 1 (HIF_EVT_SUM). -/
def State.evtSummary (s : State) : Nat :=
  (List.range 48).foldl (fun a g =>
    if s.rd (F.HIF_EVT_STAT_STAT g) &&& s.rd (F.HIF_EVT_EN_EN g) ≠ 0 then withBit a g else a) 0

/-- The value a host read of one field returns: WO and W1S fields read zero, hidden fields read zero, grouped fields read the
shadow, and the two computed registers their computed value. -/
def State.hostRd (s : State) (f : Fld) : Nat :=
  if s.hidden f then 0
  else match f.acc with
    | .wo => 0
    | .w1s => 0
    | _ =>
      if f = F.TSU_TICK_CNT_TICKS then s.ticks
      else if f = F.HIF_EVT_SUM_GROUPS then s.evtSummary
      else (s.window f).getD (s.rdShadow f)

/-- The word that a read of a register returns (R473): its fields in place, everything reserved zero (R7). -/
def State.readWord (s : State) (r : RegRef) : Nat :=
  r.fields.foldl (fun a f => a ||| (s.hostRd f <<< f.lsb)) 0

/-- A field lies in the half of a register that an access touches: 0 for the whole, 1 for the lower word, 2 for the upper. -/
def Fld.inPart (part : Nat) (f : Fld) : Bool :=
  part == 0 || (part == 1 && decide (f.lsb < 32)) || (part == 2 && decide (32 < f.lsb + f.width))

/-- The value that an RC field is left with (R8): zero, or what stands now for the highest and lowest since the last read. -/
def State.rcRest (s : State) (f : Fld) : Nat :=
  if f = F.BPM_FS_STAT_LOW_WATER then s.rd F.BPM_FS_STAT_FREE
  else if f = F.PWR_VIN_VIN_MIN_MV then s.rd F.PWR_VIN_VIN_MV
  else if f = F.PWR_STAGGER_STAT_QUEUED_MAX then s.rd F.PWR_STAGGER_STAT_QUEUED
  else if f = F.CPH_LANE_STAT_BUSY_PEAK then s.cph.running.length
  else if 0x3801000 ≤ f.addr ∧ f.addr < 0x3802000 ∧ f.addr % 64 = 0x10 ∧ f.lsb = 32 then s.rd { f with lsb := 0, acc := .ro }
  else 0

/-- The side effect of a read: RC fields of the part read clear (R8). -/
def clearRead (part : Nat) (r : RegRef) (s : State) : State :=
  (r.fields.filter fun f => f.acc == .rc && f.inPart part && !s.hidden f).foldl (fun a f => a.wr f (s.rcRest f)) s

/-- Commit group `g` is locked: a commit on it is pending, or it is a member of the open linked set (R93). -/
def State.locked (s : State) (g : Nat) : Bool :=
  s.cfg.commits.any (fun c => c.group == g) || s.cfg.linked.any (fun c => c.group == g)

/-- Records a commit refusal (R92, R93): group, code, count and COMMIT_REFUSED. -/
def refuseCommit (g code : Nat) (s : State) : State :=
  raise E.CFG_COMMIT_REFUSED
    (((s.wr F.CFG_COMMIT_STAT_GROUP g).wr F.CFG_COMMIT_STAT_CODE code).sat F.CFG_COMMIT_STAT_REFUSED 1)

/-- Values that a register's description says are ignored: PWR_HOLD_CFG outside its ranges. -/
def ignoredValue (f : Fld) (v : Nat) : Bool :=
  if f = F.PWR_HOLD_CFG_HOLD_OK_MV then decide (v < 12000) || decide (15500 < v)
  else if f = F.PWR_HOLD_CFG_CHG_TIMEOUT_MS then decide (v < 500) || decide (10000 < v)
  else false

/-- Writes one field from a written word under its access code (R7, R8, R90): RW and WO take the value, W1C clears the bits written 1,
and the others take nothing from this write. -/
def writeFld (g : Option Nat) (word : Nat) (f : Fld) (s : State) : State :=
  let v := slice word f.lsb f.width
  if s.hidden f then s
  else match f.acc with
    | .rw =>
      if ignoredValue f v then s
      else match windowWrite f v s with
        | some t => t
        | none =>
          match g with
          | none => s.wr f v
          | some g => s.wrShadow g f v
    | .w1c => s.wr f (without (s.rd f) v)
    | .wo => s.wr f v
    | _ => s

/-- A write of a register or of one word of it: refused and counted where the tile is not JOINED (R435), discarded with code 6 where
the group is locked (R93), otherwise written field by field. `word` is the value in place in the register. -/
def writeReg (part word : Nat) (r : RegRef) (s : State) : State :=
  if s.tileAway r.addr then tileAccess s
  else match s.groupOf r with
    | some g =>
      if s.locked g then refuseCommit g 6 s
      else (r.fields.filter fun f => f.inPart part).foldl (fun a f => writeFld (some g) word f a) s
    | none => (r.fields.filter fun f => f.inPart part).foldl (fun a f => writeFld none word f a) s

/-- What a path remembers. -/
def State.mem (s : State) : Path → PathMem
  | .pcie => s.hostIf.pcieMem
  | .i2c => s.hostIf.i2cMem

def State.setMem (p : Path) (m : PathMem) (s : State) : State :=
  match p with
  | .pcie => s.modHost fun h => { h with pcieMem := m }
  | .i2c => s.modHost fun h => { h with i2cMem := m }

/-- The path can reach BAR0 now: the PCIe link is up (R435), or, for I2C, the device is powered (R440). -/
def State.reach (s : State) : Path → Bool
  | .pcie => s.awake && s.hostIf.pcieLive
  | .i2c => s.awake

/-- The data that a read completion carries back. -/
def answer (p : Path) (v : Nat) (s : State) : State :=
  match p with
  | .pcie => s.modHost fun h => { h with lastRead := v }
  | .i2c => s.modHost fun h => { h with lastI2c := v }

end Sys2Proof.Machine
end

