-- ==== Sys2Proof/Machine/Views.lean ====
section
/-! DEFINITION. Machine/Views.lean: what other blocks use of OBS: histogram samples (R460, R461) and the slots of the view pages
(R463 to R465). -/
namespace Sys2Proof.Machine

/-- The bin of a sample (R461). -/
def histBin (unit v : Nat) : Nat :=
  let x := v / 2 ^ unit
  if x = 0 then 0
  else
    let p := Nat.log2 x
    let b := 1 + 4 * p + (4 * x / 2 ^ p - 4)
    if 62 < b then 63 else b

/-- Adds one to a bin; the first saturation of a unit raises HIST_SAT (R461). -/
def histAdd (h b : Nat) (s : State) : State :=
  let s1 := s.sat (F.OBS_HIST_BIN_COUNT h b) 1
  if s1.rd (F.OBS_HIST_BIN_COUNT h b) = 0xFFFFFFFF ∧ ¬ s.obs.histSat.contains h then
    raise E.OBS_HIST_SAT (s1.modObs fun o => { o with histSat := h :: o.histSat })
  else s1

/-- A sample of a stream reaches every unit that takes it (R460). -/
def histSample (src index v : Nat) (s : State) : State :=
  ((List.range 32).filter fun h => s.rd (F.OBS_HIST_CFG_SRC h) == src && s.rd (F.OBS_HIST_CFG_INDEX h) == index).foldl
    (fun a h => histAdd h (histBin (a.rd (F.OBS_HIST_CFG_UNIT_LOG2 h)) v) a) s

/-- A sample that falls in bin 63 whatever the unit (R460). -/
def histOver (src index : Nat) (s : State) : State :=
  ((List.range 32).filter fun h => s.rd (F.OBS_HIST_CFG_SRC h) == src && s.rd (F.OBS_HIST_CFG_INDEX h) == index).foldl
    (fun a h => histAdd h 63 a) s

/-- Zeroes a unit's bins (R461). -/
def histZero (h : Nat) (s : State) : State :=
  let s1 := { s with regs := s.regs.filter fun e => !(decide (0x3F50100 + 512 * h ≤ e.1 / 64) && decide (e.1 / 64 < 0x3F50200 + 512 * h)) }
  s1.modObs fun o => { o with histSat := o.histSat.filter fun x => x != h }

/-- The value of a BAR0 register through a view (R463): nothing clears; a register in a tile that is not JOINED reads zero. -/
def State.viewReg (s : State) (addr : Nat) : Nat :=
  match regAt addr with
  | none => 0
  | some r =>
    if s.tileAway r.addr then 0
    else if r.addr + 4 ≤ addr then s.readWord r / 2 ^ 32 else s.readWord r

/-- The value that a view slot returns: its bound value, zero when unbound or refused (R463, R464). -/
def State.viewSlot (s : State) (v k : Nat) : Nat :=
  let a := s.rd (F.OBS_VIEW_BIND_ARG v k)
  let kind := s.rd (F.OBS_VIEW_BIND_KIND v k)
  if s.on (F.OBS_VIEW_BIND_BAD v k) then 0
  else if kind = 1 then (if a < 512 then s.rd (F.OBS_CNT_COUNT a) else 0)
  else if kind = 2 then (if a < 512 then s.rd (F.OBS_SNAP_COUNT a) else 0)
  else if kind = 3 then (if slice a 8 6 < 32 then s.rd (F.OBS_HIST_BIN_COUNT (slice a 8 6) (slice a 0 6)) else 0)
  else if kind = 4 then s.viewReg a
  else 0

end Sys2Proof.Machine
end

