-- ==== Sys2Proof/Machine/Image.lean ====
section
/-! DEFINITION. Machine/Image.lean: the Salmir Structure Image in a byte memory (R67, R70 to R76), its verification (R77), and the
tile loads and reloads that read it (R80 to R85). -/
namespace Sys2Proof.Machine

/-- The silicon revision, as MIN_SI_REV is compared with it (R77, R504). -/
def siliconRev : Nat := 2

/-- Where image bytes come from: a memory and the address of byte 0. -/
structure ImgAt where
  mem : Memory
  base : Nat

def ImgAt.le (i : ImgAt) (off n : Nat) : Nat := i.mem.le (i.base + off) n
def ImgAt.bytes (i : ImgAt) (off n : Nat) : List Byte := i.mem.readBytes (i.base + off) n
/-- CRC-32 over a run of image bytes. -/
def ImgAt.crc (i : ImgAt) (off n : Nat) : Nat := crc32 ((i.bytes off n).map (·.toNat))

/-- Device address of image slot 0 or 1: two slots of 128 MiB at the start of the image store (R351, assumption 10). -/
def State.slotBase (s : State) (slot : Nat) : Nat := s.partn.image.base + slot * 0x8000000
/-- The image bytes in a slot. -/
def State.slotImg (s : State) (slot : Nat) : ImgAt := ⟨s.dram, s.slotBase slot⟩

/-- The section-table entries (R71). -/
def ImgAt.sects (i : ImgAt) : List Sect :=
  (List.range (i.le 12 2)).map fun k =>
    let o := i.le 44 4 + 32 * k
    ⟨i.le o 2, i.le (o + 2) 2, i.le (o + 4) 4, i.le (o + 8) 4, i.le (o + 12) 1, i.le (o + 13) 1, i.le (o + 14) 2, i.le (o + 16) 4⟩

/-- Sections of a type. -/
def ofType (t : Nat) (l : List Sect) : List Sect := l.filter fun x => x.typ == t

/-- The TILE section of a tile. -/
def tileSect (n : Nat) (l : List Sect) : Option Sect := l.find? fun x => x.typ == 0x10 && x.inst == n

/-- The tile descriptor at the head of a TILE section (R75). -/
def ImgAt.desc (i : ImgAt) (x : Sect) : TileDesc :=
  ⟨i.le x.off 1, i.le (x.off + 1) 1, i.le (x.off + 4) 4, (i.bytes (x.off + 12) 52).map (·.toNat)⟩

/-- Two sections overlap. -/
def overlap (a b : Sect) : Bool := decide (a.off < b.off + b.len) && decide (b.off < a.off + a.len)

/-- Some two sections of a list overlap. -/
def anyOverlap : List Sect → Bool
  | [] => false
  | x :: xs => xs.any (overlap x) || anyOverlap xs

/-- Every byte of a run is zero. -/
def ImgAt.zeros (i : ImgAt) (off n : Nat) : Bool := (i.bytes off n).all fun b => b == 0

/-- The rest of the header is as R70 lays it out: HDR_LEN, FLAGS (bit 0 for an open-partition section, the others zero), the zero bits of
BUILD_TIME, the reserved bytes, IMAGE_LEN at the end of the last section, and SIG_SECT naming a SIGNATURE section. -/
def headerOk (i : ImgAt) : Bool :=
  i.le 6 2 == 256 && i.le 14 2 == bit (!(ofType 6 i.sects).isEmpty) && i.zeros 34 2 && i.zeros 42 2 && i.zeros 52 12 && i.zeros 112 140 &&
  i.sects.foldl (fun m x => max m (x.off + x.len)) 0 == i.le 8 4 && ((i.sects[i.le 48 4]?).map Sect.typ) == some 0xFF

/-- A section-table entry is as R71 lays it out: SFLAGS has bit 0 alone, INSTANCE is 0xFFFF and the versions are zero outside TILE
sections, and the reserved bytes are zero. -/
def entryOk (i : ImgAt) (k : Nat) (x : Sect) : Bool :=
  decide (x.sflags < 2) && (x.typ == 0x10 || (x.inst == 0xFFFF && x.ifMin == 0 && x.ifMax == 0)) && i.zeros (i.le 44 4 + 32 * k + 20) 12

/-- Check 4 of R77: SECTION_COUNT in range, the table and every section inside IMAGE_LEN and behind the header, aligned and disjoint. DESIGN CHOICE
(assumption 61): the header and the entries that depart from R70 and R71 in a way that no row of R77 names, HDR_LEN and SIG_SECT
among them, get this check's code too. -/
def layoutOk (i : ImgAt) : Bool :=
  let n := i.le 12 2
  let len := i.le 8 4
  decide (1 ≤ n) && decide (n ≤ 128) && i.le 44 4 % 256 == 0 && decide (256 ≤ i.le 44 4) && decide (i.le 44 4 + 32 * n ≤ len) &&
  (i.sects.all fun x => x.off % 4096 == 0 && decide (256 ≤ x.off ∨ x.len = 0) && decide (x.off + x.len ≤ len) && decide (i.le 44 4 + 32 * n ≤ x.off ∨ x.off + x.len ≤ i.le 44 4)) &&
  !anyOverlap i.sects && headerOk i && (i.sects.zipIdx.all fun e => entryOk i e.2 e.1) &&
  ((ofType 0x0007 i.sects).all fun x => x.len == 6528)

/-- The required section types of R72. -/
def requiredTypes : List Nat := [1, 2, 3, 4, 5, 7, 8, 9, 0xA, 0xFF]

/-- Check 6 of R77: every required section exactly once, a TILE section at most once per tile, and one for M0 (R72, R73). DESIGN CHOICE
(assumption 61): R72 bounds the required and the TILE sections only; a second MICROCODE_OPEN section is refused here as duplicated, and a
section whose TYPE is none of R72's is accepted and ignored. -/
def sectionsOk (l : List Sect) : Bool :=
  (requiredTypes.all fun t => (ofType t l).length == 1) && decide ((ofType 6 l).length ≤ 1) &&
  (tileSect 47 l).isSome &&
  ((List.range 48).all fun n => decide (((ofType 0x10 l).filter fun x => x.inst == n).length ≤ 1))

/-- Type code that a tile index must carry (R75). -/
def tileType (n : Nat) : Nat :=
  if n < 32 then 1 else if n < 40 then 2 else if n < 44 then 3 else if n < 46 then 4 else if n < 47 then 5 else 6

/-- Largest TILE section of a type (R75). -/
def tileMax (t : Nat) : Nat :=
  if t = 2 then 0x200000 else if t = 3 ∨ t = 4 then 0x800000 else if t = 5 then 0x100000 else 0x400000

/-- Interface versions that S0 supports for a tile type (R98). -/
def s0Range (t : Nat) : Nat × Nat :=
  if t = 1 then (3, 5) else if t = 2 then (2, 3) else if t = 3 then (2, 4) else if t = 4 then (2, 3) else (1, 2)

/-- The highest version in both ranges (R97). -/
def agree (a b : Nat × Nat) : Option Nat :=
  let hi := min a.2 b.2
  if max a.1 b.1 ≤ hi then some hi else none

def TileDesc.p (d : TileDesc) (i : Nat) : Nat := d.param.getD i 0
def TileDesc.rateClass (d : TileDesc) : Nat := d.p 0
def TileDesc.partner (d : TileDesc) : Nat := d.p 1
def TileDesc.width (d : TileDesc) : Nat := d.p 0
def TileDesc.dsQueues (d : TileDesc) : Nat := ofLe ((List.range 4).map fun i => d.p (8 + i))
def TileDesc.maxTerms (d : TileDesc) : Nat := d.p 2 + 256 * d.p 3
def TileDesc.maxAllocs (d : TileDesc) : Nat := d.p 4 + 256 * d.p 5

/-- A number of `n` PARAM bytes, little-endian. -/
def TileDesc.num (d : TileDesc) (o n : Nat) : Nat := ofLe ((List.range n).map fun i => d.p (o + i))
/-- PARAM bytes from `o` to the end are zero. -/
def TileDesc.zeroFrom (d : TileDesc) (o : Nat) : Bool := (List.range (52 - o)).all fun i => d.p (o + i) == 0

/-- PARAM holds what its tile's type allows, with its unused bytes zero (R75, R236, R275, R311). -/
def TileDesc.paramOk (d : TileDesc) (n : Nat) : Bool :=
  if n < 32 then
    decide (d.rateClass ≤ 1) && decide (1 ≤ d.maxTerms) && decide (d.maxTerms ≤ 512) && decide (1 ≤ d.maxAllocs) &&
    decide (d.maxAllocs ≤ 4096) && d.dsQueues % 8 == 0 && d.num 6 2 == 0 && d.zeroFrom 12
  else if n < 40 then decide (d.width ≤ 4) && d.zeroFrom 1
  else if n < 44 then decide (16 ≤ d.p 0) && decide (d.p 0 ≤ 22) && (d.p 1 == 2 || d.p 1 == 4) && d.zeroFrom 14
  else if n < 46 then d.zeroFrom 8
  else if n < 47 then d.zeroFrom 0
  else
    decide (1 ≤ d.num 0 2) && decide (d.num 0 2 ≤ 49152) && decide (d.num 2 2 ≤ 16384) && decide (d.p 8 ≤ 12) && decide (d.p 9 < 16) &&
    decide (16 ≤ d.num 10 2) && decide (d.num 10 2 ≤ 1023) && d.zeroFrom 12

/-- DS_QUEUES summed over the trees from `a` below `b`, one without a TILE section counting 0 (R311). -/
def queueSum (m : SMap TileDesc) (a b : Nat) : Nat :=
  (m.filter fun e => decide (a ≤ e.1) && decide (e.1 < b)).foldl (fun x e => x + e.2.dsQueues) 0

/-- A partition's bridge region: BR_OFS in units of 64 KiB, and 2^BR_LOG2 × 32 bytes (R275). -/
def TileDesc.bridge (d : TileDesc) : Region := ⟨d.num 4 4 * 0x10000, 2 ^ (d.p 0 + 5)⟩

/-- Two regions share a byte. -/
def Region.meets (a b : Region) : Bool := decide (a.base < b.base + b.len) && decide (b.base < a.base + a.len)

/-- No two regions of a list share a byte. -/
def apartAll : List Region → Bool
  | [] => true
  | x :: xs => !(xs.any x.meets) && apartAll xs

/-- Length of the bridge table, the fifth region that GLOBAL places beside the image store (R351, assumption 11). -/
def Partition.bridgeLen (p : Partition) : Nat := (p.others.getD 4 ⟨0, 0⟩).len

/-- The structure rules of R76, R275 and R311 that look at a set of tile descriptors, given as a map from tile index, and at the bridge
table. DESIGN CHOICE (assumption 61): R76 speaks of a partner whose PARTNER does not name the tile back; one that the image omits stays
EMPTY (R73), and breaks no rule. -/
def tilesOk (g : Partition) (m : SMap TileDesc) : Bool :=
  let w := fun k => ((SMap.find? m k).map TileDesc.width).getD 0
  (m.all fun e =>
    let n := e.1
    let d := e.2
    if n < 32 then
      d.partner == 0xFF ||
        (d.partner == (n + 16) % 32 &&
          match SMap.find? m d.partner with
          | none => true
          | some q => q.partner == n && q.rateClass != d.rateClass)
    else if n < 40 then
      (d.width != 3 || (n % 2 == 0 && w (n + 1) == 4)) && (d.width != 4 || (n % 2 == 1 && w (n - 1) == 3))
    else if n < 44 then decide (d.bridge.base + d.bridge.len ≤ g.bridgeLen)
    else if n < 46 then
      d.num 0 4 == (if n = 44 then 0 else queueSum m 0 16) && d.num 4 4 == queueSum m (16 * (n - 44)) (16 * (n - 43))
    else true) &&
  apartAll ((m.filter fun e => decide (40 ≤ e.1) && decide (e.1 < 44)).map fun e => e.2.bridge) &&
  decide (queueSum m 0 32 ≤ 1048576)

/-- A TILE section is as R75 says and not too long; that of M0 has no body (R236). -/
def tileSectOk (i : ImgAt) (x : Sect) : Bool :=
  let d := i.desc x
  decide (x.inst ≤ 47) && d.typ == tileType x.inst && d.index == x.inst && i.le (x.off + 2) 1 == x.ifMin &&
  i.le (x.off + 3) 1 == x.ifMax && decide (x.len ≤ tileMax (tileType x.inst)) && decide (i.le (x.off + 8) 4 + 64 = x.len) &&
  (x.inst != 47 || i.le (x.off + 8) 4 == 0) && d.paramOk x.inst

/-- Descriptors of all TILE sections, by tile. -/
def ImgAt.tileMap (i : ImgAt) : SMap TileDesc :=
  (ofType 0x10 i.sects).foldl (fun m x => SMap.put m x.inst (i.desc x)) []

/-- Bytes of the one section of a type, empty when it is missing. -/
def ImgAt.section (i : ImgAt) (t : Nat) : List Byte :=
  match ofType t i.sects with
  | x :: _ => i.bytes x.off x.len
  | [] => []

/-- Advertised ranges that PROTECTION may narrow (R99): OXL, KAP and mirror schema. -/
def extRange (k : Nat) : Nat × Nat := if k = 2 then (1, 3) else (1, 2)

/-- The narrowed range of an external interface in a PROTECTION section; the layout is free (assumption 11). -/
def protRange (sec : List Byte) (k : Nat) : Nat × Nat := (Config.protField sec (16 + 2 * k), Config.protField sec (17 + 2 * k))

/-- The PROTECTION rules of R76 and R398. -/
def protOk (sec : List Byte) : Bool :=
  ([2, 3, 4].all fun k =>
    let r := protRange sec k
    decide (r.1 ≤ r.2) && decide ((extRange k).1 ≤ r.1) && decide (r.2 ≤ (extRange k).2)) &&
  (Config.protField sec 0 == 0 || Config.protField sec 2 != Config.protField sec 3)

/-- Sizes that the spec gives to regions, by number as State.region counts them (R61, R244, R298, R299); 0 for one that GLOBAL sizes. -/
def regionSizes : List Nat :=
  [0x200000000, 0x40000000, 0, 0x10000000, 0, 0x8000000, 0x2000000, 0x1000000, 0x2000000, 0x400000, 0x400000]

/-- The partition that a GLOBAL section describes; the layout is free (assumption 11). -/
def globalPartition (sec : List Byte) : Partition :=
  match (Config.globalRegions sec).map fun r => (⟨r.1, r.2⟩ : Region) with
  | r :: rs => ⟨r, rs.zipIdx.map fun e => { e.1 with len := if regionSizes.getD e.2 0 = 0 then e.1.len else regionSizes.getD e.2 0 }⟩
  | [] => ⟨⟨0, 0⟩, []⟩

/-- The GLOBAL rules of R76 and R299: a partition of at most 32 GiB, with an image store of at least 256 MiB, and no two regions that
overlap. -/
def globalOk (sec : List Byte) : Bool :=
  let p := globalPartition sec
  ((p.image :: p.others).all fun r => decide (r.base + r.len ≤ 0x800000000)) && decide (0x10000000 ≤ p.image.len) &&
  decide (regionSizes.length ≤ p.others.length) &&
  apartAll (p.image :: p.others)

/-- Every structure rule of R76, and those that R275, R299, R311 and R398 add. -/
def structureOk (i : ImgAt) : Bool :=
  ((ofType 0x10 i.sects).all (tileSectOk i)) && tilesOk (globalPartition (i.section 1)) i.tileMap && globalOk (i.section 1) && protOk (i.section 0xA)

/-- DIGEST's bytes: 256 to IMAGE_LEN - 1 without the SIGNATURE section (R70). -/
def ImgAt.digested (i : ImgAt) : List Byte :=
  let sg := (i.sects.getD (i.le 48 4) ⟨0, 0, 0, 0, 0, 0, 0, 0⟩)
  i.bytes 256 (sg.off - 256) ++ i.bytes (sg.off + sg.len) (i.le 8 4 - (sg.off + sg.len))

/-- The code of R77: the first check that fails, 0 when all pass. -/
def verifyImage (i : ImgAt) : Nat :=
  let sg := (i.sects.getD (i.le 48 4) ⟨0, 0, 0, 0, 0, 0, 0, 0⟩)
  if i.le 0 4 ≠ 0x53534932 then 1
  else if i.le 4 2 ≠ 2 then 2
  else if i.crc 0 252 ≠ i.le 252 4 then 3
  else if ¬ layoutOk i then 4
  else if ¬ (i.sects.all fun x => i.crc x.off x.len == x.crc) then 5
  else if ¬ sectionsOk i.sects then 6
  else if i.le 36 4 ≠ 0x3250 ∨ siliconRev < i.le 40 2 then 7
  else if Config.sha384 i.digested ≠ i.le 64 48 then 8
  else if ¬ (decide (i.le sg.off 1 < 4) && Config.keyUsable (i.le sg.off 1) && Config.ecdsaOk (i.le sg.off 1) (i.le 64 48) (i.bytes (sg.off + 4) 96)) then 9
  else if ¬ structureOk i then 10
  else if 0x8000000 < i.le 8 4 then 11
  else 0

/-- Digest of GLOBAL and KEY_FMT (R121). -/
def ImageMeta.gkDigest (m : ImageMeta) : Nat := Config.sha384 (m.glob ++ m.keyFmt)

/-- What CFG keeps of a verified image. -/
def ImgAt.metaOf (i : ImgAt) : ImageMeta := ⟨i.le 16 8, i.le 24 4, i.le 8 4, i.sects, i.section 1, i.section 2⟩

/-! Slots. -/

def State.slot (s : State) (k : Nat) : Slot := if k = 0 then s.cfg.slotA else s.cfg.slotB
def State.modSlot (k : Nat) (g : Slot → Slot) (s : State) : State :=
  s.modCfg fun c => if k = 0 then { c with slotA := g c.slotA } else { c with slotB := g c.slotB }

/-- A load or reload is reading the slot: some tile of it is LOADING and its section is not yet read (R69). -/
def State.slotRead (s : State) (k : Nat) : Bool :=
  s.cfg.loads.any fun e => e.2.slot == k && !e.2.read && s.rd (F.CFG_TILE_STAT_STATE e.1) == 2

/-- Shows BUSY of a slot. -/
def showBusy (k : Nat) (s : State) : State := s.wr (F.CFG_IMG_STAT_BUSY k) (bit ((s.slot k).verifying || s.slotRead k))

/-- A slot's flags and identity when it is not VERIFIED. -/
def unverify (k : Nat) (s : State) : State :=
  (((s.wr (F.CFG_IMG_STAT_VERIFIED k) 0).wr (F.CFG_IMG_ID_IMAGE_ID k) 0).wr (F.CFG_IMG_VER_IMAGE_VER k) 0).modSlot k
    fun x => { x with img := none }

/-- Bytes of a slot that a verification reads up to its first failure: the header, with the section table, or the whole image, of 128 MiB at most
(R77). -/
def verifyReads (i : ImgAt) : Nat :=
  let c := verifyImage i
  if c = 1 ∨ c = 2 ∨ c = 3 then 256 else if c = 4 then min 0x8000000 (i.le 44 4 + 32 * i.le 12 2) else min 0x8000000 (i.le 8 4)

/-- A slot's verification ends with a code (R77). -/
def endVerify (k code : Nat) (s : State) : State :=
  let i := s.slotImg k
  let s1 := ((s.wr (F.CFG_IMG_STAT_ERR k) code).wr (F.CFG_IMG_STAT_FORMAT k) (i.le 4 2)).modSlot k
    fun x => { x with verifying := false }
  if code = 0 then
    let m := i.metaOf
    let s2 := (((s1.wr (F.CFG_IMG_STAT_VERIFIED k) 1).wr (F.CFG_IMG_ID_IMAGE_ID k) m.id).wr (F.CFG_IMG_VER_IMAGE_VER k) m.ver).modSlot k
      fun x => { x with img := some m }
    raise E.CFG_IMG_VERIFIED (showBusy k s2)
  else raise E.CFG_IMG_REJECTED (showBusy k (unverify k s1))

/-! Tiles. -/

/-- Counts ACTIVE reloads: QUEUED, DRAINING or LOADING (CFG_RELOAD_STAT). -/
def showActive (s : State) : State := s.wr F.CFG_RELOAD_STAT_ACTIVE (s.cfg.loads.length)

/-- Freezes or unfreezes a tile's commit group (R82). -/
def freezeGroup (n : Nat) (b : Bool) (s : State) : State := s.wr (F.CFG_GEN_FROZEN n) (bit b)

/-- Drain ticks of a tile (R82): 1, or for a TREE tile the whole ticks that T_EQ + 125 µs take. -/
def drainTicks (s : State) (n : Nat) : Nat :=
  if n < 32 then (s.rd (F.RNG_TEQ_T_EQ_NS n) * 1000 + (s.tree n).teqSub + 249999999) / 125000000 else 1

/-- A tile load begins at its stagger slot: a reload starts DRAINING with its group frozen, a full load starts LOADING (R82). -/
def beginTile (n : Nat) (s : State) : State :=
  match SMap.find? s.cfg.loads n with
  | none => s
  | some r =>
    if r.full then showBusy r.slot (s.wr (F.CFG_TILE_STAT_STATE n) 2)
    else (freezeGroup n true (s.wr (F.CFG_TILE_STAT_STATE n) 1)).modCfg fun c =>
      { c with loads := SMap.put c.loads n { r with drainLeft := drainTicks s n, ticks := 0 } }

/-- A tile becomes ISOLATED (R82): its group is unfrozen and keeps its generation, and TILE_ISOLATED is raised. A tree's port goes down
(R150), unless `keep` says that HOLDING is entered, in which MEN keeps its level (R131). -/
def isolateTile (keep : Bool) (n : Nat) (s : State) : State :=
  let s1 := ((s.wr (F.CFG_TILE_STAT_STATE n) 4).wr (F.CFG_TILE_STAT_IF_VER n) 0).modCfg fun c =>
    { c with loads := SMap.del c.loads n, filler := noBit c.filler n }
  let s2 := raise E.CFG_TILE_ISOLATED (showActive (freezeGroup n false s1))
  if n < 32 ∧ ¬ keep then portDown n s2 else s2

/-- The tiles of a reload: the tile and, with PARTNER_EN, its partner. -/
def reloadTiles (s : State) (n : Nat) : List Nat :=
  match (SMap.find? s.cfg.loads n).bind Reload.partner with
  | some p => [n, p]
  | none => [n]

/-- A load is abandoned with a code (R85), 4 at the crossing that enters HOLDING (R86); tiles reloaded together are isolated together
(R82). -/
def abandonReload (n code : Nat) (s : State) : State :=
  match SMap.find? s.cfg.loads n with
  | none => s
  | some r =>
    let s1 := (reloadTiles s n).foldl (fun a t => isolateTile (code == 4) t a) s
    showBusy r.slot (raise E.CFG_RELOAD_ABANDONED
      ((s1.wr F.CFG_RELOAD_STAT_TILE n).wr F.CFG_RELOAD_STAT_ABANDON_CODE code))

/-- Shows a JOINED tree tile's class and pairing, and its downstream reference delay (R127, R133). -/
def showTree (n : Nat) (d : TileDesc) (s : State) : State :=
  let paired := d.partner != 0xFF
  let s1 := ((s.wr (F.TPA_STAT_RATE_CLASS n) d.rateClass).wr (F.TPA_STAT_PAIRED n) (bit paired)).wr (F.TPA_STAT_PARTNER n)
    (if paired then d.partner else 0)
  s1.wr (F.TPA_TX_DLY_D_TX_PS n)
    (ofSigned 32 ((if d.rateClass = 1 then 384000 else 512000) + toSigned 16 (s1.rd (F.TPA_CAL_TX_CAL_PS n))))

/-- PHASE of a port whose pins kept their levels through a reload (R83, R150). -/
def showPhase (n : Nat) (s : State) : State :=
  s.wr (F.TPA_STAT_PHASE n) (if s.on (F.TPA_STAT_BEN n) then (if (s.port n).lead = 0 then 3 else 2) else bit (s.on (F.TPA_STAT_MEN n)))

/-- The ports that the U tiles declare, in ascending order of their first lanes, with their widths (R428): a tile that loads or is ISOLATED keeps the
ports that it declared, with their links down (R83). -/
def uplinkPorts (s : State) : List (Nat × Nat) :=
  (List.range 8).flatMap fun k =>
    let w := SMap.getD s.cfg.uplinks k 0
    if w = 1 then [(1, 2 * k), (1, 2 * k + 1)]
    else if w = 2 then [(2, 2 * k)]
    else if w = 3 then [(3, 2 * k)]
    else []

/-- Shows WIDTH and FIRST_LANE of every uplink port (R428). -/
def showUplinks (s : State) : State :=
  let l := uplinkPorts s
  (List.range 16).foldl (fun a u =>
    match l[u]? with
    | none => (a.wr (F.UPL_PORT_STAT_WIDTH u) 0).wr (F.UPL_PORT_STAT_FIRST_LANE u) 0
    | some w => (a.wr (F.UPL_PORT_STAT_WIDTH u) w.1).wr (F.UPL_PORT_STAT_FIRST_LANE u) w.2) s

/-- Fields with reset letter T that the reload of a tile resets, by their register's address (R471, R472). -/
def tileResets (s : State) (n a : Nat) : Bool :=
  if n < 32 then
    (decide (0x1000000 + 0x10000 * n ≤ a) && decide (a < 0x1000000 + 0x10000 * (n + 1))) ||
    (decide (0x1400000 + 0x10000 * n ≤ a) && decide (a < 0x1400000 + 0x10000 * (n + 1))) ||
    (decide (0x1800000 + 0x10000 * n ≤ a) && decide (a < 0x1800000 + 0x10000 * (n + 1))) ||
    (decide (0x1C00000 + 0x20000 * n ≤ a) && decide (a < 0x1C00000 + 0x20000 * (n + 1)))
  else if n < 40 then
    decide (0x3D00000 ≤ a) && decide (a < 0x3D10000) && s.uplinkGroup ((a - 0x3D00000) / 0x1000) == n
  else if n < 44 then decide (0x3000000 + 0x40 * (n - 40) ≤ a) && decide (a < 0x3000000 + 0x40 * (n - 39))
  else if n < 46 then false
  else if n = 46 then a == 0x3A00000
  else decide (0x2000000 ≤ a) && decide (a < 0x3000000)

/-- The T fields of a tile return to their reset values at its reload (R83, R472, R477). -/
def resetTileFields (n : Nat) (s : State) : State :=
  let keep := fun k => !(tileResets s n (k / 64) && ((fldOfKey k).map Fld.res) == some .pt)
  { s with regs := s.regs.filter fun e => keep e.1
           shadow := s.shadow.filter fun e => keep e.1 }

/-- Applies field values that an image section carries, to the fields a test allows; the values are cut to their fields. -/
def applyWrites (p : Nat → Bool) (ws : List (Nat × Nat)) (s : State) : State :=
  ws.foldl (fun a w =>
    match fldOfKey w.1 with
    | none => a
    | some f => if p w.1 then a.wr f w.2 else a) s

/-- What a tree's tile held for its T registers goes with their reset (R9, R83, R435): the received and the pending host messages, the
pending list, and the pages. -/
def clearHeld (n : Nat) (s : State) : State :=
  s.when (decide (n < 32)) fun a => a.modTree n fun t =>
    { t with rxq := [], pend := [], pageA := [], pageB := [], msgs := t.msgs.filter fun m => m.origin != 3,
             sel := t.sel.filter fun m => m.origin != 3 }

/-- A tile takes JOINED at a tick (R82): state, version, slot, LOADS and BUILD; a reload's group takes GEN with shadow and active
copies equal and is unfrozen, and RELOAD_DONE is raised; a tree's first map is a full recomputation (R84). DESIGN CHOICE (assumption 70): a
reload leaves the terminals' active defects and their run counts (R168) as they are, of which the spec does not speak. -/
def joinTile (n ver : Nat) (r : Reload) (s : State) : State :=
  let d := SMap.getD s.cfg.tiles n ⟨0, 0, 0, []⟩
  let s := s.when (decide (32 ≤ n) && decide (n < 40)) fun a => showUplinks (a.modCfg fun c => { c with uplinks := SMap.put c.uplinks (n - 32) d.width })
  let s0 := applyWrites (fun k => tileResets s n (k / 64)) r.defaults
    (s.when (!r.full) fun a => clearHeld n (resetTileFields n a))
  let s1 := ((((s0.wr (F.CFG_TILE_STAT_STATE n) 3).wr (F.CFG_TILE_STAT_IF_VER n) ver).wr (F.CFG_TILE_STAT_SLOT n) r.slot).wrap
    (F.CFG_TILE_STAT_LOADS n) 1).wr (F.CFG_TILE_BUILD_BUILD n) d.build
  let s2 := s1.modCfg fun c =>
    { c with loads := SMap.del c.loads n
             filler := noBit c.filler n
             joinRecompute := if n < 32 then withBit c.joinRecompute n else c.joinRecompute }
  let s3 := s2.when (decide (n < 32)) fun a => loopBen n (showPhase n (showTree n d a))
  let s5 := showActive s3
  if r.full then s5
  else
    let s6 := freezeGroup n false { s5.wr (F.CFG_GEN_CUR n) r.gen with shadow := s5.shadow.filter fun e => e.2.1 != n }
    let s7 := raise E.CFG_RELOAD_DONE s6
    s7.when (decide (n < 32) && s7.portReady n && !s7.on (F.TPA_STAT_MEN n)) (bringUp (.men n))

/-- One tick of every load: drain ticks, the 64-tick limit being its own command, and JOINED for tiles whose negotiation has
succeeded, together with their partner (R82). -/
def loadTick (s : State) : State :=
  s.cfg.loads.foldl (fun a e =>
    let n := e.1
    match SMap.find? a.cfg.loads n with
    | none => a
    | some r =>
      let st := a.rd (F.CFG_TILE_STAT_STATE n)
      let r1 := if st = 1 ∨ st = 2 then { r with ticks := r.ticks + 1, drainLeft := r.drainLeft - 1 } else r
      let a1 := a.modCfg fun c => { c with loads := SMap.put c.loads n r1 }
      match r1.negotiated with
      | none => a1
      | some v =>
        match r1.partner with
        | none => joinTile n v r1 a1
        | some p =>
          match SMap.find? a1.cfg.loads p with
          | some q =>
            match q.negotiated with
            | some w => joinTile p w q (joinTile n v r1 a1)
            | none => a1
          | none => a1) s

end Sys2Proof.Machine
end

