-- ==== Sys2Proof/Machine/SaveSet.lean ====
section
/-! DEFINITION. Machine/SaveSet.lean: what a save set holds of the state (R63), and taking saved fields back (R124, R478). -/
namespace Sys2Proof.Machine

/-- Fields whose reset letters hold W (R478). -/
def isSavedKey (k : Nat) : Bool := ((fldOfKey k).map Fld.res) == some .pw

/-- Fields marked only X, which keep their values through every start (R478). -/
def isKeptKey (k : Nat) : Bool := ((fldOfKey k).map Fld.res) == some .x

/-- The save set as it stands (R63). Key material is no part of it. -/
def captureSet (s : State) : SaveSet :=
  { regs := s.regs.filter fun e => isSavedKey e.1
    gkDigest := (s.cfg.running.map ImageMeta.gkDigest).getD 0
    imageId := (s.cfg.running.map ImageMeta.id).getD 0
    classes := s.cfg.tiles.filterMap fun e => if e.1 < 32 then some (e.1, e.2.rateClass, e.2.partner) else none
    terms := s.terms.map fun e =>
      (e.1, { Term.initial with blkSum := e.2.blkSum, blkN := e.2.blkN, outs := e.2.outs, ins := e.2.ins, corr := e.2.corr, pm := e.2.pm })
    allocs := s.trees.map fun e => (e.1, e.2.alloc)
    treePm := s.trees.map fun e => (e.1, e.2.pm)
    gens := s.cph.slots.map fun e => (e.1, e.2.gen)
    keyTerms := s.cph.terms.map fun e => (e.1, e.2.dsIndex, e.2.later.or e.2.switch)
    bindKeys := s.cph.binds.map fun e =>
      (e.1, e.2 / 2 ^ 23 % 2, (((s.cph.bindWr.filter fun w => w.1 == e.1).getLast?).map fun w => w.2.1 / 2 ^ 23 % 2).or (SMap.find? s.cph.bindSwitch e.1))
    seconds := s.tsu.sec
    domain := s.rd F.PRT_CFG_DOMAIN_ID
    peer := s.rd F.PRT_ID_PEER_ID }

/-- The saved fields that a test on addresses selects take their saved values; a field that the set does not list was at its reset value. -/
def takeSaved (p : Nat → Bool) (c : SaveSet) (s : State) : State :=
  let kept := s.regs.filter fun e => !(p (e.1 / 64) && isSavedKey e.1)
  { s with regs := (c.regs.filter fun e => p (e.1 / 64)).foldl (fun (m : SMap Nat) (e : Nat × Nat) => SMap.put m e.1 e.2) kept
           shadow := s.shadow.filter fun e => !(p (e.1 / 64) && isSavedKey e.1) }

end Sys2Proof.Machine
end

