-- ==== Sys2Proof/Machine/Journal.lean ====
section
/-! DEFINITION. Machine/Journal.lean: the boot journal and the save-store copies (R62 to R64, R115 to R120): choosing the latest
valid copy, appending records, and the bytes that a read of the save store returns (R62). -/
namespace Sys2Proof.Machine

/-- A save-set copy is valid (R64). -/
def SaveCopy.valid (c : SaveCopy) : Bool := c.complete && c.bodyOk

/-- The latest valid save-set copy: 0 none, 1 A, 2 B (R64). -/
def Store.latest (t : Store) : Nat :=
  if t.copyA.valid then (if t.copyB.valid && aheadOf 32 t.copyB.seq t.copyA.seq then 2 else 1)
  else if t.copyB.valid then 2 else 0

/-- A copy by number. -/
def Store.copy (t : Store) (n : Nat) : SaveCopy := if n = 1 then t.copyA else t.copyB
def Store.setCopy (n : Nat) (c : SaveCopy) (t : Store) : Store := if n = 1 then { t with copyA := c } else { t with copyB := c }

/-- SEQ that the next save gives its copy (R64). -/
def Store.nextSeq (t : Store) : Nat :=
  match t.latest with
  | 0 => 1
  | n => ((t.copy n).seq + 1) % 2 ^ 32

/-- The copy that the next save writes (R64). -/
def Store.target (t : Store) : Nat := if t.latest = 1 then 2 else 1

/-- The latest valid control copy (R117). -/
def Store.ctrl (t : Store) : Option CtrlCopy :=
  if t.ctrlA.valid then (if t.ctrlB.valid && aheadOf 32 t.ctrlB.seq t.ctrlA.seq then some t.ctrlB else some t.ctrlA)
  else if t.ctrlB.valid then some t.ctrlB else none

/-- Writes a control copy over the one that is not the latest (R117). -/
def Store.putCtrl (c : CtrlCopy) (t : Store) : Store :=
  let seq := match t.ctrl with
    | none => 1
    | some d => (d.seq + 1) % 2 ^ 32
  let c1 := { c with valid := true, seq := seq }
  if t.ctrlA.valid && !(t.ctrlB.valid && aheadOf 32 t.ctrlB.seq t.ctrlA.seq) then { t with ctrlB := c1 } else { t with ctrlA := c1 }

/-- Shows LATEST and SEQ of the latest valid copy. -/
def showLatest (s : State) : State :=
  let n := s.store.latest
  (s.wr F.PWR_SAVE_STAT_LATEST n).wr F.PWR_SAVE_SEQ_SEQ (if n = 0 then 0 else (s.store.copy n).seq)

/-- Microseconds since power-on reset release, 32 bits (R119). -/
def State.uptimeUs (s : State) : Nat := s.nowNs / 1000 % 2 ^ 32

/-- The control copy that holds what S0 holds now. -/
def State.ctrlNow (s : State) : CtrlCopy :=
  let old := s.store.ctrl.getD CtrlCopy.none
  { old with head := s.cfg.area.getD 0, source := s.rd F.CFG_BOOT_SEL_SOURCE, copy := s.rd F.CFG_BOOT_SEL_COPY,
             startNo := s.rd F.CFG_JNL_STAT_START_NO, mem := s.cfg.mem }

/-- Writes a new control copy, unless alternate 5 is in force or SCAN_N was low (R113, R117, R494). -/
def writeCtrl (g : CtrlCopy → CtrlCopy) (s : State) : State :=
  if s.cfg.alt5 || s.cfg.scan then s else s.modStore (Store.putCtrl (g s.ctrlNow))

/-- The start area in use. -/
def State.startArea (s : State) : Option StartArea :=
  match s.cfg.area with
  | none => none
  | some k => SMap.find? s.store.areas k

/-- Changes the start area in use. -/
def modArea (g : StartArea → StartArea) (s : State) : State :=
  match s.cfg.area, s.startArea with
  | some k, some a => s.modStore fun t => { t with areas := SMap.put t.areas k (g a) }
  | _, _ => s

/-- Appends a record (R118): 118 fit. The first that does not leaves the first 117 and one of KIND 6, OVERFLOW, last, whose other fields are
its own (DESIGN CHOICE, assumption 66); after that nothing is written. -/
def pushRec (r : JRec) (l : List JRec) : List JRec :=
  if l.length < 118 then l ++ [r]
  else if (l.getLast?.map JRec.kind) = some 6 then l else l.take 117 ++ [{ r with kind := 6 }]

/-- A record of the journal held in S0 is shown in the fault log (R120). -/
def journalFault (s : State) (r : JRec) : State :=
  s.modStore fun t => { t with faults := SMap.put t.faults t.faultNext ⟨0, r.uptime, some r⟩, faultNext := (t.faultNext + 1) % 262144 }

/-- Writes a journal record: in S0 until step 4 has chosen the area or under alternate 5, where the fault log shows it, in the start area after
that (R120). -/
def journal (r : JRec) (s : State) : State :=
  match s.cfg.area with
  | none =>
    let t := s.modCfg fun c => { c with held := pushRec r c.held }
    if s.cfg.alt5 ∧ ¬ s.cfg.scan then journalFault t r else t
  | some _ => if s.cfg.scan then s else modArea (fun a => { a with recs := pushRec r a.recs }) s

/-- Closes the start record with a FINAL code (R118). -/
def closeStart (final : Nat) (s : State) : State :=
  modArea (fun a => { a with final := final, durationMs := s.nowNs / 1000000 }) (s.wr F.CFG_BOOT_STAT_FINAL final)

/-! The bytes of the save store (R62). -/

/-- A byte of the regions of a save-set copy (R63): their layouts are not given, and the byte is a free value. -/
def SaveCopy.body (c : SaveCopy) (o : Nat) : Nat := Config.saveByte c.seq o % 256
/-- BODY_CRC (R63): over bytes 4,096 to the end of the set; a body that does not check has another. -/
def SaveCopy.bodyCrc (c : SaveCopy) : Nat :=
  let v := crc32 ((List.range (3215360 - 4096)).map fun i => c.body (4096 + i))
  if c.bodyOk then v else v ^^^ 1

/-- A byte of a save-set copy: its header, then its body (R63). -/
def SaveCopy.byte (c : SaveCopy) (o : Nat) : Nat :=
  if c.seq = 0 then 0
  else
    let h := leNats 4 0x534C5356 ++ leNats 4 c.seq ++ leNats 4 3215360 ++ leNats 2 c.schema ++ leNats 2 c.cause ++
      leNats 6 c.time ++ leNats 2 0 ++ leNats 4 (if o / 4 = 6 then c.bodyCrc else 0) ++ List.replicate 32 0 ++
      leNats 4 (if c.complete then 0xA5C33C5A else 0)
    if o < 64 then h.getD o 0 else if o < 3215360 then c.body o else 0

/-- The 16 bytes of a policy entry (R107). -/
def PolicyEntry.bytes (e : PolicyEntry) : List Nat :=
  [e.step, bit e.optional, e.tries, e.retryMax, e.escalate, e.alt, e.afterAlt, e.recheck] ++ leNats 4 e.timeoutMs ++ leNats 4 0

/-- The 256 bytes of a policy (R106, R107). -/
def Policy.bytes (p : Policy) : List Nat :=
  [p.serviceMode, p.autoResume, p.warm, 0] ++ leNats 4 p.warmMaxAge ++ List.replicate 24 0 ++ p.entries.flatMap PolicyEntry.bytes

/-- The 2 KiB of a control copy (R117). -/
def CtrlCopy.bytes (c : CtrlCopy) : List Nat :=
  let pol := match c.policy with
    | Option.none => List.replicate 256 0
    | Option.some p => p.bytes
  let b := leNats 4 c.seq ++ [c.head, c.source + 2 * c.copy, 0, 0] ++ leNats 4 c.startNo ++ leNats 4 0 ++ pol ++
    c.mem.flatMap fun m => [m.streak, m.direct, bit m.altBad, bit m.force]
  let f := b ++ List.replicate (2044 - b.length) 0
  f ++ leNats 4 (if c.valid then crc32 f else crc32 f ^^^ 1)

/-- The 32 bytes of a journal record (R119); a torn record's CRC does not check. -/
def JRec.bytes (r : JRec) : List Nat :=
  let b := [r.kind, r.step, r.attempt, r.path, r.outcome, r.alt] ++ leNats 2 r.detail ++ leNats 4 r.uptime ++ leNats 8 r.mask ++
    leNats 4 r.arg ++ leNats 4 0
  b ++ leNats 4 (if r.whole then crc32 b else crc32 b ^^^ 1)

/-- The bytes of a start area (R118). -/
def StartArea.bytes (a : StartArea) : List Nat :=
  let h := leNats 4 0x534C4A4E ++ leNats 4 a.startNo ++ [a.cause, a.final, a.policySrc, a.warm] ++ leNats 4 a.imageVer ++
    leNats 8 a.imageId ++ leNats 8 a.time ++ leNats 4 a.durationMs ++ leNats 2 a.recs.length ++ List.replicate 22 0
  h ++ leNats 4 (crc32 h) ++ a.recs.flatMap JRec.bytes

/-- The 256 bytes of a pseudo-channel's training record (R371); the values themselves are free. -/
def trainRecord (run p : Nat) : List Nat :=
  let b := (List.range 252).map fun o =>
    if o = 0 then p else if o = 3 ∨ o = 6 ∨ o = 7 ∨ 176 ≤ o then 0 else Config.trainValue run (256 * p + o) % 256
  b ++ leNats 4 (crc32 b)

/-- A byte of a copy of the training values (R371). -/
def TrainCopy.byte (c : TrainCopy) (o : Nat) : Nat :=
  if ¬ c.valid then 0
  else
    let h := leNats 4 0x534C5452 ++ leNats 4 c.seq ++ leNats 2 siliconRev ++ leNats 6 c.time ++ List.replicate 44 0
    if o < 60 then h.getD o 0 else if o < 64 then (leNats 4 (crc32 h)).getD (o - 60) 0
    else if o < 64 + 32 * 256 then (trainRecord c.run ((o - 64) / 256)).getD ((o - 64) % 256) 0 else 0

/-- A byte of a superframe ceiling entry (R159). -/
def ceilingByte (t : Store) (n o : Nat) : Nat :=
  match SMap.find? t.ceilings n with
  | none => 0
  | some v => (leNats 8 v ++ leNats 4 (crc32 (leNats 8 v)) ++ leNats 4 0).getD o 0

/-- The byte at a save-store address (R62); the bytes of a fault-log record are free, for the spec gives no layout, but a journal record that
the fault log shows fills its first 32 (assumption 66). -/
def Store.byte (t : Store) (a : Nat) : Nat :=
  if a < 0x400000 then t.copyA.byte a
  else if a < 0x800000 then t.copyB.byte (a - 0x400000)
  else if a < 0x800800 then t.ctrlA.bytes.getD (a - 0x800000) 0
  else if a < 0x801000 then t.ctrlB.bytes.getD (a - 0x800800) 0
  else if a < 0x810000 then
    match SMap.find? t.areas ((a - 0x801000) / 0xF00) with
    | none => 0
    | some x => x.bytes.getD ((a - 0x801000) % 0xF00) 0
  else if a < 0x814000 then t.trainA.byte (a - 0x810000)
  else if a < 0x820000 then t.trainB.byte (a - 0x814000)
  else if a < 0x821000 then (if a < 0x820200 then ceilingByte t ((a - 0x820000) / 16) ((a - 0x820000) % 16) else 0)
  else if a < 0x900000 then 0
  else if a < 0x1900000 then
    match SMap.find? t.faults ((a - 0x900000) / 64) with
    | none => 0
    | some f =>
      let o := (a - 0x900000) % 64
      match f.journal with
      | some r => if o < 32 then r.bytes.getD o 0 else Config.faultByte f.src f.stamp o % 256
      | none => Config.faultByte f.src f.stamp o % 256
  else 0

end Sys2Proof.Machine
end

