-- ==== Sys2Proof/Machine/Aes.lean ====
section
/-! DEFINITION. Machine/Aes.lean: AES-128 and the modes that CPH runs (R328, R335, R338): single blocks, CTR, CBC, CFB with 128-bit
segments, CMAC, and the key unwrap of RFC 3394. The spec names these standards and does not restate them: the algorithms are those
of FIPS 197, SP 800-38A, SP 800-38B and RFC 3394 (PRESUMED, assumption 12). Blocks and keys are lists of 16 byte values. -/
namespace Sys2Proof.Machine

/-- Rows 0 to 3 of the substitution table of FIPS 197. -/
def sbox0 : List Nat :=
  [0x63, 0x7c, 0x77, 0x7b, 0xf2, 0x6b, 0x6f, 0xc5, 0x30, 0x01, 0x67, 0x2b, 0xfe, 0xd7, 0xab, 0x76,
   0xca, 0x82, 0xc9, 0x7d, 0xfa, 0x59, 0x47, 0xf0, 0xad, 0xd4, 0xa2, 0xaf, 0x9c, 0xa4, 0x72, 0xc0,
   0xb7, 0xfd, 0x93, 0x26, 0x36, 0x3f, 0xf7, 0xcc, 0x34, 0xa5, 0xe5, 0xf1, 0x71, 0xd8, 0x31, 0x15,
   0x04, 0xc7, 0x23, 0xc3, 0x18, 0x96, 0x05, 0x9a, 0x07, 0x12, 0x80, 0xe2, 0xeb, 0x27, 0xb2, 0x75]
/-- Rows 4 to 7 of the substitution table of FIPS 197. -/
def sbox1 : List Nat :=
  [0x09, 0x83, 0x2c, 0x1a, 0x1b, 0x6e, 0x5a, 0xa0, 0x52, 0x3b, 0xd6, 0xb3, 0x29, 0xe3, 0x2f, 0x84,
   0x53, 0xd1, 0x00, 0xed, 0x20, 0xfc, 0xb1, 0x5b, 0x6a, 0xcb, 0xbe, 0x39, 0x4a, 0x4c, 0x58, 0xcf,
   0xd0, 0xef, 0xaa, 0xfb, 0x43, 0x4d, 0x33, 0x85, 0x45, 0xf9, 0x02, 0x7f, 0x50, 0x3c, 0x9f, 0xa8,
   0x51, 0xa3, 0x40, 0x8f, 0x92, 0x9d, 0x38, 0xf5, 0xbc, 0xb6, 0xda, 0x21, 0x10, 0xff, 0xf3, 0xd2]
/-- Rows 8 to 11 of the substitution table of FIPS 197. -/
def sbox2 : List Nat :=
  [0xcd, 0x0c, 0x13, 0xec, 0x5f, 0x97, 0x44, 0x17, 0xc4, 0xa7, 0x7e, 0x3d, 0x64, 0x5d, 0x19, 0x73,
   0x60, 0x81, 0x4f, 0xdc, 0x22, 0x2a, 0x90, 0x88, 0x46, 0xee, 0xb8, 0x14, 0xde, 0x5e, 0x0b, 0xdb,
   0xe0, 0x32, 0x3a, 0x0a, 0x49, 0x06, 0x24, 0x5c, 0xc2, 0xd3, 0xac, 0x62, 0x91, 0x95, 0xe4, 0x79,
   0xe7, 0xc8, 0x37, 0x6d, 0x8d, 0xd5, 0x4e, 0xa9, 0x6c, 0x56, 0xf4, 0xea, 0x65, 0x7a, 0xae, 0x08]
/-- Rows 12 to 15 of the substitution table of FIPS 197. -/
def sbox3 : List Nat :=
  [0xba, 0x78, 0x25, 0x2e, 0x1c, 0xa6, 0xb4, 0xc6, 0xe8, 0xdd, 0x74, 0x1f, 0x4b, 0xbd, 0x8b, 0x8a,
   0x70, 0x3e, 0xb5, 0x66, 0x48, 0x03, 0xf6, 0x0e, 0x61, 0x35, 0x57, 0xb9, 0x86, 0xc1, 0x1d, 0x9e,
   0xe1, 0xf8, 0x98, 0x11, 0x69, 0xd9, 0x8e, 0x94, 0x9b, 0x1e, 0x87, 0xe9, 0xce, 0x55, 0x28, 0xdf,
   0x8c, 0xa1, 0x89, 0x0d, 0xbf, 0xe6, 0x42, 0x68, 0x41, 0x99, 0x2d, 0x0f, 0xb0, 0x54, 0xbb, 0x16]
/-- The substitution table. -/
def sbox : List Nat := sbox0 ++ sbox1 ++ sbox2 ++ sbox3

/-- SubBytes of one byte, and its inverse. -/
def subByte (b : Nat) : Nat := sbox.getD b 0
def invSubByte (b : Nat) : Nat := (sbox.findIdx? fun x => x == b).getD 0

/-- Multiplication by x in GF(2^8). -/
def xtime (b : Nat) : Nat := if b < 128 then 2 * b else (2 * b) ^^^ 0x11b

/-- Multiplication in GF(2^8) by a constant below 16. -/
def gmul (k b : Nat) : Nat :=
  let b2 := xtime b
  let b4 := xtime b2
  let b8 := xtime b4
  (if k.testBit 0 then b else 0) ^^^ (if k.testBit 1 then b2 else 0) ^^^ (if k.testBit 2 then b4 else 0) ^^^ (if k.testBit 3 then b8 else 0)

/-- Exclusive or, byte by byte. -/
def xorBytes (a b : List Nat) : List Nat := List.zipWith (fun x y => x ^^^ y) a b

/-- The next round key from a round key and its constant. -/
def nextKey (k : List Nat) (rcon : Nat) : List Nat :=
  let w := fun i => (k.drop (4 * i)).take 4
  let t := ((w 3).drop 1 ++ (w 3).take 1).map subByte
  let w0 := xorBytes (w 0) (xorBytes t [rcon, 0, 0, 0])
  let w1 := xorBytes (w 1) w0
  let w2 := xorBytes (w 2) w1
  w0 ++ w1 ++ w2 ++ xorBytes (w 3) w2

/-- The eleven round keys. -/
def roundKeys (k : List Nat) : List (List Nat) :=
  ([1, 2, 4, 8, 16, 32, 64, 128, 0x1b, 0x36].foldl (fun (a : List (List Nat) × List Nat) r =>
    let n := nextKey a.2 r
    (a.1 ++ [n], n)) ([k], k)).1

/-- ShiftRows and its inverse, on columns of four bytes. -/
def shiftRows (s : List Nat) : List Nat := (List.range 16).map fun i => s.getD ((i + 4 * (i % 4)) % 16) 0
def invShiftRows (s : List Nat) : List Nat := (List.range 16).map fun i => s.getD ((i + 12 * (i % 4)) % 16) 0

/-- One column times the circulant matrix with this first row. -/
def mixColumn (m c : List Nat) : List Nat :=
  (List.range 4).map fun i => (List.range 4).foldl (fun a j => a ^^^ gmul (m.getD ((j + 4 - i) % 4) 0) (c.getD j 0)) 0
/-- MixColumns with a matrix. -/
def mixWith (m s : List Nat) : List Nat := (List.range 4).flatMap fun c => mixColumn m ((s.drop (4 * c)).take 4)

/-- AES-128 encryption of one block. -/
def aesEnc (key block : List Nat) : List Nat :=
  let ks := roundKeys key
  let mid := ((ks.drop 1).take 9).foldl (fun s k => xorBytes (mixWith [2, 3, 1, 1] (shiftRows (s.map subByte))) k)
    (xorBytes block (ks.getD 0 []))
  xorBytes (shiftRows (mid.map subByte)) (ks.getD 10 [])

/-- AES-128 decryption of one block. -/
def aesDec (key block : List Nat) : List Nat :=
  let ks := roundKeys key
  let mid := ((ks.drop 1).take 9).reverse.foldl (fun s k =>
    mixWith [14, 11, 13, 9] (xorBytes ((invShiftRows s).map invSubByte) k)) (xorBytes block (ks.getD 10 []))
  xorBytes ((invShiftRows mid).map invSubByte) (ks.getD 0 [])

/-- A 128-bit number as bytes, bits 127 to 120 first, and back. -/
def block16 (v : Nat) : List Nat := (List.range 16).map fun i => v / 2 ^ (8 * (15 - i)) % 256
def blockNat (l : List Nat) : Nat := l.foldl (fun a b => a * 256 + b % 256) 0

/-- The 16-byte blocks of a run of bytes; the last may be short. -/
def blocksOf : Nat → List Nat → List (List Nat)
  | 0, _ => []
  | n + 1, l => if l.isEmpty then [] else l.take 16 :: blocksOf n (l.drop 16)

/-- CTR: block `i` is combined with the encryption of the counter block plus `i` in its low 16 bits. -/
def ctrMode (key : List Nat) (icb : Nat) (data : List Nat) : List Nat :=
  let bs := blocksOf data.length data
  (bs.zip (List.range bs.length)).flatMap fun p =>
    xorBytes p.1 (aesEnc key (block16 (icb / 65536 * 65536 + (icb + p.2) % 65536)))

/-- CBC encryption and decryption. -/
def cbcEnc (key : List Nat) (iv data : List Nat) : List Nat :=
  ((blocksOf data.length data).foldl (fun (a : List Nat × List Nat) b => let c := aesEnc key (xorBytes b a.2); (a.1 ++ c, c)) ([], iv)).1
def cbcDec (key : List Nat) (iv data : List Nat) : List Nat :=
  ((blocksOf data.length data).foldl (fun (a : List Nat × List Nat) b => (a.1 ++ xorBytes (aesDec key b) a.2, b)) ([], iv)).1

/-- CFB with 128-bit segments, both ways. -/
def cfbEnc (key : List Nat) (iv data : List Nat) : List Nat :=
  ((blocksOf data.length data).foldl (fun (a : List Nat × List Nat) b => let c := xorBytes b (aesEnc key a.2); (a.1 ++ c, c)) ([], iv)).1
def cfbDec (key : List Nat) (iv data : List Nat) : List Nat :=
  ((blocksOf data.length data).foldl (fun (a : List Nat × List Nat) b => (a.1 ++ xorBytes b (aesEnc key a.2), b)) ([], iv)).1

/-- Doubling of a CMAC subkey. -/
def cmacDouble (v : Nat) : Nat := if v < 2 ^ 127 then 2 * v else (2 * v) % 2 ^ 128 ^^^ 0x87

/-- CMAC of a message. -/
def cmac (key data : List Nat) : List Nat :=
  let k1 := cmacDouble (blockNat (aesEnc key (List.replicate 16 0)))
  let bs := if data.isEmpty then [[]] else blocksOf data.length data
  let last := bs.getLastD []
  let tail := if last.length = 16 then xorBytes last (block16 k1)
    else xorBytes (last ++ [0x80] ++ List.replicate (15 - last.length) 0) (block16 (cmacDouble k1))
  aesEnc key (xorBytes ((bs.dropLast).foldl (fun a b => aesEnc key (xorBytes a b)) (List.replicate 16 0)) tail)

/-- The unwrap of RFC 3394 on a 24-byte blob: the key, none when the integrity value does not check. -/
def unwrapKey (kek blob : List Nat) : Option (List Nat) :=
  let r := (List.range 12).reverse.foldl (fun (a : List Nat × List Nat × List Nat) t =>
    let x := xorBytes a.1 ((List.replicate 7 0) ++ [t + 1])
    let d := aesDec kek (x ++ (if t % 2 = 0 then a.2.1 else a.2.2))
    if t % 2 = 0 then (d.take 8, d.drop 8, a.2.2) else (d.take 8, a.2.1, d.drop 8))
    (blob.take 8, (blob.drop 8).take 8, (blob.drop 16).take 8)
  if r.1 = List.replicate 8 0xA6 then some (r.2.1 ++ r.2.2) else none

end Sys2Proof.Machine
end

