-- ==== Sys2Proof/Machine/Inject.lean ====
section
/-! DEFINITION. Machine/Inject.lean: fault injection (R466 to R470): the unlock, the arming, and the action that an armed link applies
to an item. Links 0 to 31 are tree ports, 32 to 47 uplink ports, 48 and 49 the beats of path A and B, and 50 mirror records. -/
namespace Sys2Proof.Machine

/-- A link's structure. -/
def State.link (s : State) (l : Nat) : InjLink := SMap.getD s.obs.links l InjLink.initial
def State.modLink (l : Nat) (g : InjLink → InjLink) (s : State) : State :=
  s.modObs fun o => { o with links := SMap.put o.links l (g (s.link l)) }

/-- DEPTH, where 0 acts as 1 and values above 8 as 8. -/
def State.injDepth (s : State) (l : Nat) : Nat := clampTo 1 8 (s.rd (F.OBS_INJ_CFG_DEPTH l))

/-- An item passes a link: the action that is applied to it, 0 for none, and the counts that go with it (R466, R468). `selected` is the
draw that SEL_LOG2 asks for; with SEL_LOG2 = 0 every item is selected. -/
def inject (l : Nat) (selected : Bool) (s : State) : Nat × State :=
  if s.on (F.OBS_INJ_STAT_ARMED l) ∧ s.on (F.OBS_INJ_STAT_UNLOCKED l) ∧ (selected ∨ s.rd (F.OBS_INJ_CFG_SEL_LOG2 l) = 0) then
    let n := (s.link l).items + 1
    let s1 := (s.modLink l fun k => { k with items := n }).wrap (F.OBS_INJ_STAT_INJECTED l) 1
    let s2 := s1.when (n == 1) (raise E.OBS_INJ_ACTIVE)
    let c := s.rd (F.OBS_INJ_CFG_COUNT l)
    (s.rd (F.OBS_INJ_CFG_ACTION l), s2.when (c != 0 && decide (c ≤ n)) fun a => a.wr (F.OBS_INJ_STAT_ARMED l) 0)
  else (0, s)

/-- Bytes pass a link behind which items are held back: those whose turn has come follow it (R466). Answers the last bytes on the
link. -/
def passHeld (l : Nat) (bytes : List Nat) (s : State) : List Nat × State :=
  let h := (s.link l).held.map fun e => (e.1 - 1, e.2)
  let out := h.filter fun e => e.1 == 0
  (((out.getLast?).map (·.2)).getD bytes, s.modLink l fun k => { k with held := h.filter fun e => e.1 != 0 })

/-- A write of OBS_INJ_CFG: armed on an unlocked link, kept without effect on a locked one (R468). -/
def armInjection (l w : Nat) (s : State) : State :=
  match regAt (F.OBS_INJ_CFG_ACTION l).addr with
  | none => s
  | some r =>
    let s1 := writeReg 0 w r s
    if s1.on (F.OBS_INJ_STAT_UNLOCKED l) then
      (s1.wr (F.OBS_INJ_STAT_ARMED l) (bit (s1.rd (F.OBS_INJ_CFG_ACTION l) != 0))).modLink l fun k => { k with items := 0 }
    else s1

/-- The two keys of an unlock (R467). -/
def unlockKey (l key : Nat) (s : State) : State :=
  let s0 := ((s.wr F.OBS_INJ_UNLOCK_LINK l).wr F.OBS_INJ_UNLOCK_KEY key).modObs fun o => { o with injKey := none }
  let may := s.mode != mHolding && s.mode != mAsleep && decide (l < 51)
  match s.obs.injKey with
  | none =>
    if may ∧ key = 0x4B17 then (s0.modObs fun o => { o with injKey := some (l, s.nowNs) }).draw
    else raise E.OBS_INJ_REFUSED s0
  | some (l', t) =>
    if may ∧ key = 0xB4E8 ∧ l = l' ∧ s.nowNs ≤ t + 1000000 then
      (((s0.wr (F.OBS_INJ_STAT_UNLOCKED l) 1).wr (F.OBS_INJ_STAT_SECONDS l) 60).modLink l fun k =>
        { k with ends := s.ticks + 480000, expiring := false }).draw
    else raise E.OBS_INJ_REFUSED s0

/-- A link's 60 s have passed (R467): outside PROVING it locks at the next tick. -/
def injExpired (l : Nat) (s : State) : State :=
  let k := s.link l
  if k.ends = 0 ∨ s.ticks + 1 < k.ends then s
  else if s.mode = mProving then s.modLink l fun k => { k with ends := 0 }
  else raise E.OBS_INJ_EXPIRED (s.modLink l fun k => { k with ends := 0, expiring := true })

/-- A tick of the links: those that expired lock (R467), and SECONDS counts down. -/
def injectTick (s : State) : State :=
  s.obs.links.foldl (fun a e =>
    if e.2.expiring then (lockLink e.1 a).modLink e.1 fun k => { k with expiring := false }
    else if e.2.ends = 0 then a
    else a.wr (F.OBS_INJ_STAT_SECONDS e.1) ((e.2.ends - a.ticks + 7999) / 8000)) s

/-- INJ_EXPIRED (R467). -/
def execInjExpired (l : Nat) (s : State) : Out := .next (s.when (s.ticking && decide (l < 51)) (injExpired l))
end Sys2Proof.Machine
end

