-- ==== Sys2Proof/Machine/Protect.lean ====
section
/-! DEFINITION. Machine/Protect.lean: PRT's heartbeats (R401 to R404), verdict requests and verdicts (R405 to R412), the transmit
queue, the OXL negotiation (R97 to R100) and the mirror's states (R415). What a verdict does to the trees stands in
Machine/Promotion.lean. -/
namespace Sys2Proof.Machine

/-- The role that the device holds. The saved role that a warm step 12 takes into PRT_STAT.ROLE and offers is none that R400 has chosen. -/
def State.role (s : State) : Nat := if s.prt.offered.isSome then 0 else s.rd F.PRT_STAT_ROLE
def roleNone : Nat := 0
def roleActive : Nat := 1
def roleStandby : Nat := 2

/-- CLASS of the domain (R398). -/
def State.domClass (s : State) : Nat := s.rd F.PRT_CFG_CLASS
/-- VERDICT_MS within 10 to 1,000. -/
def State.verdictMs (s : State) : Nat := clampTo 10 1000 (s.rd F.PRT_TIMER_CFG_VERDICT_MS)
/-- HOLDOFF_S, where values below 30 act as 30. -/
def State.holdoffS (s : State) : Nat := max 30 (s.rd F.PRT_TIMER_CFG_HOLDOFF_S)
/-- MIRROR_LAG, where 0 acts as 1. -/
def State.mirrorLag (s : State) : Nat := max 1 (s.rd F.PRT_TIMER_CFG_MIRROR_LAG)

/-- Takes a role (R400, R410): a saved role is offered no longer. -/
def setRole (r : Nat) (s : State) : State := (s.wr F.PRT_STAT_ROLE r).modPrt fun p => { p with offered := none }

/-- The pins ARB_REQ and ARB_GNT stand for KAP (R411): ARB_MODE 1, in a PAIR only (R398). -/
def State.pinArb (s : State) : Bool := s.on F.PRT_CFG_ARB_MODE && s.domClass == 1

/-- Mirror states (R415). -/
def mirNone : Nat := 0
def mirSyncing : Nat := 1
def mirCurrent : Nat := 2
def mirStale : Nat := 3

/-- Enters a mirror state, raising MIRROR_STALE or MIRROR_CURRENT on entry (R415). -/
def setMirror (m : Nat) (s : State) : State :=
  if s.rd F.PRT_STAT_MIRROR = m then s
  else
    let s1 := s.wr F.PRT_STAT_MIRROR m
    if m = mirStale then raise E.PRT_MIRROR_STALE s1
    else if m = mirCurrent then raise E.PRT_MIRROR_CURRENT s1
    else s1

/-- Records of a tree, or of no one tree, go to the standby now: the device is ACTIVE in a pair or pool, path A is up, OXL and the mirror
schema have agreed versions (R97), and the tree is mirrored under them (R100). -/
def State.mirrors (s : State) (n : Option Nat) : Bool :=
  s.role == roleActive && s.domClass != 0 && s.on F.PRT_STAT_PATH_A && s.prt.oxl != 0 && s.rd (F.CFG_VER_AGREED 4) != 0 &&
  !(n.any fun k => hasBit s.prt.unprot k)

/-- A record goes to the standby (R413), past injection link 50 (R466). -/
def mirrorSend (n : Option Nat) (s : State) : State :=
  if s.mirrors n then
    let r := inject 50 (Config.chosen s.fresh) s
    let h := (passHeld 50 [] r.2.draw).2.when ((s.link 50).held.any fun e => decide (e.1 ≤ 1)) mirrorMark
    if r.1 = 1 then h
    else if r.1 = 3 then h.modLink 50 fun k => { k with held := k.held ++ [(s.injDepth 50, [])] }
    else mirrorMark h
  else s

/-- A frozen page waits for its place on OXL (R413, R414). -/
def queuePage (n k : Nat) (s : State) : State :=
  s.when (s.mirrors (some n)) fun a => a.modPrt fun p => { p with pages := p.pages ++ [(n, k)] }

/-- Record payload of OXL in a tick, in bytes (R414). -/
def State.oxlBytes (s : State) : Nat := if s.prt.oxl = 1 then 150000 else 750000

/-- The pages that fit a payload, in the order given, and how many do not (R414): what follows a page that does not fit waits behind it. -/
def fitPages : Nat → List (Nat × Nat) → List (Nat × Nat) × Nat
  | _, [] => ([], 0)
  | room, q :: r =>
    let b := Config.pageHeader q.1 + 16 * q.2
    if room < b then ([], r.length + 1) else ((q :: (fitPages (room - b) r).1), (fitPages (room - b) r).2)

/-- Path A is up again: the mirror is copied in bulk (R415, R424). An ACTIVE device without a standby has no mirror relation. -/
def startBulk (s : State) : State :=
  let p := s.role == roleStandby || (s.role == roleActive && s.domClass != 0 && s.rd F.PRT_STAT_PEER_ROLE == roleStandby)
  s.when (p && !s.on F.PRT_STAT_FENCED && s.rd F.PRT_STAT_MIRROR != mirCurrent) fun t =>
    setMirror mirSyncing (t.modPrt fun q => { q with bulk := true })

/-- The pages of the tick go out in ascending tree order; one that has not been sent by the next tick is dropped and counted (R16, R414).
DEDUCED (assumption 63): a tick's pages have the tick's payload. A dropped page makes the mirror STALE (R415), and the bulk copy begins again at
the first tick whose pages all went out. -/
def sendPages (s : State) : State :=
  let l := (List.range 32).flatMap fun n => s.prt.pages.filter fun q => q.1 == n
  let f := fitPages s.oxlBytes l
  let s1 := f.1.foldl (fun a q => mirrorSend (some q.1) a) (s.modPrt fun p => { p with pages := [] })
  if f.2 = 0 then s1.when (s1.role == roleActive && s1.rd F.PRT_STAT_MIRROR == mirStale && s1.on F.PRT_STAT_PATH_A) startBulk
  else
    let s2 := raiseSec E.PRT_PAGE_SKIP (s1.sat F.PRT_MIRROR_STAT_PAGE_SKIP f.2)
    s2.when (s2.rd F.PRT_STAT_MIRROR != mirNone) fun a => setMirror mirStale (a.modPrt fun q => { q with bulk := false })

/-! KAP messages (R407, R408). -/

/-- The agreed KAP version, or the highest advertised one until a version is agreed (R408). -/
def State.kapVer (s : State) : Nat :=
  if s.rd (F.CFG_VER_AGREED 3) = 0 then s.rd (F.CFG_VER_MAX 3) else s.rd (F.CFG_VER_AGREED 3)

/-- FLAGS of a KAP message; STALE is set for a mirror that is STALE or SYNCING (R407, R425). -/
def State.kapFlags (s : State) : Nat :=
  let m := s.rd F.PRT_STAT_MIRROR
  bit (s.on F.PRT_STAT_PATH_A) + 2 * bit (s.on F.PRT_STAT_PATH_B) + 4 * bit (m == mirStale || m == mirSyncing) +
  8 * bit s.prt.healthy + 16 * bit (s.prt.unprot != 0)

/-- Appends the CRC to the first 60 bytes of a KAP message or a SAGE report. -/
def withCrc (b : List Nat) : List Nat := b ++ leNats 4 (crc32 b)

/-- REASONS as KAP 1 sends them: bits 1, 4 and 5 as bit 2 (R412). -/
def reasonsFor (ver r : Nat) : Nat :=
  if ver = 1 then (if hasBit r 1 || hasBit r 4 || hasBit r 5 then withBit (r &&& 0xD) 2 else r &&& 0xD) else r

/-- The REQUEST that PRT sends now. -/
def State.kapRequest (s : State) : List Nat :=
  withCrc ([1, s.kapVer] ++ leNats 2 (s.rd F.PRT_CFG_DOMAIN_ID) ++ leNats 2 (s.rd F.PRT_ID_DEVICE_ID) ++
    leNats 2 (s.rd F.PRT_ID_DEVICE_ID) ++ leNats 4 s.prt.reqSeq ++ leNats 4 (s.rd F.PRT_KAP_RX_STAT_EPOCH) ++
    [reasonsFor s.kapVer s.prt.reasons, s.role, s.kapFlags, 0] ++ leNats 6 0 ++ leNats 2 0 ++
    leNats 4 (s.rd F.PRT_MIRROR_STAT_MG) ++ leNats 4 s.prt.unprot ++ leNats 2 0x0FFF ++ List.replicate 22 0)

/-- The ACK of a verdict with an outcome code; `ver` is the version it carries. -/
def State.kapAck (s : State) (ver seq epoch code : Nat) : List Nat :=
  withCrc ([3, ver] ++ leNats 2 (s.rd F.PRT_CFG_DOMAIN_ID) ++ leNats 2 (s.rd F.PRT_ID_DEVICE_ID) ++
    leNats 2 (s.rd F.PRT_ID_DEVICE_ID) ++ leNats 4 seq ++ leNats 4 epoch ++
    [code, s.role, s.kapFlags, 0] ++ leNats 6 0 ++ leNats 2 0 ++
    leNats 4 (s.rd F.PRT_MIRROR_STAT_MG) ++ leNats 4 s.prt.unprot ++ leNats 2 0x0FFF ++ List.replicate 22 0)

/-- Shows the oldest message of the transmit queue and its length (PRT_KAP_TX, PRT_KAP_TX_STAT); an empty queue shows zeros. -/
def showKapTx (s : State) : State :=
  let b := match s.prt.txq with
    | m :: _ => m.bytes
    | [] => []
  (List.range 16).foldl (fun a i => a.wr (F.PRT_KAP_TX_BYTES i) (ofLe ((List.range 4).map fun j => b.getD (4 * i + j) 0)))
    (s.wr F.PRT_KAP_TX_STAT_PENDING s.prt.txq.length)

/-- Drops the first entry that a test selects. -/
def dropFirst {α : Type} (p : α → Bool) : List α → List α
  | [] => []
  | x :: xs => if p x then xs else x :: dropFirst p xs

/-- The unread copy of a request: a request with its SEQ (R405). -/
def sameRequest (m x : KapMsg) : Bool := !m.ack && !x.ack && m.bytes.extract 8 12 == x.bytes.extract 8 12

/-- Queues a message (PRT_KAP_TX_STAT): a re-issued request replaces its unread copy, and an ACK that finds the queue of four full replaces the
oldest ACK. What a full queue does in the other cases is the model's choice (assumption 67). -/
def queueKap (m : KapMsg) (q : List KapMsg) : List KapMsg :=
  if q.any (sameRequest m) then q.map fun x => if sameRequest m x then m else x
  else if q.length < 4 then q ++ [m]
  else if q.any KapMsg.ack then dropFirst KapMsg.ack q ++ [m]
  else if m.ack then q
  else q.drop 1 ++ [m]

/-- The message costs the host an item of the full queue, which the device counts (R19). -/
def losesKap (m : KapMsg) (q : List KapMsg) : Bool := !q.any (sameRequest m) && decide (4 ≤ q.length)

/-- A message that PRT originates goes into the transmit queue and raises VERDICT_REQ (R405). -/
def sendKap (m : KapMsg) (s : State) : State :=
  raise E.PRT_VERDICT_REQ (showKapTx (s.modPrt fun p => { p with txq := queueKap m p.txq, ackLost := p.ackLost + bit (losesKap m p.txq) }))

/-- Issues the open request: as a KAP message, or by driving ARB_REQ high (R405, R411). -/
def issueRequest (s : State) : State :=
  if s.pinArb then s.modPrt fun p => { p with arbReq := true } else sendKap ⟨false, s.kapRequest⟩ s

/-- A trigger of R405: opens a request with a new SEQ, or adds its bit to the open one and issues it again. Under FENCE only the host
opens requests (R410). -/
def trigger (b : Nat) (s : State) : State :=
  if s.on F.PRT_STAT_FENCED ∧ b ≠ 2 then s
  else if s.on F.PRT_STAT_REQ_OPEN then issueRequest (s.modPrt fun p => { p with reasons := withBit p.reasons b })
  else issueRequest (((s.wr F.PRT_STAT_REQ_OPEN 1).wr F.PRT_STAT_SPLIT 0).modPrt fun p =>
    { p with reasons := withBit 0 b, reqSeq := (p.reqSeq + 1) % 2 ^ 32, reqTicks := 0 })

/-- A verdict of any code closes the request (R406). -/
def closeRequest (s : State) : State :=
  ((s.wr F.PRT_STAT_REQ_OPEN 0).wr F.PRT_STAT_SPLIT 0).modPrt fun p => { p with reasons := 0, arbReq := false }

/-! Heartbeats (R401 to R404). -/

/-- A path: 0 is A on OXL lane A, 1 is B on the HB pair. -/
def Prt.path (p : Prt) (i : Nat) : HbPath := if i = 0 then p.pathA else p.pathB
def State.modPath (i : Nat) (g : HbPath → HbPath) (s : State) : State :=
  s.modPrt fun p => if i = 0 then { p with pathA := g p.pathA } else { p with pathB := g p.pathB }
def pathUp (i : Nat) : Fld := if i = 0 then F.PRT_STAT_PATH_A else F.PRT_STAT_PATH_B

/-- The beat that a path sends now (R401). While step 12 runs warm it offers the saved role and mirror generation (R124). -/
def State.beat (s : State) (i : Nat) (gasp : Bool) : List Nat :=
  let b := [0x48, bit gasp + 2 * bit s.prt.healthy + 4 * bit (s.rd F.PRT_STAT_MIRROR == mirCurrent) + 8 * s.rd F.PRT_STAT_REQ_OPEN] ++
    leNats 2 (s.rd F.PRT_ID_DEVICE_ID + s.rd F.PRT_STAT_ROLE * 4096) ++ leNats 2 (s.rd F.PRT_CFG_DOMAIN_ID) ++
    leNats 2 (s.prt.path i).seqTx ++ leNats 4 (s.rd F.PRT_MIRROR_STAT_MG) ++ [s.mode, 0]
  b ++ leNats 2 (crc16 b)

/-- A beat with its CRC inverted (R466). -/
def badCrc (b : List Nat) : List Nat := b.take 14 ++ (b.drop 14).map fun x => 255 - x

/-- Sends one beat on a path, past its injection link, and advances its SEQ (R401, R466). -/
def sendBeat (i : Nat) (gasp selected : Bool) (s : State) : State :=
  let b := s.beat i gasp
  let r := inject (48 + i) selected s
  let h := passHeld (48 + i) (if r.1 = 2 then badCrc b else if r.1 = 0 then b else (s.prt.path i).sent) r.2
  let s1 := h.2.modPath i fun p => { p with seqTx := (p.seqTx + 1) % 65536, sent := h.1 }
  if r.1 = 3 then s1.modLink (48 + i) fun k => { k with held := k.held ++ [(s.injDepth (48 + i), b)] } else s1

/-- Path A (0) or B (1) carries beats: its lane is not one that alternate 3 left disabled (R101, R401). -/
def State.beats (s : State) (path : Nat) : Bool :=
  s.ticking && s.mode != mHolding && !hasBit s.cfg.disabled (if path = 0 then 48 else 50)

/-- At the confirmation of a V_WARN crossing one beat with GASP goes out on each path that carries beats (R403). -/
def gasp (s : State) : State :=
  let g := fun (i : Nat) (a : State) => sendBeat i true (Config.chosen a.fresh) a.draw
  (s.when (s.beats 0) (g 0)).when (s.beats 1) (g 1)

/-- A received beat is valid: TYPE, DOMAIN_ID, SENDER and CRC check (R401). -/
def State.beatValid (s : State) (b : List Nat) : Bool :=
  b.length == 16 && b.getD 0 0 == 0x48 && ofLe (b.extract 4 6) == s.rd F.PRT_CFG_DOMAIN_ID &&
  ofLe (b.extract 2 4) % 4096 == s.rd F.PRT_ID_PEER_ID && decide (ofLe (b.extract 2 4) < 0x4000) &&
  ofLe (b.extract 14 16) == crc16 (b.extract 0 14)

/-- A path is restored after 16 consecutive valid beats (R402). -/
def pathRestored (i : Nat) (s : State) : State :=
  let s1 := raise (if i = 0 then E.PRT_PATH_A_UP else E.PRT_PATH_B_UP) (s.wr (pathUp i) 1)
  if i = 0 then startBulk s1 else s1

/-- The active's MG, as its beat gives it, shows how far the standby's mirror lies behind (R413, R415); one that has caught up again
receives a bulk copy. -/
def mirrorLagSeen (mg : Nat) (s : State) : State :=
  let own := s.rd F.PRT_MIRROR_STAT_MG
  let lag := if aheadOf 32 mg own then min 65535 ((mg + 2 ^ 32 - own) % 2 ^ 32) else 0
  let s1 := s.wr F.PRT_MIRROR_STAT_LAG lag
  if s.rd F.PRT_STAT_MIRROR = mirCurrent ∧ s.mirrorLag < lag then setMirror mirStale s1
  else if s.rd F.PRT_STAT_MIRROR = mirStale ∧ lag ≤ s.mirrorLag ∧ s.on F.PRT_STAT_PATH_A then startBulk s1
  else s1

/-- An ACTIVE device follows its peer's role (R415): without a standby MIRROR is NONE, and a new one receives a bulk copy. -/
def peerSeen (old r : Nat) (s : State) : State :=
  if s.role ≠ roleActive ∨ old = r then s
  else if r = roleStandby then s.when (s.on F.PRT_STAT_PATH_A) startBulk
  else setMirror mirNone (s.modPrt fun p => { p with bulk := false })

/-- A beat arrives on a path. `near` says that it came within 1.5 ms of the one before, and `missed` counts the beats missed
since (R402, R404). -/
def onBeat (i : Nat) (b : List Nat) (near : Bool) (missed : Nat) (s : State) : State :=
  if ¬ s.beatValid b then s.modPath i fun p => { p with good := 0 }
  else
    let r := ofLe (b.extract 2 4) / 4096
    let s1 := (peerSeen (s.rd F.PRT_STAT_PEER_ROLE) r (s.wr F.PRT_STAT_PEER_ROLE r)).sat (if i = 0 then F.PRT_HB_STAT_MISSED_A else F.PRT_HB_STAT_MISSED_B) missed
    let good := if near then (s.prt.path i).good + 1 else 1
    let s2 := if s.on (pathUp i) then s1
      else if 16 ≤ good then pathRestored i (s1.modPath i fun p => { p with good := 0 })
      else s1.modPath i fun p => { p with good := good }
    let s3 := s2.when (hasBit (b.getD 1 0) 0) fun t => trigger 1 (raise E.PRT_PEER_GASP t)
    let s4 := s3.when (r == roleActive && s3.role == roleActive) (raiseSec E.PRT_DUAL_ACTIVE)
    s4.when (r == roleActive && s4.role == roleStandby) (mirrorLagSeen (ofLe (b.extract 8 12)))

/-- 8.0 ms pass without a valid beat on a path that was up (R402, R404). -/
def pathLost (i : Nat) (s : State) : State :=
  if ¬ s.on (pathUp i) then s
  else
    let s1 := ((s.wr (pathUp i) 0).sat (if i = 0 then F.PRT_HB_STAT_MISSED_A else F.PRT_HB_STAT_MISSED_B) 8).sat
      (if i = 0 then F.PRT_HB_STAT_LOST_A else F.PRT_HB_STAT_LOST_B) 1
    let s2 := (raise (if i = 0 then E.PRT_PATH_A_LOST else E.PRT_PATH_B_LOST) s1).modPath i fun p => { p with good := 0 }
    let s3 := s2.when (i == 0 && (s2.rd F.PRT_STAT_MIRROR != mirNone)) fun t =>
      setMirror mirStale (t.modPrt fun p => { p with bulk := false })
    s3.when (!s3.on F.PRT_STAT_PATH_A && !s3.on F.PRT_STAT_PATH_B) fun t => trigger 0 (raise E.PRT_PEER_LOST t)

/-! Verdicts (R409 to R411). -/

/-- The 64 bytes in PRT_KAP_RX. -/
def State.kapRx (s : State) : List Nat := (List.range 16).flatMap fun i => leNats 4 (s.rd (F.PRT_KAP_RX_BYTES i))

/-- Bytes `o` to `o + n - 1` of a message, little-endian. -/
def kapAt (m : List Nat) (o n : Nat) : Nat := ofLe (m.extract o (o + n))

/-- VER of a message lies in the advertised KAP range (R408); a POOL domain has no common version with KAP 1 (R412). -/
def State.kapVerOk (s : State) (v : Nat) : Bool :=
  decide (s.rd (F.CFG_VER_MIN 3) ≤ v) && decide (v ≤ s.rd (F.CFG_VER_MAX 3)) && !(v == 1 && s.domClass == 2)

/-- The mode that a PROMOTE names (R407). -/
def State.promoteMode (s : State) (m : Nat) : Nat := if m = 0 then s.promoteTo else m

/-- APPLY is past, more than 60 s ahead, or given without time lock (R409, code 6). -/
def State.applyBad (s : State) (sec tick : Nat) : Bool :=
  if sec = 0 then false
  else
    let now := s.todAt s.offsetNs
    let at_ : Int := (sec * 1000000000 + tick * 125000 : Nat)
    s.rd F.TSU_STAT_STATE != 2 || decide (at_ < now) || decide (now + 60000000000 < at_)

/-- The first check of R409 that a verdict message fails; 0 when it passes all. -/
def State.kapCheck (s : State) (m : List Nat) : Nat :=
  let ver := kapAt m 1 1
  let agreed := s.rd (F.CFG_VER_AGREED 3)
  let epoch := kapAt m 12 4
  let code := kapAt m 16 1
  let mode := kapAt m 19 1
  let named := s.promoteMode mode
  if crc32 (m.extract 0 60) ≠ kapAt m 60 4 ∨ (agreed ≠ 0 ∧ ver ≠ agreed) ∨ (agreed = 0 ∧ ¬ s.kapVerOk ver) then 1
  else if kapAt m 2 2 ≠ s.rd F.PRT_CFG_DOMAIN_ID ∨ kapAt m 6 2 ≠ s.rd F.PRT_ID_DEVICE_ID ∨ s.domClass = 0 then 2
  else if behind 32 epoch (s.rd F.PRT_KAP_RX_STAT_EPOCH) || s.prt.verdict.any (fun v => behind 32 epoch v.epoch && !v.pin) then 3
  else if kapAt m 8 4 ≠ 0 ∧ ¬ (s.on F.PRT_STAT_REQ_OPEN ∧ kapAt m 8 4 = s.prt.reqSeq) then 4
  else if kapAt m 0 1 ≠ 2 ∨ code = 0 ∨ 4 < code ∨ ¬ (mode = 0 ∨ isService mode) then 5
  else if s.applyBad (kapAt m 20 6) (kapAt m 26 2) then 6
  else if code = 1 ∧ (¬ s.floorMet named ∨ (named = mLean ∧ ¬ s.leanFits)) then 7
  else if s.mode = mHolding then 8
  else 0

/-- Fixes the KAP version at the first message after step 12 that passes its CRC with a VER in range, and raises VER_NONE for one out of range,
also once a version is agreed (R408). -/
def kapAgree (m : List Nat) (s : State) : State :=
  if crc32 (m.extract 0 60) ≠ kapAt m 60 4 ∨ (s.mode = mStarting ∧ s.rd F.CFG_BOOT_STAT_STEP < 13) then s
  else if s.rd (F.CFG_VER_AGREED 3) ≠ 0 then s.when (!s.kapVerOk (kapAt m 1 1)) (raise E.CFG_VER_NONE)
  else if s.kapVerOk (kapAt m 1 1) then (s.wr (F.CFG_VER_AGREED 3) (kapAt m 1 1)).wr (F.CFG_VER_NONE 3) 0
  else raise E.CFG_VER_NONE (s.wr (F.CFG_VER_NONE 3) 1)

/-- PRT_KAP_RX_CMD.GO: the message in PRT_KAP_RX is checked, answered, and taken as the verdict that waits (R408, R409). Its
version is the one the ACK carries before a version is agreed. -/
def submitKap (s : State) : State :=
  let m := s.kapRx
  let s0 := kapAgree m s
  let c := s0.kapCheck m
  let ver := if s0.rd (F.CFG_VER_AGREED 3) = 0 then kapAt m 1 1 else s0.rd (F.CFG_VER_AGREED 3)
  let s1 := s0.wr F.PRT_KAP_RX_STAT_CODE c
  let s2 := sendKap ⟨true, s1.kapAck ver (kapAt m 8 4) (kapAt m 12 4) c⟩ s1
  if c ≠ 0 then raise E.PRT_VERDICT_REFUSED s2
  else
    (closeRequest (s2.wr F.PRT_KAP_RX_STAT_WAITING 1)).modPrt fun p =>
      { p with
        verdict := some
          { code := kapAt m 16 1, mode := kapAt m 19 1, epoch := kapAt m 12 4, apply := kapAt m 20 6,
            applyTick := kapAt m 26 2, seq := kapAt m 8 4, replaces := kapAt m 36 2, unprot := kapAt m 32 4,
            pin := false, due := false } }

/-- A level on ARB_GNT that has stood for 1.0 ms (R411): a verdict for the next tick; PROMOTE needs its floor (R39), and HOLDING
suppresses it (R25). -/
def pinVerdict (level : Bool) (s : State) : State :=
  if ¬ s.pinArb then s
  else
    let code := if level then (if s.role = roleActive then 3 else 1) else if s.role = roleActive then 2 else 3
    let s1 := s.modPrt fun p => { p with arbGnt := some level }
    if s1.mode = mHolding then (if code = 3 then s1 else raise E.PWR_ACTION_SUPPRESSED s1)
    else if code = 1 ∧ (¬ s1.floorMet s1.promoteTo ∨ (s1.promoteTo = mLean ∧ ¬ s1.leanFits)) then
      raise E.PRT_VERDICT_REFUSED (s1.wr F.PRT_KAP_RX_STAT_CODE 7)
    else
      (closeRequest (s1.wr F.PRT_KAP_RX_STAT_WAITING 1)).modPrt fun p =>
        { p with verdict := some ⟨code, 0, s1.rd F.PRT_KAP_RX_STAT_EPOCH, 0, 0, 0, 0xFFF, 0, true, false⟩ }

/-- The apply instant of a waiting verdict has come at a tick whose time of day is `now` (R409). -/
def Verdict.comes (v : Verdict) (now : Int) : Bool :=
  v.apply == 0 || decide (((v.apply * 1000000000 + v.applyTick * 125000 : Nat) : Int) ≤ now)

/-- VERDICT_MS has passed since the request opened or was last issued on time-out (R406). -/
def verdictTimeout (s : State) : State :=
  if s.on F.PRT_STAT_REQ_OPEN ∧ s.verdictMs * 8 ≤ s.prt.reqTicks + 1 then
    let s1 := issueRequest ((raise E.PRT_VERDICT_TIMEOUT s).modPrt fun p => { p with reqTicks := 0 })
    if ¬ s1.on F.PRT_STAT_PATH_A ∧ ¬ s1.on F.PRT_STAT_PATH_B ∧ ¬ s1.on F.PRT_STAT_SPLIT then
      raise E.PRT_SPLIT_SUSPECT (s1.wr F.PRT_STAT_SPLIT 1)
    else s1
  else s

/-- F50 ports, bit per tree: those of tiles that are neither EMPTY nor ISOLATED. -/
def State.f50Trees (s : State) : Nat :=
  (List.range 32).foldl (fun a n =>
    if s.rd (F.CFG_TILE_STAT_STATE n) != 0 && s.rd (F.CFG_TILE_STAT_STATE n) != 4 && s.on (F.TPA_STAT_RATE_CLASS n) then withBit a n else a) 0

/-- Shows the agreement of one interface, or the lack of one (R97). -/
def showAgreed (i : Nat) (v : Option Nat) (s : State) : State :=
  match v with
  | some a => (s.wr (F.CFG_VER_AGREED i) a).wr (F.CFG_VER_NONE i) 0
  | none => raise E.CFG_VER_NONE ((s.wr (F.CFG_VER_AGREED i) 0).wr (F.CFG_VER_NONE i) 1)

/-- The highest version in two ranges (R97). -/
def agreeOn (a b : Nat × Nat) : Option Nat :=
  if max a.1 b.1 ≤ min a.2 b.2 then some (min a.2 b.2) else none

/-- Own range of an external interface. -/
def State.verRange (s : State) (i : Nat) : Nat × Nat := (s.rd (F.CFG_VER_MIN i), s.rd (F.CFG_VER_MAX i))

/-- The OXL link trains with the peer's ranges: OXL first, then the mirror schema (R97, R99, R100). Without a common version the link is
isolated: no tree is mirrored over it, and the schema is not agreed either. A mirror that is not CURRENT is copied in bulk (R415). -/
def oxlTrained (oxl schema : Nat × Nat) (s : State) : State :=
  match agreeOn (s.verRange 2) oxl with
  | none => ((showAgreed 2 none s).wr (F.CFG_VER_AGREED 4) 0).modPrt fun p => { p with oxl := 0, unprot := 0xFFFFFFFF, pages := [] }
  | some v =>
    let s1 := (showAgreed 2 (some v) s).modPrt fun p => { p with oxl := v }
    match agreeOn (s.verRange 4) schema with
    | none => (showAgreed 4 none s1).modPrt fun p => { p with unprot := 0xFFFFFFFF, pages := [] }
    | some k =>
      let s2 := showAgreed 4 (some k) s1
      let s3 := if v = 1 ∨ k = 1 then raise E.CFG_VER_LIMITED (s2.modPrt fun p => { p with unprot := s2.f50Trees })
        else s2.modPrt fun p => { p with unprot := 0 }
      s3.when (s3.on F.PRT_STAT_PATH_A) startBulk

/-- The bulk copy ends (R415). -/
def bulkDone (s : State) : State :=
  if s.prt.bulk ∧ s.on F.PRT_STAT_PATH_A ∧ s.rd F.PRT_STAT_MIRROR = mirSyncing then
    setMirror mirCurrent ((s.wr F.PRT_MIRROR_STAT_LAG 0).modPrt fun p => { p with bulk := false })
  else s

/-- The hold-off count of R421 applies to this device. -/
def State.revertive (s : State) : Bool :=
  s.domClass == 1 && s.on F.PRT_CFG_REVERTIVE && s.on F.PRT_CFG_HOME && s.role == roleStandby

/-- The hold-off count has reached HOLDOFF_S: a request with reason REVERT, once (R421). -/
def revertRequest (s : State) : State :=
  if s.revertive ∧ s.holdoffS ≤ s.rd F.PRT_STAT_HOLDOFF ∧ ¬ s.prt.revertAsked then
    trigger 4 (s.modPrt fun p => { p with revertAsked := true })
  else s

/-- One second of the hold-off count (R421). -/
def holdoffSecond (s : State) : State :=
  if ¬ s.revertive then (s.wr F.PRT_STAT_HOLDOFF 0).modPrt fun p => { p with revertAsked := false }
  else if s.prt.revertAsked then s
  else if s.on F.PRT_STAT_PATH_A ∧ s.on F.PRT_STAT_PATH_B ∧ s.rd F.PRT_STAT_MIRROR = mirCurrent ∧ s.prt.healthy then
    s.sat F.PRT_STAT_HOLDOFF 1
  else s.wr F.PRT_STAT_HOLDOFF 0

/-- The lanes of the enabled ports, in the MASK layout of R119: the enabled tree ports, and the lanes of the uplink ports that a tile
declares (R428). The OXL and HB lanes belong to no port: DEDUCED (assumption 54). -/
def State.enabledLanes (s : State) : Nat :=
  let trees := (s.armed (F.TPA_CTRL_ENABLE 0) 0x10000 32).foldl withBit 0
  (List.range 16).foldl (fun a u =>
    let w := s.rd (F.UPL_PORT_STAT_WIDTH u)
    if w = 0 then a
    else (List.range (if w = 3 then 4 else w)).foldl (fun b k => withBit b (32 + s.rd (F.UPL_PORT_STAT_FIRST_LANE u) + k)) a) trees

/-! The commands. -/

/-- HEARTBEAT_TX: one beat on a path, in every mode but ASLEEP and HOLDING (R401, R403). -/
def execHeartbeatTx (path : Nat) (selected : Bool) (s : State) : Out :=
  .next (s.when (s.beats path) (sendBeat path false selected))
/-- HEARTBEAT_RX (R402, R404). -/
def execHeartbeatRx (path : Nat) (beat : List Nat) (near : Bool) (missed : Nat) (s : State) : Out :=
  .next (s.when (s.beats path) (onBeat path beat near missed))
/-- PATH_LOST (R402, R404). -/
def execPathLost (path : Nat) (s : State) : Out := .next (s.when (s.ticking && s.mode != mHolding) (pathLost path))
/-- VERDICT_TIMEOUT (R406). -/
def execVerdictTimeout (s : State) : Out := .next (s.when (s.ticking && s.mode != mHolding) verdictTimeout)
/-- ARB_GNT_VERDICT (R411). -/
def execArbGntVerdict (level : Bool) (s : State) : Out := .next (s.when s.ticking (pinVerdict level))
/-- OXL_LINK_TRAINED (R97, R99, R100). -/
def execOxlLinkTrained (oxlMin oxlMax schemaMin schemaMax : Nat) (s : State) : Out :=
  .next (s.when s.works (oxlTrained (oxlMin, oxlMax) (schemaMin, schemaMax)))
/-- BULK_COPY_DONE (R415). -/
def execBulkCopyDone (s : State) : Out := .next (s.when s.works bulkDone)
/-- REVERT_REQUEST (R421). -/
def execRevertRequest (s : State) : Out := .next (s.when s.works revertRequest)

end Sys2Proof.Machine
end

