-- ==== Sys2Proof/Machine/Frame.lean ====
section
/-! DEFINITION. Machine/Frame.lean: FRM: the message queues and frame hand-off (R153 to R162), the superframe counter and its
ceiling (R158, R159), the defects (R168, R169), and the PM records with their latch (R170 to R174). -/
namespace Sys2Proof.Machine

/-! PM counters of the tree record, by their position in R170. -/
def pmDsFrames : Nat := 0
def pmDsBytes : Nat := 1
def pmDsIdle : Nat := 2
def pmUsBursts : Nat := 3
def pmUsMissed : Nat := 4
def pmUsAmbiguous : Nat := 5
def pmUsHdrErr : Nat := 6
def pmUsWrongId : Nat := 7
def pmUsFecConfirmed : Nat := 8
def pmUsCorrBits : Nat := 9
def pmUsCorrCw : Nat := 10
def pmUsUncorrCw : Nat := 11
def pmUsBytes : Nat := 12
def pmUsReportDrop : Nat := 13
def pmDiscResponses : Nat := 14
def pmDiscCollisions : Nat := 15
def pmPloamDs : Nat := 16
def pmPloamUs : Nat := 17
def pmPloamDsDrop : Nat := 18
def pmMicErr : Nat := 19
def pmKeyErr : Nat := 20
def pmRiSent : Nat := 21
def pmSeconds : Nat := 22

/-- Adds to a live tree counter; it wraps at 64 bits (R170). -/
def pmAdd (n i k : Nat) (s : State) : State :=
  s.modTree n fun t => { t with pm := SMap.put t.pm i ((SMap.getD t.pm i 0 + k) % 2 ^ 64) }

/-- A live tree counter. -/
def State.pm (s : State) (n i : Nat) : Nat := SMap.getD (s.tree n).pm i 0

/-- Changes a terminal's live PM record. -/
def modPm (n t : Nat) (g : TermPm → TermPm) (s : State) : State := s.modTerm n t fun x => { x with pm := g x.pm }

/-- The window has closed before this frame began. -/
def Win.past (w : Win) (t : Nat) : Bool := decide (w.closes ≤ ((t : Int) - w.frame) * 125000)

/-- Changes the current window. -/
def modWin (n : Nat) (g : Win → Win) (s : State) : State :=
  s.modTree n fun t => { t with wins := match t.wins with
    | [] => []
    | w :: r => g w :: r }

/-- What a burst adds to a tree counter is held by its window until that closes (R170). -/
def winAdd (n i k : Nat) (s : State) : State := modWin n (fun w => { w with held := SMap.put w.held i (SMap.getD w.held i 0 + k) }) s
/-- What it adds to its terminal's record. -/
def winPm (n : Nat) (g : TermPm → TermPm) (s : State) : State := modWin n (fun w => { w with heldPm := g w.heldPm }) s

/-- A terminal's record with what a window has held for it; the counters wrap at their widths (R170). -/
def TermPm.plus (p q : TermPm) : TermPm :=
  ⟨(p.bursts + q.bursts) % 2 ^ 32, (p.missed + q.missed) % 2 ^ 24, (p.hdrErr + q.hdrErr) % 2 ^ 24, (p.corrBits + q.corrBits) % 2 ^ 40,
   (p.uncorrCw + q.uncorrCw) % 2 ^ 24, (p.usBytes + q.usBytes) % 2 ^ 48⟩

/-- A closing window's counts enter the live records (R170). -/
def countWin (n : Nat) (w : Win) (s : State) : State :=
  (w.held.foldl (fun a e => pmAdd n e.1 e.2 a) s).when (decide (w.kind ≠ 2)) (modPm n w.term (TermPm.plus · w.heldPm))

/-- A code word of the burst whose window closed last: it counts now, and, when a latch copy is under way that takes the records as of a tick
after the window's close, in the copy as well (R170, R171). -/
def countLate (n : Nat) (w : Win) (tree : List (Nat × Nat)) (p : TermPm) (s : State) : State :=
  let s1 := (tree.foldl (fun a e => pmAdd n e.1 e.2 a) s).when (decide (w.kind ≠ 2)) (modPm n w.term (TermPm.plus · p))
  if (s.tree n).latching ∧ w.past s.ticks then
    let up := fun (b : PmBank) => (⟨tree.foldl (fun m e => SMap.put m e.1 (SMap.getD m e.1 0 + e.2)) b.tree,
      b.terms.map fun x => if x.1 = w.term then (x.1, x.2.plus p) else x⟩ : PmBank)
    s1.modTree n fun t => if s.on (F.FRM_PM_STAT_BANK n) then { t with bankA := up t.bankA } else { t with bankB := up t.bankB }
  else s1

/-- One more in a tree counter for the burst of a window: held by the window until it closes, counted at once where it has (R170). -/
def countWithin (n : Nat) (w : Win) (i : Nat) (s : State) : State :=
  let same := fun (v : Win) => v.frame == w.frame && v.opens == w.opens && v.kind == w.kind
  if (s.tree n).wins.any same then
    s.modTree n fun t => { t with wins := t.wins.map fun v => if same v then { v with held := SMap.put v.held i (SMap.getD v.held i 0 + 1) } else v }
  else countLate n w [(i, 1)] TermPm.zero s

/-- FRM sends frames on the port: its tile carries its traffic, which it does until its drain ends (R83), and BEN is active. -/
def State.sending (s : State) (n : Nat) : Bool := s.works && s.carries n && s.on (F.TPA_STAT_BEN n)
/-- The frame after this one is a service frame: the LEAD_TICKS fill frames, from the asserting tick on, are over by then (R132). -/
def State.nextServes (s : State) (n : Nat) : Bool :=
  s.rd (F.TPA_STAT_PHASE n) == 3 || (s.rd (F.TPA_STAT_PHASE n) == 2 && decide ((s.port n).lead ≤ 1))
/-- FRM may take payload for the next frame. -/
def State.serving (s : State) (n : Nat) : Bool := s.sending n && s.nextServes n

/-! Messages. -/

/-- Host messages that wait (FRM_MSG_TX_STAT.QUEUED). -/
def Tree.hostQueued (t : Tree) : Nat := (t.msgs.filter fun m => m.origin == 3).length

def showQueued (n : Nat) (s : State) : State := s.wr (F.FRM_MSG_TX_STAT_QUEUED n) (s.tree n).hostQueued

/-- Queues a message for a tree. -/
def queueMsg (n : Nat) (m : Msg) (s : State) : State := s.modTree n fun t => { t with msgs := t.msgs ++ [m] }

/-- Messages in the order of R155. -/
def byOrigin (l : List Msg) : List Msg :=
  (List.range 4).flatMap fun o => l.filter fun m => m.origin == o

/-- MSG_MAX, where 0 and values above 16 act as 16. -/
def State.msgMax (s : State) (n : Nat) : Nat :=
  let v := s.rd (F.FRM_MSG_CFG_MSG_MAX n)
  if v = 0 ∨ 16 < v then 16 else v

/-- A request of FRM to CPH (R328): the integrity check of a message, three blocks. It uses no slot of the key store. -/
def messageReq : CipherReq :=
  { prio := 3, slot := 65536, blocks := 3, sfc := 0, frame := 0, flow := 0, tag := 0, mode := 4, decrypt := false, htag := 0, len := 40,
    src := 0, dst := 0, iv := 0, icb := 0, job := .check none }

/-- FRM asks CPH for integrity checks, each of a message to be sent on a tree or of one received (R152, R328). -/
def askChecks (l : List (Option (Nat × Msg))) (s : State) : State :=
  { s with cph := { s.cph with waiting := s.cph.waiting ++ l.map (fun m => { messageReq with job := .check m }), demand := s.cph.demand + 3 * l.length } }

/-- Whether a message may go in the next frame: a promotion's broadcast adjustment waits for the tree's first service frame (R418). -/
def State.mayGo (s : State) (n : Nat) (m : Msg) : Bool := m.kind != 10 || s.nextServes n

/-- Selects the next frame's messages, whose integrity checks CPH computes; the others wait, keeping their order (R154, R155). -/
def selectMsgs (n : Nat) (s : State) : State :=
  let t := s.tree n
  if ¬ s.sending n ∨ t.selected then s
  else
    let all := byOrigin t.msgs
    let l := all.filter (s.mayGo n)
    askChecks ((l.take (s.msgMax n)).map fun m => some (n, m))
      (showQueued n (s.modTree n fun t =>
        { t with selected := true, sel := l.take (s.msgMax n), msgs := (all.filter fun m => !s.mayGo n m) ++ l.drop (s.msgMax n) }))

/-- A host submission (R155): queued, or refused at 64 with PLOAM_DS_DROP and MSG_TX_DROP. -/
def submitMsg (n term : Nat) (s : State) : State :=
  let body := (List.range 10).flatMap fun i => leNats 4 (s.rd (F.FRM_MSG_TX_BYTES n i))
  let s0 := s.wr (F.FRM_MSG_TX_CMD_TERMINAL n) term
  if 64 ≤ (s0.tree n).hostQueued then
    raise (E.FRM_MSG_TX_DROP n) (pmAdd n pmPloamDsDrop 1 (s0.wr (F.FRM_MSG_TX_STAT_LAST_REFUSED n) 1))
  else showQueued n (queueMsg n ⟨3, 11, term, 0, body⟩ (s0.wr (F.FRM_MSG_TX_STAT_LAST_REFUSED n) 0))

/-- What sending a message leaves behind: Acknowledges expected and the wait of R186. -/
def noteSent (n : Nat) (m : Msg) (s : State) : State :=
  if m.term = 0x1FF then s
  else if m.kind = 3 then s.modTerm n m.term fun x => { x with rtTicks := 0 }
  else if m.kind = 11 then s.modTerm n m.term fun x => { x with hostAcks := x.hostAcks + 1 }
  else if m.kind = 5 then s.modTerm n m.term fun x => { x with cphAcks := x.cphAcks + 1 }
  else s

/-- The key of a message's integrity check: its terminal's, once a session key is imported; none, the default one, before, and for a broadcast
(R326). -/
def State.messageKey (s : State) (n : Nat) (m : Msg) : Option (List Nat) :=
  if m.term = 0x1FF then none else (SMap.find? s.cph.terms (512 * n + m.term)).bind KeyTerm.mik

/-- The integrity check of a message under a key (R152, R153, R326). -/
def checkOf (mik : Option (List Nat)) (m : Msg) : Nat := Config.micOf mik m.kind m.term m.arg m.body

/-- A message with the integrity check that CPH computes for it (R152, R153): under the key that the request's lane has copied (R328), or, where no
lane took it in time, under the key held now (DEDUCED, assumption 46). -/
def State.checked (s : State) (n : Nat) (m : Msg) : Msg × Nat :=
  (m, match (s.tree n).mics.find? fun e => e.1 == m with
    | some e => e.2
    | none => checkOf (s.messageKey n m) m)

/-- Payload fell short (R157): DS_UNDERRUN, whose event comes once a second. -/
def countUnderrun (n : Nat) (s : State) : State := raiseSec (E.FRM_DS_UNDERRUN n) (s.sat (F.FRM_DS_STAT_DS_UNDERRUN n) 1)

/-- Hands the next frame to TPA (R154, R157): `idle` bytes of idle framing, `short` when payload fell short of the lead. -/
def handOff (n idle : Nat) (short : Bool) (s : State) : State :=
  let t := s.tree n
  if ¬ s.sending n ∨ t.handed ∨ ¬ (t.frozen ∨ t.late) then s
  else
    let s1 := t.sel.foldl (fun a m => noteSent n m a) s
    let s3 := s1.modTree n fun t =>
      { t with handed := true, sel := [], payload := 0, ready := []
               next := some ⟨t.sel.map (s.checked n), t.ready, t.payload, idle, !t.frozen || !s.nextServes n, false⟩ }
    s3.when short (countUnderrun n)

/-- A frame that was on the line counts in the second of its frame (R170); one of the fill generator counts nothing (R156). -/
def countFrame (n : Nat) (s : State) : State :=
  match (s.tree n).onAir with
  | none => s
  | some f =>
    if f.fill then s
    else
      let ri := (f.msgs.filter fun m => m.1.kind == 7 || m.1.kind == 8 || m.1.kind == 9).length
      pmAdd n pmRiSent ri (pmAdd n pmPloamDs f.msgs.length (pmAdd n pmDsIdle f.idle (pmAdd n pmDsBytes f.payload (pmAdd n pmDsFrames 1 s))))

/-- No map has come by tick + 123.0 µs: an empty map goes out (R156). -/
def mapLate (n : Nat) (s : State) : State :=
  let t := s.tree n
  if ¬ s.sending n ∨ t.frozen ∨ t.late then s
  else raise (E.FRM_MAP_LATE n) ((s.sat (F.FRM_DS_STAT_MAP_LATE n) 1).modTree n fun t => { t with late := true })

/-- Shows the oldest upstream message (FRM_MSG_RX, FRM_MSG_RX_STAT); an empty queue shows zeros. -/
def showRx (n : Nat) (s : State) : State :=
  let q := (s.tree n).rxq
  let h := q.headD (0, [])
  let s1 := ((s.wr (F.FRM_MSG_RX_STAT_VALID n) (bit !q.isEmpty)).wr (F.FRM_MSG_RX_STAT_TERMINAL n) h.1).wr
    (F.FRM_MSG_RX_STAT_PENDING n) q.length
  (List.range 12).foldl (fun a i => a.wr (F.FRM_MSG_RX_BYTES n i) (ofLe ((List.range 4).map fun j => h.2.getD (4 * i + j) 0))) s1

/-- MSG_RX again on the trees whose queue is not empty and whose event status is 0: after a POP, and after the status was cleared (R162). -/
def msgRxAgain (s : State) : State :=
  s.trees.foldl (fun a e =>
    let i := (E.FRM_MSG_RX e.1).id
    if e.2.rxq.isEmpty ∨ hasBit (a.rd (F.HIF_EVT_STAT_STAT (i / 32))) (i % 32) then a else raise (E.FRM_MSG_RX e.1) a) s

/-- FRM_MSG_RX_POP removes the oldest message (R162). -/
def popRx (n : Nat) (s : State) : State := msgRxAgain (showRx n (s.modTree n fun t => { t with rxq := t.rxq.drop 1 }))

/-- An upstream message for the host: queued with MSG_RX, or dropped at 64 (R162). -/
def pushRx (n term : Nat) (body : List Nat) (s : State) : State :=
  if 64 ≤ (s.tree n).rxq.length then s.sat (F.FRM_DS_STAT_PLOAM_US_DROP n) 1
  else raise (E.FRM_MSG_RX n) (showRx n (s.modTree n fun t => { t with rxq := t.rxq ++ [(term, body)] }))

/-! The superframe counter (R158, R159). -/

/-- Writes a new ceiling 2^32 frames ahead of the counter, unless nothing may be written (R101, R159, R494). -/
def writeCeiling (n : Nat) (s : State) : State :=
  if s.cfg.alt5 || s.cfg.scan then s
  else
    let c := (s.rd (F.FRM_SFC_SFC n) + 2 ^ 32) % 2 ^ 51
    (s.modTree n fun t => { t with ceiling := c }).modStore fun w => { w with ceilings := SMap.put w.ceilings n c }

/-- Starts a tree's counter when its tile first joins in a start (R159). DESIGN CHOICE (assumption 70): under alternate 5 of R101 too it starts from a
stored ceiling, which is read and not written; the spec says only that the counter runs unreserved. -/
def startSfc (n : Nat) (s : State) : State :=
  if (s.tree n).sfcOn then s
  else writeCeiling n ((s.wr (F.FRM_SFC_SFC n) ((SMap.find? s.store.ceilings n).getD 0)).modTree n fun t =>
    { t with sfcOn := true, sfcFrom := SMap.find? s.store.ceilings n })

/-- The counter reaches its ceiling less 2^31 frames (R159). -/
def ceilingDue (s : State) (n : Nat) : Bool :=
  (s.tree n).sfcOn && !s.cfg.alt5 && decide ((s.tree n).ceiling ≤ s.rd (F.FRM_SFC_SFC n) + 2 ^ 31)

/-! Defects (R168, R169). -/

/-- Changes a defect's state, with FRM_DEFECT_LAST, the event and, on raising, the indication. -/
def setDefect (n term c : Nat) (on : Bool) (s : State) : State :=
  let d := (s.term n term).defects
  if hasBit d (c - 1) = on then s
  else
    let s1 := s.modTerm n term fun x => { x with defects := if on then withBit d (c - 1) else noBit d (c - 1) }
    let s2 := ((((s1.wr (F.FRM_DEFECT_LAST_FRAME n) s1.frame16).wr (F.FRM_DEFECT_LAST_TERMINAL n) term).wr
      (F.FRM_DEFECT_LAST_DEFECT n) c).wr (F.FRM_DEFECT_LAST_SET n) (bit on)).sat (F.FRM_DEFECT_LAST_CHANGES n) 1
    let k := if c = 2 ∨ c = 3 then 7 else if c = 4 then 8 else if c = 6 then 9 else 0
    let s3 := s2.when (on && k != 0) (queueMsg n ⟨2, k, term, 0, []⟩)
    raise (if on then E.FRM_TERM_DEFECT n else E.FRM_TERM_DEFECT_CLEAR n) s3

def State.lobFrames (s : State) (n : Nat) : Nat := max 1 (s.rd (F.FRM_DEFECT_CFG_LOB_FRAMES n))
/-- SD_EXP within 2 to 9. -/
def State.sdExp (s : State) (n : Nat) : Nat := clampTo 2 9 (s.rd (F.FRM_DEFECT_CFG_SD_EXP n))
/-- SF_EXP within 2 to 9 and at most SD_EXP. -/
def State.sfExp (s : State) (n : Nat) : Nat := min (clampTo 2 9 (s.rd (F.FRM_DEFECT_CFG_SF_EXP n))) (s.sdExp n)

/-- A confirmed burst of a terminal ends LOB and records the dying-gasp indication (R168). -/
def burstSeen (n term : Nat) (dg : Bool) (s : State) : State :=
  let s1 := s.modTerm n term fun x => { x with lob := 0, granted := true, confirmed := true }
  setDefect n term 5 dg (setDefect n term 1 false s1)

/-- The frame ends: a terminal that was granted without a confirmed burst counts towards LOB (R168). -/
def lobTick (n term : Nat) (s : State) : State :=
  let x := s.term n term
  let s1 := s.modTerm n term fun x =>
    { x with lob := if x.granted && !x.confirmed then x.lob + 1 else x.lob, granted := false, confirmed := false }
  s1.when (x.granted && !x.confirmed && decide (s.lobFrames n ≤ x.lob + 1)) (setDefect n term 1 true)

/-- One exponent of SD or SF at the end of a second (R168, R169): new state, and the good seconds so far. -/
def errSecond (e num den good : Nat) (active : Bool) : Bool × Nat :=
  if den < num * 10 ^ e then (true, 0)
  else if num * 10 ^ (e + 1) < den then (active && decide (good + 1 < 10), good + 1)
  else (active, 0)

/-- A terminal's second ends for SD and SF (R169). -/
def errorSecond (n term : Nat) (s : State) : State :=
  let x := s.term n term
  let s0 := s.modTerm n term fun x => { x with secBits := 0, secCorr := 0, secUncorr := 0 }
  if x.secBits < 10 ^ (s.sdExp n + 1) then s0
  else
    let num := 2 * x.secCorr + x.secUncorr
    let den := 2 * x.secBits
    let sd := errSecond (s.sdExp n) num den x.sdGood (hasBit x.defects 1)
    let sf := errSecond (s.sfExp n) num den x.sfGood (hasBit x.defects 2)
    setDefect n term 3 sf.1 (setDefect n term 2 sd.1 (s0.modTerm n term fun x => { x with sdGood := sd.2, sfGood := sf.2 }))

/-! PM records. -/

/-- Zeroes a terminal's record when RNG assigns the ID (R170). During a latch copy the values of the last latch stand until the copy has been
compared (R171, R173). -/
def zeroPm (n term : Nat) (s : State) : State :=
  s.modTerm n term fun x =>
    if (s.tree n).latching then { x with pm := TermPm.zero, zeroed := true } else { x with pm := TermPm.zero, lastMissed := 0, lastHdr := 0 }

/-- Moves the TPA FEC counts into the tree record as differences (R143, R171). -/
def takeFec (n : Nat) (s : State) : State :=
  let t := s.tree n
  let b := s.rd (F.TPA_FEC_BITS_CORR_BITS n)
  let c := s.rd (F.TPA_FEC_CW_CORR_CW n)
  let u := s.rd (F.TPA_FEC_CW_UNCORR_CW n)
  let s1 := s.modTree n fun t => { t with fecBits := b, fecCw := c, fecUncorr := u }
  pmAdd n pmUsUncorrCw ((u + 2 ^ 32 - t.fecUncorr) % 2 ^ 32) (pmAdd n pmUsCorrCw ((c + 2 ^ 32 - t.fecCw) % 2 ^ 32)
    (pmAdd n pmUsCorrBits ((b + 2 ^ 48 - t.fecBits) % 2 ^ 48) s1))

/-- The latch of a tree begins at a one-second boundary: the copy into the bank that SECOND does not name (R171). -/
def latchTree (n : Nat) (s : State) : State :=
  let s1 := pmAdd n pmSeconds 1 (takeFec n s)
  let k : PmBank := ⟨(s1.tree n).pm, (s1.termsOf n).map fun t => (t, (s1.term n t).pm)⟩
  let s2 := s1.modTree n fun t => { t with latching := true, secMissed := SMap.getD t.pm pmUsMissed 0, rateRaised := false }
  if s.on (F.FRM_PM_STAT_BANK n) then s2.modTree n fun t => { t with bankA := k } else s2.modTree n fun t => { t with bankB := k }

/-- The bank that SECOND names. -/
def State.pmBank (s : State) (n : Nat) : PmBank := if s.on (F.FRM_PM_STAT_BANK n) then (s.tree n).bankB else (s.tree n).bankA

/-- A terminal crossed a threshold in the second just latched (R173); a threshold of 0 disables. -/
def crossed (s : State) (n t : Nat) (p : TermPm) : Bool :=
  let x := s.term n t
  let mt := s.rd (F.FRM_TCA_CFG_MISSED_TH n)
  let ht := s.rd (F.FRM_TCA_CFG_HDR_TH n)
  (mt != 0 && decide (mt < (p.missed + 2 ^ 24 - x.lastMissed) % 2 ^ 24)) || (ht != 0 && decide (ht < (p.hdrErr + 2 ^ 24 - x.lastHdr) % 2 ^ 24))

/-- The copy of a tree ends: SECOND switches and crossings are compared (R171, R173). -/
def latchDone (n : Nat) (s : State) : State :=
  if ¬ (s.tree n).latching then s
  else
    let s1 := ((s.wrap (F.FRM_PM_STAT_SECOND n) 1).wr (F.FRM_PM_STAT_BANK n) (1 - s.rd (F.FRM_PM_STAT_BANK n))).modTree n
      fun t => { t with latching := false }
    let l := (s1.pmBank n).terms
    let crossing := (l.filter fun e => crossed s1 n e.1 e.2).map fun e => e.1
    let s2 := l.foldl (fun a e => a.modTerm n e.1 fun x =>
      { x with lastMissed := if x.zeroed then 0 else e.2.missed, lastHdr := if x.zeroed then 0 else e.2.hdrErr, zeroed := false }) s1
    let s3 := (s2.wr (F.FRM_TCA_TERM_FIRST n) (crossing.headD 0)).wr (F.FRM_TCA_TERM_COUNT n) crossing.length
    (mirrorSend (some n) s3).when (!crossing.isEmpty) (raise (E.FRM_PM_TCA n))

/-- The 24 bytes of a terminal record (R170). -/
def TermPm.bytes (p : TermPm) : List Nat :=
  leNats 4 p.bursts ++ leNats 3 p.missed ++ leNats 3 p.hdrErr ++ leNats 5 p.corrBits ++ leNats 3 p.uncorrCw ++ leNats 6 p.usBytes

/-- Copies the selected record from the bank that SECOND names into FRM_PM_DATA (R174). DESIGN CHOICE (assumption 70): with TREE = 1 DEFECTS reads 0,
for R174 speaks of the selected terminal only. -/
def selectPm (n term : Nat) (tree : Bool) (s : State) : State :=
  let s0 := (s.wr (F.FRM_PM_SEL_TERMINAL n) term).wr (F.FRM_PM_SEL_TREE n) (bit tree)
  let b := s0.pmBank n
  let r := ((SMap.find? b.terms term).getD TermPm.zero).bytes
  let w := fun i => if tree then (if i < 23 then SMap.getD b.tree i 0 else 0) else ofLe (r.extract (8 * i) (8 * i + 8))
  (List.range 32).foldl (fun a i => a.wr (F.FRM_PM_DATA_DATA n i) (w i))
    (s0.wr (F.FRM_PM_STAT_DEFECTS n) (if tree then 0 else (s0.term n term).defects))

/-- A burst window closed without a confirmed burst (R165): counts, and UNCONFIRMED_RATE once per second. -/
def missedBurst (n term : Nat) (s : State) : State :=
  let s1 := (modPm n term (fun p => { p with missed := (p.missed + 1) % 2 ^ 24 }) (pmAdd n pmUsMissed 1 s)).modTerm n term
    fun x => { x with granted := true }
  let th := s1.rd (F.FRM_TCA_CFG_UNCONF_TH n)
  if th ≠ 0 ∧ ¬ (s1.tree n).rateRaised ∧ th ≤ (s1.pm n pmUsMissed + 2 ^ 64 - (s1.tree n).secMissed) % 2 ^ 64 then
    raise (E.FRM_UNCONFIRMED_RATE n) (s1.modTree n fun t => { t with rateRaised := true })
  else s1

/-- The fields of a burst profile that Burst_Profile announces: rate, FEC, delimiter length, preamble words and delimiter (R153). The FEC of an
F50 tree is announced as on, as it is (R142; DEDUCED, assumption 64). -/
def State.profBody (s : State) (n p : Nat) : List Nat :=
  [s.rd (F.GNT_PROF_CFG_RATE n p), bit (s.on (F.TPA_STAT_RATE_CLASS n) || s.on (F.GNT_PROF_CFG_FEC n p)), s.rd (F.GNT_PROF_CFG_DEL64 n p), s.rd (F.GNT_PROF_CFG_PRE_WORDS n p)] ++
  leNats 8 (s.rd (F.GNT_PROF_DELIM_DELIM n p))

/-- One frame of a tree in FRM: the frame that was on the line has counted, and the next one starts, the fill generator's while the tile loads
(R83, R154); what was not handed off in time is not sent (R16). Then the counter, LOB, the flags of the frame, and Burst_Profile at
least every 8,000 frames (R153, R158, R168). -/
def frameTick (n : Nat) (s : State) : State :=
  let fills := hasBit s.cfg.filler n && s.on (F.TPA_STAT_BEN n)
  let s0 := (countFrame n s).modTree n fun t =>
    { t with onAir := if fills then some ⟨[], [], 0, 0, true, true⟩ else t.next, next := none, payload := 0, ready := [], sel := [], msgs := t.sel ++ t.msgs }
  let s1 := (s0.when (!(s.tree n).sel.isEmpty) (showQueued n)).when (s.tree n).sfcOn fun a => a.wrap (F.FRM_SFC_SFC n) 1
  let s2 := (s1.termsOf n).foldl (fun a t => lobTick n t a) s1
  let s3 := s2.modTree n fun t => { t with selected := false, late := false, handed := false, mics := [] }
  ((List.range 4).filter fun p => s3.on (F.GNT_PROF_CFG_VALID n p) && !hasBit (s3.rd (F.GNT_PROF_STAT_REFUSED n)) p).foldl
    (fun a p =>
      let age := SMap.getD (a.tree n).profAge p 0 + 1
      if age < 8000 then a.modTree n fun t => { t with profAge := SMap.put t.profAge p age }
      else queueMsg n ⟨2, 1, 0x1FF, (p : Int), a.profBody n p⟩ (a.modTree n fun t => { t with profAge := SMap.put t.profAge p 0 })) s3

/-! The commands. -/

/-- MSG_SELECT (R154, R155). -/
def execMsgSelect (n : Nat) (s : State) : Out := .next (selectMsgs n s)
/-- MAP_LATE (R156). -/
def execMapLate (n : Nat) (s : State) : Out := .next (mapLate n s)
/-- PM_LATCHED: the copies of all trees end (R171, R173). -/
def execPmLatched (s : State) : Out :=
  .next (s.when (s.ticking && (List.range 32).any fun n => (s.tree n).latching) fun t =>
    raise E.FRM_PM_LATCHED ((List.range 32).foldl (fun a n => latchDone n a) t))
/-- SFC_CEILING_WRITE (R159). -/
def execSfcCeilingWrite (n : Nat) (s : State) : Out := .next (s.when (s.ticking && ceilingDue s n) (writeCeiling n))

end Sys2Proof.Machine
end

