-- ==== Sys2Proof/Machine/Ranging.lean ====
section
/-! DEFINITION. Machine/Ranging.lean: RNG: units and T_EQ (R175 to R179), quiet windows and their pacing (R180 to R183), activation
(R184 to R189), drift tracking, steps and verification (R190 to R201). -/
namespace Sys2Proof.Machine

/-- The tree is an F50 tree (RATE_CLASS 1); otherwise X10. -/
def State.f50 (s : State) (n : Nat) : Bool := s.on (F.TPA_STAT_RATE_CLASS n)

/-- RU in 125 µs (R175, R202): 256 RU in each MU. -/
def State.ruFrame (s : State) (n : Nat) : Nat := if s.f50 n then 49766400 else 9953280

/-- RU per bit of a burst rate (R190): rate codes of R144. -/
def State.ruPerBit (s : State) (n rate : Nat) : Nat :=
  if s.f50 n then (if rate = 1 then 32 else if rate = 2 then 16 else 8) else 8

/-- Nanoseconds in RU, rounded down. -/
def State.nsRu (s : State) (n ns : Nat) : Nat := ns * s.ruFrame n / 125000

/-- The multiple of 8 nearest to x / m, a tie rounding down (R177). -/
def near8 (x : Int) (m : Nat) : Int := 8 * (-((4 * (m : Int) - x) / (8 * (m : Int))))

def State.maxReach (s : State) (n : Nat) : Nat := clampTo 10 600 (s.rd (F.RNG_REACH_CFG_MAX_REACH n))
/-- MIN_REACH kept between MAX_REACH − 400 and MAX_REACH − 10. -/
def State.minReach (s : State) (n : Nat) : Nat :=
  clampTo (s.maxReach n - 400) (s.maxReach n - 10) (s.rd (F.RNG_REACH_CFG_MIN_REACH n))

/-- D_TX in picoseconds (R133). -/
def State.dTx (s : State) (n : Nat) : Int := toSigned 32 (s.rd (F.TPA_TX_DLY_D_TX_PS n))

/-- T_EQ of R176 in picoseconds. -/
def State.teqWanted (s : State) (n : Nat) : Nat := (s.dTx n + ((s.maxReach n * 980 + 38000) * 1000 : Nat)).toNat
/-- T_EQ in force, in picoseconds, and in RU, rounded down. -/
def State.teqPs (s : State) (n : Nat) : Nat := s.rd (F.RNG_TEQ_T_EQ_NS n) * 1000 + (s.tree n).teqSub
def State.teqRu (s : State) (n : Nat) : Nat := s.teqPs n * s.ruFrame n / 125000000

/-- T_EQ − D_TX in RU, scaled by 125,000,000. -/
def State.teqSpan (s : State) (n : Nat) : Int :=
  ((s.teqPs n : Nat) - s.dTx n) * (s.ruFrame n : Nat)

/-- Span S, discovery window and ranging window after discovery, in nanoseconds (R180). -/
def State.spanNs (s : State) (n : Nat) : Nat := (s.maxReach n - s.minReach n) * 980 + 2000
def State.discWinNs (s : State) (n : Nat) : Nat := s.spanNs n + s.rd (F.RNG_DISC_CFG_RAND_US n) * 1000 + 2000
def State.rangeHalfNs (s : State) (n : Nat) : Nat := min (s.rd (F.RNG_DISC_CFG_RAND_US n) * 1000) (s.spanNs n)
def State.rangeWinNs (s : State) (n : Nat) : Nat := s.rangeHalfNs n + 2000

/-- Terminal states (R184). -/
def tsFree : Nat := 0
def tsAssigned : Nat := 1
def tsRanging : Nat := 2
def tsService : Nat := 3
def tsGuarded : Nat := 4
def tsVerifying : Nat := 5
def tsReserved : Nat := 6
def tsFailed : Nat := 7

def State.tst (s : State) (n t : Nat) : Nat := s.rd (F.RNG_TERM_STAT_STATE n t)
def State.tcause (s : State) (n t : Nat) : Nat := s.rd (F.RNG_TERM_STAT_CAUSE n t)
def State.eqd (s : State) (n t : Nat) : Nat := s.rd (F.RNG_TERM_EQD_EQD_RU n t)
def State.rtd (s : State) (n t : Nat) : Nat := s.rd (F.RNG_TERM_EQD_RTD_RU n t)
def State.serial (s : State) (n t : Nat) : Nat := s.rd (F.RNG_TERM_SN_SERIAL n t)

/-- MAX_TERMINALS and MAX_ALLOCS of the tree's tile (R75), at most the 512 and 4,096 of a tree port (R3). -/
def State.maxTerms (s : State) (n : Nat) : Nat := min 512 (((SMap.find? s.cfg.tiles n).map TileDesc.maxTerms).getD 0)
def State.maxAllocs (s : State) (n : Nat) : Nat := min 4096 (((SMap.find? s.cfg.tiles n).map TileDesc.maxAllocs).getD 0)

/-- The RNG_POP field of a state. -/
def popFld (n st : Nat) : Option Fld :=
  if st = tsService then some (F.RNG_POP_IN_SERVICE n)
  else if st = tsGuarded then some (F.RNG_POP_GUARDED n)
  else if st = tsVerifying then some (F.RNG_POP_VERIFYING n)
  else if st = tsAssigned ∨ st = tsRanging then some (F.RNG_POP_ACTIVATING n)
  else if st = tsFailed then some (F.RNG_POP_FAILED n)
  else if st = tsReserved then some (F.RNG_POP_RESERVED n)
  else none

def popAdd (n st : Nat) (s : State) : State :=
  match popFld n st with
  | none => s
  | some f => s.wr f (s.rd f + 1)
def popSub (n st : Nat) (s : State) : State :=
  match popFld n st with
  | none => s
  | some f => s.wr f (s.rd f - 1)

/-- Terminals of the tree in a state other than FREE. -/
def State.held (s : State) (n : Nat) : Nat :=
  s.rd (F.RNG_POP_IN_SERVICE n) + s.rd (F.RNG_POP_GUARDED n) + s.rd (F.RNG_POP_VERIFYING n) + s.rd (F.RNG_POP_ACTIVATING n) +
  s.rd (F.RNG_POP_FAILED n) + s.rd (F.RNG_POP_RESERVED n)

/-- Sets T_EQ when the tree holds only FREE and RESERVED terminals, and shows PENDING otherwise (R176); the window lengths follow
at once. DESIGN CHOICE (assumption 70): PENDING shows 1 only where the T_EQ of the committed limits differs from the one in force. -/
def updateTeq (n : Nat) (s : State) : State :=
  let s1 := (s.wr (F.RNG_WIN_DISC_WIN n) (s.discWinNs n / 100)).wr (F.RNG_WIN_RANGE_WIN n) (s.rangeWinNs n / 100)
  if s1.held n = s1.rd (F.RNG_POP_RESERVED n) then
    ((s1.wr (F.RNG_TEQ_T_EQ_NS n) (s1.teqWanted n / 1000)).wr (F.RNG_TEQ_PENDING n) 0).modTree n fun t => { t with teqSub := s1.teqWanted n % 1000 }
  else s1.wr (F.RNG_TEQ_PENDING n) (bit (s1.teqPs n != s1.teqWanted n))

/-- Moves a terminal to a state (R184): CAUSE, FRAME, the population, the mirror (R413), and a T_EQ that waited; a terminal that enters
VERIFYING opens another verification (R200), and one that is granted no burst has missed none (R194). -/
def setTerm (n t st cause : Nat) (s : State) : State :=
  let s1 := popAdd n st (popSub n (s.tst n t) s)
  let s2 := ((s1.wr (F.RNG_TERM_STAT_STATE n t) st).wr (F.RNG_TERM_STAT_CAUSE n t) cause).wr (F.RNG_TERM_STAT_FRAME n t) s.frame16
  let s2 := s2.when (!(st == tsService || st == tsGuarded || st == tsVerifying)) fun a => a.wr (F.RNG_TERM_STAT_MISSES n t) 0
  let s3 := (mirrorSend (some n) s2).when (st == tsVerifying) fun a => a.wr (F.RNG_VERIFY_STAT_DONE n) 0
  s3.when (s3.on (F.RNG_TEQ_PENDING n)) (updateTeq n)

/-- Raises an RNG event and names its terminal (RNG_EVT_LAST). -/
def rngEvent (n t e : Nat) (ev : Ev) (s : State) : State :=
  raise ev (((((s.wr (F.RNG_EVT_LAST_FRAME n) s.frame16).wr (F.RNG_EVT_LAST_TERMINAL n) t).wr (F.RNG_EVT_LAST_EVENT n) e).wr
    (F.RNG_EVT_LAST_CAUSE n) (if t = 0x1FF then 0 else s.tcause n t)).wr (F.RNG_EVT_LAST_STEP_RU n)
      (if t = 0x1FF then 0 else s.rd (F.RNG_TERM_STAT_STEP_RU n t)))

/-- An RNG event that is raised at most once per second (R183). -/
def rngEventSec (n t e : Nat) (ev : Ev) (s : State) : State :=
  if s.hub.secRaised.contains ev.id then s
  else rngEvent n t e ev (s.modHub fun h => { h with secRaised := ev.id :: h.secRaised })

/-- The RTD of a terminal has changed: a result that names it turns STALE, and RTD_CHANGED goes out with the first such terminal of a tick
(R395). -/
def noteRtd (n t : Nat) (s : State) : State :=
  let s1 := s.when (s.tsu.todReq.any fun q => q.1 == n && q.2.1 == t && decide (s.ticks ≤ q.2.2)) fun a => a.wr F.TSU_TOD_RES0_STALE 1
  if s1.tsu.rtdRaised then s1
  else raise E.TSU_RTD_CHANGED (((s1.wr F.TSU_TOD_RES2_RTD_TERM t).wr F.TSU_TOD_RES2_RTD_TREE n).modTsu fun u => { u with rtdRaised := true })

/-- Sets a terminal's RTD and tells TSU (R177): RTD_CHANGED at most once per tick (R395). -/
def setRtd (n t : Nat) (ru : Int) (s : State) : State :=
  let v := ofSigned 32 ru
  if s.rtd n t = v then s else mirrorSend (some n) (noteRtd n t (s.wr (F.RNG_TERM_EQD_RTD_RU n t) v))

/-- Sets a terminal's EqD, which the mirror sends on (R412). -/
def setEqd (n t : Nat) (ru : Int) (s : State) : State := mirrorSend (some n) (s.wr (F.RNG_TERM_EQD_EQD_RU n t) (ofSigned 32 ru))

/-- RNG sends a message; in STANDBY it sends none (R193). -/
def rngMsg (n : Nat) (m : Msg) (s : State) : State := if s.mode = mStandby then s else queueMsg n m s

/-- Queues Ranging_Time with the EqD that RNG holds (R177). -/
def sendRangingTime (n t : Nat) (s : State) : State := rngMsg n ⟨0, 3, t, (s.eqd n t : Nat), []⟩ s

/-- A fresh drift filter. -/
def freshBlock (n t : Nat) (s : State) : State :=
  s.modTerm n t fun x => { x with blkSum := 0, blkN := 0, outs := [], ins := 0 }

/-- Enters GUARDED with a cause (R194, R195, R200), with TERM_GUARDED. -/
def enterGuarded (n t cause : Nat) (s : State) : State :=
  rngEvent n t 1 (E.RNG_TERM_GUARDED n) (setTerm n t tsGuarded cause s)

/-- Returns from GUARDED to IN_SERVICE with TERM_GUARD_CLEAR (R195, R196). -/
def guardClear (n t : Nat) (s : State) : State :=
  rngEvent n t 2 (E.RNG_TERM_GUARD_CLEAR n) (freshBlock n t ((setTerm n t tsService 0 s).wr (F.RNG_TERM_STAT_STEP_RU n t) 0))

/-- VERIFY_DONE when the tree no longer holds a terminal in VERIFYING (R200). -/
def verifyCheck (n : Nat) (s : State) : State :=
  if s.rd (F.RNG_POP_VERIFYING n) = 0 ∧ ¬ s.on (F.RNG_VERIFY_STAT_DONE n) then
    rngEvent n 0x1FF 7 (E.RNG_VERIFY_DONE n) (s.wr (F.RNG_VERIFY_STAT_DONE n) 1)
  else s

/-- A terminal enters FAILED with RANGE_FAILED. -/
def failTerm (n t : Nat) (s : State) : State :=
  rngEvent n t 5 (E.RNG_RANGE_FAILED n)
    ((setTerm n t tsFailed 0 s).modTerm n t fun x => { x with due := false, open_ := false, rtSends := 0 })

/-! Settings of tracking, within their limits. -/
def State.envBits (s : State) (n : Nat) : Nat := clampTo 1 8 (s.rd (F.RNG_TRACK_CFG_ENV_BITS n))
def State.filterLog2 (s : State) (n : Nat) : Nat := clampTo 4 8 (s.rd (F.RNG_TRACK_CFG_FILTER_LOG2 n))
def State.stepConfirm (s : State) (n : Nat) : Nat := clampTo 2 8 (s.rd (F.RNG_TRACK_CFG_STEP_CONFIRM n))
def State.missGuard (s : State) (n : Nat) : Nat := max 1 (s.rd (F.RNG_TRACK_CFG_MISS_GUARD n))
def State.rangeTries (s : State) (n : Nat) : Nat := max 1 (s.rd (F.RNG_TRACK_CFG_RANGE_TRIES n))
def State.verifyN (s : State) (n : Nat) : Nat := max 1 (s.rd (F.RNG_TRACK_CFG_VERIFY_N n))
def State.verifyFrames (s : State) (n : Nat) : Nat := max 8 (s.rd (F.RNG_VERIFY_CFG_VERIFY_FRAMES n))

/-- Sum, least and greatest of a list of samples. -/
def sumInt (l : List Int) : Int := l.foldl (· + ·) 0
def minInt (l : List Int) : Int := l.foldl min (l.headD 0)
def maxInt (l : List Int) : Int := l.foldl max (l.headD 0)

/-- The latest k outliers lie within twice the envelope of one another (R194). -/
def agreeing (k : Nat) (env : Int) (outs : List Int) : Bool :=
  decide (k ≤ outs.length) && decide (maxInt (outs.take k) - minInt (outs.take k) ≤ 2 * env)

/-- Mean of the latest k outliers, rounded towards minus infinity. -/
def meanOuts (k : Nat) (outs : List Int) : Int := sumInt (outs.take k) / (k : Nat)

/-- Starts a correction of c RU under R192 and sends Ranging_Time; in STANDBY no EqD changes (R193). -/
def correct (n t : Nat) (eqd : Int) (accepting : Bool) (s : State) : State :=
  if s.mode = mStandby then s
  else
  let c := (s.eqd n t : Int) - eqd
  sendRangingTime n t ((setEqd n t eqd s).modTerm n t fun x =>
    { x with corr := some c, corrBursts := 0, corrSends := 1, accepting := accepting })

/-- The block is full (R191): a correction when the mean of its samples reaches 8 RU, and a new block either way. -/
def blockFull (n t : Nat) (s : State) : State :=
  let x := s.term n t
  let k := x.blkN
  let s1 := s.modTerm n t fun x => { x with blkSum := 0, blkN := 0 }
  if x.blkSum.natAbs < 8 * k ∨ s.mode = mStandby then s1
  else correct n t (near8 ((s.eqd n t : Int) * (k : Nat) - x.blkSum) k) false (s1.sat (F.RNG_TRACK_CNT_CORRECTIONS n) 1)

/-- A step confirmed by outliers that agree: GUARDED with a cause, STEP_RU, the block discarded (R194, R197). -/
def stepFound (n t cause : Nat) (step : Int) (s : State) : State :=
  enterGuarded n t cause ((((s.wr (F.RNG_TERM_STAT_STEP_RU n t) (ofSigned 32 step)).sat (F.RNG_TRACK_CNT_STEPS n) 1)).modTerm n t
    fun x => { x with blkSum := 0, blkN := 0, ins := 0 })

/-- A sample e, in RU, of a burst at a rate, after R192 has let it pass (R191, R194, R195, R200). -/
def judge (n t : Nat) (env e : Int) (s : State) : State :=
  let st := s.tst n t
  let cause := s.tcause n t
  let out := decide (env < (e.natAbs : Int))
  let k := s.stepConfirm n
  let s1 := s.modTerm n t fun x =>
    if out then { x with outs := (e :: x.outs).take 8, ins := 0 }
    else { x with outs := if st = tsGuarded ∧ cause ≠ 2 then x.outs else [], ins := x.ins + 1 }
  let x := s1.term n t
  if st = tsService then
    if out then
      let s2 := s1.sat (F.RNG_TRACK_CNT_OUTLIERS n) 1
      if agreeing k env x.outs then stepFound n t 1 (meanOuts k x.outs) s2 else s2
    else
      let s2 := s1.modTerm n t fun x => { x with blkSum := x.blkSum + e, blkN := x.blkN + 1 }
      if 2 ^ s.filterLog2 n ≤ (s2.term n t).blkN then blockFull n t s2 else s2
  else if st = tsVerifying then
    if out then
      if agreeing k env x.outs then
        verifyCheck n (stepFound n t 3 (meanOuts k x.outs) (s1.wr (F.RNG_VERIFY_STAT_STEPPED n) (s1.rd (F.RNG_VERIFY_STAT_STEPPED n) + 1)))
      else s1
    else if s.verifyN n ≤ x.ins then
      verifyCheck n (freshBlock n t (setTerm n t tsService 0 (s1.wr (F.RNG_VERIFY_STAT_VERIFIED n) (s1.rd (F.RNG_VERIFY_STAT_VERIFIED n) + 1))))
    else s1
  else if cause = 2 then
    if out then (if agreeing k env x.outs then stepFound n t 1 (meanOuts k x.outs) s1 else s1)
    else if k ≤ x.ins then guardClear n t s1 else s1
  else
    if out then s1.wr (F.RNG_TERM_STAT_STEP_RU n t) (ofSigned 32 (meanOuts (min k x.outs.length) x.outs))
    else if k ≤ x.ins then guardClear n t (s1.modTerm n t fun y => { y with corr := none, accepting := false }) else s1

/-- A sample of a confirmed burst of a terminal that holds an EqD (R190, R192, R193). -/
def sample (n t rate : Nat) (e : Int) (s : State) : State :=
  let st := s.tst n t
  if ¬ (st = tsService ∨ st = tsGuarded ∨ st = tsVerifying) then s
  else
    let env : Int := (s.envBits n * s.ruPerBit n rate : Nat)
    let s0 := (histSample 3 n e.natAbs (s.wr (F.RNG_TERM_STAT_MISSES n t) 0)).modTerm n t fun x => { x with vFrames := 0 }
    let s1 := s0.when (s.mode == mStandby && st == tsService) fun a =>
      a.modTree n fun r => { r with stbySum := r.stbySum + e, stbyN := r.stbyN + 1 }
    match (s1.term n t).corr with
    | none => judge n t env e s1
    | some c =>
      if (e - c).natAbs ≤ e.natAbs then s1.modTerm n t fun x => { x with corrBursts := x.corrBursts + 1 }
      else
        let acc := (s1.term n t).accepting
        let s2 := freshBlock n t (s1.modTerm n t fun x => { x with corr := none, corrBursts := 0, corrSends := 0, accepting := false })
        judge n t env e (s2.when (acc && st == tsGuarded) (guardClear n t))

/-- A granted burst of a terminal was missing (R194). -/
def missing (n t : Nat) (s : State) : State :=
  let st := s.tst n t
  if ¬ (st = tsService ∨ st = tsGuarded ∨ st = tsVerifying) then s
  else
    let s1 := s.sat (F.RNG_TERM_STAT_MISSES n t) 1
    if st = tsService ∧ s.missGuard n ≤ s1.rd (F.RNG_TERM_STAT_MISSES n t) then enterGuarded n t 2 (freshBlock n t s1) else s1

/-- No sample has shown the correction applied within 64 confirmed bursts: sent again, then EQD_STUCK (R192). While a terminal is GUARDED
no correction is sent but an ACCEPT's (R194, R196): its second run of 64 bursts counts all the same (assumption 33). STANDBY resends none
(R193). -/
def correctionResend (n t : Nat) (s : State) : State :=
  let x := s.term n t
  if x.corr = none ∨ x.corrBursts < 64 ∨ s.mode = mStandby then s
  else if x.corrSends < 2 then
    let s1 := s.modTerm n t fun x => { x with corrBursts := 0, corrSends := x.corrSends + 1 }
    if s.tst n t = tsGuarded ∧ ¬ x.accepting then s1 else sendRangingTime n t s1
  else
    let s1 := freshBlock n t (s.modTerm n t fun x => { x with corr := none, corrBursts := 0, corrSends := 0, accepting := false })
    let s2 := rngEvent n t 9 (E.RNG_EQD_STUCK n) s1
    s2.when (x.accepting && s2.tst n t == tsGuarded) (guardClear n t)

/-! Activation. -/

/-- A confirmed burst in a terminal's ranging window: RTD, EqD and Ranging_Time, or REACH_EXCEEDED (R177, R186). `rtd` is the RTD in
RU, scaled by 125,000,000; the register holds the nearest RU. -/
def ranged (n t : Nat) (rtd : Int) (s : State) : State :=
  if s.tst n t ≠ tsRanging then s
  else
    let s1 := setRtd n t ((rtd + 62500000) / 125000000) (s.modTerm n t fun x => { x with due := false, open_ := false, tries := 0 })
    let x := s1.teqSpan n - rtd
    let eqd := near8 x 125000000
    if x < 0 then failTerm n t (rngEvent n t 6 (E.RNG_REACH_EXCEEDED n) s1)
    else if s.mode = mStandby then s1
    else sendRangingTime n t ((setEqd n t eqd s1).modTerm n t fun y => { y with rtSends := 1, rtTicks := 0 })

/-- A ranging window closed without a confirmed burst (R184). -/
def rangeMissed (n t : Nat) (s : State) : State :=
  if s.tst n t ≠ tsRanging then s
  else
    let s1 := (s.sat (F.RNG_TRACK_CNT_RANGE_FAIL n) 1).modTerm n t fun x => { x with open_ := false, due := false, tries := x.tries + 1 }
    if s.rangeTries n ≤ (s1.term n t).tries then failTerm n t s1 else setTerm n t tsAssigned 0 s1

/-- A terminal's ranging window is lost to a reload of its tile: it is ASSIGNED again, and no attempt is counted (R184). -/
def windowLost (n t : Nat) (s : State) : State :=
  if s.tst n t ≠ tsRanging then s
  else setTerm n t tsAssigned 0 (s.modTerm n t fun x => { x with open_ := false, due := false })

/-- A Registration reaches RNG (R153, R186): admitting it is the host's work. -/
def registration (n t : Nat) (s : State) : State := s.modTerm n t fun x => { x with registered := true }

/-- An Acknowledge of Ranging_Time: IN_SERVICE for a terminal in RANGING (R184, R186). True when RNG awaited it. -/
def rangingAck (n t : Nat) (s : State) : Option State :=
  if s.tst n t = tsRanging ∧ (s.term n t).rtSends ≠ 0 then
    some (rngEvent n t 0 (E.RNG_TERM_ACTIVE n) (freshBlock n t ((setTerm n t tsService 0 s).modTerm n t fun x => { x with rtSends := 0 })))
  else if (s.term n t).corr ≠ none then some s
  else none

/-- Ranging_Time again after 16 frames, at most 3 sendings (R186); STANDBY sends none (R193). -/
def rangingResend (n t : Nat) (s : State) : State :=
  let x := s.term n t
  if s.tst n t ≠ tsRanging ∨ x.rtSends = 0 ∨ x.rtTicks < 16 ∨ s.mode = mStandby then s
  else if x.rtSends < 3 then sendRangingTime n t (s.modTerm n t fun x => { x with rtSends := x.rtSends + 1, rtTicks := 0 })
  else failTerm n t s

/-- VERIFY_FRAMES have passed without a confirmed burst (R200). -/
def verifyTimeout (n t : Nat) (s : State) : State :=
  if s.tst n t ≠ tsVerifying ∨ (s.term n t).vFrames < s.verifyFrames n then s
  else
    let s1 := setTerm n t tsReserved 0 ((s.when (s.mode != mStandby) (setEqd n t 0)).wr (F.RNG_VERIFY_STAT_FAILED n) (s.rd (F.RNG_VERIFY_STAT_FAILED n) + 1))
    verifyCheck n (rngEvent n t 8 (E.RNG_VERIFY_FAIL n) s1)

/-- Admits a serial number to a terminal ID (R185): ASSIGNED, Assign_ONU-ID, and the PM record zeroed (R170). -/
def admitTerm (n t sn : Nat) (est : Int) (saved : Bool) (s : State) : State :=
  let s1 := zeroPm n t (s.wr (F.RNG_TERM_SN_SERIAL n t) sn)
  let s2 := (setTerm n t tsAssigned 0 s1).modTerm n t fun x =>
    { x with est := est, saved := saved, tries := 0, corr := none, rtSends := 0, due := false, open_ := false }
  rngMsg n ⟨0, 2, t, 0, leNats 8 sn⟩ s2

/-- The terminal ID that holds a serial number. -/
def State.holder (s : State) (n sn : Nat) : Option Nat :=
  (List.range (s.maxTerms n)).find? fun t => s.tst n t != tsFree && s.serial n t == sn

/-- Shows the pending list (RNG_SN_PEND, RNG_SN_STAT). -/
def showPend (n : Nat) (s : State) : State :=
  (s.wr (F.RNG_SN_PEND_SERIAL n) ((s.tree n).pend.headD (0, 0)).1).wr (F.RNG_SN_STAT_PENDING n) (s.tree n).pend.length

/-- RTD about which the ranging window after a discovery response is centred: half the random delay before its arrival (R180). -/
def State.estOf (s : State) (n : Nat) (rtd : Int) : Int := rtd - (s.nsRu n (s.rangeHalfNs n / 2) : Nat)

/-- The discovery window of a frame's map is still open. -/
def Tree.discOpen (t : Tree) (frame : Nat) : Bool := t.wins.any fun w => w.kind == 2 && w.frame == frame

/-- Handles the oldest accepted discovery response (R185, R188), once its window has closed: before, another response with its serial
number may follow in the window (DEDUCED, assumption 33). -/
def discResponse (n : Nat) (s : State) : State :=
  match (s.tree n).resps with
  | [] => s
  | (sn, rtd, win) :: r =>
    if (s.tree n).discOpen win then s
    else
    let s1 := s.sat (F.RNG_DISC_CNT_RESPONSES n) 1
    let dup := fun (t : Nat) (a : State) => rngEvent n t 4 (E.RNG_DUP_SERIAL n) (a.sat (F.RNG_DISC_CNT_DUP_SERIAL n) 1)
    if r.any fun q => q.1 == sn && q.2.2 == win then
      dup 0x1FF (s1.modTree n fun x => { x with resps := r.filter fun q => !(q.1 == sn && q.2.2 == win) })
    else
      let s2 := s1.modTree n fun x => { x with resps := r }
      match s.holder n sn with
      | some t =>
        let st := s.tst n t
        if st = tsService ∨ st = tsRanging ∨ (st = tsGuarded ∧ s.tcause n t ≠ 2) then dup t s2
        else
          let kept := s.rtd n t != 0
          let s3 := admitTerm n t sn (if kept then (s.rtd n t : Int) else s.estOf n rtd) kept s2
          s3.when (st == tsVerifying) fun a => verifyCheck n (a.wr (F.RNG_VERIFY_STAT_FAILED n) (a.rd (F.RNG_VERIFY_STAT_FAILED n) + 1))
      | none =>
        if s.on (F.RNG_DISC_CFG_AUTO_ASSIGN n) ∧ s.held n < s.maxTerms n then
          match (List.range (s.maxTerms n)).find? fun t => s.tst n t == tsFree with
          | some t => admitTerm n t sn (s.estOf n rtd) false s2
          | none => s2
        else if 16 ≤ (s2.tree n).pend.length then s2.sat (F.RNG_DISC_CNT_PEND_DROP n) 1
        else rngEvent n 0x1FF 3 (E.RNG_SN_PENDING n) (showPend n (s2.modTree n fun x => { x with pend := x.pend ++ [(sn, s.estOf n rtd)] }))

/-! Quiet windows. -/

/-- The tree has a FREE or RESERVED terminal ID (R181). -/
def State.roomFor (s : State) (n : Nat) : Bool :=
  decide (s.held n < s.maxTerms n) || decide (0 < s.rd (F.RNG_POP_RESERVED n))

/-- RNG wants a discovery window, which it requests once the tree has a FREE or RESERVED ID (R181). -/
def wantDiscovery (n : Nat) (s : State) : State := s.modTree n fun t => { t with discWanted := true }

/-- PERIOD_MS has passed since the last discovery window, or there was none yet (R181); 0 disables periodic windows. -/
def periodDue (s : State) (n : Nat) : Bool :=
  s.rd (F.RNG_DISC_CFG_PERIOD_MS n) != 0 && (s.tree n).discTicks.all fun k => decide (8 * s.rd (F.RNG_DISC_CFG_PERIOD_MS n) ≤ k)

/-- The quiet window that RNG would begin next on a tree: the lowest terminal that awaits ranging, else discovery, asked for by its
period or the host or after a window that found something (R181); answers the terminal, 0x1FF for discovery, and the length in nanoseconds. -/
def State.nextQuiet (s : State) (n : Nat) : Option (Nat × Nat) :=
  match (s.termsOf n).find? fun t => s.tst n t == tsAssigned || (s.tst n t == tsRanging && (s.term n t).due && !(s.term n t).open_) with
  | some t => some (t, if (s.term n t).saved then 6000 else s.rangeWinNs n)
  | none =>
    if ((s.tree n).discWanted || (s.tree n).discHit) && s.roomFor n then some (0x1FF, s.discWinNs n) else none

/-- DEV_WIN, where 0 and values above 16 act as 16. -/
def State.devWin (s : State) : Nat :=
  let v := s.rd F.RNG_DEV_CFG_DEV_WIN
  if v = 0 ∨ 16 < v then 16 else v

/-- A quiet window of the tree runs beyond the tail of the current map (R230). -/
def State.quietOn (s : State) (n : Nat) : Bool :=
  (s.tree n).quiet.any fun q =>
    decide (s.ticks < q.frame) || decide ((s.ticks - q.frame + 1) * (s.ruFrame n / 256) < q.posMu + q.lenMu)

/-- A quiet window can begin on the tree: its port sends, its tile is in service, and the next map carries grants (R83, R132, R184). -/
def State.mayQuiet (s : State) (n : Nat) : Bool := s.sending n && s.inService n && s.nextServes n

/-- The quiet window that the tree could begin at this tick, were it not for the device limit: wanted, held by the budget, with no earlier window
of the tree running, on a tree whose maps are not frozen (R181, R182, R230, R449). -/
def State.readyQuiet (s : State) (n : Nat) : Option (Nat × Nat) :=
  if ¬ s.mayQuiet n ∨ (s.tree n).frozen ∨ hasBit s.hub.mapFrozen n ∨ s.quietOn n then none
  else (s.nextQuiet n).filter fun q => decide (q.2 ≤ (s.tree n).budget)

/-- Trees that wait under R183 before a place in the queue, and whose window the device limit alone holds back. -/
def State.waitersBefore (s : State) (k : Nat) : Nat :=
  (s.trees.filter fun e => (e.2.waiting.any fun w => decide (w < k)) && (s.readyQuiet e.1).isSome).length
/-- Trees with a window in the queue (RNG_DEV_STAT.QUEUED), and those of them that the device limit alone holds back. -/
def State.waiters (s : State) : Nat := (s.trees.filter fun e => e.2.waiting.isSome).length
def State.waitersReady (s : State) : Nat := (s.trees.filter fun e => e.2.waiting.isSome && (s.readyQuiet e.1).isSome).length

/-- A quiet window begins: its length leaves the budget, and RNG acts (R182, R184, R186). -/
def beginQuiet (n t len : Nat) (s : State) : State :=
  let s1 := (s.modTree n fun r =>
    { r with budget := r.budget - len, waiting := none, quiet := r.quiet ++ [⟨t, len, s.ticks + 1, 0, 0⟩] }).wr F.RNG_DEV_STAT_BEGUN
      (s.rd F.RNG_DEV_STAT_BEGUN + 1)
  let s2 := (s1.wr (F.RNG_WIN_BUDGET n) ((s1.tree n).budget / 100)).wr (F.RNG_WIN_WAITING n) 0
  let s3 := s2.wr F.RNG_DEV_STAT_QUEUED s2.waiters
  if t = 0x1FF then
    (s3.sat (F.RNG_DISC_CNT_WINDOWS n) 1).modTree n fun r => { r with discWanted := false, discTicks := some 0, discHit := false }
  else
    rngMsg n ⟨0, 4, t, 0, []⟩ ((setTerm n t tsRanging 0 s3).modTerm n t fun x => { x with due := true, open_ := true, registered := false })

/-- The device limit holds a window back: it is queued, behind those of earlier ticks and, in its tick, of lower trees (R183). -/
def deferQuiet (n : Nat) (s : State) : State :=
  if (s.tree n).waiting.isSome then s
  else
    let k := 32 * s.ticks + n
    let s1 := ((s.modTree n fun r => { r with waiting := some k }).wr (F.RNG_WIN_WAITING n) 1).sat F.RNG_DEV_STAT_DEFERRED 1
    let s2 := s1.wr F.RNG_DEV_STAT_QUEUED s1.waiters
    rngEventSec n (((s.nextQuiet n).getD (0x1FF, 0)).1) 10 (E.RNG_DISC_DEFER n) s2

/-- A place in the device's queue goes when nothing is left to begin: the window is no longer wanted, or the tile or port is away (R183). -/
def leaveQueue (n : Nat) (s : State) : State :=
  if (s.tree n).waiting.isNone ∨ (s.mayQuiet n ∧ (s.nextQuiet n).isSome) then s
  else
    let s1 := (s.modTree n fun r => { r with waiting := none }).wr (F.RNG_WIN_WAITING n) 0
    s1.wr F.RNG_DEV_STAT_QUEUED s1.waiters

/-- A queued or wanted quiet window comes up at a tick (R181 to R183, R230): it begins once the budget holds its length, no earlier
window of the tree still runs, and the device limit allows it in the order of the queue; not on a tree whose maps are frozen (R449). A queued
window that something else than the device limit holds back keeps its place and holds no other back (DEDUCED, assumption 33). -/
def quietWindow (n : Nat) (s : State) : State :=
  match s.readyQuiet n with
  | none => s
  | some (t, len) =>
    let before := match (s.tree n).waiting with
      | some k => s.waitersBefore k
      | none => s.waitersReady
    if s.rd F.RNG_DEV_STAT_BEGUN + before < s.devWin then beginQuiet n t len s else deferQuiet n s

/-- The SHARE of the tree's time, where 0 acts as 1 and values above 100 act as 100. -/
def State.share (s : State) (n : Nat) : Nat := clampTo 1 100 (s.rd (F.RNG_DISC_CFG_SHARE n))

/-! Host commands. -/

/-- Shows a command's outcome (RNG_CMD_STAT). -/
def rngCode (n src c : Nat) (s : State) : State := (s.wr (F.RNG_CMD_STAT_CODE n) c).wr (F.RNG_CMD_STAT_SOURCE n) src

/-- The check of a terminal command or serial-number command (RNG_CMD_STAT): a terminal beyond MAX_TERMINALS first, then a command
that has not yet taken effect, then what the operation asks for. -/
def rngCheck (s : State) (n op t sn : Nat) : Nat :=
  let st := s.tst n t
  if op ≠ 6 ∧ s.maxTerms n ≤ t then 2
  else if (s.tree n).cmd ≠ none then 3
  else if op = 1 then (if st = tsGuarded ∧ s.tcause n t ≠ 2 then 0 else 1)
  else if op = 2 then (if st = tsService ∨ st = tsGuarded ∨ st = tsVerifying then 0 else 1)
  else if op = 3 then (if st = tsFree then 1 else 0)
  else if op = 4 then (if st = tsFailed then 0 else 1)
  else if op = 6 then (if (s.tree n).pend = [] then 4 else 0)
  else
    if op = 5 ∧ (s.tree n).pend = [] then 4
    else if (s.holder n sn).isSome then 5
    else if st ≠ tsFree then 6
    else 0

/-- Submits a command for the next tick (R184). Operations 1 to 4 come from RNG_TERM_CMD, 5 to 7 from RNG_SN_CMD. -/
def rngSubmit (n op t : Nat) (s : State) : State :=
  let src := bit (decide (4 < op))
  let s0 := if op ≤ 4 then (s.wr (F.RNG_TERM_CMD_TERMINAL n) t).wr (F.RNG_TERM_CMD_OP n) op
    else (s.wr (F.RNG_SN_CMD_TERMINAL n) t).wr (F.RNG_SN_CMD_OP n) (op - 4)
  let sn := if op = 5 then ((s0.tree n).pend.headD (0, 0)).1 else s0.rd (F.RNG_SN_DATA_SERIAL n)
  let c := rngCheck s0 n op t sn
  let s1 := rngCode n src c s0
  if c = 0 then s1.modTree n fun r => { r with cmd := some ⟨op, t, sn⟩ } else s1

/-- RELEASE frees the ID and clears its serial number and EqD (R187); what this changes of its defects and its RTD is announced (R168, R395). -/
def releaseTerm (n t : Nat) (s : State) : State :=
  let ver := s.tst n t == tsVerifying
  let s0 := (List.range 6).foldl (fun a c => setDefect n t (c + 1) false a) s
  let s1 := setRtd n t 0 ((((setTerm n t tsFree 0 s0).wr (F.RNG_TERM_SN_SERIAL n t) 0).wr (F.RNG_TERM_EQD_EQD_RU n t) 0).wr
    (F.RNG_TERM_STAT_STEP_RU n t) 0)
  (s1.modTerm n t fun x => { Term.initial with pm := x.pm, lastMissed := x.lastMissed, lastHdr := x.lastHdr, zeroed := x.zeroed }).when ver (verifyCheck n)

/-- A host command takes effect at its tick, if the terminal's state still allows it (R184, R196, R198). DESIGN CHOICE (assumption 70): in STANDBY, where
no EqD changes (R193), ACCEPT answers code 0 and has no effect. -/
def rngApply (n : Nat) (s : State) : State :=
  match (s.tree n).cmd with
  | none => s
  | some c =>
    let s0 := s.modTree n fun r => { r with cmd := none }
    let bad := rngCheck s0 n c.op c.term c.sn
    if bad ≠ 0 then rngCode n (bit (decide (4 < c.op))) bad s0
    else if c.op = 1 then
      if s0.mode = mStandby then s0
      else
      let step := toSigned 32 (s0.rd (F.RNG_TERM_STAT_STEP_RU n c.term))
      correct n c.term (near8 ((s0.eqd n c.term : Int) - step) 1) true (setRtd n c.term ((s0.rtd n c.term : Int) + step) s0)
    else if c.op = 2 then
      let ver := s0.tst n c.term == tsVerifying
      let est := (s0.rtd n c.term : Int)
      ((setTerm n c.term tsRanging 0 s0).modTerm n c.term fun x =>
        { x with due := true, open_ := false, saved := false, tries := 0, corr := none, accepting := false, est := est,
                 blkSum := 0, blkN := 0, outs := [], ins := 0, rtSends := 0 }).when ver (verifyCheck n)
    else if c.op = 3 then releaseTerm n c.term s0
    else if c.op = 4 then (setTerm n c.term tsAssigned 0 s0).modTerm n c.term fun x => { x with tries := 0 }
    else if c.op = 5 then
      admitTerm n c.term c.sn ((s0.tree n).pend.headD (0, 0)).2 false (showPend n (s0.modTree n fun r => { r with pend := r.pend.drop 1 }))
    else if c.op = 6 then showPend n (s0.modTree n fun r => { r with pend := r.pend.drop 1 })
    else (setTerm n c.term tsReserved 0 s0).wr (F.RNG_TERM_SN_SERIAL n c.term) c.sn

/-- One tick of a tree in RNG: the command, the budget, and the clocks of R181, R186 and R200. -/
def rangingTick (n : Nat) (s : State) : State :=
  let s1 := rngApply n s
  let s2 := s1.modTree n fun t => { t with budget := min (t.budget + s1.share n * 125) (s1.discWinNs n), discTicks := t.discTicks.map (· + 1) }
  let s3 := s2.wr (F.RNG_WIN_BUDGET n) ((s2.tree n).budget / 100)
  leaveQueue n ((s3.termsOf n).foldl (fun a t =>
    a.modTerm n t fun x =>
      { x with rtTicks := x.rtTicks + 1, vFrames := if s3.tst n t = tsVerifying then x.vFrames + 1 else 0 }) s3)

/-- The tree port enters service with a full budget (R182). -/
def fillBudget (n : Nat) (s : State) : State :=
  (s.modTree n fun t => { t with budget := s.discWinNs n }).wr (F.RNG_WIN_BUDGET n) (s.discWinNs n / 100)

/-- A second ends in STANDBY: RNG_STBY_OFS is the mean of the in-service samples (R193); zero outside STANDBY, from the change of mode on. -/
def stbySecond (n : Nat) (s : State) : State :=
  let t := s.tree n
  let v : Int := if s.mode = mStandby then (if t.stbyN = 0 then toSigned 32 (s.rd (F.RNG_STBY_OFS_STBY_OFS n)) else t.stbySum / (t.stbyN : Nat)) else 0
  (s.wr (F.RNG_STBY_OFS_STBY_OFS n) (ofSigned 32 v)).modTree n fun r => { r with stbySum := 0, stbyN := 0 }

/-! The commands. -/

/-- DISCOVERY_PERIOD (R181). -/
def execDiscoveryPeriod (n : Nat) (s : State) : Out := .next (s.when (s.works && periodDue s n) (wantDiscovery n))
/-- DISCOVERY_RESPONSE (R185). -/
def execDiscoveryResponse (n : Nat) (s : State) : Out := .next (s.when s.works (discResponse n))
/-- RANGING_TIME_RESEND (R186). -/
def execRangingTimeResend (n t : Nat) (s : State) : Out := .next (s.when s.works (rangingResend n t))
/-- CORRECTION_RESEND (R192). -/
def execCorrectionResend (n t : Nat) (s : State) : Out := .next (s.when s.works (correctionResend n t))
/-- VERIFY_TIMEOUT (R200). -/
def execVerifyTimeout (n t : Nat) (s : State) : Out := .next (s.when s.works (verifyTimeout n t))
end Sys2Proof.Machine
end

