-- ==== Sys2Proof/Machine/Grant.lean ====
section
/-! DEFINITION. Machine/Grant.lean: GNT: map units (R202, R203), the timeline (R204 to R213), pages and entries (R214 to R216), the
allocation table (R217 to R219), burst profiles (R220 to R222), fixed grants (R223 to R225), windows and guards (R226 to R229),
quiet windows (R230) and report intake (R231). -/
namespace Sys2Proof.Machine

/-- MU in an upstream frame, and MU per 32 bits at a burst rate (R202). -/
def State.muFrame (s : State) (n : Nat) : Nat := s.ruFrame n / 256
def State.mu32 (s : State) (n rate : Nat) : Nat := s.ruPerBit n rate / 8

/-- Rate, FEC, and the MU of delimiter and preamble of a profile (R220). On an F50 tree upstream FEC is always on, whatever the profile's bit
says (R142; DEDUCED, assumption 64: R221 refuses no profile for it). -/
def State.pRate (s : State) (n p : Nat) : Nat := s.rd (F.GNT_PROF_CFG_RATE n p)
def State.pFec (s : State) (n p : Nat) : Bool := s.f50 n || s.on (F.GNT_PROF_CFG_FEC n p)
def State.delMu (s : State) (n p : Nat) : Nat := (1 + s.rd (F.GNT_PROF_CFG_DEL64 n p)) * s.mu32 n (s.pRate n p)
def State.preMu (s : State) (n p : Nat) : Nat := s.rd (F.GNT_PROF_CFG_PRE_WORDS n p) * s.mu32 n (s.pRate n p)
/-- The profile is valid, not refused and not held (R221, R222). -/
def State.profUsable (s : State) (n p : Nat) : Bool := hasBit (s.rd (F.GNT_PROF_STAT_USABLE n)) p

/-- Search half-width in RU at a rate (R163): SEARCH_GUARDED when WIDE, else SEARCH_HALF. -/
def State.widthRu (s : State) (n rate : Nat) (wide : Bool) : Nat :=
  (if wide then max 16 (s.rd (F.FRM_SEARCH_CFG_SEARCH_GUARDED n)) else max 4 (s.rd (F.FRM_SEARCH_CFG_SEARCH_HALF n))) *
  s.ruPerBit n rate

/-- BRST_LAG and BRST_SETUP within their limits, in units of 0.4 ns. -/
def State.brstLag (s : State) (n : Nat) : Nat := min 32 (s.rd (F.TPA_BRST_CFG_BRST_LAG n))
def State.brstSetup (s : State) (n : Nat) : Nat := clampTo 2 32 (s.rd (F.TPA_BRST_CFG_BRST_SETUP n))
def State.brstMax (s : State) (n : Nat) : Nat := clampTo 4 64 (s.rd (F.TPA_BRST_CFG_BRST_MAX n))

/-- A burst or a quiet window on a tree, in MU from the start of the frame it is compared in: from its first preamble bit to its last
bit; its half-width in RU. A quiet window has width zero and can hold any rate (R227). -/
structure GSpan where
  lo : Int
  hi : Int
  rate : Nat
  w : Nat
  quiet : Bool
  deriving DecidableEq, Repr

/-- The guard G of R227 between two spans, in whole MU, rounded up. -/
def guardMu (s : State) (n : Nat) (a b : GSpan) : Nat :=
  let tenths := 4 * s.rd (F.GNT_GUARD_CFG_ONOFF_NS n) + 160 + 4 * s.brstLag n + 16 + 4 * s.brstSetup n +
    (if a.quiet || b.quiet || a.rate != b.rate then 160 else 0)
  (tenths * s.ruFrame n + (a.w + b.w) * 1250000 + 319999999) / 320000000

/-- Two spans keep the guard between them. -/
def apart (s : State) (n : Nat) (a b : GSpan) : Bool :=
  if a.lo ≤ b.lo then decide (a.hi + (guardMu s n a b : Nat) ≤ b.lo) else decide (b.hi + (guardMu s n b a : Nat) ≤ a.lo)

/-- Moves a span by whole frames. -/
def GSpan.shift (x : GSpan) (d : Int) : GSpan := { x with lo := x.lo + d, hi := x.hi + d }

/-- Terminal `t` is grantable, and WIDE, as its state reached GNT at the latest tick (R195, R216). -/
def State.gstate (s : State) (n t : Nat) : Nat := SMap.getD s.gview (512 * n + t) 0
def State.grantable (s : State) (n t : Nat) : Bool :=
  s.gstate n t == tsService || s.gstate n t == tsGuarded || s.gstate n t == tsVerifying
def State.wideNow (s : State) (n t : Nat) : Bool := s.gstate n t == tsGuarded || s.gstate n t == tsVerifying

/-- The states of all terminals as the tick hands them to GNT. -/
def State.snapTerms (s : State) : SMap Nat :=
  s.regs.filterMap fun e =>
    let a := e.1 / 64
    let o := (a - 0x1800000) % 0x10000
    if 0x1800000 ≤ a ∧ a < 0x1A00000 ∧ e.1 % 64 = 0 ∧ 0x4000 ≤ o ∧ o < 0x6000 ∧ o % 16 = 0 ∧ e.2 ≠ 0 then
      some (512 * ((a - 0x1800000) / 0x10000) + (o - 0x4000) / 16, e.2)
    else none

def State.alloc (s : State) (n i : Nat) : Alloc := SMap.getD (s.tree n).alloc i Alloc.empty

/-- The size and flags of an entry as the layout takes them. -/
def Entry.shape (e : Entry) : Nat × Nat := (e.size, bit e.report + 2 * bit e.msg)

/-- The continuations of a burst among the entries after its opening one: those of its terminal and profile before the terminal's next
opening entry (R215). -/
def contOf (e : Entry) : List Entry → List Entry
  | [] => []
  | x :: r =>
    if x.term = e.term ∧ x.newBurst then []
    else if ¬ x.newBurst ∧ x.term = e.term ∧ x.profile = e.profile then x :: contOf e r
    else contOf e r

/-- The bursts of a page: each opening entry with its continuations. -/
def bursts : List Entry → List (List Entry)
  | [] => []
  | e :: r => if e.newBurst then (e :: contOf e r) :: bursts r else bursts r

/-- The opening entry that a continuation belongs to. -/
def openerOf (l : List Entry) (e : Entry) : Option Entry :=
  (l.filter fun x => x.newBurst && x.term == e.term && x.profile == e.profile && decide (x.start ≤ e.start)).getLast?

/-- The span of a burst (R226, R227); a quiet window's entry spans the window itself. -/
def State.burstSpan (s : State) (n : Nat) (b : List Entry) : Option GSpan :=
  match b with
  | [] => none
  | e :: _ =>
    if 2 ≤ e.kind then none
    else
      let r := s.pRate n e.profile
      let len := b.foldl (fun a x => a + x.len) 0
      some ⟨(e.start : Int) - (s.delMu n e.profile + s.preMu n e.profile : Nat), ((e.start + len : Nat) : Int), r,
        s.widthRu n r e.wide, false⟩

/-- The span of one entry: an opening entry's from its first preamble bit, a continuation's from its START (R215, R227). -/
def State.entrySpan (s : State) (n : Nat) (e : Entry) : GSpan :=
  let r := s.pRate n e.profile
  let head := if e.newBurst then s.delMu n e.profile + s.preMu n e.profile else 0
  ⟨(e.start : Int) - (head : Nat), ((e.start + e.len : Nat) : Int), r, s.widthRu n r e.wide, false⟩

/-- The spans of a page's bursts. -/
def State.pageSpans (s : State) (n : Nat) (l : List Entry) : List GSpan := (bursts l).filterMap (s.burstSpan n)

/-- The quiet windows as they lie in the map of frame `m` (R230). -/
def State.quietSpans (s : State) (n m : Nat) : List GSpan :=
  (s.tree n).quiet.map fun q =>
    let lo : Int := (q.posMu : Int) + ((q.frame : Int) - (m : Int)) * (s.muFrame n : Nat)
    ⟨lo, lo + (q.lenMu : Nat), 0, 0, true⟩

/-- The active page and the standby page. -/
def Tree.activePage (t : Tree) : List Entry := if t.active = 0 then t.pageA else t.pageB
def Tree.standby (t : Tree) : List Entry := if t.active = 0 then t.pageB else t.pageA
def setStandby (n : Nat) (l : List Entry) (s : State) : State :=
  s.modTree n fun t => if t.active = 0 then { t with pageB := l } else { t with pageA := l }

/-- Keeps entries in ascending START; an entry goes after those of equal START (R214). -/
def placeEntry (e : Entry) : List Entry → List Entry
  | [] => [e]
  | x :: xs => if x.start ≤ e.start then x :: placeEntry e xs else e :: x :: xs

/-- Counts entries stripped or left out (GNT_OVR_STAT.TRIMMED). -/
def trimmed (n k : Nat) (s : State) : State := if k = 0 then s else s.sat (F.GNT_OVR_STAT_TRIMMED n) k

/-! Entries of the allocation table (R217). -/

def Alloc.word0 (a : Alloc) : Nat :=
  bit a.valid + a.allocId * 2 + a.term * 2 ^ 16 + a.profile * 2 ^ 25 + a.typ * 2 ^ 27 + a.assured * 2 ^ 32 + a.maximum * 2 ^ 48
def Alloc.word1 (a : Alloc) : Nat :=
  a.weight + a.lastReport * 2 ^ 16 + a.reportFrame * 2 ^ 40 + bit a.reportValid * 2 ^ 56 + a.fixed * 2 ^ 57

/-- A written entry: the report fields and FIXED are ignored on write and keep what they hold. -/
def Alloc.ofWords (old : Alloc) (w0 w1 : Nat) : Alloc :=
  { old with valid := hasBit w0 0, allocId := slice w0 1 14, term := slice w0 16 9, profile := slice w0 25 2, typ := slice w0 27 2,
             assured := slice w0 32 16, maximum := slice w0 48 16, weight := slice w1 0 16 }

/-! Profiles (R221, R222). -/

/-- Least preamble words of a rate (R221). -/
def minWords (rate : Nat) : Nat := if rate = 0 then 6 else if rate = 1 then 8 else if rate = 2 then 12 else 24

/-- A VALID profile fails the check of R221. -/
def profBad (s : State) (n p : Nat) : Bool :=
  let r := s.pRate n p
  (if s.f50 n then r == 0 else r != 0) || decide (s.rd (F.GNT_PROF_CFG_PRE_WORDS n p) < minWords r)

/-- A profile's content as one number; 0 while it is not VALID. -/
def profContent (s : State) (n p : Nat) : Nat :=
  if s.on (F.GNT_PROF_CFG_VALID n p) then
    1 + 2 * (s.pRate n p + 4 * s.rd (F.GNT_PROF_CFG_FEC n p) + 8 * s.rd (F.GNT_PROF_CFG_DEL64 n p) +
      16 * s.rd (F.GNT_PROF_CFG_PRE_WORDS n p) + 2048 * s.rd (F.GNT_PROF_DELIM_DELIM n p))
  else 0

/-- PROF_HOLD, where 0 acts as 1. -/
def State.profHold (s : State) (n : Nat) : Nat := max 1 (s.rd (F.GNT_GUARD_CFG_PROF_HOLD n))

/-- Bits of the profiles below 4 that a test selects. -/
def profBits (p : Nat → Bool) : Nat := (List.range 4).foldl (fun a i => if p i then withBit a i else a) 0

/-- Shows USABLE from VALID, REFUSED and HELD. -/
def showProf (n : Nat) (s : State) : State :=
  s.wr (F.GNT_PROF_STAT_USABLE n) (profBits fun p => s.on (F.GNT_PROF_CFG_VALID n p) &&
    !hasBit (s.rd (F.GNT_PROF_STAT_REFUSED n)) p && !hasBit (s.rd (F.GNT_PROF_STAT_HELD n)) p)

/-- The check of the profiles at a commit tick: refusals, holds of changed profiles and their Burst_Profile (R153, R221, R222). -/
def checkProfiles (n : Nat) (s : State) : State :=
  let refused := profBits fun p => s.on (F.GNT_PROF_CFG_VALID n p) && profBad s n p
  let s1 := s.wr (F.GNT_PROF_STAT_REFUSED n) refused
  let s2 := (List.range 4).foldl (fun a p =>
    let c := profContent a n p
    if SMap.getD (a.tree n).profSeen p 0 = c then a
    else
      let a1 := a.modTree n fun t => { t with profSeen := SMap.put t.profSeen p c }
      if c = 0 then (a1.wr (F.GNT_PROF_STAT_HELD n) (noBit (a1.rd (F.GNT_PROF_STAT_HELD n)) p)).modTree n fun t => { t with hold := SMap.del t.hold p }
      else
        let a2 := (a1.wr (F.GNT_PROF_STAT_HELD n) (withBit (a1.rd (F.GNT_PROF_STAT_HELD n)) p)).modTree n fun t =>
          { t with hold := SMap.put t.hold p (a1.ticks + a1.profHold n), profAge := SMap.put t.profAge p 0 }
        a2.when (!hasBit refused p) (queueMsg n ⟨2, 1, 0x1FF, (p : Int), a2.profBody n p⟩)) s1
  let s3 := showProf n s2
  s3.when (refused != 0) (raise (E.GNT_PROFILE_REFUSED n))

/-- PROF_HOLD frames have passed: the profile becomes usable (R222). -/
def profileHoldEnd (n p : Nat) (s : State) : State :=
  if hasBit (s.rd (F.GNT_PROF_STAT_HELD n)) p ∧ SMap.getD (s.tree n).hold p 0 ≤ s.ticks then
    showProf n (s.wr (F.GNT_PROF_STAT_HELD n) (noBit (s.rd (F.GNT_PROF_STAT_HELD n)) p))
  else s

/-! Fixed grants (R223 to R225). -/

/-- PERIOD_LOG2, where 7 acts as 6. -/
def State.fPeriod (s : State) (n f : Nat) : Nat := min 6 (s.rd (F.GNT_FIXED_PERIOD_LOG2 n f))

/-- The page entry of a fixed grant (R223). -/
def State.fixedEntry (s : State) (n f : Nat) : Entry :=
  let i := s.rd (F.GNT_FIXED_ALLOC n f)
  let a := s.alloc n i
  let rep := s.on (F.GNT_FIXED_REPORT n f)
  let msg := s.on (F.GNT_FIXED_MSG n f)
  let size := s.rd (F.GNT_FIXED_SIZE n f)
  { alloc := i, term := a.term, profile := a.profile, newBurst := true, report := rep, msg := msg, kind := 1,
    wide := s.wideNow n a.term, start := s.rd (F.GNT_FIXED_START n f), size := size,
    len := Config.burstMu (s.pRate n a.profile) (s.pFec n a.profile) [(size, bit rep + 2 * bit msg)] }

/-- GSpan of one fixed grant. -/
def State.fixedSpan (s : State) (n f : Nat) : GSpan :=
  (s.burstSpan n [s.fixedEntry n f]).getD ⟨0, 0, 0, 0, false⟩

/-- VALID entries of GNT_FIXED, ascending. -/
def State.fixedSet (s : State) (n : Nat) : List Nat :=
  (List.range 64).filter fun f => s.on (F.GNT_FIXED_VALID n f)

/-- Two fixed grants fall in one frame, the second `d` frames after the first. -/
def meets (s : State) (n f g d : Nat) : Bool :=
  let k := 2 ^ min (s.fPeriod n f) (s.fPeriod n g)
  (s.rd (F.GNT_FIXED_PHASE n f) + d) % k == s.rd (F.GNT_FIXED_PHASE n g) % k

/-- Two fixed grants conflict in some frame or across a frame boundary (R224). -/
def fixedConflict (s : State) (n f g : Nat) : Bool :=
  let a := s.fixedSpan n f
  let b := s.fixedSpan n g
  let m : Int := (s.muFrame n : Nat)
  (meets s n f g 0 && !apart s n a b) || (meets s n f g 1 && !apart s n a (b.shift m)) || (meets s n g f 1 && !apart s n b (a.shift m))

/-- A span lies inside its frame, its half-width included (R203, R228). -/
def fits (s : State) (n : Nat) (x : GSpan) : Bool :=
  decide (0 ≤ x.lo) && decide (x.hi * 256 + (x.w : Int) ≤ (s.ruFrame n : Int))

/-- The check of the fixed grants at a commit tick (R224), with FIXED written into the allocation table (R217). -/
def checkFixed (n : Nat) (s : State) : State :=
  let l := s.fixedSet n
  let r := l.foldl (fun (a : List Nat × Nat) f =>
    if s.maxAllocs n ≤ s.rd (F.GNT_FIXED_ALLOC n f) ∨ ¬ fits s n (s.fixedSpan n f) ∨
        (s.fPeriod n f = 0 ∧ ¬ apart s n (s.fixedSpan n f) ((s.fixedSpan n f).shift (s.muFrame n : Nat))) ∨
        (a.1.any fun g => fixedConflict s n g f)
    then (a.1, withBit a.2 f) else (a.1 ++ [f], a.2)) ([], 0)
  let served := l.filterMap fun f => if s.rd (F.GNT_FIXED_ALLOC n f) < s.maxAllocs n then some (s.rd (F.GNT_FIXED_ALLOC n f)) else none
  let s1 := (s.wr (F.GNT_FIXED_STAT_REFUSED n) r.2).modTree n fun t =>
    let all := served.foldl (fun m i => if (SMap.find? m i).isSome then m else SMap.put m i Alloc.empty) t.alloc
    { t with alloc := all.map fun e => (e.1, { e.2 with fixed := (l.find? fun f => s.rd (F.GNT_FIXED_ALLOC n f) == e.1).getD 127 }) }
  s1.when (r.2 != 0) (raise (E.GNT_FIXED_REFUSED n))

/-- What GNT and RNG do at the tick at which a commit of the tree's group takes effect (R176, R221, R224). -/
def treeCommit (n : Nat) (s : State) : State := checkFixed n (checkProfiles n (updateTeq n s))

/-- The fixed grants of frame `m`, by PERIOD and PHASE (R223). -/
def State.fixedDue (s : State) (n m : Nat) : List Nat :=
  (s.fixedSet n).filter fun f => !hasBit (s.rd (F.GNT_FIXED_STAT_REFUSED n)) f &&
    (m + 2 ^ s.fPeriod n f - s.rd (F.GNT_FIXED_PHASE n f) % 2 ^ s.fPeriod n f) % 2 ^ s.fPeriod n f == 0

/-- A fixed grant can be granted now: its allocation VALID, its terminal grantable, its profile neither refused nor held (R221 to R223). -/
def State.fixedGood (s : State) (n f : Nat) : Bool :=
  let e := s.fixedEntry n f
  (s.alloc n e.alloc).valid && s.grantable n e.term && s.profUsable n e.profile

/-- The fixed grants known for the map of frame `m`. -/
def State.fixedKnown (s : State) (n m : Nat) : List Nat := (s.fixedDue n m).filter (s.fixedGood n)

/-- A terminal holds 16 bursts in a page (R167). -/
def fullTerm (l : List Entry) (t : Nat) : Bool :=
  decide (16 ≤ (l.filter fun e => e.newBurst && e.term == t && decide (e.kind < 2)).length)

/-- Places the fixed grants of the next map on the cleared standby page (R204, R223, R224, R225); a terminal's seventeenth burst is left out
(R167), and so is one that no longer ends within the frame, or has come to break the guard to the active map, which stands, or to what is known
for the map after (R227, R228). -/
def placeFixed (n : Nat) (s : State) : State :=
  let qs := s.quietSpans n (s.ticks + 1)
  let before := (s.pageSpans n (s.tree n).activePage).map fun x => x.shift (-(s.muFrame n : Nat))
  let after := (s.fixedKnown n (s.ticks + 2)).map fun f => (s.fixedSpan n f).shift (s.muFrame n : Nat)
  let r := (s.fixedDue n (s.ticks + 1)).foldl (fun (a : List Entry × Nat × Bool) f =>
    let e := s.fixedEntry n f
    let x := s.fixedSpan n f
    if ¬ s.fixedGood n f ∨ fullTerm a.1 e.term then (a.1, a.2.1 + 1, a.2.2)
    else if qs.any fun q => !apart s n q x then (a.1, a.2.1, true)
    else if !fits s n x || ((before ++ after ++ s.pageSpans n a.1).any fun y => !apart s n y x) then (a.1, a.2.1 + 1, a.2.2)
    else (placeEntry e a.1, a.2.1, a.2.2)) ([], 0, false)
  (trimmed n r.2.1 (setStandby n r.1 s)).when r.2.2 (raiseSec (E.GNT_FIXED_PREEMPT n))

/-! Quiet windows (R230). -/

/-- Nanoseconds in MU, rounded up. -/
def State.nsMu (s : State) (n ns : Nat) : Nat := (ns * s.muFrame n + 124999) / 125000

/-- The profile a quiet window's entry names: the lowest usable one (the spec names none). -/
def State.lowestProfile (s : State) (n : Nat) : Nat := ((List.range 4).find? fun p => s.profUsable n p).getD 0

/-- Places a window that RNG has begun at this tick in the map of the next frame: the earliest position that keeps G to the tail of
the map before, an earlier quiet window's end included; the fixed grants it displaces are left out (R225, R230). -/
def placeQuiet (n : Nat) (s : State) : State :=
  match (s.tree n).quiet.reverse with
  | [] => s
  | q :: before =>
    if q.lenMu ≠ 0 ∨ q.frame ≠ s.ticks + 1 then s
    else
      let m : Int := (s.muFrame n : Nat)
      let zero : GSpan := ⟨0, 0, 0, 0, true⟩
      let ended := (s.quietSpans n s.ticks).filter fun x => decide (x.lo < x.hi)
      let tail := (s.pageSpans n (s.tree n).activePage ++ ended).foldl (fun a x => max a (x.hi - m + (guardMu s n x zero : Nat))) 0
      let pos := tail.toNat
      let len := s.nsMu n q.lenNs
      let p := s.lowestProfile n
      let span := fun (ru : Int) => (ru + 255) / 256
      let est := (s.term n q.term).est
      let start : Int := if q.term = 0x1FF then (pos : Int) + (s.nsMu n (s.spanNs n) : Nat) + (s.delMu n p : Nat)
        else (pos : Int) + (len : Int) / 2 + span (s.teqSpan n / 125000000 - est) + (s.delMu n p : Nat)
      let e : Entry :=
        { alloc := 0, term := q.term, profile := p, newBurst := true, report := false, msg := true,
          kind := if q.term = 0x1FF then 2 else 3, wide := false, start := start.toNat, size := 0, len := len }
      let w : GSpan := ⟨(pos : Int), ((pos + len : Nat) : Int), 0, 0, true⟩
      let old := (s.tree n).standby
      let kept := old.filter fun x => 2 ≤ x.kind || ((s.burstSpan n [x]).all fun y => apart s n w y)
      let s1 := setStandby n (placeEntry e kept) (s.modTree n fun t => { t with quiet := before.reverse ++ [{ q with posMu := pos, lenMu := len }] })
      s1.when (decide (kept.length < old.length)) (raiseSec (E.GNT_FIXED_PREEMPT n))

/-- Drops the quiet windows that ended before the current map; one that ends in it still keeps its guard to the next map (R227, R230). -/
def endQuiet (n : Nat) (s : State) : State :=
  s.modTree n fun t =>
    { t with quiet := t.quiet.filter fun q =>
        decide (s.ticks < q.frame) || decide ((s.ticks - q.frame) * s.muFrame n < q.posMu + q.lenMu) }

/-! Insertion (R229). -/

/-- A dynamic insertion as an engine presents it. -/
structure Ins where
  alloc : Nat
  term : Nat
  profile : Nat
  newBurst : Bool
  report : Bool
  msg : Bool
  start : Nat
  size : Nat
  deriving DecidableEq, Repr

/-- Where entry `k` of a burst begins, in MU from the burst's START, and, for `k` its number of entries, where the burst ends: the burst is laid out
as a whole, with the trailer in its last entry and the parity of each code word in the entry in which the code word ends (R215). -/
def entryAt (rate : Nat) (fec : Bool) (b : List Entry) (k : Nat) : Nat :=
  let l := b.map Entry.shape
  let all := Config.burstMu rate fec l
  if b.length ≤ k then all else (List.range k).foldl (fun a j => max a (min all (Config.entryMu rate fec l (j + 1)))) 0

/-- Sets START and LEN_MU of a burst's entries from its layout (R215): each span runs to the next entry's START, the last to the burst's end. -/
def layBurst (rate : Nat) (fec : Bool) (b : List Entry) : List Entry :=
  let start := (b.headD ⟨0, 0, 0, true, false, false, 0, false, 0, 0, 0⟩).start
  (b.zip (List.range b.length)).map fun e =>
    { e.1 with start := start + entryAt rate fec b e.2, len := entryAt rate fec b (e.2 + 1) - entryAt rate fec b e.2 }

/-- LEN_MU of the entries of a map (R215): a span runs to the START of the next entry of its burst, the last to the burst's last bit. An opening
entry that is a fixed grant gives up the trailer to the continuations that follow it. -/
def relay (s : State) (n : Nat) (l : List Entry) : List Entry :=
  let lens := (bursts l).flatMap fun b =>
    let e0 := b.headD ⟨0, 0, 0, true, false, false, 0, false, 0, 0, 0⟩
    let done := e0.start + entryAt (s.pRate n e0.profile) (s.pFec n e0.profile) b b.length
    if b.length ≤ 1 then [] else (b.zip (b.drop 1)).map (fun p => (p.1, p.2.start - p.1.start)) ++
      (b.getLast?.map fun e => (e, if done ≤ e.start then e.len else done - e.start)).toList
  l.map fun e => { e with len := ((lens.find? fun p => p.1 == e).map Prod.snd).getD e.len }

/-- The entries of a map so far: fixed grants, quiet windows and accepted insertions, in START order. The fixed grants already placed in a map that is
not yet the standby page are those known for its frame (DEDUCED, assumption 35). -/
def mapSoFar (s : State) (n : Nat) (r : Recomp) : List Entry :=
  let base := if r.deadline = s.ticks then (s.tree n).standby.filter fun e => e.kind == 1 else
    ((s.fixedKnown n (r.deadline + 1)).map (s.fixedEntry n)).foldl (fun a e => placeEntry e a) []
  relay s n (r.ins.foldl (fun a e => placeEntry e a) base)

/-- The entry that precedes a START in a map. -/
def entryBefore (l : List Entry) (start : Nat) : Option Entry := (l.filter fun e => decide (e.start ≤ start)).getLast?

/-- The entry that an insertion would make, with the accepted entries it changes: a continuation joins the burst before it in the map, whose
opening entry may be a fixed grant (R215). -/
def insEntries (s : State) (n : Nat) (i : Ins) (all ins : List Entry) : List Entry × List Entry :=
  let e : Entry :=
    { alloc := i.alloc, term := i.term, profile := i.profile, newBurst := i.newBurst, report := i.report, msg := i.msg, kind := 0,
      wide := s.wideNow n i.term, start := i.start, size := i.size, len := 0 }
  let r := s.pRate n i.profile
  let fec := s.pFec n i.profile
  if i.newBurst then (ins, layBurst r fec [e])
  else
    match (entryBefore all i.start).bind fun x => (bursts all).find? fun b => b.contains x with
    | none => (ins, [e])
    | some b => (ins.filter fun x => !b.contains x, (layBurst r fec (b ++ [e])).filter fun x => x.kind == 0)

/-- The entry that a continuation follows in START order, in the whole map, is of the same terminal with the same profile (R229, code 9). -/
def followsOwn (i : Ins) (all : List Entry) : Bool :=
  (entryBefore all i.start).any fun e => e.term == i.term && e.profile == i.profile && decide (e.kind < 2)

/-- The spans that a dynamic entry must keep G to outside its own map: those of the previous map, a quiet window that ended in it among
them, and the fixed grants known for the next one (R227, R228). -/
def insAround (s : State) (n : Nat) (r : Recomp) : List GSpan :=
  let m : Int := (s.muFrame n : Nat)
  ((if r.deadline = s.ticks then (s.pageSpans n (s.tree n).activePage).map fun x => x.shift (-m) else []) ++
    ((s.fixedKnown n (r.deadline + 2)).map fun f => (s.fixedSpan n f).shift m)) ++
    ((s.quietSpans n (r.deadline + 1)).filter fun x => decide (x.hi ≤ 0))
/-- Those of its own map outside its burst: fixed grants, the other bursts, and the quiet windows that lie in it (R229, code 1). -/
def insSame (s : State) (n : Nat) (r : Recomp) (kept : List Entry) (mine : List Entry) : List GSpan :=
  let l := (mapSoFar s n { r with ins := kept })
  ((bursts l).filter fun b => !b.any fun x => mine.any fun y => x.newBurst && x.term == y.term && openerOf l y == some x).filterMap (s.burstSpan n) ++
    ((s.quietSpans n (r.deadline + 1)).filter fun x => decide (0 < x.hi))

/-- The code of R229 for an insertion into a recomputation, with the accepted entries after it. The checks run from what names the
grant to where it lies: 8, 4, 5, 6, 9, 3, 2, 7, 1. -/
def insertCode (s : State) (n : Nat) (r : Recomp) (i : Ins) : Nat × List Entry :=
  let a := s.alloc n i.alloc
  let all := mapSoFar s n r
  let p := insEntries s n i all r.ins
  let new := p.2.map (s.entrySpan n)
  if r.deadline < s.ticks then (8, r.ins)
  else if ¬ a.valid ∨ a.typ = 3 ∨ a.term ≠ i.term then (4, r.ins)
  else if ¬ s.grantable n i.term then (5, r.ins)
  else if ¬ s.profUsable n i.profile then (6, r.ins)
  else if ¬ i.newBurst ∧ ¬ followsOwn i all then (9, r.ins)
  else if i.newBurst ∧ fullTerm all i.term then (3, r.ins)
  else if 2048 ≤ all.length + ((s.tree n).quiet.filter fun q => q.frame == r.deadline + 1).length then (2, r.ins)
  else if new.any fun x => !fits s n x || ((insAround s n r).any fun y => !apart s n y x) then (7, r.ins)
  else if new.any fun x => (insSame s n r p.1 (p.2.filter fun e => !e.newBurst)).any fun y => !apart s n y x then (1, r.ins)
  else (0, (p.1 ++ p.2).foldl (fun a e => placeEntry e a) [])

/-- Puts a number into an ascending list. -/
def placeNat (x : Nat) : List Nat → List Nat
  | [] => [x]
  | y :: ys => if x ≤ y then x :: y :: ys else y :: placeNat x ys

/-- START for an entry that GNT is to append (R241): the earliest position at or after the cursor that meets every rule. The positions
at which some rule begins to hold are the cursor, the frame's start and the end of each span with its guard; a continuation
follows an entry at or after the cursor, and its START is the end of that entry's burst. -/
def appendAt (s : State) (n cursor : Nat) (r : Recomp) (i : Ins) : Nat :=
  if ¬ i.newBurst then
    (((((mapSoFar s n r).map Entry.start).filter fun p => decide (cursor ≤ p)).foldl (fun l p => placeNat (p + 1) l) [cursor]).find? fun p =>
      (insertCode s n r { i with start := p }).1 == 0).getD cursor
  else
    let head := s.delMu n i.profile + s.preMu n i.profile
    let x : GSpan := ⟨0, 0, s.pRate n i.profile, s.widthRu n (s.pRate n i.profile) (s.wideNow n i.term), false⟩
    let ends := (insAround s n r ++ insSame s n r r.ins []).map fun y => (y.hi + (guardMu s n y x : Nat)).toNat + head
    let at_ := (cursor :: head :: ends).filter fun p => decide (cursor ≤ p)
    ((at_.foldl (fun l p => placeNat p l) []).find? fun p => (insertCode s n r { i with start := p }).1 == 0).getD cursor

/-- Records a refused insertion (R229). -/
def insertRefused (n code alloc frame : Nat) (s : State) : State :=
  (((s.sat (F.GNT_OVR_STAT_INSERT_REFUSED n) 1).wr (F.GNT_INSERT_LAST_CODE n) code).wr (F.GNT_INSERT_LAST_ALLOC n) alloc).wr
    (F.GNT_INSERT_LAST_FRAME n) frame

/-- The join recomputation of a tree, or its cadence's (R209): what an engine inserts goes to the one it works on. -/
def Tree.work (t : Tree) (join : Bool) : Option Recomp := if join then t.joinRec else t.recomp
def setWork (n : Nat) (join : Bool) (r : Recomp) (s : State) : State :=
  s.modTree n fun t => if join then { t with joinRec := some r } else { t with recomp := some r }

/-- GNT takes one insertion (R229): answers its code. -/
def gntInsert (n : Nat) (join : Bool) (i : Ins) (s : State) : State × Nat :=
  match (s.tree n).work join with
  | none => (insertRefused n 8 i.alloc (s.ticks + 1) s, 8)
  | some r =>
    let c := insertCode s n r i
    if c.1 = 0 then (setWork n join { r with ins := c.2 } s, 0) else (insertRefused n c.1 i.alloc (r.deadline + 1) s, c.1)

/-- GNT takes a group of insertions as one: either all are placed or none is; answers the first refusal's code (R248). -/
def gntInsertGroup (n : Nat) (join : Bool) (l : List Ins) (s : State) : State × Nat :=
  let r := l.foldl (fun (a : State × Nat) i => if a.2 = 0 then gntInsert n join i a.1 else a) (s, 0)
  if r.2 = 0 then r
  else
    match (s.tree n).work join with
    | none => r
    | some c => (setWork n join c r.1, r.2)

/-! The freeze (R204, R208, R211). -/

/-- An entry of the dynamic part still stands, by its allocation, its terminal and its profile (R208, R218, R222). -/
def stillGood (s : State) (n : Nat) (e : Entry) : Bool :=
  let a := s.alloc n e.alloc
  a.valid && a.term == e.term && s.grantable n e.term && s.profUsable n e.profile

/-- What a page of frame `m` has around it: the page before, the quiet windows, and the fixed grants known for the page after (R227, R228). -/
def aroundMap (s : State) (n m : Nat) : List GSpan :=
  let mf : Int := (s.muFrame n : Nat)
  s.quietSpans n m ++ ((s.pageSpans n (s.tree n).activePage).map fun x => x.shift (-mf)) ++
    ((s.fixedKnown n (m + 1)).map fun f => (s.fixedSpan n f).shift mf)

/-- Strips the dynamic part against the map being built (R208): an entry that overlaps, breaks a guard, or no longer stands by its allocation,
terminal or profile, and every continuation of an opening entry that was stripped; and what goes beyond the page's 2,048 entries
(R214) or a terminal's 16 bursts (R167). Answers the map and the number stripped. -/
def stripDyn (s : State) (n : Nat) (base dyn : List Entry) (m : Nat) : List Entry × Nat :=
  let around := aroundMap s n m
  let all := dyn.foldl (fun a e => placeEntry e a) base
  dyn.foldl (fun (a : List Entry × Nat) e0 =>
    let e := { e0 with wide := s.wideNow n e0.term }
    let x := s.entrySpan n e
    let mine := if e.newBurst then none else (openerOf all e).map fun o => (o.start, o.term)
    let others := ((bursts a.1).filter fun b => (b.head?.map fun o => (o.start, o.term)) != mine || e.newBurst).filterMap (s.burstSpan n)
    let opened := e.newBurst || a.1.any fun o => o.newBurst && mine == some (o.start, o.term)
    if opened && stillGood s n e && !(e.newBurst && fullTerm a.1 e.term) && fits s n x && decide (a.1.length < 2048) && ((around ++ others).all fun y => apart s n y x)
    then (placeEntry e a.1, a.2) else (a.1, a.2 + 1)) (base, 0)

/-- RU from a tick to the burst position of a START less the delimiter: s_k (R177, R226). -/
def State.sOfs (s : State) (n : Nat) (e : Entry) : Int := ((e.start : Int) - (s.delMu n e.profile : Nat)) * 256

/-- Rounds RU down or up to whole multiples of 8 ns, in nanoseconds (R226). -/
def ruDown8 (s : State) (n : Nat) (ru : Int) : Int := ru * 125000 / ((8 * s.ruFrame n : Nat) : Int) * 8
def ruUp8 (s : State) (n : Nat) (ru : Int) : Int := -(-(ru * 125000) / ((8 * s.ruFrame n : Nat) : Int)) * 8

/-- The bursts of a map that FRM accepts: at most 16 of one terminal (R167). -/
def acceptBursts (l : List (List Entry)) : List (List Entry) :=
  (l.foldl (fun (a : List (List Entry) × SMap Nat) b =>
    let e := b.headD ⟨0, 0, 0, true, false, false, 0, false, 0, 0, 0⟩
    let k := SMap.getD a.2 e.term 0
    if 2 ≤ e.kind then (a.1 ++ [b], a.2) else if 16 ≤ k then a else (a.1 ++ [b], SMap.put a.2 e.term (k + 1))) ([], [])).1

/-- The windows of a frozen map, in order (R226). -/
def State.windows (s : State) (n m : Nat) (l : List Entry) : List Win :=
  let teq : Int := (s.teqRu n : Nat)
  (acceptBursts (bursts l)).filterMap fun b =>
    match b with
    | [] => none
    | e :: _ =>
      let r := s.pRate n e.profile
      let sk := s.sOfs n e
      if 2 ≤ e.kind then
        match (s.tree n).quiet.find? fun q => q.term == e.term && q.frame == m with
        | none => none
        | some q =>
          let lo := teq + (q.posMu * 256 : Nat)
          let hi := lo + (q.lenMu * 256 : Nat)
          some ⟨m, e.term, e.kind, r, s.pFec n e.profile, false, sk, if e.kind = 2 then lo else (lo + hi) / 2, ruDown8 s n lo, ruUp8 s n hi,
            if e.kind = 2 then hi - lo else (hi - lo) / 2, false, 0, 0, false, false, [], TermPm.zero⟩
      else
        let len := b.foldl (fun a x => a + x.len) 0
        let w : Int := (s.widthRu n r e.wide : Nat)
        let p := teq + sk
        some ⟨m, e.term, e.kind, r, s.pFec n e.profile, e.wide, sk, p, ruDown8 s n (p - (s.preMu n e.profile * 256 : Nat) - w),
          ruUp8 s n (p + ((s.delMu n e.profile + len) * 256 : Nat) + w), w, false, 0, 0, false, false, [], TermPm.zero⟩

/-- The port's maps carry grants: the tile is in service, a reload that waits in QUEUED included, and service frames run (R83, R132). -/
def State.grants (s : State) (n : Nat) : Bool := s.inService n && s.nextServes n

/-- GNT builds maps in the service modes and PROVING (R210). -/
def buildsMaps (m : Nat) : Bool := isService m || m == mProving

/-- One report of a closed set (R231): it is checked against the entry as it stands. -/
def takeReport (n : Nat) (r : Nat × Nat × Nat × Nat) (s : State) : State :=
  let a := s.alloc n r.2.2.1
  if ¬ a.valid ∨ a.term ≠ r.2.1 then raiseSec (E.GNT_REPORT_FOREIGN n) (s.sat (F.GNT_REPORT_STAT_FOREIGN n) 1)
  else (s.sat (F.GNT_REPORT_STAT_REPORTS n) 1).modTree n fun t =>
    { t with alloc := SMap.put t.alloc r.2.2.1 { a with lastReport := min r.2.2.2 0xFFFFFF, reportFrame := r.1 % 65536, reportValid := true } }

/-- Closes the report sets of the frames before `upto` (R167, R204, R231): their reports are taken in the order in which they came. At tick
N + 2.0 µs the set of frame N - 1 takes in what has been decoded since the tick; a frame without a recomputation closes its set by
its freeze, or at the next tick at the latest. -/
def closeReports (n upto : Nat) (s : State) : State :=
  let l := (s.tree n).reports.filter fun r => decide (r.1 < upto)
  l.foldl (fun a r => takeReport n r a) (s.modTree n fun t => { t with reports := t.reports.filter fun r => !decide (r.1 < upto) })

/-- A decoded report waits for its set to close (R167, R231). -/
def holdReport (n term idx words : Nat) (s : State) : State :=
  s.modTree n fun t => { t with reports := t.reports ++ [(s.ticks, term, idx, words)] }

/-- The map freezes (R204): the dynamic part is merged and stripped, the page frozen and handed to FRM with its windows, and mirrored
(R413). `bad` reports an uncorrectable page entry (R211). -/
def freezeMap (n : Nat) (bad : Bool) (s0 : State) : State :=
  let s := closeReports n s0.ticks s0
  let t := s.tree n
  if ¬ s.works ∨ ¬ buildsMaps s.mode ∨ ¬ s.carries n ∨ t.frozen ∨ t.late then s
  else if bad then raise (E.GNT_PAGE_ERR n) (s.modTree n fun r => { r with dynFresh := false, pageErr := true })
  else
    let m := s.ticks + 1
    let r := if s.grants n then stripDyn s n t.standby t.dyn m else ([], 0)
    let l := relay s n r.1
    let ends := (bursts l).foldl (fun a b => match b with
      | [] => a
      | e :: _ => if e.kind < 2 then max a (b.foldl (fun x y => x + y.len) e.start) else a) 0
    let s1 := trimmed n r.2 (setStandby n l s)
    let s2 := ((((((s1.wr (F.GNT_MAP_STAT_ENTRIES n) l.length).wr (F.GNT_MAP_STAT_BURSTS n) (l.filter fun e => e.newBurst).length).wr
      (F.GNT_MAP_STAT_PAGE n) (1 - t.active)).wr (F.GNT_MAP_STAT_REUSED n) (bit (!t.dynFresh || t.pageErr))).wr
      (F.GNT_MAP_STAT_JOIN n) (bit (t.dynFresh && t.dynJoin && !t.pageErr))).wr (F.GNT_MAP_STAT_END_MU n) ends)
    queuePage n l.length (s2.modTree n fun r =>
      { r with frozen := true, dynFresh := false, pageErr := false, wins := r.wins ++ s2.windows n m l })

/-- The allocation table with the writes that wait: a write leaves the report fields and FIXED as they stand when it takes effect (R217,
R218). -/
def Tree.written (t : Tree) : SMap Alloc :=
  t.allocWr.foldl (fun a w => SMap.put a w.1 (Alloc.ofWords (SMap.getD a w.1 Alloc.empty) w.2.1 w.2.2)) t.alloc

/-- The quiet windows of this frame's map that went out in no map, because it was withheld, late or empty (R156, R211): they are no longer in the way,
and a ranging window counts as one without a confirmed burst (R184; DEDUCED, assumption 34). -/
def lostQuiet (n : Nat) (s : State) : State :=
  let gone := (s.tree n).quiet.filter fun q => q.frame == s.ticks && !(s.tree n).wins.any fun w => decide (2 ≤ w.kind) && w.frame == s.ticks && w.term == q.term
  (gone.filter fun q => q.term != 0x1FF).foldl (fun a q => rangeMissed n q.term a)
    (s.modTree n fun t => { t with quiet := t.quiet.filter fun q => !gone.contains q })

/-- The page swap of a tick (R204): the frozen page becomes active, the other is cleared, and the fixed grants of the next map are
placed; allocation writes take effect before the reports of the frame just over are closed (R231). A page that was not frozen, or that was
withheld, carries nothing (R156, R211). In STANDBY and while no map is built the pages stay as the mirror leaves them (R210). -/
def grantTick (n : Nat) (s : State) : State :=
  let s0 := (closeReports n (s.ticks - 1) s).modTree n fun t => { t with alloc := t.written, allocWr := [], frozen := false }
  let s1 := endQuiet n s0
  if ¬ buildsMaps s.mode then s1
  else
    let s2 := lostQuiet n (if (s.tree n).frozen then s1 else setStandby n [] s1)
    placeFixed n (setStandby n [] (s2.modTree n fun t => { t with active := 1 - t.active }))

/-! Recomputations (R205 to R213). -/

/-- The cadence of a mode (R33, R205). -/
def cadenceOf (m : Nat) : Nat := if m = mBalanced then 2 else if m = mLean then 4 else 1

/-- The recomputation of the tree that begins at this tick + 2.0 µs, if one does: the join recomputation when the tree has just joined,
then the cadence's on a cadence tick (R205, R209). -/
def startRecomp (n : Nat) (s : State) : Option (Recomp × State) :=
  let t := s.tree n
  let c := cadenceOf s.mode
  if ¬ s.works ∨ ¬ buildsMaps s.mode ∨ ¬ s.inService n ∨ ¬ s.inService 47 then none
  else if hasBit s.cfg.joinRecompute n then
    let r : Recomp := ⟨s.ticks, s.ticks, true, t.alloc, [], false⟩
    some (r, (s.modTree n fun t => { t with joinRec := some r }).modCfg fun g => { g with joinRecompute := noBit g.joinRecompute n })
  else if s.pwr.cadence % c = 0 ∧ ¬ (t.joinRec.isSome ∧ c = 1) ∧ ¬ (t.recomp.any fun r => r.start == s.ticks) then
    let r : Recomp := ⟨s.ticks, s.ticks + c - 1, false, t.alloc, [], false⟩
    some (r, s.modTree n fun t => { t with recomp := some r })
  else none

/-- GNT counts DONE of the join recomputation or of the cadence's, at absolute cycle `d` (R206, R207, R212): in time up to cycle 176,999 of
the deadline frame, late beyond cycle 165,000 of it. -/
def countDone (n : Nat) (join : Bool) (d : Nat) (s : State) : State :=
  match (s.tree n).work join with
  | none => s
  | some r =>
    if r.deadline * 187500 + 176999 < d then s
    else
      let s1 := setWork n join { r with done := true } s
      s1.when (decide (r.deadline * 187500 + 165000 < d)) fun a =>
        raiseSec (E.GNT_LATE_DONE n) (a.sat (F.GNT_OVR_STAT_LATE_DONE n) 1)

/-- One recomputation's deadline passes: its result becomes the dynamic part, or the tree has overrun (R206, R209). A tree whose maps a
reflex has frozen takes its dynamic part from no recomputation, and has no overrun (R449). -/
def closeRecomp (n : Nat) (r : Recomp) (s : State) : State :=
  if hasBit s.hub.mapFrozen n then s
  else if r.done then s.modTree n fun t => { t with dyn := r.ins, dynFresh := true, dynJoin := r.join }
  else
    let s1 := s.when r.join fun a => a.modTree n fun t => { t with dyn := [], dynFresh := false }
    raise (E.GNT_OVERRUN n) (s1.sat (F.GNT_OVR_STAT_OVERRUNS n) 1)

/-- Recomputations of the tree whose deadline lies in this frame end (R206). While M0 is not JOINED none runs and no overrun is
raised (R210). -/
def deadline (n : Nat) (s : State) : State :=
  let due := fun (r : Recomp) => decide (r.deadline ≤ s.ticks)
  let t := s.tree n
  let s1 := match t.recomp with
    | some r => if due r then closeRecomp n r (s.modTree n fun t => { t with recomp := none }) else s
    | none => s
  match t.joinRec with
  | some r => if due r then closeRecomp n r (s1.modTree n fun t => { t with joinRec := none }) else s1
  | none => s1

/-- Recomputations are abandoned without an overrun: at a mode change (R213), and while M0 reloads (R210). -/
def abandonRecs (s : State) : State :=
  { s with trees := s.trees.map fun e => (e.1, { e.2 with recomp := none, joinRec := none }) }

/-! The allocation table (R217 to R219). -/

/-- GNT_ALLOC_CMD OP 1 (R217). -/
def allocRead (n i : Nat) (s : State) : State :=
  let s0 := (s.wr (F.GNT_ALLOC_CMD_INDEX n) i).wr (F.GNT_ALLOC_CMD_OP n) 1
  if s.maxAllocs n ≤ i then s0.wr (F.GNT_ALLOC_STAT_CODE n) 1
  else
    let a := s.alloc n i
    ((s0.wr (F.GNT_ALLOC_DATA_WORD n 0) a.word0).wr (F.GNT_ALLOC_DATA_WORD n 1) a.word1).wr (F.GNT_ALLOC_STAT_CODE n) 0

/-- The code of R219 for a write, against the table with the writes that wait for the same tick. -/
def allocCode (s : State) (n i : Nat) (a : Alloc) : Nat :=
  if s.maxAllocs n ≤ i then 1
  else if s.maxTerms n ≤ a.term then 2
  else if (s.tree n).written.any fun e => e.1 != i && e.2.valid && e.2.allocId == a.allocId then 3
  else 0

/-- GNT_ALLOC_CMD OP 2: effective at the next tick, or refused (R218, R219). -/
def allocWrite (n i : Nat) (s : State) : State :=
  let s0 := (s.wr (F.GNT_ALLOC_CMD_INDEX n) i).wr (F.GNT_ALLOC_CMD_OP n) 2
  let w0 := s.rd (F.GNT_ALLOC_DATA_WORD n 0)
  let w1 := s.rd (F.GNT_ALLOC_DATA_WORD n 1)
  let c := allocCode s n i (Alloc.ofWords Alloc.empty w0 w1)
  let s1 := s0.wr (F.GNT_ALLOC_STAT_CODE n) c
  if c = 0 then mirrorSend (some n) (s1.modTree n fun t => { t with allocWr := t.allocWr ++ [(i, w0, w1)] }) else s1

/-! The commands. -/

/-- QUIET_WINDOW_BEGIN (R182, R183, R230). -/
def execQuietWindowBegin (n : Nat) (s : State) : Out := .next (placeQuiet n (quietWindow n s))
/-- MAP_FREEZE (R204, R208, R211). -/
def execMapFreeze (n : Nat) (bad : Bool) (s : State) : Out := .next (freezeMap n bad s)
/-- PROFILE_HOLD_END (R222). -/
def execProfileHoldEnd (n p : Nat) (s : State) : Out := .next (s.when s.works (profileHoldEnd n p))

end Sys2Proof.Machine
end

