-- ==== Sys2Proof/Machine/Tables.lean ====
section
/-! DEFINITION. Machine/Tables.lean: the tables that FWD, BPM and TMG keep in DRAM, as bytes at their addresses: R278, R279, R298 to R301,
R312, R313. -/
namespace Sys2Proof.Machine

/-- Words of a flow context (R278). -/
def FlowCtx.words (c : FlowCtx) : List Nat :=
  [c.w0, c.w1, c.w2, c.usFrames, c.usBytes, c.dsFrames, c.dsBytes, bit c.hit + 2 * bit c.stale + 4 * bit c.idle]

/-- Words of a bridge entry (R279). -/
def BEntry.words (e : BEntry) : List Nat :=
  [e.mac + e.bd * 2 ^ 48 + 2 ^ 62 + bit e.static * 2 ^ 63,
   e.flow + e.uplink * 2 ^ 23 + e.dkind * 2 ^ 27 + e.owner * 2 ^ 29 + bit e.hit * 2 ^ 44 + bit e.stale * 2 ^ 45 + bit e.flap * 2 ^ 46,
   e.learnS + e.moveS * 2 ^ 32 + e.moves * 2 ^ 48, 0]

/-- Words of a queue's entry (R312, R317). -/
def TQueue.words (q : TQueue) : List Nat := [q.w0, q.w1 % 65536 + (q.depth % 2 ^ 25) * 65536, q.enqBytes, q.stopFrames]

/-- The metadata word of an allocated cell (R298). -/
def CellMeta.word (m : CellMeta) : Nat := m.next + m.owners * 2 ^ 26 + m.last * 2 ^ 34 + bit m.lastPend * 2 ^ 58

/-- The metadata word of cell `c`: FREE is set in the free store (R298). -/
def State.metaWord (s : State) (c : Nat) : Nat :=
  match SMap.find? s.bpm.cells c with
  | some m => m.word
  | none => Config.freeMeta c % 2 ^ 25 + 2 ^ 25 + Config.freeMeta c / 2 ^ 26 % 2 ^ 33 * 2 ^ 26

/-- What the descriptor of the frame with first cell `c` holds (R298): cell count, length, flow index, pool, and the owner tag of each copy. -/
def State.descriptor (s : State) (c : Nat) : List Nat :=
  match SMap.find? s.bpm.frames c with
  | some f => [f.cells.length, f.len, f.flow, f.pool] ++ f.tags
  | none => []

/-- The bit of cell `c` in the free bitmap (R301). -/
def State.bitmapBit (s : State) (c : Nat) : Bool := decide (s.bpm.mark ≤ c) || s.bpm.loose.contains c || s.bpm.freed.contains c

/-- Bytes of a region of the partition: 0 packet buffers, 1 frame descriptors, 2 flow contexts, 3 cell metadata, 4 bridge table, 5 free
ring, 6 queue table, 7 policers, 8 MEC work areas, 9 free bitmap, 10 save staging (R351). -/
def State.region (s : State) (k : Nat) : Region := s.partn.others.getD k ⟨0, 0⟩

/-- Byte `i` of a run of little-endian words of `n` bytes. -/
def wordsByte (n : Nat) (w : List Nat) (i : Nat) : Nat := w.getD (i / n) 0 / 256 ^ (i % n) % 256

/-- The bridge entry at an offset of the bridge region, by partition and slot (R275). -/
def State.bridgeAt (s : State) (o : Nat) : Option (List Nat) :=
  ((List.range 4).find? fun k =>
      let b := 65536 * ofLe ((List.range 4).map fun i => (SMap.getD s.cfg.tiles (40 + k) ⟨0, 0, 0, []⟩).param.getD (4 + i) 0)
      s.carries (40 + k) && decide (b ≤ o) && decide (o < b + 32 * 2 ^ s.rd (F.FWD_PART_STAT_BR_LOG2 k))).map fun k =>
    let b := 65536 * ofLe ((List.range 4).map fun i => (SMap.getD s.cfg.tiles (40 + k) ⟨0, 0, 0, []⟩).param.getD (4 + i) 0)
    match (SMap.find? s.fwd.brOld (2 ^ 22 * k + (o - b) / 32)).or (SMap.find? s.fwd.bridge (2 ^ 22 * k + (o - b) / 32)) with
    | some e => e.words
    | none => [0, 0, 0, 0]

/-- A byte that a table holds, at an offset of a region: the blocks keep these regions, and the others are plain memory (R298, R299). -/
def State.tableByte (s : State) (k o : Nat) : Option Nat :=
  let ring := s.on F.BPM_FS_STAT_RING
  if k = 1 then some (Config.descByte (o / 32) (s.descriptor (o / 32)) (o % 32) % 256)
  else if k = 2 then some (wordsByte 8 ((SMap.find? s.fwd.flOld (o / 64)).getD (SMap.getD s.fwd.flows (o / 64) FlowCtx.empty)).words (o % 64))
  else if k = 3 then some (wordsByte 8 [s.metaWord (o / 8)] (o % 8))
  else if k = 4 then (s.bridgeAt o).map fun w => wordsByte 8 w (o % 32)
  else if k = 5 ∧ ring then some (wordsByte 4 [SMap.getD s.bpm.ring (o / 4) (o / 4)] (o % 4))
  else if k = 6 then some (wordsByte 8 (SMap.getD s.tmg.queues (o / 32) TQueue.initial).words (o % 32))
  else if k = 7 then some (let x := SMap.getD s.tmg.policers (o / 16) Policer.initial; wordsByte 8 [x.w0, x.w1] (o % 16))
  else if k = 9 ∧ ¬ ring then some ((List.range 8).foldl (fun a i => if s.bitmapBit (8 * o + i) then withBit a i else a) 0)
  else none

/-- The byte that device DRAM holds at an address. -/
def State.storedByte (s : State) (a : Nat) : Nat :=
  match (List.range 10).find? fun k => decide ((s.region k).base ≤ a) && decide (a < (s.region k).base + (s.region k).len) with
  | none => (s.dram.read a).toNat
  | some k => (s.tableByte k (a - (s.region k).base)).getD (s.dram.read a).toNat

/-- The bytes of a run. -/
def State.stored (s : State) (a n : Nat) : List Nat := (List.range n).map fun i => s.storedByte (a + i)

end Sys2Proof.Machine
end

