-- ==== Sys2Proof/Machine/Stacks.lean ====
section
/-! DEFINITION. Machine/Stacks.lean: accesses to the DRAM stacks as other blocks make them: requests at their
schedulers (R352 to R354, R364), how one is issued (R350, R353, R368, R373), and whole accesses, which released segments and those that wait
to be zeroed refuse and hold (R360, R361). -/
namespace Sys2Proof.Machine

/-- A requester's class, where 0 and 1 act as 2 (R352, DRC_CLASS_CFG). -/
def State.drcClass (s : State) (r : Nat) : Nat := max 2 (slice (s.rd F.DRC_CLASS_CFG_CLASS) (3 * r) 3)
/-- Requester `r` is in panic (R355). -/
def State.panics (s : State) (r : Nat) : Bool := decide (r < 2) && hasBit (s.rd F.DRC_PANIC_STAT_PANIC) r
/-- The class a queued request is served as. -/
def State.servedAs (s : State) (q : DramReq) : Nat := if s.panics q.requester then 0 else q.cls
/-- The stacks are powered (VDRAM is live in every mode but ASLEEP). -/
def State.stacks (s : State) : Bool := s.ticking

/-- A request reaches its scheduler (R352), for what lies in one 64-byte sector, since a burst moves no more (R349); one that meets a self-refresh entry aborts it or is held (R364). -/
def dramRequest (r addr : Nat) (data : Option (List Nat)) (s : State) : State :=
  if ¬ s.stacks ∨ 14 ≤ r then s
  else if s.releasedSeg (segOf addr) then segFault r addr data.isNone s
  else
    let p := pcOf addr
    let q : DramReq := { id := s.drc.nextId, requester := r, addr := addr, data := data.map fun b => b.take (64 - addr % 64), cls := s.drcClass r,
                         arrived := s.ticks, age := max 10 (s.rd F.DRC_AGE_CFG_AGE_NS), held := false }
    let st := s.rd (F.DRC_PC_STAT_STATE p)
    let s1 :=
      if st = 1 ∧ s.panics r then (s.wr (F.DRC_PC_STAT_STATE p) 0).sat (F.DRC_SR_STAT_ABORTED p) 1
      else if st = 1 ∨ (st = 2 ∧ ¬ (s.pc p).resident) then s.sat (F.DRC_SR_STAT_HELD p) 1
      else s
    rehold p ((s1.modPc p fun c => { c with queue := c.queue ++ [q] }).modDrc fun d => { d with nextId := d.nextId + 1 })

/-- The 64-byte sectors that a run of device addresses touches. -/
def sectorsOf (a len : Nat) : List Nat := if len = 0 then [] else (List.range ((a % 64 + len + 63) / 64)).map fun i => a / 64 * 64 + 64 * i

/-- A run touches a segment that waits to be zeroed: the access is held (R361). -/
def State.zeroing (s : State) (a len : Nat) : Bool := (sectorsOf a len).any fun x => s.unzeroedSeg (segOf x)

/-! The scheduler. -/

/-- The channel address, *a*[34:13] over *a*[7:0]. -/
def chanOf (a : Nat) : Nat := a / 8192 % 2 ^ 22 * 256 + a % 256
def bankOf (a : Nat) : Nat := slice (chanOf a) 10 4
def rowGroupOf (a : Nat) : Nat := bankOf a * 1024 + slice (chanOf a) 20 10

/-- RH_BUDGET and RH_WINDOW (DRC_RH_CFG). -/
def State.rhBudget (s : State) : Nat := max 256 (s.rd F.DRC_RH_CFG_RH_BUDGET)
def State.rhWindow (s : State) : Nat := max 1 (s.rd F.DRC_RH_CFG_RH_WINDOW)

/-- Activations RH_GAP apart that a tick interval of 125 µs can hold (R369). -/
def State.gapRoom (s : State) : Nat := 125000 / (100 * max 1 (s.rd F.DRC_RH_CFG_RH_GAP)) + 1

/-- The gap of R369 holds an activation: its requester is throttled on this pseudo-channel, is not in panic, and has had the activations that
the gap allows since the latest tick. -/
def State.gapHolds (s : State) (p : Nat) (q : DramReq) : Bool :=
  (s.pc p).throttled.contains q.requester && !s.panics q.requester &&
    decide (s.gapRoom ≤ SMap.getD (s.pc p).gapActs q.requester 0)

/-- The request served next: the oldest ready one of the lowest class (R353). `act` says that it needs an activation. -/
def State.nextServed (s : State) (p : Nat) (notReady : List Nat) (act : Bool) : Option DramReq :=
  let c := (s.pc p).queue.filter fun q => !q.held && !notReady.contains q.id && !(act && s.gapHolds p q)
  let low := c.foldl (fun a q => min a (s.servedAs q)) 7
  c.find? fun q => s.servedAs q == low

/-- An activation is counted; the one that takes its row group beyond the budget makes its requester the offender (R368, R369). -/
def countAct (p : Nat) (q : DramReq) (s : State) : State :=
  let g := rowGroupOf q.addr
  let c := s.pc p
  let n := SMap.getD c.rowActs g 0 + 1
  let m := SMap.getD c.reqActs q.requester 0 + 1
  let s1 := s.modPc p fun c =>
    { c with rowActs := SMap.put c.rowActs g n, reqActs := SMap.put c.reqActs q.requester m
             gapActs := if c.throttled.contains q.requester then SMap.put c.gapActs q.requester (SMap.getD c.gapActs q.requester 0 + 1)
               else c.gapActs }
  if n = s.rhBudget + 1 then
    let s2 := ((((((s1.wr F.DRC_RH_LAST_PC p).wr F.DRC_RH_LAST_ROW_GROUP g).wr F.DRC_RH_LAST_REQUESTER q.requester).wr F.DRC_RH_LAST_PANIC
      (bit (s.panics q.requester))).wr F.DRC_RH_LAST_FRAME s.frame16).wr F.DRC_RH_LAST_REQ_ACTS (min m 65535)).sat F.DRC_RH_STAT_CROSSINGS 1
    let s3 := (s2.wr F.DRC_RH_STAT_THROTTLED (withBit (s2.rd F.DRC_RH_STAT_THROTTLED) q.requester)).modPc p fun c =>
      { c with throttled := q.requester :: c.throttled.filter (· != q.requester) }
    raiseSec E.DRC_RH_THROTTLE s3
  else s1

/-- What SEC-DED found in the word at an address (R350): 0 nothing, 1 a corrected word, 2 an uncorrectable one. -/
def eccFound (found r addr : Nat) (s : State) : State :=
  if found = 0 then s
  else if found = 1 then raiseSec E.DRC_ECC_CE (s.wrap (F.DRC_ECC_STAT_CE (pcOf addr)) 1)
  else raise E.DRC_ECC_UE (eccLast 0 r addr (s.sat (F.DRC_ECC_STAT_UE (pcOf addr)) 1))

/-- What SEC-DED found in word `w` of a burst. -/
def eccOf (ecc w : Nat) : Nat := slice ecc (2 * w) 2

/-- A request reads word `w` of its burst: a write, only where it covers part of the word. -/
def DramReq.readsWord (q : DramReq) (w : Nat) : Bool :=
  match q.data with
  | none => true
  | some b =>
    let lo := q.addr % 64
    decide (lo < 8 * w + 8) && decide (8 * w < lo + b.length) && !(decide (lo ≤ 8 * w) && decide (8 * w + 8 ≤ lo + b.length))

/-- The words of its burst that a request finds uncorrectable. -/
def DramReq.badWords (q : DramReq) (ecc : Nat) : List Nat := (List.range 8).filter fun w => q.readsWord w && decide (2 ≤ eccOf ecc w)

/-- The read timing of a lane calls for an adjustment of `v`/64 UI: DRC keeps it within ±8 and reports a lane that needs more (R373). -/
def followLane (p lane : Nat) (v : Int) (s : State) : State :=
  let more := decide (v < -8) || decide (8 < v)
  let had := (s.pc p).beyondLim.contains lane
  let s1 := s.modPc p fun c =>
    { c with lanes := SMap.put c.lanes lane (max (-8) (min 8 v))
             beyondLim := if more then (if had then c.beyondLim else lane :: c.beyondLim) else c.beyondLim.filter fun x => x != lane }
  s1.when (more && !had) fun a => raise E.DRC_TRAIN_DRIFT (a.wr F.DRC_TRAIN_STAT_DRIFT (withBit (a.rd F.DRC_TRAIN_STAT_DRIFT) p))

/-- Accepted BAR2 requests wait at some scheduler (R436). -/
def State.bar2Busy (s : State) : Bool := s.drc.pcs.any fun e => e.2.queue.any fun q => q.requester == 11
/-- The window's base for a BAR2 request accepted now: after a write of HIF_BAR2_CFG, its value (R436). -/
def State.bar2Base (s : State) : Nat := min 56 (s.hostIf.baseWait.getD (s.rd F.HIF_BAR2_CFG_BASE)) * 0x20000000
/-- A write of HIF_BAR2_CFG that waited is done once the BAR2 requests before it have completed (R436). -/
def takeBase (s : State) : State :=
  match s.hostIf.baseWait with
  | none => s
  | some b => if s.bar2Busy then s else (s.wr F.HIF_BAR2_CFG_BASE b).modHost fun h => { h with baseWait := none }
/-- A write of HIF_BAR2_CFG (R436). -/
def baseWrite (b : Nat) (s : State) : State := takeBase (s.modHost fun h => { h with baseWait := some b })

/-- A request is issued: its activation counts, its bytes move, and SEC-DED answers word by word (R350, R353). `ecc` holds two bits for each
word of the burst, `drift` what an ordinary read shows of its lanes. A read's latency, which the spec leaves open, is a sample of OBS (R460). -/
def issueReq (p : Nat) (q : DramReq) (act : Bool) (ecc : Nat) (drift : List (Nat × Int)) (s : State) : State :=
  let base := q.addr / 64 * 64
  let s1 := takeBase (s.modPc p fun c => { c with queue := c.queue.filter fun x => x.id != q.id })
  let s2 := s1.when act (countAct p q)
  let bad := q.badWords ecc
  let s3 := match q.data with
    | some b => { s2 with dram := s2.dram.writeBytes q.addr (b.map fun x => BitVec.ofNat 8 x) }
    | none =>
      let bytes := (s2.stored base 64).zipIdx.map fun e => if bad.contains (e.2 / 8) then Config.badByte s2.fresh e.2 % 256 else e.1
      histSample 1 q.requester (Config.readLatency s2.fresh)
        (s2.draw.modDrc fun d => { d with returned := some (q.requester, bytes, bad.foldl withBit 0) })
  let s4 := ((List.range 8).filter q.readsWord).foldl (fun a w => eccFound (eccOf ecc w) q.requester (base + 8 * w) a) s3
  s4.when q.data.isNone fun a => (drift.filter fun e => decide (e.1 < 72)).foldl (fun b e => followLane p e.1 e.2 b) a

/-! Whole accesses: a command that stands for an access to DRAM lasts until its requests have been served. -/

/-- The pseudo-channel reaches the active state for a request that it holds: the entry command, residency and exit pass (R362, R364). -/
def wake (p : Nat) (s : State) : State :=
  let st := s.rd (F.DRC_PC_STAT_STATE p)
  if st = 0 then s
  else rehold p (((s.when (st == 1) (State.sat (F.DRC_SR_STAT_ENTRIES p) 1)).wr (F.DRC_PC_STAT_STATE p) 0).modPc p fun c =>
    { c with resident := false })

/-- The scheduler serves its requests in its order until request `id` has been served, whose words show `ecc` (R353). One whose activation
the gap of R369 would hold finds its row open (DEDUCED, assumption 48). -/
def serveTo (p id ecc : Nat) : Nat → State → State
  | 0, s => s
  | k + 1, s =>
    match s.nextServed p [] false with
    | none => s
    | some q =>
      let act := Config.opensRow s.fresh && !s.gapHolds p q
      if q.id = id then issueReq p q act ecc [] s.draw else serveTo p id ecc k (issueReq p q act 0 [] s.draw)

/-- An access of a requester: refused where its segment is released, else queued with its class and served in its turn (R352, R353, R360,
R364). -/
def access (r addr : Nat) (data : Option (List Nat)) (ecc : Nat) (s : State) : State :=
  let id := s.drc.nextId
  let t := dramRequest r addr data s
  if t.drc.nextId = id then t
  else
    let u := wake (pcOf addr) t
    serveTo (pcOf addr) id ecc (u.pc (pcOf addr)).queue.length u

/-- The bytes that the last read returned. -/
def State.burst (s : State) : List Nat :=
  match s.drc.returned with
  | none => []
  | some e => e.2.1

/-- Reads of a list of sectors, in order. -/
def readSectors (r : Nat) : List Nat → State → List Nat × State
  | [], s => ([], s)
  | x :: l, s =>
    let t := access r x none 0 s
    let g := readSectors r l t
    (t.burst ++ g.1, g.2)

/-- A requester's read of a run: a released segment gives all ones (R360). -/
def dramGet (r a len : Nat) (s : State) : List Nat × State :=
  let g := readSectors r (sectorsOf a len) s
  (g.1.extract (a % 64) (a % 64 + len), g.2)

/-- Its write of what falls in one sector: a released segment discards it, and one that waits to be zeroed holds it at its scheduler (R360,
R361). -/
def putSector (r : Nat) (l : List (Nat × Nat)) (s : State) : State :=
  match l with
  | [] => s
  | f :: _ => access r f.1 (some (l.map (·.2))) 0 s

/-- Its write of bytes at their addresses, sector by sector. -/
def dramPut (r : Nat) (l : List (Nat × Nat)) (s : State) : State :=
  (l.map fun e => e.1 / 64).eraseDups.foldl (fun a x => putSector r (l.filter fun e => e.1 / 64 == x) a) s

/-- Its write of a run, sector by sector in rising order. -/
def dramRun (r a : Nat) (b : List Nat) (s : State) : State :=
  (sectorsOf a b.length).foldl (fun t x => access r (max a x) (some (b.extract (max a x - a) (x + 64 - a))) 0 t) s

/-- CFG reads a run of the image store, as requester 9 (R352, R460). -/
def imageRead (a len : Nat) (s : State) : State := (dramGet 9 a len s).2

/-- Bytes from an address on. -/
def bytesAt (a : Nat) (b : List Nat) : List (Nat × Nat) := b.zipIdx.map fun e => ((a + e.2) % 2 ^ 35, e.1)

end Sys2Proof.Machine
end

