-- ==== Sys2Proof/Machine/Engine.lean ====
section
/-! DEFINITION. Machine/Engine.lean: the THYME engines (R238 to R262): microwords, registers, ALU, scratch, windows, assists, spans,
signals, traps and hooks, as the operations that the commands share. -/
namespace Sys2Proof.Machine

/-! Access. -/

def State.modMec (g : Mec → Mec) (s : State) : State := { s with mec := g s.mec }
/-- Engine `e`. -/
def State.eng (s : State) (e : Nat) : Engine := SMap.getD s.mec.engines e Engine.initial
/-- Shows an engine in MEC_ENG_STAT. -/
def showEng (e : Nat) (s : State) : State :=
  let x := s.eng e
  (((s.wr (F.MEC_ENG_STAT_STATE e) x.state).wr (F.MEC_ENG_STAT_SPAN e) (bit x.span.isSome)).wr
    (F.MEC_ENG_STAT_OPEN e) (bit x.hook.isSome)).wr (F.MEC_ENG_STAT_PC e) x.pc
def State.modEng (e : Nat) (g : Engine → Engine) (s : State) : State :=
  showEng e (s.modMec fun m => { m with engines := SMap.put m.engines e (g (s.eng e)) })
/-- Where MEC holds what belongs to a recomputation: `n` for that of tree `n`'s cadence, `n + 32` for its join recomputation (R209). -/
def recKey (n : Nat) (join : Bool) : Nat := if join then n + 32 else n
/-- What MEC holds of a recomputation, by `recKey`. -/
def State.mecTree (s : State) (n : Nat) : MecTree := SMap.getD s.mec.trees n MecTree.initial
def State.modMecTree (n : Nat) (g : MecTree → MecTree) (s : State) : State :=
  s.modMec fun m => { m with trees := SMap.put m.trees n (g (s.mecTree n)) }

/-- The absolute number of cycle `c` of the current frame. -/
def State.cycle (s : State) (c : Nat) : Nat := s.ticks * 187500 + c

/-- Engines that serve a tree under the map in force, in ascending number (R233). -/
def State.enginesOf (s : State) (n : Nat) : List Nat := s.mec.map.filterMap fun m => if m.2 = n then some m.1 else none

/-- The tree whose allocations and windows an engine uses: that of its recomputation, else that of the map. -/
def State.engTree (s : State) (e : Nat) : Option Nat :=
  match (s.eng e).work with
  | .recomp st => some st.tree
  | _ => SMap.find? s.mec.map e
/-- The recomputation that the engine works on is a join recomputation (R209). -/
def Engine.joins (x : Engine) : Bool :=
  match x.work with
  | .recomp st => st.join
  | _ => false
/-- The recomputation whose accumulators, barriers and insertions an engine uses. -/
def State.engKey (s : State) (e : Nat) : Option Nat := (s.engTree e).map fun n => recKey n (s.eng e).joins

/-! Microwords (R238). -/

/-- One ALU slot of a microword. -/
structure AluSlot where
  op : Nat
  dst : Nat
  src1 : Nat
  src2 : Nat
  imm : Nat
  deriving DecidableEq, Repr

/-- The fields of a microword. -/
structure MWord where
  ctl : Nat
  cond : Nat
  target : Nat
  asOp : Nat
  asReg : Nat
  memOp : Nat
  memReg : Nat
  memBase : Nat
  memOfs : Nat
  a : AluSlot
  b : AluSlot
  deriving DecidableEq, Repr

/-- An ALU slot from its 32 bits. -/
def AluSlot.ofBits (v : Nat) : AluSlot := ⟨slice v 26 6, slice v 20 6, slice v 14 6, slice v 8 6, slice v 0 8⟩

/-- A microword from its 128 bits. -/
def MWord.ofBits (v : Nat) : MWord :=
  { ctl := slice v 124 4, cond := slice v 120 4, target := slice v 104 16, asOp := slice v 98 6, asReg := slice v 92 6,
    memOp := slice v 89 3, memReg := slice v 83 6, memBase := slice v 77 6, memOfs := slice v 64 13,
    a := AluSlot.ofBits (slice v 32 32), b := AluSlot.ofBits (slice v 0 32) }

/-- The immediate: SRC2 followed by IMM, 14 bits. -/
def AluSlot.imm14 (x : AluSlot) : Nat := x.src2 * 256 + x.imm

/-- The slot writes a destination register. -/
def AluSlot.writes (x : AluSlot) : Bool := decide (1 ≤ x.op ∧ x.op ≤ 18 ∧ x.op ≠ 15)

/-- Registers an ALU slot reads. -/
def AluSlot.reads (x : AluSlot) : List Nat :=
  if 1 ≤ x.op ∧ x.op ≤ 15 then [x.src1, x.src2] else if x.op = 16 ∨ x.op = 18 then [x.src1] else []

/-- Operands and result registers of an assist (R240). -/
def assistReads (op : Nat) : Nat :=
  if op = 1 then 1 else if op = 2 then 2 else if op = 3 then 3 else if op = 4 then 3 else if op = 5 then 4 else if op = 6 then 2
  else if op = 7 then 1 else if op = 8 then 1 else if op = 9 then 3 else 0
def assistWrites (op : Nat) : Nat :=
  if op = 1 then 4 else if op = 2 ∨ op = 3 ∨ op = 4 ∨ op = 7 then 2 else if op = 9 then 1 else 0

/-- Registers from `r` upwards, `k` of them, as far as G63. -/
def regRun (r k : Nat) : List Nat := (List.range k).filterMap fun i => if r + i < 64 then some (r + i) else none

/-- Every register a word reads (R239). -/
def MWord.reads (w : MWord) : List Nat :=
  w.a.reads ++ w.b.reads ++
  (if w.memOp = 0 then [] else if w.memOp = 1 then [w.memBase] else [w.memBase, w.memReg]) ++
  regRun w.asReg (assistReads w.asOp) ++
  (if w.ctl = 4 then [60] else if w.ctl = 6 then [61] else if w.ctl = 5 ∧ w.cond = 7 then [w.memBase]
   else if w.ctl = 2 ∧ (w.cond = 7 ∨ w.cond = 8) then [62] else [])

/-- Registers that a word, or an assist it starts, writes beside control. -/
def MWord.writes (w : MWord) : List Nat :=
  (if w.a.writes then [w.a.dst] else []) ++ (if w.b.writes then [w.b.dst] else []) ++ (if w.memOp = 1 then [w.memReg] else []) ++
  regRun w.asReg (assistWrites w.asOp)

/-- An illegal word (R239). -/
def MWord.illegal (w : MWord) : Bool :=
  w.ctl == 13 || w.ctl == 14 || decide (18 < w.a.op) || decide (18 < w.b.op) || decide (4 < w.memOp) || decide (9 < w.asOp) ||
  (w.a.writes && w.b.writes && w.a.dst == w.b.dst) || (w.a.op == 15 && w.b.op == 15)

/-- A control operation that R260 forbids in open privilege. -/
def ctlClosed (ctl : Nat) : Bool := ctl == 5 || ctl == 7 || ctl == 8 || ctl == 9 || ctl == 10 || ctl == 11 || ctl == 12
/-- An assist that R260 forbids whatever its operands. -/
def assistClosed (op : Nat) : Bool := op == 1 || op == 5 || op == 8
/-- A register that open code may not write (R260). -/
def regClosed (r : Nat) : Bool := decide (1 ≤ r ∧ r ≤ 31) || decide (40 ≤ r ∧ r ≤ 47)
/-- The control operations that name TARGET as the next word. -/
def jumps (ctl : Nat) : Bool := ctl == 1 || ctl == 2 || ctl == 3 || ctl == 6

/-! Registers (R242, R260). -/

/-- STATUS (G62). -/
def Engine.status (x : Engine) : Nat :=
  x.flags + x.insCode * 16 + x.insIndex * 256 + x.sigCode * 65536 + bit x.span.isSome * 2 ^ 20 + bit x.hook.isSome * 2 ^ 21

/-- What register `r` reads at cycle `c` of the frame. -/
def State.readG (s : State) (e c r : Nat) : Nat :=
  let x := s.eng e
  if r = 0 then 0
  else if r = 62 then x.status
  else if r = 63 then c
  else if x.hook.isSome ∧ r ≤ 31 then 0
  else if x.hook.isSome ∧ 40 ≤ r ∧ r ≤ 47 then s.rd (F.MEC_OPEN_PARAM_PARAM (r - 40))
  else SMap.getD x.regs r 0

/-- Writes G1 to G61; writes of G0, G62 and G63 are ignored. -/
def Engine.setG (r v : Nat) (x : Engine) : Engine :=
  if r = 0 ∨ 61 < r then x else { x with regs := SMap.put x.regs r (v % 2 ^ 32) }

/-! The ALU (R238). -/

/-- The 14-bit immediate taken as signed. -/
def immSigned (i : Nat) : Word := (BitVec.ofNat 14 i).signExtend 32

/-- The result of an ALU operation that writes a destination. -/
def aluValue (op : Nat) (a b : Word) (imm : Nat) : Word :=
  if op = 1 then a + b
  else if op = 2 then a - b
  else if op = 3 then a &&& b
  else if op = 4 then a ||| b
  else if op = 5 then a ^^^ b
  else if op = 6 then a <<< (b.toNat % 32)
  else if op = 7 then a >>> (b.toNat % 32)
  else if op = 8 then a.sshiftRight (b.toNat % 32)
  else if op = 9 then (if a.slt b then a else b)
  else if op = 10 then (if a.slt b then b else a)
  else if op = 11 then (if a < b then a else b)
  else if op = 12 then (if a < b then b else a)
  else if op = 13 then a * b
  else if op = 14 then BitVec.ofNat 32 (a.toNat * b.toNat / 2 ^ 32)
  else if op = 16 then a + immSigned imm
  else if op = 17 then immSigned imm
  else if op = 18 then (a <<< 14) ||| BitVec.ofNat 32 (imm % 2 ^ 14)
  else 0

/-- Flags of SRC1 - SRC2 as CMP sets them: Z, N, C, V in bits 3 to 0; C is set when no borrow occurs. -/
def cmpFlags (a b : Word) : Nat :=
  let d := a - b
  bit (a == b) * 8 + bit d.msb * 4 + bit (decide (b ≤ a)) * 2 + bit (a.msb != b.msb && d.msb != a.msb)

/-- The result of one slot on the registers as they stood before the word. -/
def State.aluOf (s : State) (e c : Nat) (x : AluSlot) : Word :=
  aluValue x.op (BitVec.ofNat 32 (s.readG e c x.src1)) (BitVec.ofNat 32 (s.readG e c x.src2)) x.imm14

/-- Writes one slot's result: its destination, or the flags for CMP. `s0` is the state before the word. -/
def aluWrite (s0 : State) (e c : Nat) (x : AluSlot) (y : Engine) : Engine :=
  if x.op = 15 then
    { y with flags := cmpFlags (BitVec.ofNat 32 (s0.readG e c x.src1)) (BitVec.ofNat 32 (s0.readG e c x.src2)) }
  else if x.writes then y.setG x.dst (s0.aluOf e c x).toNat
  else y

/-! Scratch and windows (R243, R244). -/

/-- The scratch address of LD and ST. -/
def State.memAddr (s : State) (e c : Nat) (w : MWord) : Nat := (s.readG e c w.memBase + 4 * w.memOfs) % 2 ^ 32

/-- The latest staged scratch value for an address (R247). -/
def stagedAt (a : Nat) (l : List Staged) : Option Nat :=
  l.foldl (fun r x => match x with
    | .scratch b v => if b = a then some v else r
    | _ => r) none

/-- What LD returns. -/
def Engine.load (x : Engine) (a : Nat) : Nat :=
  ((x.span.bind fun p => stagedAt a p.staged).getD (x.scratch.le a 4))

/-- Window number and byte offset of a window address: bits 31 to 28, and the line's 64 bytes. -/
def winNum (a : Nat) : Nat := a / 2 ^ 28
def winLine (a : Nat) : Nat := slice a 6 22

/-- The window address lies in a window, inside its extent, that the access may use (R244, R260, R465). -/
def State.winOk (s : State) (e a : Nat) (write : Bool) : Bool :=
  let open_ := (s.eng e).hook.isSome
  if winNum a = 0 then !open_ && (s.engTree e).isSome && decide (winLine a < 16384)
  else if winNum a = 1 then !open_ && !write && (s.engTree e).isSome && decide (winLine a < 64)
  else if winNum a = 2 then !write && decide (winLine a < 1024) && s.on (F.OBS_VIEW_CFG_ENGINE (winLine a / 64))
  else false

/-- The window line that an address names: its tree, its window and its line; the other address bits name nothing (R244). -/
def winKey (n a : Nat) : Nat := n * 2 ^ 32 + winNum a * 2 ^ 28 + winLine a * 64
def State.winKeyOf (s : State) (e a : Nat) : Nat := winKey (if winNum a = 2 then 0 else (s.engTree e).getD 0) a

/-- DRAM address of a line of window 0. -/
def State.workAddr (s : State) (n a : Nat) : Nat := (s.region 8).base + n * 0x100000 + winLine a * 64

/-- The 64 bytes of a line of window 1 or 2, taken as the line lands. -/
def State.winBytes (s : State) (key : Nat) : List Byte :=
  let n := key / 2 ^ 32
  let a := key % 2 ^ 32
  if winNum a = 1 then
    (List.range 8).flatMap fun i => leBytes 8 (s.viewReg (F.RNG_TERM_STAT_STATE n (winLine a * 8 + i)).addr)
  else (List.range 8).flatMap fun i => leBytes 8 (s.viewSlot (winLine a / 64) (winLine a % 64 * 8 + i))

/-- Requester 2 reads the 64 bytes of a line of window 0 (R352). -/
def workRead (a : Nat) (s : State) : List Byte × State :=
  let g := dramGet 2 a 64 s
  (g.1.map (BitVec.ofNat 8), g.2)

/-- A line is read as it lands. -/
def winRead (key : Nat) (s : State) : List Byte × State :=
  if winNum (key % 2 ^ 32) = 0 then workRead (s.workAddr (key / 2 ^ 32) (key % 2 ^ 32)) s else (s.winBytes key, s)

/-- The 64 bytes of a scratch line as a LD at this word would see them. -/
def Engine.lineBytes (x : Engine) (a : Nat) : List Byte :=
  (List.range 16).flatMap fun i => leBytes 4 (x.load (a / 64 * 64 + 4 * i))

/-- Applies one staged write outside GNT: scratch, window line or accumulator (R248). -/
def applyStaged (e : Nat) (w : Staged) (s : State) : State :=
  match w with
  | .scratch a v => s.modEng e fun x => { x with scratch := x.scratch.writeBytes a (leBytes 4 v) }
  | .line a b => dramPut 2 (bytesAt (s.workAddr ((s.engTree e).getD 0) a) (b.map (·.toNat))) s
  | .acc i v =>
    match s.engKey e with
    | none => s
    | some n => s.modMecTree n fun t => { t with acc := SMap.put t.acc i ((SMap.getD t.acc i 0 + v) % 2 ^ 64) }
  | .ins _ _ => s

/-- The insertions of a list of staged writes, in order. -/
def stagedIns (l : List Staged) : List (Nat × Nat) :=
  l.filterMap fun w => match w with
    | .ins a b => some (a, b)
    | _ => none

/-- Puts an engine's group into its tree's insertion queue: by arrival, those of one cycle in ascending engine number (R241). -/
def placeIns (k : Nat × Nat × List (Nat × Nat)) :
    List (Nat × Nat × List (Nat × Nat)) → List (Nat × Nat × List (Nat × Nat))
  | [] => [k]
  | y :: ys => if k.1 < y.1 ∨ (k.1 = y.1 ∧ k.2.1 < y.2.1) then k :: y :: ys else y :: placeIns k ys

/-- Presents a group to GNT (R240, R248). An engine that serves no tree is answered at once: no deadline is open (R229, code 8). -/
def present (e c : Nat) (g : List (Nat × Nat)) (s : State) : State :=
  match s.engKey e with
  | none => s.modEng e fun x => { x with insCode := 8, insIndex := 0 }
  | some n => s.modMecTree n fun t => { t with queue := placeIns (s.cycle c, e, g) t.queue }

/-- The engine has an insertion that GNT has not answered. -/
def State.insWaits (s : State) (e : Nat) : Bool := s.mec.trees.any fun t => t.2.queue.any fun q => q.2.1 == e

/-- A write of the word: staged inside a span, applied at once outside (R247). -/
def putWrite (e c : Nat) (w : Staged) (s : State) : State :=
  match (s.eng e).span with
  | some p => s.modEng e fun x => { x with span := some { p with staged := p.staged ++ [w] } }
  | none =>
    match w with
    | .ins a b => present e c [(a, b)] s
    | _ => applyStaged e w s

/-- The scratch line already holds the window line of this key, or a fetch to it is in flight (R244). -/
def Engine.hasLine (x : Engine) (key line : Nat) : Bool :=
  SMap.find? x.held line == some key || x.lines.contains (key, some line)

/-! Work units, signals and traps (R245, R249, R255). -/

/-- Records an aborted span and discards it: registers from the shadow set, and no result of an assist that the span began (R249,
MEC_SPAN_LAST). -/
def abortSpan (e code now : Nat) (s : State) : State :=
  match (s.eng e).span with
  | none => s
  | some p =>
    let s1 := (((((s.wr (F.MEC_SPAN_LAST_SPAN_PC e) p.pc).wr (F.MEC_SPAN_LAST_CYCLES e) (now - p.start)).wr
      (F.MEC_SPAN_LAST_DISCARDED e) (min 63 p.staged.length)).wr (F.MEC_SPAN_LAST_REASON e) code).wr
      (F.MEC_SPAN_LAST_FRAME e) s.frame16)
    s1.modEng e fun x => { x with span := none, regs := p.shadow, assists := x.assists.filter fun a => !a.span }

/-- Shows the task and result queues (MEC_TASK_STAT, MEC_TASK_RESULT). -/
def showTasks (s : State) : State :=
  let h := s.mec.results.head?.getD ⟨0, 0, 0, 0⟩
  ((((((s.wr F.MEC_TASK_STAT_QUEUED s.mec.tasks.length).wr F.MEC_TASK_STAT_RESULTS s.mec.results.length).wr
    F.MEC_TASK_RESULT_TAG h.tag).wr F.MEC_TASK_RESULT_VALID (bit !s.mec.results.isEmpty)).wr F.MEC_TASK_RESULT_ENGINE h.engine).wr
    F.MEC_TASK_RESULT_STATUS h.status).wr F.MEC_TASK_RESULT_RESULT h.result
/-- A task ends: its result enters the result queue, or waits with the engine while that is full (R266). The outcome of a SELFCHECK that SAGE
posted goes into its report: DEDUCED (assumption 54), it takes no place in the host's result queue. -/
def finishTask (e status result : Nat) (t : SlowTask) (s : State) : State :=
  let r : TaskResult := ⟨t.tag, e, status, result⟩
  if t.sage then s.when (status != 0 || result != 0) fun a => a.modPrt fun p => { p with engineFail := withBit p.engineFail e }
  else if s.mec.results.length < 256 then raise E.MEC_TASK_DONE (showTasks (s.modMec fun m => { m with results := m.results ++ [r] }))
  else s.modEng e fun x => { x with result := some r }

/-- The work unit ends and the engine is idle at the vendor idle loop (R245); a task that trapped ends with STATUS 2. -/
def endWork (e : Nat) (trapped : Bool) (s : State) : State :=
  let x := s.eng e
  let s1 := s.modEng e fun x => { x with state := 0, pc := Config.idleLoop % 65536, work := .none, handler := none, openUsed := 0, caps := 0, waitTick := none }
  match x.work with
  | .task t _ _ => if trapped then finishTask e 2 0 t s1 else s1
  | _ => s1

/-- A hook's call is discarded (R261): what an assist of it would still write is dropped. -/
def Engine.dropHook (x : Engine) : Engine := { x with hook := none, assists := x.assists.filter fun p => !p.open_ }

/-- The engine is stopped: work, starts and signals are gone (STOP of R245). -/
def Engine.halt (x : Engine) : Engine :=
  { x.dropHook with state := 4, work := .none, handler := none, span := none, starts := [], pend := 0, caps := 0, waitTick := none }

/-- The engine starts at the vendor idle loop (R267, MEC_ENG_CTRL). -/
def startEng (e : Nat) (s : State) : State :=
  s.modEng e fun x =>
    { x with state := 0, pc := Config.idleLoop % 65536, work := .none, handler := none, hook := none, pend := 0, span := none,
                 starts := [], caps := 0, waitTick := none }

/-- Takes a signal: the span is aborted where the table says so, a hook's results are discarded and counted (R261), and the vendor
handler is entered with the address saved (R245). -/
def takeSignal (e code now : Nat) (s : State) : State :=
  let x := s.eng e
  let saved := if code = 3 then (x.span.map AtomSpan.pc).getD x.pc else x.pc
  let s1 := (if code < 4 then abortSpan e code now s else s).when (x.hook.isSome) fun a => a.sat (F.MEC_ENG_CNT_OPEN_OVER e) 1
  let s2 := if code = 3 then raiseSec E.MEC_SPAN_CAP_ABORT (s1.sat (F.MEC_ENG_CNT_SPAN_ABORTS e) 1)
            else if code = 4 then raiseSec E.MEC_DEADLINE_NEAR (s1.sat (F.MEC_ENG_CNT_NEAR e) 1) else s1
  s2.modEng e fun y =>
    { y.dropHook with state := 3, pc := 0x10 + 16 * code, handler := some (code, saved), sigCode := code, pend := noBit (if code < 3 then noBit y.pend 3 else y.pend) code,
                      caps := if code = 3 then y.caps + 1 else y.caps, waitTick := none }

/-- Registers that a RETURN from the hook's own level takes the hook's results from (R258, R259). -/
def Engine.results (x : Engine) : List Nat :=
  match x.hook with
  | none => []
  | some h => if h.depth ≠ 0 then [] else if h.num = 0 then [32, 33] else [32]

/-- A word that reads a register whose result is pending, or a transfer beyond 16 in flight, stalls (R239, R244). A read of STATUS, or of
INS_CODE by BRANCH, stalls while an insertion is unanswered; a RETURN to the vendor caller, while a result of the hook is (R259). -/
def State.stalls (s : State) (e c : Nat) (w : MWord) : Bool :=
  let x := s.eng e
  ((w.reads ++ if w.ctl = 4 then x.results else []).any fun r => r != 0 &&
    ((x.assists.any fun p => decide (p.reg ≤ r) && decide (r < p.reg + p.values.length)) || (r == 62 && s.insWaits e))) ||
  (decide (16 ≤ x.lines.length) &&
    ((w.memOp == 3 && !x.hasLine (s.winKeyOf e (s.readG e c w.memBase)) (s.readG e c w.memReg / 64)) || (w.memOp == 4 && x.span.isNone)))

/-- The word at an engine's PC. -/
def State.wordAt (s : State) (e : Nat) : MWord := MWord.ofBits (s.csWord (s.eng e).pc)

/-- Takes the pending signals that a boundary at cycle `c` allows, lowest code first (R245): none within a word that has begun and
stalls; only STOP inside a handler; SPAN_CAP only while its span is open (R251); DEADLINE_NEAR not inside a span or a hook. -/
def takeSignals (e c : Nat) (s : State) : State :=
  let x := s.eng e
  if x.state = 4 ∨ x.pend = 0 ∨ (x.ready < s.cycle c ∧ s.stalls e c (s.wordAt e)) then s
  else if hasBit x.pend 0 then takeSignal e 0 (s.cycle c) s
  else if x.handler.isSome then s
  else if hasBit x.pend 1 then takeSignal e 1 (s.cycle c) s
  else if hasBit x.pend 3 ∧ x.span.isSome then takeSignal e 3 (s.cycle c) s
  else if hasBit x.pend 4 ∧ x.span.isNone ∧ x.hook.isNone then takeSignal e 4 (s.cycle c) s
  else s

/-- Delivers a signal to an engine that runs (R245). -/
def deliverSig (e code c : Nat) (s : State) : State :=
  if (s.eng e).state = 4 then s else takeSignals e c (s.modEng e fun x => { x with pend := withBit x.pend code })

/-- The values a hook's caller goes on with when the hook does not run or its results are discarded: its own (R258, R261). -/
def ownValues (num : Nat) (args : List Nat) (x : Engine) : Engine :=
  let y := (List.range 8).foldl (fun a i => a.setG (32 + i) (args.getD i 0)) x
  if num = 0 then (y.setG 32 (args.getD 3 0)).setG 33 (args.getD 6 0)
  else if num = 1 then y.setG 32 (args.getD 2 0)
  else y

/-- The bounds of R259 on a value `v` that a hook gives register `r` as its result. -/
def boundOf (num : Nat) (args : List Nat) (r v : Nat) : Nat :=
  let a := fun i => toSigned 32 (args.getD i 0)
  let clamp := fun (lo hi : Int) => ofSigned 32 (max lo (min hi (toSigned 32 v)))
  if num = 0 ∧ r = 32 then clamp 0 (max 0 (a 5 - a 4))
  else if num = 0 ∧ r = 33 then clamp 0 65535
  else if num = 1 ∧ r = 32 then clamp (a 3) (a 3 + a 4)
  else if num = 2 ∧ r = 32 then clamp 1 4096
  else v

/-- The hook's results as its caller takes them (R259). -/
def boundResults (num : Nat) (args : List Nat) (x : Engine) : Engine :=
  let y := if num < 3 then x.setG 32 (boundOf num args 32 (SMap.getD x.regs 32 0)) else x
  if num = 0 then y.setG 33 (boundOf num args 33 (SMap.getD x.regs 33 0)) else y

/-- A trap (R245, R261): counted and recorded. In open privilege the hook's results are discarded and the vendor caller goes on; in a
handler, where signals are masked, the work unit ends at once; otherwise the TRAP signal is taken, unless STOP or ABORT has come while the
word stalled: the lowest code is taken first. -/
def trap (e code c : Nat) (s : State) : State :=
  let x := s.eng e
  let now := s.cycle c
  let s1 := ((((s.sat (F.MEC_ENG_CNT_TRAPS e) 1).wr (F.MEC_TRAP_LAST_PC e) x.pc).wr (F.MEC_TRAP_LAST_CODE e) code).wr
    (F.MEC_TRAP_LAST_OPEN e) (bit x.hook.isSome)).wr (F.MEC_TRAP_LAST_FRAME e) s.frame16
  match x.hook with
  | some h =>
    let s2 := raiseSec E.MEC_OPEN_TRAP (s1.sat (F.MEC_ENG_CNT_OPEN_OVER e) 1)
    takeSignals e c (s2.modEng e fun y =>
      { (ownValues h.num h.args y).dropHook with
          pc := h.back, ready := now + 1, openUsed := if h.num = 3 then y.openUsed else y.openUsed + (now + 1 - h.start),
          work := match y.work with
            | .task t st status => .task t st (if h.num = 3 then 2 else status)
            | v => v })
  | none =>
    let s2 := raise E.MEC_ENG_TRAP s1
    let s3 := match x.handler with
      | none => takeSignal e (if hasBit x.pend 0 then 0 else if hasBit x.pend 1 then 1 else 2) now s2
      | some (0, _) => s2.modEng e Engine.halt
      | some _ => if hasBit x.pend 0 then takeSignal e 0 now s2 else endWork e true (abortSpan e 2 now s2)
    s3.modEng e fun y => { y with ready := now + 1 }

/-- A hook's allowance in cycles (R262); none for hook 3 and outside a recomputation. -/
def State.allowance (s : State) (e num : Nat) : Option Nat :=
  match (s.eng e).work with
  | .recomp st => if num = 3 then none else some (min 12 (s.rd F.MEC_OPEN_CFG_OPEN_CYC) * st.cadence * st.allocs)
  | _ => none

/-- HOOK_MAX, where values below 16 act as 16. -/
def State.hookMax (s : State) : Nat := max 16 (s.rd F.MEC_OPEN_CFG_HOOK_MAX)

/-- Arguments of a hook: G32 to G39. -/
def Engine.args (x : Engine) : List Nat := (List.range 8).map fun i => SMap.getD x.regs (32 + i) 0

/-- HOOK (R258, R260, R262): the call, or the caller's own values where the hook is disabled or the allowance is spent. -/
def callHook (e num c : Nat) (s : State) : State :=
  let x := s.eng e
  let next := (x.pc + 1) % 65536
  if ¬ hasBit (s.rd F.MEC_OPEN_CFG_HOOK_EN) num then
    s.modEng e fun y =>
      { (ownValues num y.args y) with
          pc := next
          work := match y.work with
            | .task t st status => .task t st (if num = 3 then 3 else status)
            | v => v }
  else if (s.allowance e num).any fun m => decide (m ≤ x.openUsed) then
    (raiseSec E.MEC_OPEN_BUDGET (s.sat (F.MEC_ENG_CNT_OPEN_OVER e) 1)).modEng e fun y => { (ownValues num y.args y) with pc := next }
  else
    s.modEng e fun y =>
      { (List.range 12).foldl (fun a i => a.setG (48 + i) 0) y with
          hook := some ⟨num, next, s.cycle c, y.args, 0⟩, pc := 0xC000 + 4 * num }

/-- RETURN (R238, R260): from the hook's own level to the vendor caller with the results bounded, else to `next`, the address in
G60. -/
def returnTo (e c next : Nat) (s : State) : State :=
  let x := s.eng e
  match x.hook with
  | none => s.modEng e fun y => { y with pc := next }
  | some h =>
    if h.depth = 0 then
      s.modEng e fun y =>
        { (boundResults h.num h.args y) with
            hook := none, pc := h.back
            assists := y.assists.map fun p => if p.open_ then { p with open_ := false, bound := some (h.num, h.args) } else p
            openUsed := if h.num = 3 then y.openUsed else y.openUsed + (s.cycle c + 1 - h.start) }
    else s.modEng e fun y => { y with pc := next, hook := some { h with depth := h.depth - 1 } }

/-- DONE (R255, R266): the engine's part of the recomputation, or its task, ends. -/
def doneWork (e c : Nat) (s : State) : State :=
  let x := s.eng e
  let s1 := s.modEng e fun y => { y with state := 0, work := .none, pc := (y.pc + 1) % 65536, openUsed := 0, caps := 0 }
  match x.work with
  | .none => s1
  | .recomp st => s1.modMecTree (recKey st.tree st.join) fun t =>
    let left := t.running.filter fun k => k != e
    { t with running := left, doneAt := if left.isEmpty && t.running.contains e then some (s.cycle c) else t.doneAt }
  | .task t _ status => finishTask e status (s.readG e c 32) t s1

/-- HRET (R245). The fourth SPAN_CAP on a span skips it: the skip is counted, and the vendor handler goes on past the span (R250). -/
def handlerReturn (e : Nat) (s : State) : State :=
  let x := s.eng e
  match x.handler with
  | none => s.modEng e fun y => { y with pc := (y.pc + 1) % 65536 }
  | some (code, saved) =>
    let skip := code == 3 && decide (4 ≤ x.caps)
    if code = 0 then s.modEng e Engine.halt
    else if code < 3 then endWork e (code == 2) s
    else
      (s.when skip fun a => a.sat (F.MEC_ENG_CNT_SPAN_ABORTS e) 1).modEng e fun y =>
        { y with pc := if skip then Config.spanSkip saved % 65536 else saved, handler := none, caps := if skip then 0 else y.caps
                 state := match y.work with
                   | .none => 0
                   | .recomp _ => 1
                   | .task _ _ _ => 2 }

/-- IDLE takes the oldest recomputation start: registers loaded, work begun at the next word (R242). -/
def takeStart (e : Nat) (s : State) : State :=
  match (s.eng e).starts with
  | [] => s
  | st :: rest =>
    s.modEng e fun x =>
      { ((((((x.setG 1 st.tree).setG 2 st.rank).setG 3 st.k).setG 4 st.cadence).setG 5 st.frame).setG 6 st.freeMu) with
          state := 1, work := .recomp st, starts := rest, pc := (x.pc + 1) % 65536, openUsed := 0, caps := 0 }

/-- A BRANCH condition holds on the flags and INS_CODE (R238). -/
def branchHolds (x : Engine) (cond : Nat) : Bool :=
  let z := hasBit x.flags 3
  let n := hasBit x.flags 2
  let c := hasBit x.flags 1
  let v := hasBit x.flags 0
  if cond = 0 then true else if cond = 1 then z else if cond = 2 then !z else if cond = 3 then n != v else if cond = 4 then n == v
  else if cond = 5 then !c else if cond = 6 then c else if cond = 7 then x.insCode == 0 else if cond = 8 then x.insCode != 0
  else Config.reservedCond cond

/-- The task queue holds a task for the engine. -/
def State.taskFor (s : State) (e : Nat) : Option SlowTask := s.mec.tasks.find? fun t => t.engine == e || decide (64 ≤ t.engine)

/-- A WAIT condition holds (R238). -/
def State.waitHolds (s : State) (e c : Nat) (w : MWord) : Bool :=
  let x := s.eng e
  if w.cond = 0 then true
  else if w.cond = 1 then x.lines.all fun l => l.2.isNone
  else if w.cond = 2 then
    (match x.work with
     | .recomp st => decide (s.cycle 3000 ≤ s.cycle c) || decide (st.tick < s.ticks)
     | _ => decide (3000 ≤ c))
  else if w.cond = 3 then (match x.waitTick with
    | none => false
    | some t => decide (t < s.ticks))
  else if w.cond = 4 then !s.insWaits e
  else if w.cond = 5 then
    (match s.engKey e with
     | none => true
     | some n => (s.mecTree n).engines.all fun k => hasBit (SMap.getD (s.mecTree n).bars x.bar 0) k)
  else if w.cond = 6 then (s.taskFor e).isSome
  else if w.cond = 7 then decide (s.readG e c w.memBase ≤ c)
  else Config.reservedCond (16 + w.cond)

/-- The word that follows, for the control operations that go on by address: NEXT, JUMP, BRANCH, CALL, LOOP. -/
def State.nextPc (s : State) (e c : Nat) (w : MWord) : Nat :=
  let x := s.eng e
  let next := (x.pc + 1) % 65536
  if w.ctl = 1 ∨ w.ctl = 3 then w.target
  else if w.ctl = 2 then (if branchHolds x w.cond then w.target else next)
  else if w.ctl = 6 then (if (s.readG e c 61 + 2 ^ 32 - 1) % 2 ^ 32 = 0 then next else w.target)
  else if w.ctl = 4 then SMap.getD x.regs 60 0 % 65536
  else next

/-- The trap that a word takes when it executes (R239, R243 to R247, R260), if any. -/
def State.trapCode (s : State) (e c : Nat) (w : MWord) : Option Nat :=
  let x := s.eng e
  let open_ := x.hook.isSome
  let addr := s.memAddr e c w
  let win := s.readG e c w.memBase
  let line := s.readG e c w.memReg
  let idx := s.readG e c w.asReg
  let stage := (if w.memOp = 2 ∨ w.memOp = 4 then 1 else 0) + (if w.asOp = 5 ∨ w.asOp = 6 then 1 else 0)
  if w.illegal then some 1
  else if w.ctl = 15 then some 7
  else if open_ ∧ (ctlClosed w.ctl ∨ assistClosed w.asOp ∨ w.writes.any regClosed ∨
      ((w.asOp = 6 ∨ w.asOp = 7) ∧ (idx < 12 ∨ 15 < idx)) ∨
      ((w.ctl = 4 → x.hook.any fun h => h.depth != 0) ∧ s.nextPc e c w < 0xC000)) then some 4
  else if x.span.isSome ∧ ((w.ctl = 5 ∧ (w.cond = 2 ∨ w.cond = 3 ∨ w.cond = 5 ∨ w.cond = 6)) ∨ w.ctl = 12 ∨ w.ctl = 9 ∨
      w.asOp = 8 ∨ w.ctl = 11 ∨ w.ctl = 7) then some 5
  else if (w.memOp = 1 ∨ w.memOp = 2) ∧ (0x4000 ≤ addr + 3 ∨ (open_ ∧ addr < 0x3000)) then some 2
  else if (w.memOp = 3 ∨ w.memOp = 4) ∧ (0x4000 ≤ line ∨ (open_ ∧ line < 0x3000)) then some 2
  else if (w.memOp = 3 ∨ w.memOp = 4) ∧ ¬ s.winOk e win (w.memOp == 4) then some 3
  else if x.span.any fun p => decide (64 < p.staged.length + stage) then some 6
  else none

/-! Assists (R240). -/

/-- The allocation entry as the engine's recomputation takes it (R205). -/
def State.allocSeen (s : State) (n : Nat) (join : Bool) (i : Nat) : Alloc :=
  match (s.tree n).work join with
  | some r => SMap.getD r.snap i Alloc.empty
  | none => s.alloc n i

/-- Latency of an assist whose results come later (R240). -/
def assistLatency (op : Nat) : Nat :=
  if op = 1 ∨ op = 3 then 6 else if op = 2 ∨ op = 4 ∨ op = 7 then 4 else if op = 9 then 20 else 0

/-- WSA: share and remainder. -/
def wsa (weight demand level : Nat) : Nat × Nat :=
  let share := min demand (weight * level / 65536)
  (share, demand - share)

/-- DIV: quotient, saturated; 0 when the divisor is 0. -/
def divAssist (dividend divisor : Nat) : Nat := if divisor = 0 then 0 else min 0xFFFFFFFF (dividend / divisor)

/-- RPT: reported words, 0 when REPORT_VALID is 0, and the age in frames. -/
def rptAssist (word1 ticks : Nat) : Nat × Nat :=
  (if hasBit word1 56 then slice word1 16 24 else 0, ofSigned 32 (toSigned 16 (ticks % 65536 + 65536 - slice word1 40 16)))

/-- Low and high 32 bits. -/
def halves (v : Nat) : List Nat := [v % 2 ^ 32, v / 2 ^ 32 % 2 ^ 32]

/-- Results of an assist that writes registers, from its operands `g 0`, `g 1`, and so on. -/
def State.assistValues (s : State) (e op : Nat) (g : Nat → Nat) : List Nat :=
  let n := (s.engTree e).getD 0
  if op = 1 then (let a := s.allocSeen n (s.eng e).joins (g 0); halves a.word0 ++ halves a.word1)
  else if op = 2 then (let r := rptAssist (g 0 + g 1 * 2 ^ 32) s.ticks; [r.1, r.2])
  else if op = 3 then (let r := wsa (g 0) (g 1) (g 2); [r.1, r.2])
  else if op = 4 then
    let p := g 1 % 4
    let size := Config.sizeOf (s.pRate n p) (s.pFec n p) (g 0) % 65536
    [size, Config.burstMu (s.pRate n p) (s.pFec n p) [(size, g 2 % 4)] % 2 ^ 32]
  else if op = 7 then halves (SMap.getD (s.mecTree ((s.engKey e).getD 0)).acc (g 0 % 16) 0)
  else if op = 9 then [divAssist (g 0 + g 1 * 2 ^ 32) (g 2)]
  else []

/-- Starts an assist. `g` are the operands as they stood before the word. -/
def startAssist (e c : Nat) (w : MWord) (g : Nat → Nat) (s : State) : State :=
  if w.asOp = 0 then s
  else if w.asOp = 5 then putWrite e c (.ins (g 0 + g 1 * 2 ^ 32) (g 2 + g 3 * 2 ^ 32)) s
  else if w.asOp = 6 then putWrite e c (.acc (g 0 % 16) (ofSigned 64 (toSigned 32 (g 1)))) s
  else if w.asOp = 8 then
    let s1 := s.modEng e fun x => { x with bar := g 0 % 4 }
    match s.engKey e with
    | none => s1
    | some n => s1.modMecTree n fun t => { t with bars := SMap.put t.bars (g 0 % 4) (withBit (SMap.getD t.bars (g 0 % 4) 0) e) }
  else
    s.modEng e fun x =>
      { x with assists := x.assists ++ [⟨s.cycle c + assistLatency w.asOp, w.asReg, s.assistValues e w.asOp g, x.hook.isSome, x.span.isSome, none⟩] }

/-- The memory slot (R238, R244, R247). An STL outside a span writes its line at once and holds a transfer until it lands (assumption 37). -/
def memSlot (e c : Nat) (w : MWord) (s0 s : State) : State :=
  let win := s0.readG e c w.memBase
  let line := s0.readG e c w.memReg
  if w.memOp = 2 then putWrite e c (.scratch (s0.memAddr e c w) line) s
  else if w.memOp = 3 then
    if (s.eng e).hasLine (s.winKeyOf e win) (line / 64) then s
    else s.modEng e fun x => { x with lines := x.lines ++ [(s.winKeyOf e win, some (line / 64))] }
  else if w.memOp = 4 then
    let s1 := putWrite e c (.line win ((s.eng e).lineBytes line)) s
    if (s.eng e).span.isSome then s1 else s1.modEng e fun x => { x with lines := x.lines ++ [(s.winKeyOf e win, none)] }
  else s

/-- SPAN_CLOSE (R248): staged writes in issue order, then the insertions as one group. -/
def closeSpan (e c : Nat) (s : State) : State :=
  match (s.eng e).span with
  | none => s
  | some p =>
    let s1 := p.staged.foldl (fun a w => applyStaged e w a) (s.modEng e fun x => { x with span := none, caps := 0, pend := noBit x.pend 3, assists := x.assists.map fun a => { a with span := false } })
    if (stagedIns p.staged).isEmpty then s1 else present e c (stagedIns p.staged) s1

/-- The control operation, at the end of the word (R238). -/
def control (e c : Nat) (w : MWord) (s0 s : State) : State :=
  let next := s0.nextPc e c w
  let seq := ((s0.eng e).pc + 1) % 65536
  if w.ctl = 3 then
    s.modEng e fun x =>
      { (x.setG 60 seq) with pc := next, hook := x.hook.map fun h => { h with depth := h.depth + 1 } }
  else if w.ctl = 4 then returnTo e c next s
  else if w.ctl = 6 then s.modEng e fun x => { (x.setG 61 ((s0.readG e c 61 + 2 ^ 32 - 1) % 2 ^ 32)) with pc := next }
  else if w.ctl = 8 then (closeSpan e c s).modEng e fun x => { x with pc := seq }
  else if w.ctl = 9 then doneWork e c s
  else if w.ctl = 10 then handlerReturn e s
  else if w.ctl = 11 then callHook e (w.target % 4) c s
  else if w.ctl = 12 then takeStart e s
  else s.modEng e fun x => { x with pc := next }

/-- A word executes (R238, R239), with `ctl` as its control operation: every source as it stood before the word; ALU results and LD data
at its end. -/
def performBy (ctl : State → State) (e c : Nat) (w : MWord) (s0 : State) : State :=
  let s1 := if w.ctl = 7 then s0.modEng e fun x => { x with span := some ⟨x.pc, s0.cycle c, x.regs, []⟩ } else s0
  let s2 := startAssist e c w (fun i => s0.readG e c (w.asReg + i)) (memSlot e c w s0 s1)
  let ld := (s0.eng e).load (s0.memAddr e c w)
  let s3 := s2.modEng e fun x =>
    let y := aluWrite s0 e c w.b (aluWrite s0 e c w.a x)
    if w.memOp = 1 then y.setG w.memReg ld else y
  takeSignals e c ((ctl s3).modEng e fun x => { x with ready := s0.cycle c + 1, waitTick := none })
/-- A word executes with the control operation of its CTL (R238). -/
def perform (e c : Nat) (w : MWord) (s : State) : State := performBy (control e c w s) e c w s

/-- The engines run: MEC works, or the quiesce of R55 has delivered STOP and the capture is not yet frozen. -/
def State.mecWorks (s : State) : Bool := s.works || (s.ticking && s.pwr.quiesced && s.capture.isNone)

/-- The engines run words: MEC works, M0 holds its store, and the engine is not stopped (R83, R267). -/
def State.canRun (s : State) (e c : Nat) : Bool :=
  let x := s.eng e
  s.mecWorks && decide (e < 64) && decide (c < 187500) && s.carries 47 && x.state != 4 && decide (x.ready ≤ s.cycle c)

/-- A task's time counts outside the handlers that end it (R245, R266). -/
def Engine.inTask (x : Engine) : Bool := !(x.handler.any fun h => decide (h.1 < 3))

/-- The limits that end a word before it: the span's 512 cycles, unless SPAN_CAP waits for the end of a word that stalls, HOOK_MAX, and a
task's 2,048 cycles (R245, R249, R261, R266). -/
def State.overrun (s : State) (e c : Nat) : Bool :=
  let x := s.eng e
  (!hasBit x.pend 3 && x.span.any fun p => decide (p.start + 512 ≤ s.cycle c)) ||
  (x.hook.any fun h => decide (h.start + s.hookMax < s.cycle c)) ||
  (match x.work with
   | .task _ st _ => x.inTask && decide (st + 2048 < s.cycle c)
   | _ => false)

/-- The word waits at its address: WAIT whose condition does not hold, DONE with an insertion unanswered (R255), IDLE with no start. -/
def State.waits (s : State) (e c : Nat) (w : MWord) : Bool :=
  (w.ctl == 5 && !s.waitHolds e c w) || (w.ctl == 9 && s.insWaits e) || (w.ctl == 12 && (s.eng e).starts.isEmpty)

/-- The word at engine `e`'s PC executes at cycle `c` of the frame, when it holds the operation that `has` names. -/
def runWord (has : MWord → Bool) (e c : Nat) (s : State) : State :=
  let w := s.wordAt e
  if ¬ s.canRun e c ∨ s.overrun e c ∨ ¬ has w ∨ s.stalls e c w then s
  else match s.trapCode e c w with
    | some k => trap e k c s
    | none =>
      if s.waits e c w then
        s.when (w.ctl == 5 && w.cond == 3 && (s.eng e).waitTick.isNone) (State.modEng e fun x => { x with waitTick := some s.ticks })
      else perform e c w s

end Sys2Proof.Machine
end

