-- ==== Sys2Proof/Machine/Thyme.lean ====
section
/-! DEFINITION. Machine/Thyme.lean: the commands of MEC: microword operations (R238 to R244), recomputation starts and ends (R205, R206,
R233 to R235, R255), insertions (R241, R248, R253), the open partition (R258 to R265), tasks (R266) and engine control (R245, R267).

A command of a microword operation executes the whole word at the engine's PC, at a cycle of the current frame, when that word holds
the operation: both ALU slots and the memory slot act in one cycle (R238). -/
namespace Sys2Proof.Machine

/-! Recomputations. -/

/-- LEVEL of a pool (R304). -/
def State.poolLevel (s : State) (p : Nat) : Nat := s.rd (F.BPM_POOL_STAT_LEVEL p)
/-- Pools that a test selects. -/
def poolsBy (f : Nat → Bool) : List Nat := (List.range 64).filter f

/-- THR_WARN and THR_DEEP in sixteenths, where 0 acts as 1. -/
def State.thrWarn (s : State) : Nat := max 1 (s.rd F.TMG_BP_CFG_THR_WARN)
def State.thrDeep (s : State) : Nat := max 1 (s.rd F.TMG_BP_CFG_THR_DEEP)

/-- A tree's throttle factor in sixteenths: the lowest among the pools that name it (R321). -/
def State.treeFactor (s : State) (n : Nat) : Nat :=
  (poolsBy fun p => hasBit (s.rd (F.BPM_POOL_CFG_BP_TREES p)) n).foldl (fun a p =>
    let l := s.poolLevel p
    min a (if l = 0 then 16 else if l = 1 then s.thrWarn else s.thrDeep)) 16

/-- MU of a frame that a span takes, its guard included: what lies in another frame takes nothing (R242). -/
def spanMu (s : State) (n : Nat) (x : GSpan) : Nat :=
  let d := (min x.hi (s.muFrame n : Nat) - max x.lo 0).toNat
  if d = 0 then 0 else d + guardMu s n x x

/-- Free MU as MEC loads them (R242): the map's MU less those of the fixed grants and quiet windows placed in it, guards included. -/
def freeMu (s : State) (n : Nat) (r : Recomp) : Nat :=
  let spans := s.pageSpans n (mapSoFar s n r) ++ s.quietSpans n (r.deadline + 1)
  s.muFrame n - spans.foldl (fun a x => a + spanMu s n x) 0

/-- A of R262: allocations that rank `rk` of `k` serves, VALID entries other than TYPE 3. -/
def servedBy (r : Recomp) (rk k : Nat) : Nat :=
  (r.snap.filter fun a => a.2.valid && a.2.typ != 3 && a.2.term % k == rk).length

/-- RECOMPUTATION_START (R204, R205, R209, R235, R241, R242): the report set closes, accumulators and barriers are zeroed, and a start is
queued at each engine of the tree, with the free MU throttled by the tree's factor (R321). -/
def recompStart (n : Nat) (s0 : State) : State :=
  let s := s0.when s0.works (closeReports n (s0.ticks + 1))
  match startRecomp n s with
  | none => s
  | some (r, s1) =>
    let es := s.enginesOf n
    if es.isEmpty then
      s1.modTree n fun t => { t with dyn := [], dynFresh := false, joinRec := none, recomp := none }
    else
      let s2 := s1.modMecTree (recKey n r.join) fun t =>
        { t with acc := [], bars := [], cursor := 0, running := es, engines := es, near := false, doneAt := none }
      (es.zip (List.range es.length)).foldl (fun a x =>
        let st : Start := ⟨n, x.2, es.length, r.deadline + 1 - r.start, (r.deadline + 1) % 65536, freeMu s1 n r * s.treeFactor n / 16, servedBy r x.2 es.length, s.ticks, r.join⟩
        if (a.eng x.1).state = 4 then a else a.modEng x.1 fun y => { y with starts := y.starts ++ [st] }) s2

/-- DEADLINE_NEAR to the engines of a recomputation whose DONE has not arrived by cycle 165,000 of its deadline frame (R245). -/
def nearOne (n : Nat) (join : Bool) (s : State) : State :=
  let k := recKey n join
  let m := s.mecTree k
  if m.near ∨ m.running.isEmpty ∨ ¬ (((s.tree n).work join).any fun r => r.deadline == s.ticks && !r.done) then s
  else m.engines.foldl (fun a e => deliverSig e 4 165000 a) (s.modMecTree k fun t => { t with near := true })
def deadlineNear (n : Nat) (s : State) : State := s.when s.works fun a => nearOne n false (nearOne n true a)

/-- DONE of a recomputation reaches GNT at cycle `d`, at which the last of its engines issued its own (R206, R207, R255,
MEC_TREE_STAT). -/
def doneReaches (n : Nat) (join : Bool) (d : Nat) (r : Recomp) (s : State) : State :=
  let s1 := (countDone n join d s).modMecTree (recKey n join) fun t => { t with doneAt := none }
  let c := d % 187500
  let late := decide (r.deadline * 187500 + 165000 < d)
  let early := decide (d < r.deadline * 187500)
  let s2 := (((s1.wr (F.MEC_TREE_STAT_DONE_CYCLE n) c).wr (F.MEC_TREE_STAT_LATE n) (bit late)).wr (F.MEC_TREE_STAT_OVERRAN n) 0).wr
    (F.MEC_TREE_STAT_EARLY n) (bit early)
  histSample 2 n (if early then 0 else c * 2 / 3) s2

/-- A recomputation whose engines have all issued DONE, the last of them at cycle `c` of its frame, in time and not yet counted. -/
def State.doneDue (s : State) (n c : Nat) (join : Bool) : Option (Nat × Recomp) :=
  match (s.mecTree (recKey n join)).doneAt, (s.tree n).work join with
  | some d, some r => if d % 187500 ≠ c ∨ r.done ∨ r.deadline * 187500 + 176999 < d then none else some (d, r)
  | _, _ => none

/-- TREE_DONE at cycle `c`, that of the last engine's DONE: of the tree's join recomputation, else of its cadence's (R209, R255). -/
def treeDone (n c : Nat) (s : State) : State :=
  if ¬ s.works then s
  else
    match s.doneDue n c true, s.doneDue n c false with
    | some x, _ => doneReaches n true x.1 x.2 s
    | none, some x => doneReaches n false x.1 x.2 s
    | none, none => s

/-- ABORT to the engines of a tree that has overrun, whatever they do; a start of that recomputation that still waits is gone (R206, R245). -/
def abortTree (n : Nat) (join : Bool) (c : Nat) (s : State) : State :=
  let k := recKey n join
  (s.mecTree k).engines.foldl (fun a e =>
    deliverSig e 1 c (a.modEng e fun y => { y with starts := y.starts.filter fun st => !(st.tree == n && st.join == join) })) (s.modMecTree k fun t => { t with running := [], doneAt := none })

/-- A recomputation of the tree whose deadline frame this is, or is over, has not issued its DONE (R206). -/
def State.overdue (s : State) (n : Nat) (join : Bool) : Bool :=
  ((s.tree n).work join).any fun r => decide (r.deadline ≤ s.ticks) && !r.done

/-- RECOMPUTATION_DEADLINE: cycle 177,000 of the frame (R206, R209, R210, R245). -/
def recompDeadline (n : Nat) (s : State) : State :=
  let past := s.overdue n
  if ¬ s.works then s
  else
    let s1 := deadline n s
    if past false || past true then
      let s2 := (s1.when (past true) (abortTree n true 177000)).when (past false) (abortTree n false 177000)
      let s3 := (((s2.wr (F.MEC_TREE_STAT_DONE_CYCLE n) 0).wr (F.MEC_TREE_STAT_OVERRAN n) 1).wr (F.MEC_TREE_STAT_LATE n) 0).wr
        (F.MEC_TREE_STAT_EARLY n) 0
      histOver 2 n s3
    else s1

/-! The engine map (R233 to R235). -/

/-- Engines that MEC_ENG_MAP maps to a tree, in ascending number. -/
def State.mapped (s : State) (n : Nat) : List Nat :=
  (List.range 64).filter fun e => s.on (F.MEC_ENG_MAP_VALID e) && s.rd (F.MEC_ENG_MAP_TREE e) == n

/-- A change of engine map takes effect (R233, R234, R235): the eight lowest engines of each tree serve it. -/
def applyMap (s : State) : State :=
  let trees := List.range 32
  let m := trees.foldl (fun a n => ((s.mapped n).take 8).foldl (fun b e => SMap.put b e n) a) ([] : SMap Nat)
  let s1 := s.modMec fun x => { x with map := m, mapDue := false }
  let s2 := trees.foldl (fun a n => a.wr (F.MEC_TREE_STAT_ENGINES n) (s1.enginesOf n).length) s1
  let bare := trees.filter fun n => s.inService n && s.on (F.TPA_CTRL_ENABLE n) && (s1.enginesOf n).isEmpty
  let s3 := bare.foldl (fun a n => a.modTree n fun t => { t with dyn := [], dynFresh := false }) s2
  (s3.when (trees.any fun n => decide (8 < (s.mapped n).length)) (raise E.MEC_ENGMAP_LIMIT)).when (!bare.isEmpty)
    (raise E.MEC_ENGMAP_NONE)

/-- The engine map at a tick (R234): a change waits for a cadence tick. -/
def mapTick (s : State) : State := s.when (s.mec.mapDue && s.pwr.cadence % cadenceOf s.mode == 0) applyMap

/-! Insertions (R241, R248, R253). -/

/-- The insertion that two entry words present (R215). -/
def insOfWords (w : Nat × Nat) : Ins :=
  { alloc := slice w.1 0 12, term := slice w.1 12 9, profile := slice w.1 21 2, newBurst := hasBit w.1 23, report := hasBit w.1 24,
    msg := hasBit w.1 25, start := slice w.1 32 24, size := slice w.2 0 16 }

/-- The end of the entry that an insertion makes, as its burst is laid (R215, R241). -/
def insEnd (s : State) (n : Nat) (r : Recomp) (i : Ins) : Nat :=
  (((insEntries s n i (mapSoFar s n r) r.ins).2.getLast?).map fun e => e.start + e.len).getD 0

/-- GNT takes one entry of a group, appended where its START is 0xFF_FFFF; the cursor then moves to the end of the appended entry (R241). -/
def takeEntry (n : Nat) (join : Bool) (i : Ins) (s : State) : State × Nat :=
  match i.start == 0xFFFFFF, (s.tree n).work join with
  | true, some r =>
    let at_ := { i with start := appendAt s n (s.mecTree (recKey n join)).cursor r i }
    let a := gntInsert n join at_ s
    if a.2 = 0 then (a.1.modMecTree (recKey n join) fun t => { t with cursor := insEnd s n r at_ }, 0) else a
  | _, _ => gntInsert n join i s

/-- A group of entries: all are placed, or none is; answers the code and the position of the first refused (R248). -/
def takeGroup (n : Nat) (join : Bool) (l : List Ins) (s : State) : State × Nat × Nat :=
  let r := l.foldl (fun (a : State × Nat × Nat) i =>
    if a.2.1 = 0 then (let b := takeEntry n join i a.1; (b.1, b.2, if b.2 = 0 then a.2.2 + 1 else a.2.2)) else a) (s, 0, 0)
  if r.2.1 = 0 then (r.1, 0, 0)
  else
    let back := r.1.modMecTree (recKey n join) fun t => { t with cursor := (s.mecTree (recKey n join)).cursor }
    match (s.tree n).work join with
    | none => (back, r.2)
    | some c => (setWork n join c back, r.2)

/-- A group that reached GNT at cycle `key` belongs to no recomputation that still takes insertions: it arrived after cycle 176,999 of the
deadline frame, or before the recomputation began (R229, R253). -/
def Recomp.misses (r : Recomp) (key : Nat) : Bool :=
  decide (r.deadline * 187500 + 176999 < key) || decide (key < r.start * 187500 + 3000)

/-- The recomputation of a tree whose oldest group is answered next: the earlier arrival, then the lower engine (R241). -/
def State.nextGroup (s : State) (n : Nat) : Bool :=
  match (s.mecTree (recKey n true)).queue, (s.mecTree (recKey n false)).queue with
  | [], _ => false
  | _ :: _, [] => true
  | x :: _, y :: _ => decide (x.1 < y.1) || (x.1 == y.1 && decide (x.2.1 < y.2.1))

/-- INSERTION: GNT answers the oldest group of a tree at a cycle of the frame (R229, R241, R253). -/
def answerGroup (n c : Nat) (s : State) : State :=
  let join := s.nextGroup n
  match (s.mecTree (recKey n join)).queue with
  | [] => s
  | (key, e, g) :: rest =>
    if ¬ s.mecWorks ∨ 187500 ≤ c ∨ s.cycle c < key then s
    else
      let s1 := s.modMecTree (recKey n join) fun t => { t with queue := rest }
      let ins := g.map insOfWords
      let a := if ((s.tree n).work join).any fun r => r.misses key then
          (insertRefused n 8 ((ins.head?.map Ins.alloc).getD 0) (key / 187500 + 1) s1, 8, 0)
        else takeGroup n join ins s1
      takeSignals e c (a.1.modEng e fun x => { x with insCode := a.2.1 % 16, insIndex := a.2.2 % 256 })

/-! Results that come later. -/

/-- An assist's latency ends: the oldest result that is due is written (R239, R240), bounded where a hook returned in its word (R259). -/
def assistResult (e c : Nat) (s : State) : State :=
  match (s.eng e).assists.find? fun p => decide (p.due ≤ s.cycle c) with
  | none => s
  | some p =>
    if ¬ s.mecWorks ∨ 187500 ≤ c then s
    else
      s.modEng e fun x =>
        ((p.values.zip (List.range p.values.length)).foldl (fun a v => a.setG (p.reg + v.2)
            (match p.bound with
             | none => v.1
             | some (num, args) => boundOf num args (p.reg + v.2) v.1))
          { x with assists := x.assists.erase p })

/-- A line lands: transfer `i` of the engine's in flight. A fetched line writes scratch directly (R244, R249). -/
def lineLands (e i : Nat) (s : State) : State :=
  match (s.eng e).lines[i]? with
  | none => s
  | some (key, dest) =>
    if ¬ s.mecWorks then s
    else
      let g := winRead key s
      let b := g.1
      g.2.modEng e fun x =>
        match dest with
        | none => { x with lines := x.lines.eraseIdx i }
        | some line =>
          { x with lines := x.lines.eraseIdx i, held := SMap.put x.held line key, scratch := x.scratch.writeBytes (line * 64) b }

/-! Limits. -/

/-- ABORT is due at this boundary: cycle 177,000 of the deadline frame, and a recomputation that the engine serves has no DONE (R245). -/
def State.abortDue (s : State) (e c : Nat) : Bool :=
  c == 177000 && (List.range 32).any fun n =>
    (s.overdue n false && (s.mecTree (recKey n false)).engines.contains e) ||
    (s.overdue n true && (s.mecTree (recKey n true)).engines.contains e)

/-- SPAN_CAP once a span's 512th cycle is over (R249, R251, R252): taken at the boundary then, or at the end of a word that stalls; a
signal of a lower code that pends or is due at the same boundary comes first (R245). -/
def spanCap (e c : Nat) (s : State) : State :=
  if ¬ s.canRun e c ∨ ¬ ((s.eng e).span.any fun p => decide (p.start + 512 ≤ s.cycle c)) then s
  else if s.abortDue e c then s.modEng e fun x => { x with pend := withBit x.pend 3 }
  else deliverSig e 3 c s

/-- A hook call has run longer than HOOK_MAX cycles (R261). -/
def hookTimeout (e c : Nat) (s : State) : State :=
  if ¬ s.canRun e c ∨ ¬ ((s.eng e).hook.any fun h => decide (h.start + s.hookMax < s.cycle c)) then s else trap e 8 c s

/-- A task has run longer than 2,048 cycles (R266): in open privilege the trap ends the hook's call (R261), and the next one the task. -/
def taskTimeout (e c : Nat) (s : State) : State :=
  match (s.eng e).work with
  | .task _ st _ => if ¬ s.canRun e c ∨ s.cycle c ≤ st + 2048 ∨ ¬ (s.eng e).inTask then s else trap e 9 c s
  | _ => s

/-! Engine control and M0 (R55, R245, R267). -/

/-- MEC_ENG_CTRL.STOP = 1. -/
def engineStop (e c : Nat) (s : State) : State := deliverSig e 0 c (s.wr (F.MEC_ENG_CTRL_STOP e) 1)
/-- MEC_ENG_CTRL.STOP = 0: a stopped engine starts at the vendor idle loop. -/
def engineStart (e : Nat) (s : State) : State :=
  let s1 := s.wr (F.MEC_ENG_CTRL_STOP e) 0
  if (s.eng e).state = 4 ∧ s.inService 47 then startEng e s1 else s1

/-- Every engine. -/
def eachEngine (g : Nat → State → State) (s : State) : State := (List.range 64).foldl (fun a e => g e a) s

/-- ABORT to every engine, at a mode change or at DRAINING of M0 (R213, R267). -/
def abortAll (s : State) : State :=
  (eachEngine (fun e a => deliverSig e 1 0 (a.modEng e fun x => { x with starts := [] })) s).modMec fun m =>
    { m with trees := m.trees.map fun t => (t.1, { t.2 with running := [], queue := [], doneAt := none }) }

/-- STOP to every engine (R55, R245): at the quiesce and at LOADING of M0. -/
def stopAll (s : State) : State :=
  (eachEngine (fun e a => deliverSig e 0 0 a) s).modMec fun m =>
    { m with trees := m.trees.map fun t => (t.1, { t.2 with running := [], queue := [], doneAt := none }) }

/-- At LOADING of M0 the control store holds no handler: STOP is taken, and the engine is stopped at once (R245, R267, assumption 37). -/
def stopLoading (s : State) : State :=
  eachEngine (fun e a => a.modEng e Engine.halt) (stopAll (eachEngine (fun e a => a.modEng e fun x => { x with assists := [] }) s))

/-- Each engine starts at the vendor idle loop at JOINED of M0, with scratch zeroed; one whose STOP is 1 stays stopped (R243, R267). -/
def startAll (s : State) : State :=
  eachEngine (fun e a =>
    let a1 := a.modEng e fun x => { x with scratch := [], held := [], lines := [], assists := [] }
    if a1.on (F.MEC_ENG_CTRL_STOP e) then a1.modEng e fun x => { x with state := 4 } else startEng e a1) s

/-! The control store's sections (R232, R236, R237). -/

/-- The 16-byte words of a section, as a sparse map from control-store word `base` upwards. DESIGN CHOICE (assumption 61): the section's length rules,
whatever VENDOR_WORDS and OPEN_WORDS say (R236, R237). -/
def wordsOf (base : Nat) (l : List Byte) : SMap Nat :=
  (List.range (l.length / 16)).map fun i => (base + i, leNat ((l.drop (16 * i)).take 16))

/-- What LOADING of M0 reads beside its TILE section (R82, R234, R237): the engine map and the words of both partitions. -/
def readStore (i : ImgAt) (r : Reload) : Reload :=
  { r with engMap := (i.section 4).map BitVec.toNat, vendor := wordsOf 0 (i.section 5), openWords := wordsOf 0xC000 (i.section 6) }

/-- M0 joins with what its load has read (R82, R234, R236, R237). DESIGN CHOICE (assumption 61): an ENGINE_MAP section of another length than 64 bytes
loads, and an engine that it does not reach has map byte 0xFF (R232). -/
def loadStore (r : Reload) (s : State) : State :=
  let d := SMap.getD s.cfg.tiles 47 ⟨0, 0, 0, []⟩
  let s1 := s.modMec fun m => { m with vendor := r.vendor, openA := r.openWords, openB := [], mapDue := true }
  let s2 := (((s1.wr F.MEC_OPEN_STAT_BANK 0).wr F.MEC_OPEN_CFG_OPEN_CYC (d.p 8 % 16)).wr F.MEC_OPEN_CFG_HOOK_EN (d.p 9 % 16)).wr
    F.MEC_OPEN_CFG_HOOK_MAX ((d.p 10 + 256 * d.p 11) % 1024)
  (List.range 64).foldl (fun a e =>
    let t := r.engMap.getD e 0xFF
    (a.wr (F.MEC_ENG_MAP_TREE e) (if t < 32 then t else 0)).wr (F.MEC_ENG_MAP_VALID e) (bit (decide (t < 32)))) s2

/-- What MEC does when M0's state changes: ABORT at DRAINING, STOP at LOADING, the idle loop at JOINED (R210, R267). An open load
that is checking or waits is dropped with code 10 when its M0 leaves JOINED (R263). -/
def mecFollow (old : Nat) (load : Option Reload) (s : State) : State :=
  let new := s.rd (F.CFG_TILE_STAT_STATE 47)
  if new = old ∨ new = 5 ∨ (new = 3 ∧ old = 5) then s
  else
    let s1 := s.when (new != 3 && s.rd F.MEC_OPEN_STAT_STATE != 0) fun a =>
      raise E.MEC_OPEN_REFUSED (((a.wr F.MEC_OPEN_STAT_STATE 0).wr F.MEC_OPEN_STAT_ERR 10).wr F.MEC_OPEN_STAT_WORD 0)
    if new = 1 then abortAll (abandonRecs s1)
    else if new = 3 then
      match load with
      | some l => startAll (loadStore l s1)
      | none => startAll s1
    else stopLoading (abandonRecs s1)

/-! The open partition (R263 to R265). -/

/-- The check of one word of an open bank (R263): 0 when it passes. -/
def openCheck (v : Nat) : Nat :=
  let w := MWord.ofBits v
  if w.illegal then 3
  else if jumps w.ctl ∧ w.target < 0xC000 then 4
  else if ctlClosed w.ctl then 5
  else if w.writes.any regClosed then 6
  else if (w.memOp = 1 ∨ w.memOp = 2) ∧ w.memBase = 0 ∧ 4 * w.memOfs < 0x3000 then 7
  else if assistClosed w.asOp then 8
  else 0

/-- A load that is not started (R263). -/
def openRefused (code word : Nat) (s : State) : State :=
  raise E.MEC_OPEN_REFUSED ((s.wr F.MEC_OPEN_STAT_ERR code).wr F.MEC_OPEN_STAT_WORD word)

/-- The refusals of R263 that need no word: 10, 9, 1, 2. -/
def openCode (s : State) (src slot : Nat) : Nat :=
  let i := s.slotImg slot
  if s.rd F.MEC_OPEN_STAT_STATE ≠ 0 ∨ ¬ s.joined 47 then 10
  else if s.mode = mAsleep ∨ s.mode = mStarting ∨ s.mode = mHolding then 9
  else if src = 0 then 0
  else if ¬ s.on (F.CFG_IMG_STAT_VERIFIED slot) ∨ (ofType 6 i.sects).isEmpty then 1
  else if 16384 < (match tileSect 47 i.sects with
      | some x => ofLe [(i.desc x).p 2, (i.desc x).p 3]
      | none => (i.section 6).length / 16) then 2
  else 0

/-- MEC_OPEN_LOAD with GO (R263). -/
def openLoad (src slot : Nat) (s : State) : State :=
  let named := fun (a : State) => (a.wr F.MEC_OPEN_LOAD_SRC src).wr F.MEC_OPEN_LOAD_SLOT slot
  let c := openCode s src (slot % 2)
  if c ≠ 0 then openRefused c 0 (named s)
  else if src = 0 then (named s).wr F.MEC_OPEN_STAT_STATE 1
  else
    let i := s.slotImg (slot % 2)
    let ws := wordsOf 0xC000 ((i.section 6).take 262144)
    let u := imageRead (s.slotBase (slot % 2) + (((ofType 6 i.sects).head?.map Sect.off).getD 0)) (i.section 6).length s
    ((named u).wr F.MEC_OPEN_STAT_STATE 1).modMec fun m => if s.bank = 0 then { m with openB := ws } else { m with openA := ws }

/-- OPEN_CHECK_END: every word of the new bank has been checked in ascending address (R263). -/
def openCheckEnd (s : State) : State :=
  if ¬ s.works ∨ s.rd F.MEC_OPEN_STAT_STATE ≠ 1 then s
  else
    match List.find? (fun w => openCheck w.2 != 0) (s.openBank (1 - s.bank)) with
    | some w => openRefused (openCheck w.2) w.1 (s.wr F.MEC_OPEN_STAT_STATE 0)
    | none => ((s.wr F.MEC_OPEN_STAT_STATE 2).wr F.MEC_OPEN_STAT_ERR 0).wr F.MEC_OPEN_STAT_WORD 0

/-- The instant is still the tick that opened the frame: no engine has run a word in it, and no recomputation has begun. -/
def State.atTick (s : State) : Bool :=
  (s.mec.engines.all fun x => decide (x.2.ready ≤ s.cycle 0)) &&
  s.trees.all fun t => (t.2.recomp.all fun r => r.start != s.ticks) && t.2.joinRec.all fun r => r.start != s.ticks

/-- OPEN_LOADED: the switch at a cadence tick with no engine in open privilege (R264). -/
def openSwitch (s : State) : State :=
  if ¬ s.works ∨ s.rd F.MEC_OPEN_STAT_STATE ≠ 2 ∨ ¬ s.inService 47 ∨ s.pwr.cadence % cadenceOf s.mode ≠ 0 ∨ ¬ s.atTick ∨
      (s.mec.engines.any fun x => x.2.hook.isSome) then s
  else
    let s1 := ((s.wr F.MEC_OPEN_STAT_STATE 0).wr F.MEC_OPEN_STAT_BANK (1 - s.bank)).wrap F.MEC_OPEN_STAT_LOADS 1
    let s2 := s1.modMec fun m =>
      { m with engines := m.engines.map fun x =>
          (x.1, { x.2 with scratch := x.2.scratch.filter fun b => decide (b.1 < 0x3000),
                           held := x.2.held.filter fun h => decide (h.1 < 0xC0) }) }
    raise E.MEC_OPEN_LOADED s2

/-! Slow-path tasks (R266, R268). -/

/-- A task is queued, or refused when the queue holds 256 (R266). -/
def postTask (t : SlowTask) (s : State) : State :=
  if 256 ≤ s.mec.tasks.length then raise E.MEC_TASK_DROP (s.wr F.MEC_TASK_STAT_LAST_REFUSED 1)
  else showTasks ((s.wr F.MEC_TASK_STAT_LAST_REFUSED 0).modMec fun m => { m with tasks := m.tasks ++ [t] })

/-- MEC_TASK_POST with GO. -/
def hostTask (typ engine tag arg : Nat) (s : State) : State :=
  postTask ⟨typ % 256, engine % 128, tag % 65536, arg % 2 ^ 32, false⟩
    ((((s.wr F.MEC_TASK_POST_TYPE typ).wr F.MEC_TASK_POST_ENGINE engine).wr F.MEC_TASK_POST_TAG tag).wr F.MEC_TASK_POST_ARG arg)

/-- SAGE posts one SELFCHECK per engine at a one-second boundary in STANDBY (R266, R426). DEDUCED (assumption 54): not to an engine whose
last one still waits. -/
def sageTasks (s : State) : State :=
  if s.mode ≠ mStandby then s
  else (List.range 64).foldl (fun a e =>
    if a.mec.tasks.any fun t => t.sage && t.engine == e then a else postTask ⟨1, e, 0, e, true⟩ a) s

/-- Cycles from cycle `c` of this frame to the next recomputation start of the engine's tree; none when it serves no tree or no
recomputation runs (R205, R209, R266). -/
def State.cyclesToStart (s : State) (e c : Nat) : Option Nat :=
  match SMap.find? s.mec.map e with
  | none => none
  | some n =>
    if ¬ buildsMaps s.mode then none
    else if hasBit s.cfg.joinRecompute n ∧ c < 3000 then some (3000 - c)
    else
      let k := cadenceOf s.mode
      let p := s.pwr.cadence % k
      if p = 0 ∧ c < 3000 then some (3000 - c) else some ((k - p) * 187500 + 3000 - c)

/-- IDLE takes a task: its registers are loaded, and it begins at the next word (R266). -/
def takeTask (e c : Nat) (t : SlowTask) (s : State) : State :=
  s.modEng e fun y =>
    { (((y.setG 1 t.typ).setG 2 t.arg).setG 3 t.tag) with
        state := 2, work := .task t (s.cycle c) 0, pc := (y.pc + 1) % 65536, openUsed := 0, caps := 0 }

/-- TASK_START: an engine in IDLE takes the oldest task for it, and its IDLE word executes (R238); a reserved type ends at once with
STATUS 1 (R266). IDLE traps as any word does (R246). -/
def taskStart (e c : Nat) (s : State) : State :=
  let x := s.eng e
  let w := s.wordAt e
  match s.taskFor e with
  | none => s
  | some t =>
    if ¬ s.canRun e c ∨ s.overrun e c ∨ s.stalls e c w ∨ x.state ≠ 0 ∨ w.ctl ≠ 12 ∨ ¬ x.starts.isEmpty ∨ x.result.isSome ∨
        ((s.cyclesToStart e c).any fun d => decide (d < 2048)) then s
    else match s.trapCode e c w with
      | some k => trap e k c s
      | none =>
        let s1 := showTasks (s.modMec fun m => { m with tasks := m.tasks.erase t })
        if t.typ ≠ 1 ∧ t.typ ≠ 2 ∧ t.typ < 0x80 then finishTask e 1 0 t s1 else performBy (takeTask e c t) e c w s1

/-- A result that waits with an engine enters the queue, lowest engine first. -/
def placeResult (s : State) : State :=
  match List.find? (fun x => x.2.result.isSome) s.mec.engines with
  | none => s
  | some x =>
    match x.2.result with
    | none => s
    | some r =>
      raise E.MEC_TASK_DONE (showTasks ((s.modEng x.1 fun y => { y with result := none }).modMec fun m => { m with results := m.results ++ [r] }))

/-- A read of MEC_TASK_RESULT: the oldest result, removed when VALID is 1 (R266). -/
def readTaskResult (p : Path) (s : State) : State :=
  match regAt F.MEC_TASK_RESULT_TAG.addr with
  | none => s
  | some r =>
    let s1 := answer p (s.readWord r) s
    if s.mec.results.isEmpty then s1 else placeResult (showTasks (s1.modMec fun m => { m with results := m.results.tail }))

/-! The commands. -/

/-- RECOMPUTATION_START (R205). -/
def execRecomputationStart (n : Nat) (s : State) : Out := .next (recompStart n s)
/-- DEADLINE_NEAR (R245, R256). -/
def execDeadlineNear (n : Nat) (s : State) : Out := .next (deadlineNear n s)
/-- TREE_DONE (R255). -/
def execTreeDone (n c : Nat) (s : State) : Out := .next (treeDone n c s)
/-- RECOMPUTATION_DEADLINE (R206). -/
def execRecomputationDeadline (n : Nat) (s : State) : Out := .next (recompDeadline n s)
/-- INSERTION (R229). -/
def execInsertion (n c : Nat) (s : State) : Out := .next (answerGroup n c s)
/-- CTL 0, NEXT: continue at the next word (R238). -/
def execNext (e c : Nat) (s : State) : Out := .next (runWord (fun w => w.ctl == 0) e c s)
/-- CTL 1, JUMP: continue at TARGET (R238). -/
def execJump (e c : Nat) (s : State) : Out := .next (runWord (fun w => w.ctl == 1) e c s)
/-- CTL 2, BRANCH: continue at TARGET when COND holds (R238). -/
def execBranch (e c : Nat) (s : State) : Out := .next (runWord (fun w => w.ctl == 2) e c s)
/-- CTL 3, CALL: call TARGET; G60 takes the next word's address (R238). -/
def execCall (e c : Nat) (s : State) : Out := .next (runWord (fun w => w.ctl == 3) e c s)
/-- CTL 4, RETURN: continue at the address in G60, or leave an open hook (R238). -/
def execReturn (e c : Nat) (s : State) : Out := .next (runWord (fun w => w.ctl == 4) e c s)
/-- CTL 5, WAIT: wait until COND holds (R238). -/
def execWait (e c : Nat) (s : State) : Out := .next (runWord (fun w => w.ctl == 5) e c s)
/-- CTL 6, LOOP: decrement G61, and go to TARGET when the result is not zero (R238). -/
def execLoop (e c : Nat) (s : State) : Out := .next (runWord (fun w => w.ctl == 6) e c s)
/-- CTL 7, SPAN_OPEN: begin an atomic span (R247) (R238). -/
def execSpanOpen (e c : Nat) (s : State) : Out := .next (runWord (fun w => w.ctl == 7) e c s)
/-- CTL 8, SPAN_CLOSE: apply the staged writes and present the group (R248) (R238). -/
def execSpanClose (e c : Nat) (s : State) : Out := .next (runWord (fun w => w.ctl == 8) e c s)
/-- CTL 9, DONE: end the work unit (R255) (R238). -/
def execDone (e c : Nat) (s : State) : Out := .next (runWord (fun w => w.ctl == 9) e c s)
/-- CTL 10, HRET: return from a signal handler (R245) (R238). -/
def execHret (e c : Nat) (s : State) : Out := .next (runWord (fun w => w.ctl == 10) e c s)
/-- CTL 11, HOOK: call an open hook (R258) (R238). -/
def execHook (e c : Nat) (s : State) : Out := .next (runWord (fun w => w.ctl == 11) e c s)
/-- CTL 12, IDLE: wait for a recomputation start or a task (R238). -/
def execIdle (e c : Nat) (s : State) : Out := .next (runWord (fun w => w.ctl == 12) e c s)
/-- TRAP: CTL 15, an illegal word or a forbidden operation at the PC (R245). -/
def execTrap (e c : Nat) (s : State) : Out := .next (runWord (fun w => (s.trapCode e c w).isSome) e c s)
/-- ALU operation 1, ADD (R238). -/
def execAdd (e c : Nat) (s : State) : Out := .next (runWord (fun w => w.a.op == 1 || w.b.op == 1) e c s)
/-- ALU operation 2, SUB (R238). -/
def execSub (e c : Nat) (s : State) : Out := .next (runWord (fun w => w.a.op == 2 || w.b.op == 2) e c s)
/-- ALU operation 3, AND (R238). -/
def execAnd (e c : Nat) (s : State) : Out := .next (runWord (fun w => w.a.op == 3 || w.b.op == 3) e c s)
/-- ALU operation 4, OR (R238). -/
def execOr (e c : Nat) (s : State) : Out := .next (runWord (fun w => w.a.op == 4 || w.b.op == 4) e c s)
/-- ALU operation 5, XOR (R238). -/
def execXor (e c : Nat) (s : State) : Out := .next (runWord (fun w => w.a.op == 5 || w.b.op == 5) e c s)
/-- ALU operation 6, SHL (R238). -/
def execShl (e c : Nat) (s : State) : Out := .next (runWord (fun w => w.a.op == 6 || w.b.op == 6) e c s)
/-- ALU operation 7, SHR (R238). -/
def execShr (e c : Nat) (s : State) : Out := .next (runWord (fun w => w.a.op == 7 || w.b.op == 7) e c s)
/-- ALU operation 8, SAR (R238). -/
def execSar (e c : Nat) (s : State) : Out := .next (runWord (fun w => w.a.op == 8 || w.b.op == 8) e c s)
/-- ALU operation 9, MIN (R238). -/
def execMin (e c : Nat) (s : State) : Out := .next (runWord (fun w => w.a.op == 9 || w.b.op == 9) e c s)
/-- ALU operation 10, MAX (R238). -/
def execMax (e c : Nat) (s : State) : Out := .next (runWord (fun w => w.a.op == 10 || w.b.op == 10) e c s)
/-- ALU operation 11, MINU (R238). -/
def execMinu (e c : Nat) (s : State) : Out := .next (runWord (fun w => w.a.op == 11 || w.b.op == 11) e c s)
/-- ALU operation 12, MAXU (R238). -/
def execMaxu (e c : Nat) (s : State) : Out := .next (runWord (fun w => w.a.op == 12 || w.b.op == 12) e c s)
/-- ALU operation 13, MUL (R238). -/
def execMul (e c : Nat) (s : State) : Out := .next (runWord (fun w => w.a.op == 13 || w.b.op == 13) e c s)
/-- ALU operation 14, MULHU (R238). -/
def execMulhu (e c : Nat) (s : State) : Out := .next (runWord (fun w => w.a.op == 14 || w.b.op == 14) e c s)
/-- ALU operation 15, CMP (R238). -/
def execCmp (e c : Nat) (s : State) : Out := .next (runWord (fun w => w.a.op == 15 || w.b.op == 15) e c s)
/-- ALU operation 16, ADDI (R238). -/
def execAddi (e c : Nat) (s : State) : Out := .next (runWord (fun w => w.a.op == 16 || w.b.op == 16) e c s)
/-- ALU operation 17, MOVI (R238). -/
def execMovi (e c : Nat) (s : State) : Out := .next (runWord (fun w => w.a.op == 17 || w.b.op == 17) e c s)
/-- ALU operation 18, SHLOR (R238). -/
def execShlor (e c : Nat) (s : State) : Out := .next (runWord (fun w => w.a.op == 18 || w.b.op == 18) e c s)
/-- MEM_OP 1, LD (R238, R243, R244). -/
def execLd (e c : Nat) (s : State) : Out := .next (runWord (fun w => w.memOp == 1) e c s)
/-- MEM_OP 2, ST (R238, R243, R244). -/
def execSt (e c : Nat) (s : State) : Out := .next (runWord (fun w => w.memOp == 2) e c s)
/-- MEM_OP 3, LDL (R238, R243, R244). -/
def execLdl (e c : Nat) (s : State) : Out := .next (runWord (fun w => w.memOp == 3) e c s)
/-- MEM_OP 4, STL (R238, R243, R244). -/
def execStl (e c : Nat) (s : State) : Out := .next (runWord (fun w => w.memOp == 4) e c s)
/-- LINE_LANDS (R244). -/
def execLineLands (e i : Nat) (s : State) : Out := .next (lineLands e i s)
/-- Assist 1, ALLOC_RD (R240). -/
def execAllocRd (e c : Nat) (s : State) : Out := .next (runWord (fun w => w.asOp == 1) e c s)
/-- Assist 2, RPT (R240). -/
def execRpt (e c : Nat) (s : State) : Out := .next (runWord (fun w => w.asOp == 2) e c s)
/-- Assist 3, WSA (R240). -/
def execWsa (e c : Nat) (s : State) : Out := .next (runWord (fun w => w.asOp == 3) e c s)
/-- Assist 4, SIZE (R240). -/
def execSize (e c : Nat) (s : State) : Out := .next (runWord (fun w => w.asOp == 4) e c s)
/-- Assist 5, INS (R240). -/
def execIns (e c : Nat) (s : State) : Out := .next (runWord (fun w => w.asOp == 5) e c s)
/-- Assist 6, ACC (R240). -/
def execAcc (e c : Nat) (s : State) : Out := .next (runWord (fun w => w.asOp == 6) e c s)
/-- Assist 7, ACC_RD (R240). -/
def execAccRd (e c : Nat) (s : State) : Out := .next (runWord (fun w => w.asOp == 7) e c s)
/-- Assist 8, BAR (R240). -/
def execBar (e c : Nat) (s : State) : Out := .next (runWord (fun w => w.asOp == 8) e c s)
/-- Assist 9, DIV (R240). -/
def execDiv (e c : Nat) (s : State) : Out := .next (runWord (fun w => w.asOp == 9) e c s)
/-- ASSIST_RESULT (R239). -/
def execAssistResult (e c : Nat) (s : State) : Out := .next (assistResult e c s)
/-- SPAN_CAP (R249). -/
def execSpanCap (e c : Nat) (s : State) : Out := .next (spanCap e c s)
/-- HOOK_TIMEOUT (R261). -/
def execHookTimeout (e c : Nat) (s : State) : Out := .next (hookTimeout e c s)
/-- OPEN_CHECK_END (R263). -/
def execOpenCheckEnd (s : State) : Out := .next (openCheckEnd s)
/-- OPEN_LOADED (R264). -/
def execOpenLoaded (s : State) : Out := .next (openSwitch s)
/-- TASK_START (R266). -/
def execTaskStart (e c : Nat) (s : State) : Out := .next (taskStart e c s)
/-- TASK_TIMEOUT (R266). -/
def execTaskTimeout (e c : Nat) (s : State) : Out := .next (taskTimeout e c s)
end Sys2Proof.Machine
end

