-- ==== Sys2Proof/Machine/Cells.lean ====
section
/-! DEFINITION. Machine/Cells.lean: BPM (R298 to R310): the free store, pools and thresholds, ownership and frees; what a frame's end
leaves for SKIM (R459); the stages that OBS counts (R451); and the back-pressure that pool levels drive (R304, R320 to R322). -/
namespace Sys2Proof.Machine

def State.modBpm (g : Bpm → Bpm) (s : State) : State := { s with bpm := g s.bpm }
def State.modTmg (g : Tmg → Tmg) (s : State) : State := { s with tmg := g s.tmg }
def State.modFwd (g : Fwd → Fwd) (s : State) : State := { s with fwd := g s.fwd }
def State.modCph (g : Cph → Cph) (s : State) : State := { s with cph := g s.cph }
def State.modUpl (u : Nat) (g : UplPort → UplPort) (s : State) : State :=
  { s with upl := SMap.put s.upl u (g (SMap.getD s.upl u UplPort.initial)) }

/-- Frames are forwarded: the blocks work, step 14 has opened the traffic of the start (R101), and not in STANDBY, where the uplink ports
keep their links and forward nothing (R36). DESIGN CHOICE (assumption 70): while the device waits in STARTING under R40 after step 14, it forwards:
R101 opens the traffic there, against R32's row for STARTING. -/
def State.forwards (s : State) : Bool := s.works && s.mode != mStandby && (s.mode != mStarting || s.rd F.CFG_BOOT_STAT_STEP == 15)

/-- Cells of the packet-buffer region (R298). -/
def cellCount : Nat := 33554432
/-- Cells that a frame of a length occupies (R298). -/
def cellsFor (len : Nat) : Nat := (len + 255) / 256

/-! Owner tags (R299). -/
def tagQueue (q : Nat) : Nat := q
def tagClass (u c : Nat) : Nat := 2 ^ 21 + 8 * u + c
def tagIngress (src : Nat) : Nat := 2 * 2 ^ 21 + src
def tagHost : Nat := 3 * 2 ^ 21
def tagMirror (m : Nat) : Nat := 4 * 2 ^ 21 + m

/-! Back-pressure (R304, R320, R321). -/

/-- WARN, THROTTLE and STOP of pool `p` in force: those of its latest charge (R305). -/
def State.poolThr (s : State) (p : Nat) : Nat × Nat × Nat := SMap.getD s.bpm.thr p (0, 0, 0)
/-- A charge takes the thresholds as BPM_POOL_THR holds them (R305). -/
def takeThr (p : Nat) (s : State) : State :=
  s.modBpm fun b =>
    { b with thr := SMap.put b.thr p (s.rd (F.BPM_POOL_THR_WARN p), s.rd (F.BPM_POOL_THR_THROTTLE p), s.rd (F.BPM_POOL_THR_STOP p)) }
/-- Pool `p`'s thresholds in cells, as R304 and BPM_POOL_THR make lower values act. -/
def State.poolWarn (s : State) (p : Nat) : Nat := 64 * (s.poolThr p).1
def State.poolThrottle (s : State) (p : Nat) : Nat := max (s.poolWarn p) (64 * (s.poolThr p).2.1)
def State.poolStop (s : State) (p : Nat) : Nat := max (s.poolThrottle p) (64 * (s.poolThr p).2.2)
def State.poolOff (s : State) (p : Nat) : Bool := (s.poolThr p).2.2 == 0
def State.poolUse (s : State) (p : Nat) : Nat := s.rd (F.BPM_POOL_STAT_IN_USE p)

/-- Priorities that pools hold on an uplink port (R304). -/
def State.xoffOf (s : State) (u : Nat) : Nat :=
  (poolsBy fun p => hasBit (s.rd (F.BPM_POOL_CFG_BP_PORTS p)) u).foldl (fun a p =>
    let l := s.poolLevel p
    a ||| (if l = 0 then 0 else if l = 1 then s.rd (F.BPM_POOL_CFG_BP_PRIO p) else 255)) 0

/-- The priorities of a pause frame with their quanta: QUANTA for one that is held, 0 for one that is released (R320). -/
def State.pauseTimes (s : State) (u classes : Nat) : List (Nat × Nat) :=
  ((List.range 8).filter fun c => hasBit classes c).map fun c =>
    (c, if hasBit (s.rd (F.TMG_PAUSE_STAT_XOFF_TX u)) c then s.rd F.TMG_BP_CFG_QUANTA else 0)

/-- The port exists with its link up, and its tile carries traffic (R83). -/
def State.portUp (s : State) (u : Nat) : Bool :=
  s.rd (F.UPL_PORT_STAT_WIDTH u) != 0 && s.on (F.UPL_PORT_STAT_LINK u) && s.carries (s.uplinkGroup u)

/-- Adds to one of a port's counters (UPL_CNT). -/
def uplCount (u i n : Nat) (s : State) : State := s.wrap (F.UPL_CNT_COUNT u i) n

/-- The low `k` bytes of a number, highest first. -/
def beBytes (k v : Nat) : List Nat := ((List.range k).map fun i => v / 2 ^ (8 * i) % 256).reverse

/-- A priority pause frame, padded to 60 bytes, without its FCS (R430, R431): to 01-80-C2-00-00-01, MAC control opcode 0x0101, the enabled
priorities and the eight times. The source address is a free value: the spec gives the ports no address (assumption 45). -/
def pauseFrame (u : Nat) (l : List (Nat × Nat)) : List Nat :=
  beBytes 6 0x0180C2000001 ++ beBytes 6 (Config.portAddress u) ++ beBytes 2 0x8808 ++ beBytes 2 0x0101 ++
    beBytes 2 (l.foldl (fun a e => withBit a e.1) 0) ++
    (List.range 8).flatMap (fun c => beBytes 2 (((l.find? fun e => e.1 == c).map (·.2)).getD 0)) ++ List.replicate 26 0

/-- Sends a pause frame on a port whose link is up for some priorities: XOFF for those held, XON for those released (R320, R431). -/
def sendPause (u classes : Nat) (s : State) : State :=
  if s.portUp u then
    let l := s.pauseTimes u classes
    (uplCount u 3 64 (uplCount u 2 1 s)).modUpl u fun x =>
      { x with pauseTx := x.pauseTx + 1, lastPause := l, lastPauseFrame := pauseFrame u l }
  else s

/-- Back-pressure follows the pool levels: XOFF_TX and pauses of every port, factors of every tree (R304, R320, R321). -/
def backPressure (s : State) : State :=
  let s1 := (List.range 16).foldl (fun a u =>
    let new := s.xoffOf u
    let old := a.rd (F.TMG_PAUSE_STAT_XOFF_TX u)
    if new = old then a
    else
      let b := sendPause u (old ||| new) (a.wr (F.TMG_PAUSE_STAT_XOFF_TX u) new)
      b.when (without new old != 0) (raiseSec (E.TMG_PAUSE_TX u))) s
  (List.range 32).foldl (fun a n =>
    let f := s.treeFactor n
    let deep := (poolsBy fun p => hasBit (s.rd (F.BPM_POOL_CFG_BP_TREES p)) n && decide (2 ≤ s.poolLevel p)) != []
    let was := hasBit (a.rd F.TMG_THR_STAT_WARN_TREES) n
    let b := (a.wr F.TMG_THR_STAT_WARN_TREES ((if f < 16 then withBit else noBit) (a.rd F.TMG_THR_STAT_WARN_TREES) n)).wr
      F.TMG_THR_STAT_DEEP_TREES ((if deep then withBit else noBit) (a.rd F.TMG_THR_STAT_DEEP_TREES) n)
    (b.when (decide (f < 16) && !was) (raise (E.TMG_TREE_THROTTLED n))).when (decide (¬ f < 16) && was)
      (raise (E.TMG_TREE_THROTTLE_CLEAR n))) s1

/-! Pools (R303 to R305). -/

/-- The level that a pool's occupancy asks for, from the level it has (R304): up at once, down one step at a time with HYST. -/
def nextLevel (s : State) (p : Nat) : Nat :=
  let u := s.poolUse p
  let thr := fun l => if l = 1 then s.poolWarn p else if l = 2 then s.poolThrottle p else s.poolStop p
  let up := if s.poolOff p then 0 else if s.poolStop p ≤ u then 3 else if s.poolThrottle p ≤ u then 2 else if s.poolWarn p ≤ u then 1 else 0
  let falls := fun l => decide (0 < l) && decide (u < thr l) && decide (u + 64 * s.rd (F.BPM_POOL_CFG_HYST p) ≤ thr l)
  let l0 := s.poolLevel p
  let l1 := if falls l0 then l0 - 1 else l0
  let l2 := if l1 < l0 ∧ falls l1 then l1 - 1 else l1
  let l3 := if l2 < l1 ∧ falls l2 then l2 - 1 else l2
  max up l3

/-- A pool's level follows its occupancy; a change raises POOL_LEVEL and moves the back-pressure (R304). -/
def settlePool (p : Nat) (s : State) : State :=
  let l := nextLevel s p
  if l = s.poolLevel p then s else backPressure (raise E.BPM_POOL_LEVEL (s.wr (F.BPM_POOL_STAT_LEVEL p) l))

/-- Charges cells to a pool under the thresholds of the moment (R305), or takes a charge back. -/
def chargePool (p k : Nat) (s : State) : State :=
  let u := s.poolUse p + k
  settlePool p (((takeThr p s).wr (F.BPM_POOL_STAT_IN_USE p) u).wr (F.BPM_POOL_STAT_PEAK p) (max u (s.rd (F.BPM_POOL_STAT_PEAK p))))
def dischargePool (p k : Nat) (s : State) : State := settlePool p (s.wr (F.BPM_POOL_STAT_IN_USE p) (s.poolUse p - k))

/-- A pool takes a charge of `k` cells: it is enabled, and at LEVEL 3 the charge would not exceed STOP (R304, R305). The level is that
of the thresholds as they are at the charge. -/
def poolTakes (p k : Nat) (s0 : State) : Bool :=
  let s := takeThr p s0
  !s.poolOff p && !(nextLevel s p == 3 && decide (s.poolStop p < s.poolUse p + k))

/-- A copy dropped at a pool's STOP: the charge took the thresholds, and the level follows them (R305). -/
def stopDrop (p : Nat) (s : State) : State := raiseSec E.BPM_POOL_DROP ((settlePool p (takeThr p s)).wrap (F.BPM_POOL_STOP_DROP_FRAMES p) 1)
/-- A frame dropped because the store could not serve it (R305, R306). -/
def emptyDrop (p : Nat) (s : State) : State := raiseSec E.BPM_EMPTY (s.wrap (F.BPM_POOL_EMPTY_DROP_FRAMES p) 1)

/-! The free store (R300, R301). -/

def State.freeCells (s : State) : Nat := s.rd F.BPM_FS_STAT_FREE
def setFree (v : Nat) (s : State) : State :=
  (s.wr F.BPM_FS_STAT_FREE v).wr F.BPM_FS_STAT_LOW_WATER (min v (s.rd F.BPM_FS_STAT_LOW_WATER))

/-- The first free cell at or after a number, going round; `fuel` exceeds the cells in use. -/
def nextFree (used : SMap CellMeta) : Nat → Nat → Nat
  | 0, c => c
  | fuel + 1, c => if (SMap.find? used c).isSome then nextFree used fuel ((c + 1) % cellCount) else c

/-- Cells that the on-die refill buffers keep (R301). -/
def refillCells : Nat := 1024

/-- Moves the lowest-numbered free cell of the bitmap into the refill buffers while they have room (R301). -/
def Bpm.topUp (b : Bpm) : Bpm :=
  if refillCells ≤ b.refill.length then b
  else match b.loose with
    | c :: l => { b with refill := b.refill ++ [c], loose := l }
    | [] => if b.mark < cellCount then { b with refill := b.refill ++ [b.mark], mark := b.mark + 1 } else b

/-- Puts a number into a rising list. -/
def insertRising (c : Nat) : List Nat → List Nat
  | [] => [c]
  | x :: l => if c < x then c :: x :: l else if c = x then x :: l else x :: insertRising c l

/-- A datapath cycle ends: the cells freed in it can be allocated, and in native mode the refill buffers fill up from the bitmap (R300, R301). -/
def endCycle (s : State) : State :=
  s.modBpm fun b =>
    if s.on F.BPM_FS_STAT_RING then { b with freed := [] }
    else b.freed.length.repeat Bpm.topUp { b with freed := [], loose := b.freed.foldl (fun l c => insertRising c l) b.loose }

/-- Cells that an allocation can have: those that were free at the start of its cycle (R300, R307). Whether it falls in the cycle of the frees
before it is open, within one tick. -/
def allocCells (s : State) : Nat × State :=
  if s.bpm.freed = [] then (s.freeCells, s)
  else if Config.sameCycle s.fresh then (s.freeCells - s.bpm.freed.length, s.draw)
  else (s.freeCells, endCycle s.draw)

/-- Takes one cell: from the head of the ring in ring mode, any one of the refill buffers in native mode. -/
def takeCell (s : State) : Nat × State :=
  if s.on F.BPM_FS_STAT_RING then
    let h := s.rd F.BPM_RING_STAT_HEAD
    (SMap.getD s.bpm.ring h h, setFree (s.freeCells - 1) (s.wr F.BPM_RING_STAT_HEAD (h + 1)))
  else
    let b := s.bpm.topUp
    let i := Config.cellPick s.fresh % max 1 b.refill.length
    (nextFree b.cells (b.cells.length + 1) (b.refill.getD i 0),
     setFree (s.freeCells - 1) (s.draw.modBpm fun _ => ({ b with refill := b.refill.eraseIdx i } : Bpm).topUp))

/-- Takes `k` cells for an owner, charged to a pool; answers their numbers in chain order. The caller has checked that they are there. -/
def takeCells (pool tag : Nat) : Nat → State → List Nat × State
  | 0, s => ([], s)
  | k + 1, s =>
    let a := takeCell s
    let s1 := a.2.modBpm fun b => { b with cells := SMap.put b.cells a.1 ⟨0, 1, tag, false, pool⟩ }
    let r := takeCells pool tag k s1
    (a.1 :: r.1, r.2.modBpm fun b =>
      { b with cells := (match SMap.find? b.cells a.1 with
          | some m => SMap.put b.cells a.1 { m with next := r.1.headD 0 }
          | none => b.cells) })

/-- Puts one cell back and takes its charge from its pool. -/
def putCell (c : Nat) (s : State) : State :=
  match SMap.find? s.bpm.cells c with
  | none => s
  | some m =>
    let s1 := s.modBpm fun b => { b with cells := SMap.del b.cells c, freed := c :: b.freed }
    let s2 := setFree (s.freeCells + 1) s1
    let s3 := if s.on F.BPM_FS_STAT_RING then
        let t := s.rd F.BPM_RING_STAT_TAIL
        (s2.modBpm fun b => { b with ring := if t = c then SMap.del b.ring t else SMap.put b.ring t c }).wr F.BPM_RING_STAT_TAIL (t + 1)
      else s2
    dischargePool m.pool 1 s3

/-- Every cell goes into the free store in the mode that BPM_FS_CFG names (step 8, R301). -/
def fillStore (s : State) : State :=
  let ring := s.rd F.BPM_FS_CFG_MODE
  let full : Bpm := if ring = 1 then Bpm.initial else { Bpm.initial with refill := List.range refillCells, mark := refillCells }
  ((((((s.modBpm fun _ => full).wr F.BPM_FS_STAT_FREE cellCount).wr F.BPM_FS_STAT_LOW_WATER cellCount).wr F.BPM_FS_STAT_RING ring).wr
    F.BPM_RING_STAT_HEAD 0).wr F.BPM_RING_STAT_TAIL 0)

/-! Frames. -/

def State.frame (s : State) (id : Nat) : Option Frame := SMap.find? s.bpm.frames id
def State.putFrame (id : Nat) (f : Frame) (s : State) : State := s.modBpm fun b => { b with frames := SMap.put b.frames id f }

/-- Moves a frame's charge to another pool (R303): no cell moves. -/
def moveCharge (id pool : Nat) (s : State) : State :=
  match s.frame id with
  | none => s
  | some f =>
    if f.pool = pool then s
    else
      let s1 := s.modBpm fun b =>
        { b with cells := b.cells.map fun c => if f.cells.contains c.1 then (c.1, { c.2 with pool := pool }) else c }
      dischargePool f.pool f.cells.length (chargePool pool f.cells.length (s1.putFrame id { f with pool := pool }))

/-- The copies of a frame that were accepted, by owner tag, the LAST owner at the end: OWNERS and LAST of every cell, and the tags in the
descriptor (R298, R308). -/
def setOwners (id : Nat) (tags : List Nat) (s : State) : State :=
  match s.frame id with
  | none => s
  | some f => (s.putFrame id { f with tags := tags, copies := f.copies || decide (1 < tags.length) }).modBpm fun b =>
    { b with cells := b.cells.map fun c =>
        if f.cells.contains c.1 then (c.1, { c.2 with owners := tags.length, last := tags.getLast?.getD 0, lastPend := false }) else c }

/-! SKIM and the stage counters (R451, R458, R459). -/

/-- Adds a frame to every counter of KIND 2 and 3 that names the stage (R451). -/
def obsStage (up : Bool) (stage index len : Nat) (s : State) : State :=
  let r := ((obsActive s).filter fun i =>
    let k := s.rd (F.OBS_CNT_SEL_KIND i)
    (k == 2 || k == 3) && s.on (F.OBS_CNT_SEL_DIR i) == !up && min 6 (s.rd (F.OBS_CNT_SEL_STAGE i)) == stage &&
    (s.on (F.OBS_CNT_SEL_ALL i) || s.rd (F.OBS_CNT_SEL_INDEX i) == index)).foldl
      (fun (a : State × Bool) i => let b := obsAdd i (if s.rd (F.OBS_CNT_SEL_KIND i) = 2 then 1 else len) a.1; (b.1, a.2 || b.2)) (s, false)
  r.1.when r.2 (raiseSec E.OBS_CNT_OVF)

/-- A frame passes a stage: the counters, and its STAMP32 when SKIM follows it. -/
def passStage (f : Frame) (up : Bool) (stage index : Nat) (s : State) : Frame × State :=
  let st := s.stamp32
  ({ f with marks := f.marks.map fun l => l ++ [(stage, st)] }, (obsStage up stage index f.len s).when f.marks.isSome State.draw)

/-- The same for a frame that holds cells. -/
def passId (id : Nat) (up : Bool) (stage index : Nat) (s : State) : State :=
  match s.frame id with
  | none => s
  | some f => let r := passStage f up stage index s; r.2.putFrame id r.1

/-- The tag of a frame's LAST owner. -/
def State.lastTag (s : State) (id : Nat) : Option Nat := (SMap.find? s.bpm.cells id).map CellMeta.last

/-- One copy of a frame passes a stage: every copy counts, and SKIM follows that of the LAST owner (R459). -/
def passCopy (id tag : Nat) (up : Bool) (stage index : Nat) (s : State) : State :=
  match s.frame id with
  | none => s
  | some f =>
    if s.lastTag id = some tag then passId id up stage index s
    else obsStage up stage index f.len s

/-- SKIM tags a frame in scope that the draw selects (R458). -/
def skimTag (up : Bool) (src : Nat) (drawn : Bool) (s : State) : Bool × State :=
  let scope := if up then s.on F.OBS_SKIM_CFG_EN_UP && hasBit (s.rd F.OBS_SKIM_CFG_TREES) (src - 16)
    else s.on F.OBS_SKIM_CFG_EN_DN && hasBit (s.rd F.OBS_SKIM_CFG_PORTS) src
  if ¬ (scope && drawn) ∨ 512 ≤ s.obs.skim.length then (false, s)
  else if 64 ≤ s.obs.inFlight then (false, s.sat F.OBS_SKIM_STAT_SKIPPED 1)
  else (true, s.modObs fun o => { o with inFlight := o.inFlight + 1 })

/-- A tagged frame ends: its record waits to be written (R459). -/
def skimEnd (f : Frame) (dropped : Bool) (s : State) : State :=
  match f.marks with
  | none => s
  | some l =>
    let last := l.foldl (fun a m => max a m.1) 0
    let known := if f.up then decide (3 ≤ last) else decide (1 ≤ last)
    let r : SkimRec :=
      { seq := 0, flags := bit (!f.up) + 2 * bit dropped + 4 * bit f.copies, flow := if known then f.flow else 0, endStage := last,
        len := f.len, port := if 16 ≤ f.src then f.src - 16 else f.src,
        stamps := (List.range 7).map fun i => ((l.find? fun m => m.1 == i).map (·.2)).getD 0 }
    s.modObs fun o => { o with inFlight := o.inFlight - 1, finished := o.finished ++ [r] }

/-- A frame is dropped: its cells return to the free store (R305). -/
def dropFrame (id : Nat) (s : State) : State :=
  match s.frame id with
  | none => s
  | some f => f.cells.foldl (fun a c => putCell c a) (skimEnd f true (s.modBpm fun b => { b with frames := SMap.del b.frames id }))

/-- A frame has been sent by the owner with this tag: TMG owes its free (R310); SKIM follows the LAST owner's copy. -/
def oweFree (id tag : Nat) (s : State) : State := s.modBpm fun b => { b with owed := b.owed ++ [(id, tag)] }

/-! Allocation and frees (R300, R303, R309, R310). -/

/-- The first frames of a list whose ingress sources differ: requests of one cycle (R300). -/
def sameCycleOf : Nat → List Nat → List Frame → List Frame
  | 0, _, _ => []
  | _, _, [] => []
  | k + 1, srcs, f :: l => if srcs.contains f.src then [] else f :: sameCycleOf k (f.src :: srcs) l

/-- The received frame whose request for cells BPM serves next, and the state after the choice (R300, R306): what is left of the cycle under way,
else the oldest requests that arrived in one cycle, at most four, in the rotating order. How many of the frames of one tick arrived in
that cycle, and how far the first place has passed on by then, is open. -/
def nextAlloc (s : State) : Option (Frame × State) :=
  match s.bpm.turn with
  | f :: l => some (f, s.modBpm fun b => { b with turn := l })
  | [] =>
    let first := (s.bpm.first + Config.rotation s.fresh) % 48
    let t := (s.bpm.arriving.head?.map (·.1)).getD 0
    let group := sameCycleOf (1 + Config.sameArrival s.fresh % 4) [] ((s.bpm.arriving.takeWhile fun e => e.1 == t).map (·.2))
    match (List.range 48).flatMap fun p => group.filter fun x => (x.src + 48 - first) % 48 == p with
    | [] => none
    | f :: l => some (f, s.draw.modBpm fun b => { b with arriving := b.arriving.drop group.length, turn := l, first := first })

/-- CELL_ALLOC: a received frame asks for all its cells (R300, R303, R305): refused by its ingress pool, "empty", or served. An
upstream frame goes on to CPH and a downstream one to FWD; `next` hands it on. -/
def allocFrame (next : Nat → Frame → State → State) (s : State) : State :=
  match nextAlloc s with
  | none => s
  | some (f, s1) =>
    let p := s1.rd (F.BPM_ING_MAP_POOL f.src)
    let k := cellsFor f.len
    let a := allocCells s1
    if ¬ poolTakes p k s1 then skimEnd f true (stopDrop p s1)
    else if a.1 < k then skimEnd f true (emptyDrop p (settlePool p (takeThr p a.2)))
    else
      let r := takeCells p (tagIngress f.src) k (chargePool p k a.2)
      let id := r.1.headD 0
      let g := { f with cells := r.1, pool := p, tags := [tagIngress f.src] }
      next id g (r.2.putFrame id g)

/-- The outcome of a free by tag `x` on a cell (R309): a refusal code, or what becomes of the cell. -/
inductive FreeAct where
  | refuse (code : Nat)
  | free
  | keep (m : CellMeta)
  deriving DecidableEq, Repr

/-- The table of R309 for one cell. -/
def freeAct (c x : Nat) (m : Option CellMeta) : FreeAct :=
  if cellCount ≤ c then .refuse 4
  else match m with
    | none => .refuse 1
    | some m =>
      if 5 ≤ x / 2 ^ 21 then .refuse 5
      else if m.lastPend = true ∧ m.last = x then .refuse 3
      else if m.owners = 1 then (if m.last = x then .free else .refuse 2)
      else if m.last = x then .keep { m with lastPend := true }
      else if m.owners = 2 ∧ m.lastPend = true then .free
      else .keep { m with owners := m.owners - 1 }

/-- The cells of the chain that starts at a cell. -/
def State.chain (s : State) (c : Nat) : List Nat :=
  match s.frame c with
  | some f => f.cells
  | none => [c]

/-- A refused free (R310). -/
def freeRefused (c x code : Nat) (s : State) : State :=
  raise E.BPM_FREE_REFUSED
    ((((s.wr F.BPM_FREE_ERR_CELL c).wr F.BPM_FREE_ERR_CODE code).wr F.BPM_FREE_ERR_REQUESTER x).wrap F.BPM_FREE_ERR_CNT_REFUSED 1)

/-- CELL_FREE: an owner presents a chain with its tag (R309). -/
def cellFree (c x : Nat) (s : State) : State :=
  let s0 := s.modBpm fun b => { b with owed := b.owed.erase (c, x) }
  let cells := s.chain c
  match freeAct c x (SMap.find? s.bpm.cells c) with
  | .refuse code => freeRefused c x code s0
  | .free => cells.foldl (fun a k => putCell k a) (s0.modBpm fun b => { b with frames := SMap.del b.frames c })
  | .keep m =>
    let upd := fun (k : Nat × CellMeta) =>
      if cells.contains k.1 then (k.1, { k.2 with owners := m.owners, lastPend := m.lastPend }) else k
    (match s0.frame c with
      | some f => s0.putFrame c { f with tags := f.tags.erase x }
      | none => s0).modBpm fun b => { b with cells := b.cells.map upd }

/-- A read of BPM_HOST_ALLOC (R302): one cell for the host, or EMPTY. -/
def hostAlloc (p : Path) (s : State) : State :=
  let pool := s.rd F.BPM_FS_CFG_HOST_POOL
  let a := allocCells s
  if ¬ poolTakes pool 1 s then answer p (2 ^ 25) (settlePool pool (takeThr pool s))
  else if a.1 = 0 then answer p (2 ^ 25) (settlePool pool (takeThr pool a.2))
  else
    let r := takeCells pool tagHost 1 (chargePool pool 1 a.2)
    answer p (r.1.headD 0) r.2

/-! The commands. -/

/-- CELL_FREE (R309). -/
def execCellFree (c x : Nat) (s : State) : Out := .next (s.when s.works (cellFree c (x % 2 ^ 24)))
end Sys2Proof.Machine
end

