-- ==== Sys2Proof/Machine/Traffic.lean ====
section
/-! DEFINITION. Machine/Traffic.lean: TMG (R311 to R319): policers, downstream queues, shapers and the fill of a downstream frame, upstream
class queues, mirror copies (R462), and indirect access to its tables (R317). -/
namespace Sys2Proof.Machine

/-! Table entries. -/

def State.tqueue (s : State) (q : Nat) : TQueue := SMap.getD s.tmg.queues q TQueue.initial
def State.modQueue (q : Nat) (g : TQueue → TQueue) (s : State) : State :=
  s.modTmg fun t => { t with queues := SMap.put t.queues q (g (s.tqueue q)) }
def State.tnode (s : State) (k : Nat) : TNode := SMap.getD s.tmg.nodes k TNode.initial
def State.modNode (k : Nat) (g : TNode → TNode) (s : State) : State :=
  s.modTmg fun t => { t with nodes := SMap.put t.nodes k (g (s.tnode k)) }
def State.ttree (s : State) (n : Nat) : TTree := SMap.getD s.tmg.trees n TTree.initial
def State.modTTree (n : Nat) (g : TTree → TTree) (s : State) : State :=
  s.modTmg fun t => { t with trees := SMap.put t.trees n (g (s.ttree n)) }
def State.classq (s : State) (k : Nat) : ClassQ := SMap.getD s.tmg.classes k ClassQ.initial
def State.modClass (k : Nat) (g : ClassQ → ClassQ) (s : State) : State :=
  s.modTmg fun t => { t with classes := SMap.put t.classes k (g (s.classq k)) }

def TQueue.valid (q : TQueue) : Bool := hasBit q.w0 0
def TQueue.term (q : TQueue) : Nat := slice q.w0 1 9
def TQueue.prio (q : TQueue) : Nat := slice q.w0 10 3
def TQueue.pool (q : TQueue) : Nat := slice q.w0 13 6
def TQueue.weight (q : TQueue) : Nat := slice q.w0 19 16
def TQueue.rate (q : TQueue) : Nat := slice q.w0 35 24
def TQueue.burst (q : TQueue) : Nat := slice q.w1 0 16
def TNode.cirRate (x : TNode) : Nat := slice x.w0 0 24
def TNode.pirRate (x : TNode) : Nat := slice x.w0 24 24
def TNode.weight (x : TNode) : Nat := slice x.w0 48 16
def TNode.cburst (x : TNode) : Nat := slice x.w1 0 16
def TNode.pburst (x : TNode) : Nat := slice x.w1 16 16
def TTree.rate (x : TTree) : Nat := slice x.w0 0 24
def TTree.burst (x : TTree) : Nat := slice x.w0 24 16
def ClassQ.pool (x : ClassQ) : Nat := slice x.w0 0 6
def ClassQ.strict (x : ClassQ) : Bool := hasBit x.w0 6
def ClassQ.weight (x : ClassQ) : Nat := slice x.w0 7 16

/-- Downstream queues of a tree: of the TILE section it was loaded from, else of that of the running image, and 0 without one (R311). -/
def State.dsQueues (s : State) (n : Nat) : Nat :=
  match SMap.find? s.cfg.tiles n with
  | some d => d.dsQueues
  | none => SMap.getD s.cfg.dsq n 0
/-- First queue of a tree (R311). -/
def State.qBase (s : State) (n : Nat) : Nat := ((List.range n).map s.dsQueues).foldl (fun a b => a + b) 0
/-- The tree in whose range a queue lies. -/
def State.treeOfQueue (s : State) (q : Nat) : Option Nat :=
  (List.range 32).find? fun n => decide (s.qBase n ≤ q) && decide (q < s.qBase n + s.dsQueues n)

/-! Token buckets (R313, R314). -/

/-- A bucket at a tick: RATE bytes added, capped at BURST × 256. -/
def refill (rate burst : Nat) (tokens : Int) : Int := min (tokens + (rate : Int)) ((burst * 256 : Nat) : Int)
/-- A node is eligible: unshaped, or with a positive bucket. -/
def eligible (rate : Nat) (tokens : Int) : Bool := rate == 0 || decide (0 < tokens)

/-- The colour of a frame at a colour-blind two-rate three-colour marker, and the buckets after it (R313): true for red. -/
def police (x : Policer) (len : Nat) : Bool × Policer :=
  if x.tp < len then (true, x)
  else if x.tc < len then (false, { x with tp := x.tp - len })
  else (false, { x with tp := x.tp - len, tc := x.tc - len })

/-- Every bucket at a tick (R313, R314). -/
def bucketTick (s : State) : State :=
  s.modTmg fun t =>
    { t with
      queues := t.queues.map fun q => (q.1, { q.2 with tokens := refill q.2.rate q.2.burst q.2.tokens })
      nodes := t.nodes.map fun x =>
        (x.1, { x.2 with cir := refill x.2.cirRate x.2.cburst x.2.cir, pir := refill x.2.pirRate x.2.pburst x.2.pir })
      trees := t.trees.map fun x => (x.1, { x.2 with tokens := refill x.2.rate x.2.burst x.2.tokens })
      policers := t.policers.map fun x =>
        (x.1, { x.2 with tc := min (slice x.2.w1 0 16 * 256) (x.2.tc + slice x.2.w0 0 24),
                         tp := min (slice x.2.w1 16 16 * 256) (x.2.tp + slice x.2.w0 24 24) }) }

/-! Mirror copies (R462). -/

/-- The stage that a session copies at, other values acting as the first. -/
def mirrorStage (up : Bool) (v : Nat) : Nat := if up then (if v = 4 then 4 else 3) else (if v = 3 then 3 else 2)

/-- Copies of a frame that mirror sessions take at a stage: enqueued in their class queue; a copy that the pool refuses is counted
under R305. Answers the tags accepted. -/
def mirrorAt (id : Nat) (up : Bool) (stage index : Nat) (s : State) : List Nat × State :=
  match s.frame id with
  | none => ([], s)
  | some f =>
    ((List.range 16).filter fun m => s.on (F.OBS_MIRROR_EN m) && s.on (F.OBS_MIRROR_DIR m) == !up &&
      mirrorStage up (s.rd (F.OBS_MIRROR_STAGE m)) == stage && s.rd (F.OBS_MIRROR_INDEX m) == index).foldl
      (fun (a : List Nat × State) m =>
        let k := SMap.getD a.2.obs.mirrored m 0
        let s1 := a.2.modObs fun o => { o with mirrored := SMap.put o.mirrored m (k + 1) }
        if k % 2 ^ min 24 (s.rd (F.OBS_MIRROR_SAMPLE m)) ≠ 0 then (a.1, s1)
        else
          let c := 8 * s.rd (F.OBS_MIRROR_DEST m) + s.rd (F.OBS_MIRROR_CLASS m)
          let p := (s1.classq c).pool
          if poolTakes p f.cells.length s1 then
            (a.1 ++ [tagMirror m], s1.modClass c fun x => { x with frames := x.frames ++ [(id, tagMirror m)] })
          else (a.1, stopDrop p s1)) ([], s)

/-- Mirror copies of a frame that already has owners: OWNERS grows, LAST stays. -/
def mirrorLate (id : Nat) (up : Bool) (stage index : Nat) (s : State) : State :=
  let r := mirrorAt id up stage index s
  match s.frame id with
  | none => r.2
  | some f =>
    if r.1.isEmpty then r.2
    else
      let upd := fun (c : Nat × CellMeta) => if f.cells.contains c.1 then (c.1, { c.2 with owners := c.2.owners + r.1.length }) else c
      (r.2.putFrame id { f with tags := f.tags ++ r.1, copies := true }).modBpm fun b => { b with cells := b.cells.map upd }

/-! Enqueuing (R303, R308, R312, R318). -/

/-- The pool of a mirror session's class queue. -/
def State.mirrorPool (s : State) (tag : Nat) : Nat :=
  let m := tag - tagMirror 0
  (s.classq (8 * s.rd (F.OBS_MIRROR_DEST m) + s.rd (F.OBS_MIRROR_CLASS m))).pool

/-- SKIM's record of a tagged frame ends here (R459). -/
def endFollowed (id : Nat) (dropped : Bool) (s : State) : State :=
  match s.frame id with
  | some f => (skimEnd f dropped s).putFrame id { f with marks := none }
  | none => s

/-- The flow that a frame belongs to from here on: of several, that of its LAST owner (R459). -/
def setFlow (id flow : Nat) (s : State) : State :=
  match s.frame id with
  | some f => s.putFrame id { f with flow := flow }
  | none => s

/-- Settles the owners of a frame when TMG knows which copies it has accepted (R308): `main` are the tags of the copies in order, with
the pool of each; mirror copies are never LAST beside another copy. The charge moves to the LAST owner's pool. Without a copy the cells
are freed. A frame of which mirror copies alone are left has been dropped, and SKIM follows it no further (R459, R462). -/
def settleOwners (id : Nat) (main : List (Nat × Nat)) (mirrors : List Nat) (s : State) : State :=
  match main.getLast? with
  | some l => setOwners id (mirrors ++ main.map (·.1)) (moveCharge id l.2 s)
  | none =>
    match mirrors.getLast? with
    | some m => setOwners id mirrors (moveCharge id (s.mirrorPool m) (endFollowed id true s))
    | none => dropFrame id s

/-- Index of a downstream frame's stages up to 4: its ingress uplink port; a frame turned round inside the device has none. -/
def Frame.dnIndex (f : Frame) : Nat := if f.src < 16 then f.src else 32

/-- One copy of a downstream frame meets its queue: the queue, its flow, and whether it is accepted (R305, R312). -/
def enqueueCopy (id q flow : Nat) (s : State) : Bool × State :=
  let x := s.tqueue q
  let tree := flow / 2 ^ 18
  let f := s.frame id
  let cells := (f.map fun f => f.cells.length).getD 0
  if ¬ (s.qBase tree ≤ q ∧ q < s.qBase tree + s.dsQueues tree) ∨ ¬ x.valid ∨ s.maxTerms tree ≤ x.term then
    (false, raiseSec E.TMG_QUEUE_ERR (s.wrap F.TMG_DROP_STAT_QUEUE_ERR 1))
  else if ¬ poolTakes x.pool cells s then
    (false, (stopDrop x.pool s).modQueue q fun y => { y with stopFrames := (y.stopFrames + 1) % 2 ^ 40 })
  else
    (true, s.modQueue q fun y =>
      { y with frames := y.frames ++ [(id, flow)], depth := y.depth + cells,
               enqBytes := (y.enqBytes + (f.map Frame.len).getD 0) % 2 ^ 48 })

/-- Enqueues a frame's downstream copies, given as (queue, flow) in ascending tree, then queue (R308, R312); `early` are mirror copies of it that
were taken before. -/
def enqueueDown (id : Nat) (copies : List (Nat × Nat)) (early : List Nat) (s : State) : State :=
  let r := copies.foldl (fun (a : List (Nat × Nat × Nat) × State) c =>
    let e := enqueueCopy id c.1 c.2 a.2
    (if e.1 then a.1 ++ [(c.2, tagQueue c.1, (a.2.tqueue c.1).pool)] else a.1, e.2)) ([], s)
  match r.1.getLast?, s.frame id with
  | _, none => s
  | none, some _ => settleOwners id [] early r.2
  | some l, some f =>
    let m := mirrorAt id false 2 f.dnIndex (passId id false 2 f.dnIndex (setFlow id l.1 r.2))
    settleOwners id (r.1.map (·.2)) (early ++ m.1) m.2

/-- An upstream frame meets the policer of its flow at enqueue (R313): false where a red frame is discarded, and counted. -/
def policeUp (id pol : Nat) (s : State) : Bool × State :=
  match pol, s.frame id with
  | 0, _ => (true, s)
  | _, none => (true, s)
  | pol, some f =>
    let x := SMap.getD s.tmg.policers pol Policer.initial
    let c := police x f.len
    let s1 := s.modTmg fun t => { t with policers := SMap.put t.policers pol c.2 }
    if c.1 ∧ hasBit x.w0 48 then (false, s1.wrap F.TMG_DROP_STAT_POL_DROP 1)
    else (true, if c.1 then s1.putFrame id { f with red := true } else s1)

/-- Enqueues an upstream frame in a class queue of an uplink port, after its policer (R313, R318). `early` are mirror copies taken at
stage 3. -/
def enqueueUp (id u cls pol : Nat) (early : List Nat) (s : State) : State :=
  match s.frame id with
  | none => s
  | some f =>
    let c := policeUp id pol s
    if ¬ c.1 then settleOwners id [] early c.2
    else
      let s2 := c.2
      let k := 8 * u + cls
      let q := s2.classq k
      if ¬ poolTakes q.pool f.cells.length s2 then settleOwners id [] early (stopDrop q.pool s2)
      else
        let s3 := passId id true 4 u (s2.modClass k fun y => { y with frames := y.frames ++ [(id, tagClass u cls)] })
        let m := mirrorAt id true 4 (f.src - 16) s3
        settleOwners id [(tagClass u cls, q.pool)] (early ++ m.1) m.2

/-! The fill of a downstream frame (R314, R315). -/

/-- Queues of a tree that hold frames and are eligible, for a terminal. -/
def readyQueues (s : State) (n t : Nat) : List Nat :=
  s.tmg.queues.filterMap fun q =>
    if s.qBase n ≤ q.1 ∧ q.1 < s.qBase n + s.dsQueues n ∧ q.2.valid ∧ q.2.term = t ∧ ¬ q.2.frames.isEmpty ∧
        eligible q.2.rate q.2.tokens then some q.1 else none

/-- Terminals of a tree with a ready queue and tokens in a pass: 1 CIR, 2 PIR. -/
def readyTerms (s : State) (n pass : Nat) : List Nat :=
  (List.range 512).filter fun t =>
    let x := s.tnode (512 * n + t)
    (if pass = 1 then eligible x.cirRate x.cir else eligible x.pirRate x.pir) && !(readyQueues s n t).isEmpty

/-- Weighted round robin over ascending numbers: the one in turn while it has frames left, else the next in the ring with its weight;
answers the choice and the turn after it serves one frame. A weight of 0 acts as 1. -/
def roundRobin (turn : Nat × Nat) (weight : Nat → Nat) (cands : List Nat) : Option (Nat × Nat × Nat) :=
  if turn.2 ≠ 0 ∧ cands.contains turn.1 then some (turn.1, turn.1, turn.2 - 1)
  else
    match (cands.find? fun x => decide (turn.1 < x)).or cands.head? with
    | none => none
    | some x => some (x, x, max 1 (weight x) - 1)

/-- The queue that a terminal sends from: highest PRIO, ties by weighted round robin, whose turn each PRIO keeps (R315). -/
def pickQueue (s : State) (n t : Nat) : Option (Nat × Nat × Nat) :=
  let l := readyQueues s n t
  let top := l.foldl (fun a q => max a (s.tqueue q).prio) 0
  roundRobin (SMap.getD (s.tnode (512 * n + t)).qturn top (0, 0)) (fun q => (s.tqueue q).weight) (l.filter fun q => (s.tqueue q).prio == top)

/-- What is left of a bucket after a charge; an unshaped one is not charged (R314). -/
def charged (rate : Nat) (tokens len : Int) : Int := if rate = 0 then tokens else tokens - len

/-- Charges a frame of a length to its queue, tree and terminal (R314, R315); a negative length takes a charge back. -/
def chargeSent (n t q pass : Nat) (len : Int) (s : State) : State :=
  ((s.modQueue q fun x => { x with tokens := charged x.rate x.tokens len }).modTTree n fun x =>
    { x with tokens := charged x.rate x.tokens len }).modNode (512 * n + t) fun x =>
      { x with pir := charged x.pirRate x.pir len, cir := if pass = 1 then charged x.cirRate x.cir len else x.cir }

/-- The loop of R315: fills the next downstream frame of a tree within a budget of payload bytes. `send` takes each frame dequeued, with
its flow, owner tag and pass, to CPH. -/
def fillFrame (send : Nat → Nat → Nat → Nat → State → State) (n : Nat) : Nat → Nat → Int → State → State
  | 0, _, _, s => s
  | fuel + 1, pass, budget, s =>
    if budget ≤ 0 ∨ ¬ eligible (s.ttree n).rate (s.ttree n).tokens then s
    else
      match roundRobin (SMap.getD (s.ttree n).turn pass (0, 0)) (fun t => (s.tnode (512 * n + t)).weight) (readyTerms s n pass) with
      | none => if pass = 1 then fillFrame send n fuel 2 budget s else s
      | some (t, turn) =>
        match pickQueue s n t with
        | none => s
        | some (q, qturn) =>
          match (s.tqueue q).frames with
          | [] => s
          | (id, flow) :: rest =>
            let f := s.frame id
            let len := (f.map Frame.len).getD 0
            let cells := (f.map fun f => f.cells.length).getD 0
            let s1 := ((s.modQueue q fun x => { x with frames := rest, depth := x.depth - cells }).modTTree n fun x =>
              { x with turn := SMap.put x.turn pass turn }).modNode (512 * n + t) fun x => { x with qturn := SMap.put x.qturn (s.tqueue q).prio qturn }
            let s2 := chargeSent n t q pass (len : Int) s1
            let ix := (f.map Frame.dnIndex).getD 32
            let s3 := mirrorLate id false 3 ix (passCopy id (tagQueue q) false 3 ix s2)
            fillFrame send n fuel pass (budget - (len : Int)) (send id flow (tagQueue q) pass s3)

/-- The tile of a tree's half takes part in dequeuing, which stops while it loads (R83, R316). -/
def State.halfOn (s : State) (n : Nat) : Bool := s.carries (44 + n / 16)

/-- Frames queued for a tree, a bound on what one fill can send. -/
def State.queuedFor (s : State) (n : Nat) : Nat :=
  (s.tmg.queues.filter fun q => decide (s.qBase n ≤ q.1) && decide (q.1 < s.qBase n + s.dsQueues n)).foldl
    (fun a q => a + q.2.frames.length) 0

/-! Upstream class queues (R318, R319). -/

/-- Classes of a port that hold frames and are not paused. -/
def readyClasses (s : State) (u : Nat) : List Nat :=
  (List.range 8).filter fun c => !(s.classq (8 * u + c)).frames.isEmpty && !hasBit (s.rd (F.TMG_PAUSE_STAT_XOFF_RX u)) c

/-- Length of a class queue's head frame. -/
def headLen (s : State) (k : Nat) : Nat :=
  (((s.classq k).frames.head?.bind fun e => s.frame e.1).map Frame.len).getD 0

/-- Deficit round robin from the class in turn (R318): the class to serve, with deficits grown on the way. -/
def deficitTurn (u : Nat) : Nat → Nat → State → Option Nat × State
  | 0, _, s => (none, s)
  | fuel + 1, c, s =>
    let k := 8 * u + c
    let ready := (readyClasses s u).filter fun c => !(s.classq (8 * u + c)).strict
    if ready.contains c ∧ headLen s k ≤ (s.classq k).deficit then (some c, s.modTmg fun t => { t with drr := SMap.put t.drr u c })
    else
      let d := (c + 1) % 8
      let j := 8 * u + d
      let s1 := if ready.contains d then s.modClass j fun x => { x with deficit := x.deficit + max 1 x.weight * 64 }
        else s.modClass j fun x => { x with deficit := 0 }
      deficitTurn u fuel d s1

/-- The class that TMG serves next on a port: strict classes first, highest first, then deficit round robin (R318). -/
def pickClass (u : Nat) (s : State) : Option Nat × State :=
  let ready := readyClasses s u
  match (ready.filter fun c => (s.classq (8 * u + c)).strict).getLast? with
  | some c => (some c, s)
  | none => if ready.isEmpty then (none, s) else deficitTurn u 2500 (SMap.getD s.tmg.drr u 0) s

/-- A frame leaves a port: padded to 64 bytes with its FCS (R430), counted, and remembered. -/
def txFrame (u len : Nat) (hdr : Option TxHeader) (s : State) : State :=
  (uplCount u 3 (max 64 (len + 4)) (uplCount u 2 1 s)).modUpl u fun x => { x with lastTx := hdr }

/-- TMG dequeues to the port's queues: its tiles are in service, since a drain ends it (R83, R316). -/
def State.portServed (s : State) (u : Nat) : Bool :=
  s.portUp u && s.inService (s.uplinkGroup u) && (s.rd (F.UPL_PORT_STAT_WIDTH u) != 3 || s.inService (s.uplinkGroup u + 1))

/-- UPLINK_TX_SELECT (R36, R318, R319): the next frame of a port leaves; TMG owes its free. -/
def txSelect (u : Nat) (s : State) : State :=
  if ¬ s.forwards ∨ 16 ≤ u ∨ ¬ s.portServed u then s
  else
    let r := pickClass u s
    match r.1 with
    | none => r.2
    | some c =>
      let k := 8 * u + c
      match (r.2.classq k).frames with
      | [] => r.2
      | (id, tag) :: rest =>
        let q := r.2.classq k
        let len := headLen r.2 k
        let s1 := r.2.modClass k fun x =>
          { x with frames := rest, deficit := if q.strict then x.deficit else if rest.isEmpty then 0 else x.deficit - len }
        let own := decide (tag < 4 * 2 ^ 21)
        let s2 := if own then passId id true 6 u (passId id true 5 u s1) else s1
        let hdr := (s2.frame id).map fun f => (⟨f.dst, f.smac, f.tagged, f.vid, f.pcp, f.len, f.inner⟩ : TxHeader)
        let s3 := txFrame u len hdr (oweFree id tag s2)
        s3.when own (endFollowed id false)

/-! Table access (R317). -/

/-- The half of an entry of tables 0 to 2. -/
def State.halfOf (s : State) (table index : Nat) : Nat :=
  if table = 0 then ((s.treeOfQueue index).getD 0) / 16 else if table = 1 then index / 512 / 16 else index / 16

/-- An index lies inside its table. -/
def indexOk (s : State) (table index : Nat) : Bool :=
  if table = 0 then (s.treeOfQueue index).isSome
  else if table = 1 then decide (index < 16384)
  else if table = 2 then decide (index < 32)
  else if table = 3 then decide (1 ≤ index) && decide (index < 1048576)
  else decide (index < 128)

/-- The latest shadow entry of a table index. -/
def State.shadowOf (s : State) (table index : Nat) : Option (List Nat) :=
  ((SMap.getD s.tmg.shadow (s.halfOf table index) []).reverse.find? fun e => e.1 == table && e.2.1 == index).map (·.2.2)

/-- The words of an entry as a read returns them: the shadow for tables 0 to 2 (R90), with the words the device keeps. -/
def State.tmgWords (s : State) (table index : Nat) : List Nat :=
  let w := s.shadowOf table index
  if table = 0 then
    let q := s.tqueue index
    let v := w.getD [q.w0, q.w1]
    ({ q with w0 := v.getD 0 0, w1 := v.getD 1 0 } : TQueue).words
  else if table = 1 then (let x := s.tnode index; w.getD [x.w0, x.w1])
  else if table = 2 then w.getD [(s.ttree index).w0]
  else if table = 3 then (let x := SMap.getD s.tmg.policers index Policer.initial; [x.w0, x.w1])
  else [(s.classq index).w0]

/-- Written words cut to the fields of their table. -/
def tmgMask (table : Nat) (w : List Nat) : List Nat :=
  if table = 0 then [w.getD 0 0 % 2 ^ 59, w.getD 1 0 % 2 ^ 16]
  else if table = 1 then [w.getD 0 0 % 2 ^ 64, w.getD 1 0 % 2 ^ 32]
  else if table = 2 then [w.getD 0 0 % 2 ^ 40]
  else if table = 3 then [w.getD 0 0 % 2 ^ 49, w.getD 1 0 % 2 ^ 32]
  else [w.getD 0 0 % 2 ^ 23]

/-- An entry takes its words. A policer's buckets start full. -/
def tmgApply (e : Nat × Nat × List Nat) (s : State) : State :=
  let w0 := e.2.2.getD 0 0
  let w1 := e.2.2.getD 1 0
  if e.1 = 0 then s.modQueue e.2.1 fun q => { q with w0 := w0, w1 := w1 }
  else if e.1 = 1 then s.modNode e.2.1 fun x => { x with w0 := w0, w1 := w1 }
  else if e.1 = 2 then s.modTTree e.2.1 fun x => { x with w0 := w0 }
  else if e.1 = 3 then
    s.modTmg fun t => { t with policers := SMap.put t.policers e.2.1 ⟨w0, w1, slice w1 0 16 * 256, slice w1 16 16 * 256⟩ }
  else s.modClass e.2.1 fun x => { x with w0 := w0 }

/-- PENDING shows the shadow entries of the half last written. -/
def showShadow (s : State) : State := s.wr F.TMG_TBL_STAT_PENDING (SMap.getD s.tmg.shadow s.tmg.lastHalf []).length

/-- The commit of group 44 + `h` takes effect in TMG (R317). -/
def tmgCommit (h : Nat) (s : State) : State :=
  showShadow <| ((SMap.getD s.tmg.shadow h []).foldl (fun a e => tmgApply e a) s).modTmg fun t => { t with shadow := SMap.put t.shadow h [] }

/-- The defaults of half `h`'s tables take effect at JOINED, in place of what waited in the shadow (R82). -/
def queueDefaults (h : Nat) (tables : List (Nat × Nat × List Nat)) (s : State) : State :=
  showShadow <| ((tables.filter fun e => decide (e.1 < 3) && s.halfOf e.1 e.2.1 == h).foldl (fun a e => tmgApply e a) s).modTmg fun t =>
    { t with shadow := SMap.put t.shadow h [] }

/-- Writes of tables 3 and 4 at the next tick. -/
def tmgTick (s : State) : State := (s.tmg.waiting.foldl (fun a e => tmgApply e a) s).modTmg fun t => { t with waiting := [] }

/-- The command and key registers of TMG_TBL. -/
def tmgCmd (table op index : Nat) (s : State) : State :=
  ((s.wr F.TMG_TBL_CMD_TABLE table).wr F.TMG_TBL_CMD_OP op).wr F.TMG_TBL_KEY_INDEX index

/-- TMG_TBL_CMD OP 1: reads an entry into TMG_TBL_DATA. -/
def tmgRead (table index : Nat) (s : State) : State :=
  let s0 := tmgCmd table 1 index s
  if 4 < table then s0.wr F.TMG_TBL_STAT_CODE 2
  else if ¬ indexOk s table index then s0.wr F.TMG_TBL_STAT_CODE 1
  else if table < 3 ∧ ¬ s.joined (44 + s.halfOf table index) then s0.wr F.TMG_TBL_STAT_CODE 3
  else
    let w := s.tmgWords table index
    (List.range 4).foldl (fun a i => a.wr (F.TMG_TBL_DATA_WORD i) (w.getD i 0)) (s0.wr F.TMG_TBL_STAT_CODE 0)

/-- TMG_TBL_CMD OP 2: into the half's shadow, at the next tick, or refused (R93, R317). -/
def tmgWrite (table index : Nat) (s : State) : State :=
  let s0 := tmgCmd table 2 index s
  let w := tmgMask table ((List.range 4).map fun i => s.rd (F.TMG_TBL_DATA_WORD i))
  if 4 < table then s0.wr F.TMG_TBL_STAT_CODE 2
  else if ¬ indexOk s table index then s0.wr F.TMG_TBL_STAT_CODE 1
  else if table < 3 then
    let h := s.halfOf table index
    let rest := (SMap.getD s.tmg.shadow h []).filter fun e => !(e.1 == table && e.2.1 == index)
    if ¬ s.joined (44 + h) then s0.wr F.TMG_TBL_STAT_CODE 3
    else if s.locked (44 + h) then refuseCommit (44 + h) 6 s0
    else if 4096 ≤ rest.length then raise E.TMG_SHADOW_FULL (s0.wr F.TMG_TBL_STAT_CODE 4)
    else
      showShadow ((s0.modTmg fun t => { t with shadow := SMap.put t.shadow h (rest ++ [(table, index, w)]), lastHalf := h }).wr
        F.TMG_TBL_STAT_CODE 0)
  else (s0.modTmg fun t => { t with waiting := t.waiting ++ [(table, index, w)] }).wr F.TMG_TBL_STAT_CODE 0

/-! Pauses (R319, R320, R431). -/

/-- PFC_RX: a received priority pause (R319, R431): `classes` are its enabled priorities, `zero` those with pause time 0. -/
def pfcRx (u classes zero : Nat) (s : State) : State :=
  if ¬ s.works ∨ 16 ≤ u ∨ ¬ s.portUp u then s
  else
    let old := s.rd (F.TMG_PAUSE_STAT_XOFF_RX u)
    (uplCount u 8 1 s).wr (F.TMG_PAUSE_STAT_XOFF_RX u) (without (old ||| (classes % 256)) (classes &&& zero))

/-- PAUSE_EXPIRE: a received pause of a class ends (R319). -/
def pauseExpire (u c : Nat) (s : State) : State :=
  if ¬ s.works ∨ 16 ≤ u ∨ 8 ≤ c then s else s.wr (F.TMG_PAUSE_STAT_XOFF_RX u) (noBit (s.rd (F.TMG_PAUSE_STAT_XOFF_RX u)) c)

/-- PAUSE_REFRESH: half the pause time has passed while a pool holds the port (R320). -/
def pauseRefresh (u : Nat) (s : State) : State :=
  if ¬ s.works ∨ 16 ≤ u ∨ ¬ s.portUp u ∨ s.rd (F.TMG_PAUSE_STAT_XOFF_TX u) = 0 then s
  else sendPause u (s.rd (F.TMG_PAUSE_STAT_XOFF_TX u)) s

/-! The commands. -/

/-- UPLINK_TX_SELECT (R318). -/
def execUplinkTxSelect (u : Nat) (s : State) : Out := .next (txSelect u s)
/-- PFC_RX (R431). -/
def execPfcRx (u classes zero : Nat) (s : State) : Out := .next (pfcRx u classes zero s)
/-- PAUSE_EXPIRE (R319). -/
def execPauseExpire (u c : Nat) (s : State) : Out := .next (pauseExpire u c s)
/-- PAUSE_REFRESH (R320). -/
def execPauseRefresh (u : Nat) (s : State) : Out := .next (pauseRefresh u s)

end Sys2Proof.Machine
end

