-- ==== Sys2Proof/Machine/Forward.lean ====
section
/-! DEFINITION. Machine/Forward.lean: FWD (R269 to R297): classification, the bridge table with learning, eviction and CHURN, and the
indirect access to its tables; and what a frame's cells lead on to (R300). -/
namespace Sys2Proof.Machine

/-! Entries. -/

def FlowCtx.valid (c : FlowCtx) : Bool := hasBit c.w0 0
def FlowCtx.usEn (c : FlowCtx) : Bool := hasBit c.w0 1
def FlowCtx.dsEn (c : FlowCtx) : Bool := hasBit c.w0 2
def FlowCtx.learnEn (c : FlowCtx) : Bool := hasBit c.w0 3
def FlowCtx.bd (c : FlowCtx) : Nat := slice c.w0 4 14
def FlowCtx.terminal (c : FlowCtx) : Nat := slice c.w0 18 9
def FlowCtx.queue (c : FlowCtx) : Nat := slice c.w1 0 20
def FlowCtx.policer (c : FlowCtx) : Nat := slice c.w1 20 20
def FlowCtx.usClass (c : FlowCtx) : Nat := slice c.w1 40 3

/-- Fields of a bridge domain's word (R280). -/
def domValid (d : Nat) : Bool := hasBit d 0
def domPart (d : Nat) : Nat := slice d 1 2
def domUplink (d : Nat) : Nat := slice d 3 4
def domFlood (d : Nat) : Bool := hasBit d 7
def domLocal (d : Nat) : Bool := hasBit d 8
def domUlLearn (d : Nat) : Bool := hasBit d 9
def domBcast (d : Nat) : Nat := slice d 10 16
def domTrees (d : Nat) : Nat := slice d 32 32

def State.flowCtx (s : State) (x : Nat) : FlowCtx := SMap.getD s.fwd.flows x FlowCtx.empty
/-- Changes a flow context in the cache and in DRAM together (R277). -/
def State.modFlow (x : Nat) (g : FlowCtx → FlowCtx) (s : State) : State :=
  s.modFwd fun f => { f with flows := SMap.put f.flows x (g (s.flowCtx x)), flOld := SMap.del f.flOld x }
/-- Changes HIT and the counters of a flow context in its cache line alone: DRAM keeps the older value until the line is evicted (R277). -/
def State.lineFlow (x : Nat) (g : FlowCtx → FlowCtx) (s : State) : State :=
  s.modFwd fun f => { f with flows := SMap.put f.flows x (g (s.flowCtx x)), flOld := SMap.put f.flOld x ((SMap.find? f.flOld x).getD (s.flowCtx x)) }
def State.part (s : State) (k : Nat) : FwdPart := SMap.getD s.fwd.parts k FwdPart.initial
def State.modPart (k : Nat) (g : FwdPart → FwdPart) (s : State) : State :=
  s.modFwd fun f => { f with parts := SMap.put f.parts k (g (s.part k)) }
def State.owner (s : State) (o : Nat) : Owner := SMap.getD s.fwd.owners o Owner.initial
def State.modOwner (o : Nat) (g : Owner → Owner) (s : State) : State :=
  s.modFwd fun f => { f with owners := SMap.put f.owners o (g (s.owner o)) }
def State.domain (s : State) (bd : Nat) : Nat := SMap.getD s.fwd.domains bd 0

/-- The time-unit second that LEARN_S and MOVE_S take (R279, R285). -/
def State.fwdSec (s : State) : Nat := s.tsu.sec % 2 ^ 32

/-! Partitions and hashing (R273 to R276). -/

/-- Tile F`k` holds its tables: JOINED, QUEUED or DRAINING (R82, R83). -/
def State.partOn (s : State) (k : Nat) : Bool := s.carries (40 + k)
def State.brSize (s : State) (k : Nat) : Nat := 2 ^ s.rd (F.FWD_PART_STAT_BR_LOG2 k)
def State.ways (s : State) (k : Nat) : Nat := if s.on (F.FWD_PART_STAT_WAYS4 k) then 4 else 2
def State.buckets (s : State) (k : Nat) : Nat := s.brSize k / s.ways k
/-- HASH_SEED of a partition's descriptor (R274). -/
def TileDesc.hashSeed (d : TileDesc) : Nat := ofLe ((List.range 4).map fun i => d.p (8 + i))
/-- The fields that make a partition's geometry (R296). -/
def TileDesc.geometry (d : TileDesc) : List Nat :=
  [d.p 0, d.p 1, ofLe ((List.range 4).map fun i => d.p (4 + i)), d.hashSeed]
def State.fwdDesc (s : State) (k : Nat) : TileDesc := SMap.getD s.cfg.tiles (40 + k) ⟨0, 0, 0, []⟩

/-- A MAC address in transmission order (R279). -/
def macBytes (m : Nat) : List Nat := (leNats 6 m).reverse
/-- The bucket of a key (R276). -/
def State.bucketOf (s : State) (k bd mac : Nat) : Nat :=
  crc32c (s.fwdDesc k).hashSeed (leNats 2 bd ++ macBytes mac) % s.buckets k

/-- Storage keys of a bucket's ways, lowest first. -/
def State.bucketKeys (s : State) (k b : Nat) : List Nat := (List.range (s.ways k)).map fun w => 2 ^ 22 * k + b * s.ways k + w
def State.entry? (s : State) (key : Nat) : Option BEntry := SMap.find? s.fwd.bridge key
def State.setEntry (key : Nat) (e : Option BEntry) (s : State) : State :=
  s.modFwd fun f => { f with
    brOld := SMap.del f.brOld key
    bridge := match e with
      | none => SMap.del f.bridge key
      | some e => SMap.put f.bridge key e }
/-- Sets HIT of a bridge entry in its cache line alone (R277). -/
def State.lineHit (key : Nat) (e : BEntry) (s : State) : State :=
  s.modFwd fun f => { f with bridge := SMap.put f.bridge key { e with hit := true }, brOld := SMap.put f.brOld key ((SMap.find? f.brOld key).getD e) }

/-- The slot that holds a key; an unreadable entry is missed (R287). -/
def State.lookup (s : State) (k bd mac : Nat) : Option Nat :=
  (s.bucketKeys k (s.bucketOf k bd mac)).find? fun x =>
    match s.entry? x with
    | some e => !e.bad && e.mac == mac && e.bd == bd
    | none => false

/-! The caches (R33, R277). -/

/-- Sets of a cache: 8-way, of the entries that R33 gives the mode. -/
def State.cacheSets (s : State) (flow : Bool) : Nat := (if flow then 131072 else 262144) / (if s.mode = mLean then 16 else 8)

/-- A lookup in a cache, counted for FWD_CACHE_STAT: the line becomes the one last used; a line fetched puts out the one least recently used of
its set. A lookup of a flow context that the cache serves sets its HIT. `key` is none where the table holds no such entry, and nothing is
cached. -/
def cacheLook (flow : Bool) (key : Option Nat) (s : State) : State :=
  let c := if flow then s.fwd.flCache else s.fwd.brCache
  let set := fun (k : Nat) => Config.cacheSet flow k % s.cacheSets flow
  let hit := key.any fun k => (SMap.getD c (set k) []).contains k
  let l := fun (k : Nat) => k :: (SMap.getD c (set k) []).filter fun x => x != k
  let c1 := match key with
    | none => c
    | some k => SMap.put c (set k) ((l k).take 8)
  let out := match key with
    | none => []
    | some k => (l k).drop 8
  let s1 := s.modFwd fun f =>
    if flow then { f with flCache := c1, flLook := f.flLook + 1, flMiss := f.flMiss + bit (!hit), flOld := out.foldl SMap.del f.flOld }
    else { f with brCache := c1, brLook := f.brLook + 1, brMiss := f.brMiss + bit (!hit), brOld := out.foldl SMap.del f.brOld }
  match key with
  | some x => if flow then s1.lineFlow x (fun c => { c with hit := true }) else s1
  | none => s1

/-- Every line of partition `k` is invalid (R277). -/
def cacheDrop (k : Nat) (s : State) : State :=
  s.modFwd fun f =>
    { f with brCache := f.brCache.map fun x => (x.1, x.2.filter fun y => y / 2 ^ 22 != k)
             flCache := f.flCache.map fun x => (x.1, x.2.filter fun y => y / 2 ^ 21 != k)
             brOld := f.brOld.filter fun x => x.1 / 2 ^ 22 != k
             flOld := f.flOld.filter fun x => x.1 / 2 ^ 21 != k }

/-- A lookup that hits sets HIT (R277). An entry that was due for removal is kept in mind for a visit in the same slot (R294). -/
def touch (key : Nat) (s : State) : State :=
  match s.entry? key with
  | some e =>
    (s.lineHit key e).modFwd fun f => { f with saved := if !e.hit && e.stale then key :: f.saved else f.saved }
  | none => s

/-! Owners (R282). -/

/-- The owners that an entry counts against: a terminal and its tree, or the one named. -/
def ownersOf (o : Nat) : List Nat := if o < 16384 then [o, 16384 + o / 512] else [o]
/-- An owner stands at its limit; 0xF_FFFF is no limit. -/
def State.atLimit (s : State) (o : Nat) : Bool := (s.owner o).limit != 0xFFFFF && decide ((s.owner o).limit ≤ (s.owner o).count)
def countUp (o : Nat) (s : State) : State :=
  (ownersOf o).foldl (fun a x => a.modOwner x fun w => { w with count := w.count + 1 }) s
def countDown (o : Nat) (s : State) : State :=
  (ownersOf o).foldl (fun a x => a.modOwner x fun w => { w with count := w.count - 1 }) s
/-- Removes an entry; a dynamic, readable one leaves its owner's COUNT (R286, R287, R289). -/
def removeEntry (key : Nat) (s : State) : State :=
  match s.entry? key with
  | some e => (if e.static || e.bad then s else countDown e.owner s).setEntry key none
  | none => s

/-- The commit group that LIMIT and MODE of an owner belong to (R292). -/
def ownerGroup (o : Nat) : Nat := if o < 16384 then 40 + o / 4096 else if o < 16416 then 40 + (o - 16384) / 8 else 40

/-! Learning (R283 to R287). -/

/-- Puts a request into a partition's learning queue of 4,096 learn requests, or drops it (R284). -/
def queueLearn (k : Nat) (r : LearnReq) (s : State) : State :=
  if 4096 ≤ s.rd (F.FWD_PART_STAT_QUEUED k) then raiseSec (E.FWD_LEARN_DROP k) (s.sat (F.FWD_ERR_STAT_LEARN_DROP k) 1)
  else (s.modPart k fun p => { p with queue := p.queue ++ [r] }).wrap (F.FWD_PART_STAT_QUEUED k) 1

/-- The source lookup of R283 in partition `k`; answers whether the frame is forwarded. -/
def sourceLookup (k bd mac owner flow uplink dkind : Nat) (learn : Bool) (s0 : State) : Bool × State :=
  let s := cacheLook false (s0.lookup k bd mac) s0
  let req := LearnReq.learn mac bd owner flow uplink dkind
  match s.lookup k bd mac with
  | some key =>
    let s1 := touch key s
    match s.entry? key with
    | some e =>
      if e.owner = owner then (true, s1)
      else if e.static then (false, raiseSec (E.FWD_STATIC_CONFLICT k) (s1.sat (F.FWD_ERR_STAT_STATIC_CONFLICT k) 1))
      else (true, queueLearn k req s1)
    | none => (true, s1)
  | none =>
    if ¬ learn then (true, s)
    else
      match (ownersOf owner).filter s.atLimit with
      | [] => (true, queueLearn k req s)
      | o :: os =>
        let drop := (o :: os).any fun x => (s.owner x).mode == 0
        let s1 := s.sat (F.FWD_ERR_STAT_LIMIT_HIT k) 1
        let s2 := (s1.wr F.FWD_LIMIT_LAST_OWNER o).wr F.FWD_LIMIT_LAST_FRAME s.frame16
        let s3 := if drop then s2.sat F.FWD_DROP_STAT_LIMIT_DROP 1 else s2
        (!drop, raiseSec (E.FWD_LEARN_LIMIT k) s3)

/-- BUCKET_FULL (R286, R287). -/
def bucketFull (k : Nat) (s : State) : State := raiseSec (E.FWD_BUCKET_FULL k) (s.sat (F.FWD_ERR_STAT_BUCKET_FULL k) 1)

/-- The way of a full bucket that an insertion evicts (R286): none where every entry is STATIC. -/
def victim (k : Nat) (keys : List Nat) (s : State) : Option Nat × State :=
  let dyn := keys.filter fun x => ((s.entry? x).map fun e => !e.static && !e.bad).getD false
  if dyn.isEmpty then (none, s)
  else if s.on (F.FWD_PART_CFG_EVICT k) then (dyn[Config.evictPick s.fresh % dyn.length]?, s.draw)
  else
    let age := fun x => ((s.entry? x).map BEntry.learnS).getD 0
    let least := dyn.foldl (fun a x => min a (age x)) (2 ^ 32)
    (dyn.find? fun x => age x == least, s)

/-- A slot for a new entry of a bucket, evicting under R286; to a learn commit refused in a bucket with an unreadable entry (R287). -/
def freeSlot (learn : Bool) (k b : Nat) (s : State) : Option Nat × State :=
  let keys := s.bucketKeys k b
  if learn && keys.any fun x => ((s.entry? x).map BEntry.bad).getD false then (none, bucketFull k s)
  else
    match keys.find? fun x => (s.entry? x).isNone with
    | some x => (some x, s)
    | none =>
      let v := victim k keys s
      match v.1 with
      | none => (none, bucketFull k v.2)
      | some x => (some x, raiseSec (E.FWD_EVICT k) ((removeEntry x v.2).sat (F.FWD_LEARN_STAT_EVICTED k) 1))

/-- A move's count in whole seconds and the flap rule (R285): every move that leaves MOVES above FLAP_TH is reported. -/
def countMove (k key : Nat) (e : BEntry) (s : State) : State :=
  let now := s.fwdSec % 65536
  let m := if e.moveS = now then min 255 (e.moves + 1) else 1
  let th := max 1 (s.rd (F.FWD_PART_CFG_FLAP_TH k))
  let s1 := s.setEntry key (some { e with moveS := now, moves := m, flap := e.flap || decide (th < m) })
  if th < m then
    raise (E.FWD_FLAPPING k) ((s1.wr (F.FWD_FLAP_LAST_MAC k) e.mac).wr (F.FWD_FLAP_LAST_BD k) e.bd)
  else s1

/-- The learn engine commits a learn request (R284). -/
def commitLearn (k mac bd owner flow uplink dkind : Nat) (s : State) : State :=
  match s.lookup k bd mac with
  | some key =>
    match s.entry? key with
    | none => s
    | some e =>
      if (s.bucketKeys k (s.bucketOf k bd mac)).any fun x => ((s.entry? x).map BEntry.bad).getD false then bucketFull k s
      else if e.owner = owner then touch key s
      else if e.static then s
      else if ((ownersOf owner).filter fun o => !(ownersOf e.owner).contains o).any s.atLimit then
        s.sat (F.FWD_ERR_STAT_LIMIT_HIT k) 1
      else
        let s1 := countUp owner (countDown e.owner s)
        let e1 := { e with flow := flow, uplink := uplink, dkind := dkind, owner := owner, hit := true, learnS := s.fwdSec }
        countMove k key e1 (raiseSec (E.FWD_MOVE k) (s1.sat (F.FWD_LEARN_STAT_MOVES k) 1))
  | none =>
    if (ownersOf owner).any s.atLimit then s.sat (F.FWD_ERR_STAT_LIMIT_HIT k) 1
    else
      let r := freeSlot true k (s.bucketOf k bd mac) s
      match r.1 with
      | none => r.2
      | some key =>
        (countUp owner (r.2.setEntry key (some
          { mac := mac, bd := bd, static := false, flow := flow, uplink := uplink, dkind := dkind, owner := owner, hit := true,
            stale := false, flap := false, learnS := s.fwdSec, moveS := 0, moves := 0, bad := false }))).sat
          (F.FWD_LEARN_STAT_LEARNED k) 1

/-! Frame forwarding (R270 to R272). -/

/-- SUB of a frame on a tree and transport port (R270). -/
def State.subOf (s : State) (tree tport : Nat) (f : Frame) : Nat :=
  let pmap := SMap.getD s.fwd.pclass (65536 * tree + tport) 0
  slice (SMap.getD s.fwd.pcpMaps (16 * (tree / 8) + pmap) 0) (2 * (if f.tagged then f.pcp else 0)) 2

/-- A flow index (R269). -/
def flowIndex (tree tport sub : Nat) : Nat := tree * 2 ^ 18 + tport % 65536 * 4 + sub

/-- The outer tag of a frame after an operation (R278): 1 push, 2 translate, 3 pop. A push keeps the tag beneath, and a pop uncovers it. An
untagged frame is neither translated nor popped. -/
def tagOp (op vid : Nat) (pcp : Option Nat) (f : Frame) : Frame :=
  let p := pcp.getD f.pcp
  if op = 1 then
    { f with tagged := true, vid := vid, pcp := p, len := f.len + 4, inner := if f.tagged then (f.vid, f.pcp) :: f.inner else f.inner }
  else if op = 2 ∧ f.tagged then { f with vid := vid, pcp := p }
  else if op = 3 ∧ f.tagged then
    match f.inner with
    | [] => { f with tagged := false, vid := 0, pcp := 0, len := f.len - 4 }
    | t :: l => { f with vid := t.1, pcp := t.2, inner := l, len := f.len - 4 }
  else f

/-- The upstream and the downstream tag of a context. -/
def FlowCtx.upTag (c : FlowCtx) (f : Frame) : Frame :=
  tagOp (slice c.w2 0 2) (slice c.w2 2 12) (if hasBit c.w2 17 then none else some (slice c.w2 14 3)) f
def FlowCtx.downTag (c : FlowCtx) (f : Frame) : Frame := tagOp (slice c.w2 18 2) (slice c.w2 20 12) none f

def dropNoFlow (id : Nat) (s : State) : State := dropFrame id (s.sat F.FWD_DROP_STAT_NO_FLOW 1)
def dropNoDomain (id : Nat) (s : State) : State := dropFrame id (s.sat F.FWD_DROP_STAT_NO_DOMAIN 1)
def dropDestMiss (id : Nat) (s : State) : State := dropFrame id (s.sat F.FWD_DROP_STAT_DEST_MISS 1)

/-- Where a frame goes: upstream to an uplink port, downstream on flows, or nowhere. -/
inductive Target where
  | uplink (u : Nat)
  | flows (l : List Nat)
  | drop
  deriving DecidableEq, Repr

/-- Sends a frame downstream on flows (R272, R308): a context that is invalid or has DS_EN = 0 drops its copy in NO_FLOW. `pass` when the
frame passes downstream stage 1. A flood to no tree is counted with the destination misses (R28, assumption 62). `pol` is the policer of a frame
that came from a tree, and `early` its mirror copies of upstream stage 3 (R313, R462). -/
def sendDown (id : Nat) (flows : List Nat) (pass : Bool) (pol : Nat) (early : List Nat) (s0 : State) : State :=
  let s := flows.foldl (fun a x => cacheLook true (some x) a) s0
  match s.frame id with
  | none => s
  | some f =>
    if flows.isEmpty then dropDestMiss id s
    else
    let ok := flows.filter fun x => (s.flowCtx x).valid && (s.flowCtx x).dsEn
    let s1 := (flows.length - ok.length).repeat (fun a => a.sat F.FWD_DROP_STAT_NO_FLOW 1) s
    if ok.isEmpty then settleOwners id [] early s1
    else
      let s2 := ok.foldl (fun a x => a.lineFlow x fun c =>
        { c with dsFrames := (c.dsFrames + 1) % 2 ^ 40, dsBytes := (c.dsBytes + f.len) % 2 ^ 48 }) s1
      let s3 := setFlow id (ok.getLast?.getD 0) s2
      let s4 := if pass then passId id false 1 f.dnIndex s3 else s3
      let p := policeUp id pol s4
      if p.1 then enqueueDown id (ok.map fun x => ((s.flowCtx x).queue, x)) early p.2 else settleOwners id [] early p.2

/-- Where an upstream frame of a LOCAL domain goes (R272). -/
def localTarget (s0 : State) (k dom bd : Nat) (f : Frame) : Target × State :=
  let s := cacheLook false (s0.lookup k bd f.dst) s0
  match s.lookup k bd f.dst with
  | none => (.uplink (domUplink dom), s)
  | some key =>
    match s.entry? key with
    | none => (.uplink (domUplink dom), s)
    | some e =>
      let s1 := touch key s
      if e.dkind = 0 then (.flows [flowIndex (e.flow / 2 ^ 18) (e.flow / 4) (s.subOf (e.flow / 2 ^ 18) (e.flow / 4 % 65536) f)], s1)
      else if e.dkind = 1 then (.uplink e.uplink, s1)
      else if e.dkind = 2 then (.drop, s1)
      else (.uplink (domUplink dom), s1)

/-- An upstream frame's lookups (R271, R272). The context counts a frame that is forwarded (R278). -/
def lookupUp (id : Nat) (f : Frame) (s0 : State) : State :=
  let tree := f.src - 16
  let x := flowIndex tree f.tport (s0.subOf tree f.tport f)
  let s := cacheLook true (some x) s0
  let c := s.flowCtx x
  if ¬ c.valid ∨ ¬ c.usEn then dropNoFlow id s
  else
    let s1 := setFlow id x s
    let dom := s.domain c.bd
    if ¬ domValid dom then dropNoDomain id s1
    else
      let k := domPart dom
      let r := sourceLookup k c.bd f.smac (512 * tree + c.terminal) x 0 0 c.learnEn s1
      if ¬ r.1 then dropFrame id r.2
      else
        let t := if domLocal dom then localTarget r.2 k dom c.bd f else (.uplink (domUplink dom), r.2)
        let count := fun (s : State) => s.lineFlow x fun c =>
          { c with usFrames := (c.usFrames + 1) % 2 ^ 40, usBytes := (c.usBytes + f.len) % 2 ^ 48 }
        match t.1 with
        | .drop => dropDestMiss id t.2
        | .uplink u =>
          let s2 := passId id true 3 u (count t.2)
          let m := mirrorAt id true 3 tree s2
          let s3 := match m.2.frame id with
            | some g => m.2.putFrame id (c.upTag g)
            | none => m.2
          enqueueUp id u c.usClass c.policer m.1 s3
        | .flows l =>
          let sent := l.any fun x => (t.2.flowCtx x).valid && (t.2.flowCtx x).dsEn
          if ¬ sent then sendDown id l false 0 [] t.2
          else
            let m := mirrorAt id true 3 tree (passId id true 3 32 (count t.2))
            let s3 := match m.2.frame id with
              | some g => m.2.putFrame id (c.upTag g)
              | none => m.2
            sendDown id l false c.policer m.1 s3

/-- The VLAN map entry of a downstream frame: its domain, or none (R271, R272, R281). -/
def State.vlanDomain (s : State) (f : Frame) : Option Nat :=
  let e := SMap.getD s.fwd.vlans (4096 * f.src + (if f.tagged then f.vid else 0)) 0
  if hasBit e 14 then some (e % 2 ^ 14) else none

/-- The flows to which a downstream frame is flooded, in ascending tree. -/
def floodFlows (s : State) (dom : Nat) (f : Frame) : List Nat :=
  ((List.range 32).filter fun n => hasBit (domTrees dom) n).map fun n => flowIndex n (domBcast dom) (s.subOf n (domBcast dom) f)

/-- Where a downstream frame of a domain goes (R272). -/
def downTarget (s0 : State) (k dom bd : Nat) (f : Frame) : Target × State :=
  let s := cacheLook false (s0.lookup k bd f.dst) s0
  let flood := fun (t : State) => if domFlood dom then (Target.flows (floodFlows s dom f), t) else (Target.drop, t)
  match s.lookup k bd f.dst with
  | none => flood s
  | some key =>
    match s.entry? key with
    | none => flood s
    | some e =>
      let s1 := touch key s
      if e.dkind = 0 then (.flows [flowIndex (e.flow / 2 ^ 18) (e.flow / 4) (s.subOf (e.flow / 2 ^ 18) (e.flow / 4 % 65536) f)], s1)
      else (.drop, s1)

/-- A downstream frame's lookups (R271, R272). -/
def lookupDown (id : Nat) (f : Frame) (s : State) : State :=
  match s.vlanDomain f with
  | none => dropNoDomain id s
  | some bd =>
    let dom := s.domain bd
    if ¬ domValid dom then dropNoDomain id s
    else
      let k := domPart dom
      let r := if domUlLearn dom then sourceLookup k bd f.smac (16416 + f.src) 0 f.src 1 true s else (true, s)
      if ¬ r.1 then dropFrame id r.2
      else
        let t := downTarget r.2 k dom bd f
        match t.1 with
        | .flows l => sendDown id l true 0 [] t.2
        | _ => dropDestMiss id t.2

/-- The partitions in which a frame's lookups fall (R273). -/
def State.partsOf (s : State) (f : Frame) : List Nat :=
  if f.up then
    let tree := f.src - 16
    let c := s.flowCtx (flowIndex tree f.tport (s.subOf tree f.tport f))
    let dom := s.domain c.bd
    let k := domPart dom
    let dst := if c.valid && domValid dom && domLocal dom then
        (match (s.lookup k c.bd f.dst).bind s.entry? with
          | some e => if e.dkind = 0 then [e.flow / 2 ^ 21] else []
          | none => [])
      else []
    tree / 8 :: (if c.valid && c.usEn && domValid dom then k :: dst else [])
  else
    match s.vlanDomain f with
    | none => []
    | some bd =>
      let dom := s.domain bd
      if ¬ domValid dom then []
      else
        let k := domPart dom
        match (s.lookup k bd f.dst).bind s.entry? with
        | some e => if e.dkind = 0 then [k, e.flow / 2 ^ 21] else [k]
        | none => k :: (if domFlood dom then ((List.range 32).filter fun n => hasBit (domTrees dom) n).map fun n => n / 8 else [])

/-- HOLDING and its event (R28, R83). -/
def setHolding (b : Bool) (s : State) : State :=
  if b then (if s.on F.FWD_HOLD_STAT_HOLDING then s else raiseSec E.FWD_INGRESS_HOLD (s.wr F.FWD_HOLD_STAT_HOLDING 1))
  else s.wr F.FWD_HOLD_STAT_HOLDING 0

/-- Each DRAM fill of a lookup's cache misses is a read of requester 3, and its latency a sample of that requester's stream (R277, R352,
R366, R460). -/
def fillSamples (ns : List Nat) (fills : Nat) (s : State) : State := (ns.take fills).foldl (fun a v => histSample 1 3 v a) s

/-- The partition of a frame's bridge lookups: that of its bridge domain (R273). -/
def State.bridgePart (s : State) (f : Frame) : Nat :=
  domPart (s.domain (if f.up then (s.flowCtx (flowIndex (f.src - 16) f.tport (s.subOf (f.src - 16) f.tport f))).bd else (s.vlanDomain f).getD 0))

/-- What a looked-up frame's misses cost: one fill for a flow context, and as many as its bucket has pairs of ways for a bridge lookup (R276). -/
def lookupFills (brNs flNs : List Nat) (f : Frame) (s t : State) : State :=
  let pairs := s.ways (s.bridgePart f) / 2
  fillSamples flNs (t.fwd.flMiss - s.fwd.flMiss) (fillSamples brNs ((t.fwd.brMiss - s.fwd.brMiss) * pairs) t)

/-- FRAME_LOOKUP: the oldest frame in the ingress stage whose partitions all hold their tables is looked up, unless the demand exceeds the
supply (R28, R83, R272). `brNs` and `flNs` are the latencies in nanoseconds of the fills that its bridge and its flow lookups wait for. -/
def frameLookup (hold : Bool) (brNs flNs : List Nat) (s : State) : State :=
  if s.fwd.ingress.isEmpty then s
  else if hold then setHolding true s
  else
    let free := fun id => ((s.frame id).map fun f => (s.partsOf f).all s.partOn).getD true
    match List.find? free s.fwd.ingress with
    | none => setHolding true s
    | some id =>
      let rest := s.fwd.ingress.filter fun x => x != id
      let s0 := s.modFwd fun f => { f with ingress := rest }
      let s1 := setHolding (rest.any fun x => !free x) s0
      match s.frame id with
      | none => s1
      | some f =>
        let s2 := s1.modFwd fun w => { w with saved := [] }
        lookupFills brNs flNs f s2 (if f.up then lookupUp id f s2 else lookupDown id f s2)

/-! Host operations on the tables (R291 to R293). -/

/-- A host operation ends with a code. -/
def tblDone (code : Nat) (s : State) : State := (s.wr F.FWD_TBL_STAT_CODE code).wr F.FWD_TBL_STAT_BUSY 0
/-- Loads FWD_TBL_DATA. -/
def tblData (w : List Nat) (s : State) : State := (List.range 8).foldl (fun a i => a.wr (F.FWD_TBL_DATA_WORD i) (w.getD i 0)) s
/-- The words of FWD_TBL_DATA. -/
def State.tblWords (s : State) : List Nat := (List.range 8).map fun i => s.rd (F.FWD_TBL_DATA_WORD i)

/-- The entry that host words describe (R279, R293), over the device-written fields of an old one. -/
def entryOf (mac bd : Nat) (w : List Nat) (old : Option BEntry) (sec : Nat) : BEntry :=
  let w0 := w.getD 0 0
  let w1 := w.getD 1 0
  { mac := mac, bd := bd, static := hasBit w0 63, flow := slice w1 0 23, uplink := slice w1 23 4, dkind := slice w1 27 2,
    owner := slice w1 29 15, hit := true, stale := false, flap := false, learnS := sec, moveS := (old.map BEntry.moveS).getD 0,
    moves := (old.map BEntry.moves).getD 0, bad := false }

/-- Puts a host entry into a slot, after whatever the slot held has left (R293). -/
def putEntry (key : Nat) (e : BEntry) (s : State) : State :=
  let s1 := removeEntry key s
  (if e.static then s1 else countUp e.owner s1).setEntry key (some e)

/-- The learn engine takes a host operation on table 0 or 1 (R293). -/
def commitHost (k table op key : Nat) (w : List Nat) (s : State) : State :=
  let mac := if table = 0 then key % 2 ^ 48 else w.getD 0 0 % 2 ^ 48
  let bd := if table = 0 then slice key 48 14 else slice (w.getD 0 0) 48 14
  let slot := if table = 0 then s.lookup k bd mac else some (2 ^ 22 * k + key % 2 ^ 22)
  if op = 1 then
    match slot with
    | none => tblDone 1 s
    | some x =>
      match s.entry? x with
      | none => tblDone 0 (tblData [] s)
      | some e =>
        if e.bad then tblDone 0 (tblData ((List.range 4).map fun i => Config.unreadable (4 * s.fresh + i)) s.draw)
        else tblDone 0 (tblData e.words s)
  else if op = 3 then
    match slot with
    | none => tblDone 1 s
    | some x => tblDone 0 (removeEntry x s)
  else
    let valid := hasBit (w.getD 0 0) 62
    match slot with
    | some x =>
      if valid then tblDone 0 (putEntry x (entryOf mac bd w (s.entry? x) s.fwdSec) s) else tblDone 0 (removeEntry x s)
    | none =>
      if ¬ valid then tblDone 0 s
      else
        let r := freeSlot false k (s.bucketOf k bd mac) s
        match r.1 with
        | none => tblDone 2 r.2
        | some x => tblDone 0 (putEntry x (entryOf mac bd w none s.fwdSec) r.2)

/-- LEARN_COMMIT: the learn engine of a partition takes its next request or host operation (R284, R293). -/
def learnCommit (k : Nat) (s : State) : State :=
  if 4 ≤ k ∨ ¬ s.inService (40 + k) then s
  else match (s.part k).queue with
    | [] => s
    | r :: rest =>
      let s1 := s.modPart k fun p => { p with queue := rest }
      match r with
      | .learn mac bd owner flow uplink dkind =>
        commitLearn k mac bd owner flow uplink dkind (s1.wr (F.FWD_PART_STAT_QUEUED k) (s.rd (F.FWD_PART_STAT_QUEUED k) - 1))
      | .host table op key w => commitHost k table op key w s1

/-- The partition that a table's key names, where the table lies in partitions. -/
def keyPart (s : State) (table op key : Nat) : Option Nat :=
  if op = 4 then some (slice key 16 2)
  else if table = 0 then some (domPart (s.domain (slice key 48 14)))
  else if table = 1 then some (slice key 22 2)
  else if table = 2 then some (slice key 21 2)
  else if table = 5 then some (slice key 19 2)
  else if table = 7 then some (slice key 4 2)
  else none

/-- A key lies in its table's range, with its unused bits zero (FWD_TBL_KEY). -/
def keyOk (s : State) (table op key : Nat) : Bool :=
  if op = 4 then decide (key < 2 ^ 18) && !hasBit key 15 && decide (key % 2 ^ 15 < 16432)
  else if table = 0 then decide (key < 2 ^ 62)
  else if table = 1 then decide (key < 2 ^ 24) && decide (key % 2 ^ 22 < s.brSize (slice key 22 2))
  else if table = 2 then decide (key < 2 ^ 23)
  else if table = 3 then decide (key < 2 ^ 14)
  else if table = 4 then decide (key < 2 ^ 16)
  else if table = 5 then decide (key < 2 ^ 21)
  else if table = 6 then decide (key < 16432)
  else decide (key < 2 ^ 6)

/-- The code that refuses an operation at once: 6, 4, 3 or 5. -/
def tblRefusal (s : State) (table op key : Nat) : Nat :=
  if (op = 3 ∨ op = 4) ∧ table ≠ 0 then 6
  else if (keyPart s table op key).any fun k => !s.joined (40 + k) then 4
  else if ¬ keyOk s table op key then 3
  else if op = 4 ∧ (s.part (slice key 16 2)).flush.isSome then 5
  else 0

/-- What a read of tables 2 to 7 returns (R278, R280, R281, R297); LIMIT and MODE read as their shadow (R90). -/
def State.tblRead (s : State) (table key : Nat) : List Nat :=
  if table = 2 then (s.flowCtx key).words
  else if table = 3 then [s.domain key]
  else if table = 4 then [SMap.getD s.fwd.vlans key 0]
  else if table = 5 then [SMap.getD s.fwd.pclass key 0]
  else if table = 6 then
    let o := s.owner key
    let l := o.shadow.getD (o.limit, o.mode)
    [l.1 + l.2 * 2 ^ 20 + o.count * 2 ^ 32]
  else [SMap.getD s.fwd.pcpMaps key 0]

/-- A host write of a flow context (R292): counters stay unless CLR_CNT; a mirrored item (R413). -/
def writeFlow (key : Nat) (clr : Bool) (w : List Nat) (s : State) : State :=
  let w7 := w.getD 7 0
  mirrorSend (some (key / 2 ^ 18 % 32)) (s.modFlow key fun c =>
    { c with w0 := w.getD 0 0 % 2 ^ 27, w1 := w.getD 1 0 % 2 ^ 43, w2 := w.getD 2 0 % 2 ^ 32,
             usFrames := if clr then 0 else c.usFrames, usBytes := if clr then 0 else c.usBytes,
             dsFrames := if clr then 0 else c.dsFrames, dsBytes := if clr then 0 else c.dsBytes,
             hit := hasBit w7 0, stale := hasBit w7 1, idle := hasBit w7 2 })

/-- A host write of a learn owner (R292): LIMIT and MODE into the shadow of the owner's group, refused where it is locked (R93), COUNT
at once with WR_COUNT. -/
def writeOwner (o : Nat) (wrCount : Bool) (w : Nat) (s : State) : State :=
  let s1 := if wrCount then s.modOwner o fun x => { x with count := slice w 32 23 } else s
  if s.locked (ownerGroup o) then refuseCommit (ownerGroup o) 6 s1
  else s1.modOwner o fun x => { x with shadow := some (slice w 0 20, slice w 20 1) }

/-- Words of tables 3, 4, 5 and 7 cut to their fields. -/
def smallWord (table w : Nat) : Nat :=
  if table = 3 then w % 2 ^ 26 + slice w 32 32 * 2 ^ 32
  else if table = 4 then w % 2 ^ 15
  else if table = 5 then w % 2 ^ 4
  else w % 2 ^ 16

/-- A GO of FWD_TBL_CMD; ignored while BUSY. -/
def tblCmd (table op key : Nat) (clr wrCount : Bool) (s : State) : State :=
  let s0 := ((((s.wr F.FWD_TBL_CMD_TABLE table).wr F.FWD_TBL_CMD_OP op).wr F.FWD_TBL_CMD_CLR_CNT (bit clr)).wr F.FWD_TBL_CMD_WR_COUNT
    (bit wrCount)).wr F.FWD_TBL_KEY_KEY key
  if s.on F.FWD_TBL_STAT_BUSY then s0
  else
    let c := tblRefusal s table op key
    let w := s.tblWords
    if c ≠ 0 then tblDone c s0
    else if op = 4 then
      let k := slice key 16 2
      tblDone 0 ((s0.modPart k fun p => { p with flush := some (key % 2 ^ 15, 0, s.ticks) }).wr (F.FWD_PART_STAT_FLUSHING k) 1)
    else if table < 2 then
      let k := (keyPart s table op key).getD 0
      (s0.modPart k fun p => { p with queue := p.queue ++ [.host table op key w] }).wr F.FWD_TBL_STAT_BUSY 1
    else if op = 1 then tblDone 0 (tblData (s.tblRead table key) s0)
    else if table = 2 then tblDone 0 (writeFlow key clr w s0)
    else if table = 6 then tblDone 0 (writeOwner key wrCount (w.getD 0 0) s0)
    else tblDone 0 (s0.modFwd fun f => { f with waiting := f.waiting ++ [(table, key, smallWord table (w.getD 0 0))] })

/-- A write of table 3, 4, 5 or 7 takes effect (R292). -/
def smallApply (e : Nat × Nat × Nat) (f : Fwd) : Fwd :=
  if e.1 = 3 then { f with domains := SMap.put f.domains e.2.1 e.2.2 }
  else if e.1 = 4 then { f with vlans := SMap.put f.vlans e.2.1 e.2.2 }
  else if e.1 = 5 then { f with pclass := SMap.put f.pclass e.2.1 e.2.2 }
  else { f with pcpMaps := SMap.put f.pcpMaps e.2.1 e.2.2 }

/-- The commit of group 40 + `k` takes effect on the owners (R292). -/
def fwdCommit (k : Nat) (s : State) : State :=
  let upd := fun (o : Nat × Owner) =>
    match o.2.shadow with
    | some l => if ownerGroup o.1 = 40 + k then (o.1, { o.2 with limit := l.1, mode := l.2, shadow := none }) else o
    | none => o
  s.modFwd fun f => { f with owners := f.owners.map upd }

/-- The defaults of F`k`'s learn owners take effect at JOINED: LIMIT and MODE of its commit group, in place of the shadow (R82, R292). -/
def ownerDefaults (k : Nat) (tables : List (Nat × Nat × List Nat)) (s : State) : State :=
  let mine := s.modFwd fun f =>
    { f with owners := f.owners.map fun o => if ownerGroup o.1 = 40 + k then (o.1, { o.2 with shadow := none }) else o }
  (tables.filter fun e => e.1 == 16 && ownerGroup e.2.1 == 40 + k).foldl (fun a e =>
    a.modOwner e.2.1 fun o => { o with limit := slice (e.2.2.getD 0 0) 0 20, mode := slice (e.2.2.getD 0 0) 20 1 }) mine

/-! Flushes (R291). -/

/-- Removes the dynamic entries of an owner from the buckets from `lo` below `hi`. -/
def flushRange (k owner lo hi : Nat) (s : State) : State :=
  let w := s.ways k
  (s.fwd.bridge.filter fun x =>
    decide (2 ^ 22 * k + lo * w ≤ x.1) && decide (x.1 < 2 ^ 22 * k + hi * w) && !x.2.static && !x.2.bad &&
    (ownersOf x.2.owner).contains owner).foldl (fun a x => removeEntry x.1 a) s

/-- The walk of a flush up to a bucket. -/
def flushTo (k hi : Nat) (s : State) : State :=
  match (s.part k).flush with
  | none => s
  | some (o, lo, t) => (flushRange k o lo hi s).modPart k fun p => { p with flush := some (o, max lo hi, t) }

/-- Every running flush at a tick: one bucket per 64 of the 156,250 datapath cycles of a tick, its end being FLUSH_DONE's. -/
def flushTick (s : State) : State :=
  (List.range 4).foldl (fun a k =>
    match (a.part k).flush with
    | none => a
    | some (_, _, t) => if a.partOn k then flushTo k (min (a.buckets k - 1) ((a.ticks - t) * 156250 / 64)) a else a) s

/-- FLUSH_DONE: the walk ends (R291). -/
def flushDone (k : Nat) (s : State) : State :=
  if 4 ≤ k ∨ (s.part k).flush.isNone ∨ ¬ s.partOn k then s
  else
    raise (E.FWD_FLUSH_DONE k)
      (((flushTo k (s.buckets k) s).modPart k fun p => { p with flush := none }).wr (F.FWD_PART_STAT_FLUSHING k) 0)

/-! CHURN (R288 to R290). -/

/-- AGE_S as R288 and FWD_PART_CFG make it act. -/
def State.ageS (s : State) (k : Nat) : Nat :=
  let v := s.rd (F.FWD_PART_CFG_AGE_S k)
  if v = 0 then 0 else clampTo 10 28800 v

/-- CHURN's visit to a bridge entry (R285, R289); an unreadable entry is left. One that a lookup of the visit's own slot has saved keeps HIT
and STALE until the next visit (R294); whether the slots fall together is open. -/
def churnEntry (k key : Nat) (s : State) : State :=
  match s.entry? key with
  | none => s
  | some e =>
    if e.bad then s
    else
      let d := (s.fwdSec + 65536 - e.moveS) % 65536
      let e1 := if d ≤ 60 then e else { e with moves := 0, flap := false }
      if e.static then s.setEntry key (some { e1 with hit := false, stale := false })
      else if e.hit ∧ e.stale ∧ s.fwd.saved.contains key ∧ Config.sameSlot s.fresh then s.draw.setEntry key (some e1)
      else if e.hit then s.setEntry key (some { e1 with hit := false, stale := false })
      else if ¬ e.stale then s.setEntry key (some { e1 with stale := true })
      else if s.ageS k = 0 then s.setEntry key (some e1)
      else (removeEntry key s).sat (F.FWD_LEARN_STAT_AGED k) 1

/-- CHURN's visit to a flow context (R290). -/
def churnFlow (k x : Nat) (s : State) : State :=
  let c := s.flowCtx x
  if c.hit then s.modFlow x fun c => { c with hit := false, stale := false, idle := false }
  else if ¬ c.stale then s.modFlow x fun c => { c with stale := true }
  else if s.ageS k = 0 then s
  else s.modFlow x fun c => { c with idle := true }

/-- The pass of a partition ends when both sweeps have (R288). -/
def churnEnd (k : Nat) (s : State) : State :=
  if (s.part k).bucketsDone ∧ (s.part k).flowsDone then
    raise (E.FWD_CHURN_PASS k)
      ((s.modPart k fun p => { p with bucketsDone := false, flowsDone := false }).wrap (F.FWD_CHURN_STAT_PASSES k) 1)
  else s

/-- CHURN_VISIT: the next flow context, or the next bucket, of a partition; a sweep that has ended waits for the other. -/
def churnVisit (k : Nat) (flow : Bool) (s : State) : State :=
  if 4 ≤ k ∨ ¬ s.partOn k then s
  else if flow then
    if (s.part k).flowsDone then s
    else
      let i := (s.part k).churnFlow
      let s1 := churnFlow k (2 ^ 21 * k + i) s
      churnEnd k (s1.modPart k fun p =>
        { p with churnFlow := if i + 1 = 2 ^ 21 then 0 else i + 1, flowsDone := decide (i + 1 = 2 ^ 21) })
  else if (s.part k).bucketsDone then s
  else
    let b := s.rd (F.FWD_CHURN_STAT_POS k)
    let s1 := ((s.bucketKeys k b).foldl (fun a x => churnEntry k x a) s).modFwd fun f => { f with saved := [] }
    let last := decide (s.buckets k ≤ b + 1)
    churnEnd k ((s1.wr (F.FWD_CHURN_STAT_POS k) (if last then 0 else b + 1)).modPart k fun p => { p with bucketsDone := last })

/-! Reloads, ticks and DRAM errors. -/

/-- F`k` begins DRAINING: the rest of its learning queue is discarded (R296); a host operation in it answers code 4. -/
def fwdDrain (k : Nat) (s : State) : State :=
  let q := (s.part k).queue
  let n := (q.filter fun r => match r with
    | .learn .. => true
    | .host .. => false).length
  let s1 := (s.modPart k fun p => { p with queue := [] }).wr (F.FWD_PART_STAT_QUEUED k) 0
  let s2 := if n < q.length then tblDone 4 s1 else s1
  if n = 0 then s2 else raiseSec (E.FWD_LEARN_DROP k) (s2.sat (F.FWD_ERR_STAT_LEARN_DROP k) n)

/-- Empties a partition's region; the owners' COUNT falls for every dynamic entry (R296). -/
def clearPart (k : Nat) (s : State) : State :=
  (s.fwd.bridge.filter fun x => x.1 / 2 ^ 22 == k).foldl (fun a x => removeEntry x.1 a) s

/-- F`k` loads with a new descriptor in place of an old one: a changed geometry clears the region (R296). -/
def fwdLoading (k : Nat) (old new : TileDesc) (s : State) : State := if old.geometry = new.geometry then s else clearPart k s

/-- F`k` has joined: its geometry and the PARAM resets of FWD_PART_CFG are in force (R274, R472). -/
def fwdJoined (k : Nat) (s : State) : State :=
  let d := s.fwdDesc k
  let s1 := ((s.wr (F.FWD_PART_STAT_BR_LOG2 k) (d.p 0)).wr (F.FWD_PART_STAT_WAYS4 k) (bit (d.p 1 == 4))).wr (F.FWD_CHURN_STAT_POS k) 0
  let s2 := ((s1.wr (F.FWD_PART_CFG_AGE_S k) (d.p 12 + 256 * d.p 13)).wr (F.FWD_PART_CFG_EVICT k) (d.p 2)).wr (F.FWD_PART_CFG_FLAP_TH k)
    (d.p 3)
  cacheDrop k (s2.modPart k fun p => { p with churnFlow := 0, bucketsDone := false, flowsDone := false })

/-- What a tick brings to FWD: HOLD_TICKS, the writes of tables 3, 4, 5 and 7, and flushes. -/
def fwdTick (s : State) : State :=
  let s1 := if s.on F.FWD_HOLD_STAT_HOLDING then s.sat F.FWD_HOLD_STAT_HOLD_TICKS 1 else s
  flushTick (s1.modFwd fun f => { f.waiting.foldl (fun a e => smallApply e a) f with waiting := [], saved := [] })

/-- A ratio of misses per 65,536 lookups in 16 bits. -/
def missRatio (miss look : Nat) : Nat := if look = 0 then 0 else min 65535 (miss * 65536 / look)

/-- FWD_CACHE_STAT at a one-second boundary (R277). -/
def fwdSecond (s : State) : State :=
  ((s.wr F.FWD_CACHE_STAT_BR_MISS (missRatio s.fwd.brMiss s.fwd.brLook)).wr F.FWD_CACHE_STAT_FL_MISS
    (missRatio s.fwd.flMiss s.fwd.flLook)).modFwd fun f => { f with brLook := 0, brMiss := 0, flLook := 0, flMiss := 0 }

/-- DRC reports an uncorrectable error at a device address: a bridge entry there becomes unreadable (R287). -/
def fwdEcc (addr : Nat) (s : State) : State :=
  let r := s.region 4
  match (List.range 4).find? fun k =>
      let ofs := r.base + 65536 * (s.fwdDesc k).geometry.getD 2 0
      s.partOn k && decide (ofs ≤ addr) && decide (addr < ofs + 32 * s.brSize k) with
  | none => s
  | some k =>
    let slot := (addr - r.base - 65536 * (s.fwdDesc k).geometry.getD 2 0) / 32
    let key := 2 ^ 22 * k + slot
    let blank : BEntry := ⟨0, 0, false, 0, 0, 0, 0, false, false, false, 0, 0, 0, true⟩
    let e := match s.entry? key with
      | some e => { e with bad := true }
      | none => blank
    raise (E.FWD_TBL_ECC k)
      (((s.setEntry key (some e)).wr (F.FWD_ECC_LAST_BUCKET k) (slot / s.ways k)).sat (F.FWD_ECC_LAST_COUNT k) 1)

/-! The commands. -/

/-- CELL_ALLOC (R300, R303): an upstream frame's request goes to CPH, a downstream frame to FWD's ingress stage. The upstream request
names the key slot of its terminal and key index (R327). -/
def execCellAlloc (s : State) : Out :=
  .next (s.when s.forwards (allocFrame fun id f t =>
    if f.up then t.modCph fun c =>
      { c with waiting := c.waiting ++ [{ prio := 1, slot := 2 * (512 * (f.src - 16) + f.term) + f.key % 2, blocks := (f.len + 15) / 16,
                                          sfc := f.sfc, frame := id, flow := 0, tag := 0, mode := 0, decrypt := true, htag := 0,
                                          len := f.len, src := 0, dst := 0, iv := 0, icb := Config.payloadBlock true f.sfc f.pos, job := .data }]
               demand := c.demand + (f.len + 15) / 16 }
    else t.modFwd fun w => { w with ingress := w.ingress ++ [id] }))

/-- FRAME_LOOKUP (R272). -/
def execFrameLookup (hold : Bool) (brNs flNs : List Nat) (s : State) : Out :=
  .next (s.when s.forwards (frameLookup hold brNs flNs))
/-- LEARN_COMMIT (R284). -/
def execLearnCommit (k : Nat) (s : State) : Out := .next (s.when s.works (learnCommit k))
/-- CHURN_VISIT (R289). -/
def execChurnVisit (k : Nat) (flow : Bool) (s : State) : Out := .next (s.when s.works (churnVisit k flow))
/-- FLUSH_DONE (R291). -/
def execFlushDone (k : Nat) (s : State) : Out := .next (s.when s.works (flushDone k))

end Sys2Proof.Machine
end

