-- ==== Sys2Proof/Machine/Cipher.lean ====
section
/-! DEFINITION. Machine/Cipher.lean: CPH (R324 to R348): the key store, requests and lanes, host requests with the modes of Aes.lean, the
key-import path, key switches, and the prefetch of downstream payload (R154, R315, R327). -/
namespace Sys2Proof.Machine

def State.kslot (s : State) (k : Nat) : KeySlot := SMap.getD s.cph.slots k KeySlot.initial
def State.modKey (k : Nat) (g : KeySlot → KeySlot) (s : State) : State :=
  s.modCph fun c => { c with slots := SMap.put c.slots k (g (s.kslot k)) }
/-- Terminal `x` is 512 × tree + terminal. -/
def State.kterm (s : State) (x : Nat) : KeyTerm := SMap.getD s.cph.terms x KeyTerm.initial
def State.modKterm (x : Nat) (g : KeyTerm → KeyTerm) (s : State) : State :=
  s.modCph fun c => { c with terms := SMap.put c.terms x (g (s.kterm x)) }

/-! Slot numbers (R324). -/
def slotTerm (tree term index : Nat) : Nat := 2 * (512 * tree + term) + index
def slotGroup (b index : Nat) : Nat := 32768 + 2 * b + index
def slotAuth (a : Nat) : Nat := 36864 + a
def isTermSlot (k : Nat) : Bool := decide (k < 32768)
def isGroupSlot (k : Nat) : Bool := decide (32768 ≤ k) && decide (k < 36864)
def isRootSlot (k : Nat) : Bool := decide (36864 ≤ k) && decide (k < 36868)
def isAuthSlot (k : Nat) : Bool := decide (36864 ≤ k) && decide (k < 37120)

/-- Fields of a binding's word (CPH_BIND). -/
def bindValid (w : Nat) : Bool := hasBit w 0
def bindClear (w : Nat) : Bool := hasBit w 1
def bindTree (w : Nat) : Nat := slice w 2 5
def bindTport (w : Nat) : Nat := slice w 7 16
def bindIndex (w : Nat) : Nat := slice w 23 1

/-- The tree whose superframe counter a slot follows; none for authentication slots. -/
def State.slotTree (s : State) (k : Nat) : Option Nat :=
  if k < 32768 then some (k / 1024)
  else if k < 36864 then some (bindTree (SMap.getD s.cph.binds ((k - 32768) / 2) 0))
  else none

/-! Lanes (R328, R329, R34). -/

/-- HOST_LANES, where 0 acts as 1 and values above 16 as 16. -/
def State.hostLanes (s : State) : Nat := clampTo 1 16 (s.rd F.CPH_CFG_HOST_LANES)
/-- KS_LOG2 within 10 to 15. -/
def State.ksLog2 (s : State) : Nat := clampTo 10 15 (s.rd F.CPH_CFG_KS_LOG2)
/-- The posture in force is GUARDED (R330). -/
def State.guarded (s : State) : Bool := s.on F.CPH_CFG_POSTURE

/-- Per-tick cipher demand, in blocks, lies above `pct` percent of the capacity of 128 lanes (R34, R331). -/
def aboveCapacity (s : State) (blocks pct : Nat) : Bool :=
  decide (128 * 156250 * pct < 100 * blocks * (if s.guarded then 12 else 10))

/-- Lanes at a tick (R34, R329): a tick above 95 % of 128 lanes brings BALANCED 256. -/
def laneTick (s : State) : State :=
  let d := s.cph.demand
  let s1 := s.modCph fun c =>
    { c with demand := 0, peakNow := max c.peakNow d, wide := aboveCapacity s d 95 || c.wide, seqs := [], keyRaised := false, cut := 0 }
  (showLanes s1).wr F.CPH_LANE_STAT_POSTURE (bit s.guarded)

/-- Lanes at a one-second boundary (R34): a second whose ticks all stayed at 90 % of 128 lanes brings 128 lanes to BALANCED. -/
def laneSecond (s : State) : State :=
  showLanes (s.modCph fun c => { c with peakNow := 0, wide := aboveCapacity s c.peakNow 90 })

/-! Checks (R333, R336, R337). -/

/-- A request's superframe counter lies before the boundary that ended the previous key (R340). -/
def usesPrev (x : KeySlot) (sfc : Nat) : Bool :=
  match x.prev with
  | some (_, b, _) => behind 51 sfc b
  | none => false

/-- A request counts upstream: only upstream payload does (R337). -/
def CipherReq.us (r : CipherReq) : Bool := r.prio == 1

/-- Whose key a request that runs has copied, seen from the slot as it is now: the current one, the previous one, or one that is gone. A key that
takes effect meanwhile makes the copy one of the previous key (R340, R348). -/
def CipherRun.ofKey (r : CipherRun) (x : KeySlot) (prev : Bool) : Bool :=
  if prev then (r.gen + bit (!r.prev)) % 2 ^ 32 == x.gen else !r.prev && r.gen == x.gen

/-- Blocks that requests in the lanes hold against a counter. -/
def inFlight (s : State) (k : Nat) (us prev : Bool) : Nat :=
  (s.cph.running.filter fun r => r.req.slot == k && r.req.us == us && r.ofKey (s.kslot k) prev).foldl (fun a r => a + r.req.blocks) 0

/-- Blocks already processed under a key in a direction. -/
def KeySlot.used (x : KeySlot) (us prev : Bool) : Nat :=
  if us then (if prev then x.prevUs else x.useUs) else (if prev then x.prevDs else x.useDs)

/-- State, use and age of the slot: codes 5, 6, 7 and 8. -/
def slotCheck (s : State) (r : CipherReq) : Nat :=
  let x := s.kslot r.slot
  let prev := decide (r.prio < 3) && usesPrev x r.sfc
  if x.state < 2 then 5
  else if x.state = 3 then 6
  else if 2 ^ 32 < x.used r.us prev + inFlight s r.slot r.us prev + r.blocks ∨ 2 ^ 32 ≤ x.used r.us prev then 7
  else match s.slotTree r.slot with
    | none => 0
    | some n => if 2 ^ 50 ≤ (s.rd (F.FRM_SFC_SFC n) + 2 ^ 51 - x.loadSfc) % 2 ^ 51 then 8 else 0

/-- A run of device addresses lies in the host area: in no region that GLOBAL places (R437). -/
def Partition.hostArea (p : Partition) (a len : Nat) : Bool :=
  decide (a + len ≤ 2 ^ 35) && (p.image :: p.others).all fun r => decide (a + len ≤ r.base) || decide (r.base + r.len ≤ a)

/-- The code of R333 for a request; 0 when it may run. A request of FRM uses a session record and no slot; an import is judged by R338, and here
only by the use of its wrapping slot's key (R337). -/
def checkReq (s : State) (r : CipherReq) : Nat :=
  if r.prio = 3 then 0
  else if r.prio = 4 then (let c := slotCheck s r; if c = 7 ∨ c = 8 then c else 0)
  else if 37119 < r.slot then 10
  else if r.prio ≠ 5 then (if r.len = 0 ∨ 16384 < r.len then 1 else slotCheck s r)
  else if r.mode = 0 ∨ 4 < r.mode then 13
  else if isRootSlot r.slot ∨ ((s.kslot r.slot).key.isSome ∧ ¬ (s.kslot r.slot).data) then 9
  else if r.mode = 1 ∧ (r.len = 0 ∨ 16384 < r.len) then 1
  else if (r.mode = 2 ∨ r.mode = 3) ∧ r.len % 16 ≠ 0 then 2
  else if (r.mode = 2 ∨ r.mode = 3) ∧ (r.len < 16 ∨ 65536 < r.len) then 3
  else if r.mode = 4 ∧ 65536 < r.len then 4
  else if ¬ s.partn.hostArea r.src r.len ∨ (r.mode ≠ 4 ∧ ¬ s.partn.hostArea r.dst r.len) then 12
  else slotCheck s r

/-! Results of host requests. -/

/-- Shows the oldest result (CPH_HREQ_RESULT). -/
def showResult (s : State) : State :=
  let r := s.cph.results.headD ⟨0, 0, 0⟩
  ((s.wr F.CPH_HREQ_RESULT_TAG r.tag).wr F.CPH_HREQ_RESULT_VALID (bit !s.cph.results.isEmpty)).wr F.CPH_HREQ_RESULT_CODE r.code

/-- Queues a result with REQ_DONE. -/
def pushResult (r : HostResult) (s : State) : State :=
  raise E.CPH_REQ_DONE (showResult (s.modCph fun c => { c with results := c.results ++ [r] }))

/-- A read of CPH_HREQ_RESULT (R333): a valid result is removed and its value loaded. -/
def readResult (p : Path) (s : State) : State :=
  match s.cph.results with
  | [] => answer p 0 s
  | r :: rest =>
    let s1 := answer p (r.tag + 2 ^ 16 + r.code * 2 ^ 17) s
    let s2 := (s1.wr (F.CPH_HREQ_OUT_OUT 0) (r.out % 2 ^ 64)).wr (F.CPH_HREQ_OUT_OUT 1) (r.out / 2 ^ 64)
    showResult (s2.modCph fun c => { c with results := rest })

/-! Refusals (R333, R347). -/

/-- One copy of a frame is dropped: its owner's free is made at once (R333). -/
def dropCopy (id tag : Nat) (s : State) : State :=
  if (s.frame id).isNone then s else cellFree id tag (s.when (s.lastTag id == some tag) (endFollowed id true))

/-- A host import ends with a code (R338): the blob is cleared. -/
def importEnds (code : Nat) (s : State) : State :=
  let s0 := (s.modCph fun c => { c with imp := none }).wr F.CPH_IMPORT_STAT_BUSY 0
  let s1 := (List.range 3).foldl (fun a j => a.wr (F.CPH_IMPORT_BLOB_BLOB j) 0) (s0.wr F.CPH_IMPORT_STAT_CODE code)
  if code = 0 then s1 else raise E.CPH_IMPORT_REFUSED (s1.sat F.CPH_IMPORT_STAT_REFUSED 1)

/-- A request is refused whole (R333). An import whose wrapping slot's key may not be used ends with code 2. -/
def refuseReq (code : Nat) (r : CipherReq) (s : State) : State :=
  let s0 := s.sat (F.CPH_ERR_CNT_COUNT code) 1
  if r.prio = 1 then
    let n := r.slot / 1024
    let s1 := dropFrame r.frame (s0.wrap F.CPH_PAYLOAD_DROP_US 1)
    raiseSec E.CPH_PAYLOAD_DROP (if code = 5 then setDefect n (r.slot / 2 % 512) 6 true s1 else s1)
  else if r.prio = 2 then
    let n := r.flow / 2 ^ 18
    let s1 := s0.modTmg fun t =>
      { t with out := SMap.put t.out n ((SMap.getD t.out n []).filter fun e => !(e.id == r.frame && e.tag == r.tag)) }
    raiseSec E.CPH_PAYLOAD_DROP (dropCopy r.frame r.tag (s1.wrap F.CPH_PAYLOAD_DROP_DS 1))
  else if r.prio = 4 then importEnds 2 s0
  else raiseSec E.CPH_REQ_REFUSED (pushResult ⟨r.htag, code, 0⟩ s0)

/-- The next request for a lane (R328): the oldest of the highest priority; in fixed rotation, the oldest, while C0 loads (R83).
A host request waits while its share of lanes is taken. -/
def nextReq (s : State) : Option CipherReq :=
  let host := (s.cph.running.filter fun r => r.req.prio == 5).length
  let l := s.cph.waiting.filter fun r => r.prio != 5 || decide (host < s.hostLanes)
  if s.carries 46 then
    let top := l.foldl (fun a r => min a r.prio) 9
    l.find? fun r => r.prio == top
  else l.head?

/-- The encryption of a downstream frame is complete, or it needs none: stage 4 (R154). -/
def payloadDone (n id tag : Nat) (s : State) : State :=
  let f := s.frame id
  (passCopy id tag false 4 ((f.map Frame.dnIndex).getD 32) s).modTmg fun t =>
    { t with out := SMap.put t.out n ((SMap.getD t.out n []).map fun e => if e.id == id && e.tag == tag then { e with done := true } else e) }

/-- The use counters advance, with their warning and limit (R337): those of the key that the request has copied (R348). -/
def countUse (r : CipherRun) (s : State) : State :=
  let k := r.req.slot
  let us := r.req.us
  let x := s.kslot k
  let prev := r.ofKey x true
  let old := x.used us prev
  let new := old + r.req.blocks
  if r.req.prio = 3 ∨ ¬ (prev ∨ r.ofKey x false) then s
  else if prev then s.modKey k fun x => if us then { x with prevUs := new } else { x with prevDs := new }
  else
    let b := if us then 2 else 0
    let warn := decide (2 ^ 31 ≤ new) && !hasBit x.raised b
    let lim := decide (2 ^ 32 ≤ new) && !hasBit x.raised (b + 1)
    let r1 := if warn then withBit x.raised b else x.raised
    let r2 := if lim then withBit r1 (b + 1) else r1
    let s1 := s.modKey k fun x => if us then { x with useUs := new, raised := r2 } else { x with useDs := new, raised := r2 }
    let note := fun (l : Bool) (t : State) =>
      (((t.wr F.CPH_WARN_LAST_SLOT k).wr F.CPH_WARN_LAST_DIR (bit us)).wr F.CPH_WARN_LAST_LIMIT (bit l)).wr F.CPH_WARN_LAST_FRAME t.frame16
    (s1.when warn fun t => raise E.CPH_KEY_USE_WARN (note false t)).when lim fun t => raise E.CPH_KEY_USE_LIMIT (note true t)

/-- The output of a host request: its data, and the value and code that it returns (R335). -/
def hostOutput (key : List Nat) (r : CipherReq) (data : List Nat) : Option (List Nat) × Nat × Nat :=
  let iv := if r.decrypt then r.iv else blockNat (aesEnc key (block16 r.icb))
  if r.mode = 1 then
    let c := if r.decrypt then r.iv else r.icb
    (some (ctrMode key c data), c, 0)
  else if r.mode = 2 then (some (if r.decrypt then cbcDec key (block16 iv) data else cbcEnc key (block16 iv) data), iv, 0)
  else if r.mode = 3 then (some (if r.decrypt then cfbDec key (block16 iv) data else cfbEnc key (block16 iv) data), iv, 0)
  else
    let t := blockNat (cmac key data)
    (none, t, if r.decrypt ∧ t ≠ r.iv then 14 else 0)

/-- A host request's last block is output. Its accesses to DRAM are requester 10's (R352, R360). -/
def hostDone (r : CipherRun) (s : State) : State :=
  let q := r.req
  let g := dramGet 10 q.src q.len s
  let o := hostOutput r.key q g.1
  let s1 := match o.1 with
    | none => g.2
    | some d => dramPut 10 (bytesAt q.dst d) g.2
  pushResult ⟨q.htag, o.2.2, o.2.1⟩ s1

/-- A host request's data lies in a segment that waits to be zeroed (R361). -/
def State.heldReq (s : State) (q : CipherReq) : Bool :=
  q.prio == 5 && s.zeroing q.src q.len

/-! Downstream payload (R327, R315). -/

/-- The key index in force for a downstream frame of a superframe counter: a switch that waits applies from the frame of its boundary on, for
which payload is dequeued in the frame before (R341). -/
def State.indexAt (s : State) (sfc now : Nat) (switch : Option Nat) : Nat := if sfc % 2 ^ s.ksLog2 = 0 then switch.getD now else now

/-- The DS_INDEX that waits for a binding: the last one written for it, which the next tick brings, else the one of an earlier tick (R341). -/
def State.bindNext (s : State) (b : Nat) : Option Nat :=
  let old := SMap.getD s.cph.binds b 0
  match (s.cph.bindWr.filter fun e => e.1 == b && !e.2.2).getLast? with
  | some e =>
    if bindValid e.2.1 ∧ bindTree old = bindTree e.2.1 ∧ bindTport old = bindTport e.2.1 then some (bindIndex e.2.1)
    else SMap.find? s.cph.bindSwitch b
  | none => SMap.find? s.cph.bindSwitch b

/-- What a downstream frame of a flow, sent in the frame of a superframe counter, is sent under (R327, R341): none for a CLEAR binding,
otherwise a slot. -/
def dsSlot (s : State) (flow sfc : Nat) : Option Nat :=
  let tree := flow / 2 ^ 18
  let tport := slice flow 2 16
  match List.find? (fun b => bindValid b.2 && bindTree b.2 == tree && bindTport b.2 == tport) s.cph.binds with
  | some b => if bindClear b.2 then none else some (slotGroup b.1 (s.indexAt sfc (bindIndex b.2) (s.bindNext b.1)))
  | none =>
    let t := (s.flowCtx flow).terminal
    let k := s.kterm (512 * tree + t)
    some (slotTerm tree t (s.indexAt sfc k.dsIndex k.switch))

/-- Bytes of the frames dequeued so far for a tree's next downstream frame. -/
def State.outBytes (s : State) (n : Nat) : Nat :=
  (SMap.getD s.tmg.out n []).foldl (fun a e => a + ((s.frame e.id).map Frame.len).getD 0) 0

/-- A frame dequeued for the next downstream frame of a tree goes to CPH, with the counter of the frame in which it is sent and the place it
takes there (R334). -/
def sendDequeued (n id flow tag pass : Nat) (s : State) : State :=
  let len := (((s.frame id).map Frame.len).getD 0)
  let sfc := (s.rd (F.FRM_SFC_SFC n) + 1) % 2 ^ 51
  let icb := Config.payloadBlock false sfc (s.outBytes n + (s.ttree n).carry)
  let out := fun (i : Option Nat) (t : State) => t.modTmg fun m =>
    { m with out := SMap.put m.out n (SMap.getD m.out n [] ++ [⟨id, flow, tag, pass, i, false⟩]) }
  match dsSlot s flow sfc with
  | none => payloadDone n id tag (out none s)
  | some k =>
    let b := (len + 15) / 16
    (out (some icb) s).modCph fun c =>
      { c with waiting := c.waiting ++ [{ prio := 2, slot := k, blocks := b, sfc := sfc, frame := id,
                                          flow := flow, tag := tag, mode := 1, decrypt := false, htag := 0, len := len, src := 0, dst := 0,
                                          iv := 0, icb := icb, job := .data }]
               demand := c.demand + b }

/-- Payload bytes that the next downstream frame of a tree has for frames that start in it: what FRM leaves beside the header, the map and the
messages, less what runs on from the frame before and what is dequeued already (R315). -/
def State.payloadRoom (s : State) (n : Nat) : Nat :=
  Config.frameRoom (s.rd (F.TPA_STAT_RATE_CLASS n)) (s.tree n).standby.length (s.tree n).sel.length - (s.ttree n).carry - s.outBytes n

/-- PAYLOAD_PREFETCH: TMG dequeues for the next frame of a tree, up to the payload bytes that FRM leaves in it and to what its row asks for (R154,
R315, R316), once its LEAD_TICKS fill frames are over (R132). -/
def prefetch (n budget : Nat) (s : State) : State :=
  if 32 ≤ n ∨ ¬ s.serving n ∨ ¬ s.halfOn n ∨ (s.tree n).handed then s
  else
    let cut := (s.rd (F.FRM_SFC_SFC n) + 1) % 2 ^ s.ksLog2 == 0
    fillFrame (sendDequeued n) n (s.queuedFor n + 2) 1 ((min budget (s.payloadRoom n) : Nat) : Int)
      (s.when cut (State.modCph fun c => { c with cut := withBit c.cut n }))

/-- Of frames dequeued, in their order, those that the frame takes and those that missed it: frames of one queue leave in their order (R312),
so one behind a frame of its queue whose encryption is not complete misses it as well. -/
def partOut : List OutFrame → List Nat → List OutFrame × List OutFrame
  | [], _ => ([], [])
  | e :: l, held =>
    if e.done && !held.contains e.tag then (let r := partOut l held; (e :: r.1, r.2))
    else (let r := partOut l (e.tag :: held); (r.1, e :: r.2))

/-- A frame that missed its downstream frame goes back to the head of its queue, and its charges are taken back (R157). -/
def requeue (n : Nat) (e : OutFrame) (s : State) : State :=
  let f := s.frame e.id
  let len := ((f.map Frame.len).getD 0 : Nat)
  (chargeSent n (s.tqueue e.tag).term e.tag e.pass (-(len : Int)) s).modQueue e.tag fun x =>
    { x with frames := (e.id, e.flow) :: x.frames, depth := x.depth + (f.map fun f => f.cells.length).getD 0 }

/-- Payload that missed its frame stays queued in TMG for later frames (R16, R157): what still waits for a lane waits no longer, and the result of
what holds one is not used. -/
def missFrame (n : Nat) (l : List OutFrame) (s : State) : State :=
  let hit := fun (r : CipherReq) => r.prio == 2 && l.any fun e => e.id == r.frame && e.tag == r.tag
  (l.foldr (requeue n) s).modCph fun c =>
    { c with waiting := c.waiting.filter fun r => !hit r
             running := c.running.map fun r => if hit r.req then { r with missed := true } else r }

/-- A frame as the downstream frame carries it (R278, R334). -/
def State.sentAs (s : State) (e : OutFrame) (f : Frame) : SentFrame :=
  let g := (s.flowCtx e.flow).downTag f
  ⟨e.flow, g.dst, g.smac, g.tagged, g.vid, g.pcp, g.len, g.inner, e.icb⟩

/-- The payload of the next frame of a tree as FRM hands it off (R154, R157): what is encrypted by now goes with it, and the rest misses it. A
frame that does not fit runs on into the frame after (R315). -/
def loadPayload (n : Nat) (s : State) : State :=
  let t := s.tree n
  if ¬ s.sending n ∨ t.handed ∨ ¬ (t.frozen ∨ t.late) then s
  else
    let r := partOut (SMap.getD s.tmg.out n []) []
    let sent := r.1.filterMap fun e => (s.frame e.id).map (s.sentAs e)
    let s1 := (missFrame n r.2 s).modTmg fun m => { m with out := SMap.put m.out n r.1 }
    let bytes := (sent.map SentFrame.len).foldl (· + ·) 0
    let room := Config.frameRoom (s.rd (F.TPA_STAT_RATE_CLASS n)) t.standby.length t.sel.length
    (s1.modTTree n fun x => { x with carry := x.carry + bytes - room }).modTree n fun t => { t with payload := bytes, ready := sent }

/-- Payload that FRM took for the next frame of a tree misses it: its encryption is not complete by the hand-off (R16, R157). -/
def State.falls (s : State) (n : Nat) : Bool := !(partOut (SMap.getD s.tmg.out n []) []).2.isEmpty

/-- What the payload handed off leaves of the next frame (R157, R315). -/
def State.restOf (s : State) (n : Nat) : Nat :=
  Config.frameRoom (s.rd (F.TPA_STAT_RATE_CLASS n)) (s.tree n).standby.length (s.tree n).sel.length - (s.ttree n).carry -
    ((loadPayload n s).tree n).payload

/-- FRAME_HANDOFF (R154, R157): `idle` bytes of idle framing, `short` when payload fell short of the lead. It falls short as well where payload missed
the frame, and while the tree's half loads (R316): idle framing then fills the rest of the frame. -/
def frameOut (n idle : Nat) (short : Bool) (s : State) : State :=
  let low := short || s.falls n || (s.serving n && !s.halfOn n)
  handOff n (if low then s.restOf n else min idle (s.restOf n)) low (loadPayload n s)

/-- Frames that the frame handed to TPA carries have left by the tick: stages 5 and 6, and the frees owed (R310, R459). Those of a frame that was
not handed off stay queued, and count as missed (R16, R157). -/
def outTick (n : Nat) (s : State) : State :=
  let l := SMap.getD s.tmg.out n []
  if ¬ (s.tree n).handed then
    ((missFrame n l s).modTmg fun t => { t with out := SMap.del t.out n }).when (!l.isEmpty && s.sending n) (countUnderrun n)
  else
    (l.foldl (fun a e =>
      let b := passCopy e.id e.tag false 6 n (passCopy e.id e.tag false 5 n a)
      let c := if b.lastTag e.id = some e.tag then
          endFollowed e.id false b
        else b
      oweFree e.id e.tag c) s).modTmg fun t => { t with out := SMap.del t.out n }

/-! Host requests (R333, R335). -/

/-- START_ID (R335): START_NO of this start, or the value RIND drew. -/
def State.startIdNow (s : State) : Nat := (s.cph.startId).getD (s.rd F.CFG_JNL_STAT_START_NO)

/-- The counter block that CPH generates (R335). -/
def counterBlock (s : State) (a seq : Nat) : Nat :=
  s.startIdNow % 2 ^ 32 * 2 ^ 96 + s.ticks % 2 ^ 48 * 2 ^ 48 + a * 2 ^ 40 + seq * 2 ^ 16

/-- CPH_HREQ_CMD with GO: queued, 16 deep, or refused with code 11 (R333, R335). -/
def hostReq (mode : Nat) (decrypt : Bool) (a tag len : Nat) (s : State) : State :=
  let s0 := ((((s.wr F.CPH_HREQ_CMD_MODE mode).wr F.CPH_HREQ_CMD_DECRYPT (bit decrypt)).wr F.CPH_HREQ_CMD_SLOT a).wr
    F.CPH_HREQ_CMD_TAG tag).wr F.CPH_HREQ_CMD_LEN len
  let seq := SMap.getD s.cph.seqs a 0
  let blocks := if mode = 4 then max 1 ((len + 15) / 16) else (len + 15) / 16
  let r : CipherReq :=
    { prio := 5, slot := slotAuth a, blocks := blocks, sfc := 0, frame := 0, flow := 0, tag := 0, mode := mode, decrypt := decrypt,
      htag := tag, len := len, src := 64 * s.rd F.CPH_HREQ_SRC_ADDR, dst := 64 * s.rd F.CPH_HREQ_DST_ADDR,
      iv := s.rd (F.CPH_HREQ_IV_IV 0) + 2 ^ 64 * s.rd (F.CPH_HREQ_IV_IV 1), icb := counterBlock s a seq, job := .data }
  if 16 ≤ (s.cph.waiting.filter fun q => q.prio == 5).length ∨ 65536 ≤ seq then refuseReq 11 r s0
  else s0.modCph fun c => { c with waiting := c.waiting ++ [r], seqs := SMap.put c.seqs a (seq + 1), demand := c.demand + blocks }

/-! Keys take effect (R339, R340, R344). -/

/-- A key takes effect in a slot at a superframe counter. -/
def takeKey (k : Nat) (key : List Nat) (data : Bool) (sfc : Nat) (s : State) : State :=
  mirrorSend (s.slotTree k) (s.modKey k fun x =>
    { x with
      state := 2, key := some key, staged := none, data := data
      prev := x.key.map fun o => (o, sfc, s.ticks)
      prevDs := x.useDs, prevUs := x.useUs
      gen := (x.gen + 1) % 2 ^ 32, loadSfc := sfc, useDs := 0, useUs := 0, raised := 0 })

/-- KEY_ACTIVE, at most once per tick. -/
def keyActive (s : State) : State :=
  if s.cph.keyRaised then s else raise E.CPH_KEY_ACTIVE (s.modCph fun c => { c with keyRaised := true })

/-- SESSION and AUTH imports of the tick (R339). -/
def dueImports (s : State) : State :=
  s.cph.due.foldl (fun a e =>
    if e.1.typ = 1 then
      a.modKterm (e.1.slot / 2) fun t => { t with session := some e.2, mik := some (Config.mikOf e.2), kek := some (Config.kekOf e.2) }
    else if (a.kslot e.1.slot).staged.isSome then keyActive (takeKey e.1.slot e.2 e.1.data 0 a)
    else a) (s.modCph fun c => { c with due := [] })

/-- The key-switch boundary of a tree (R339, R341). -/
def boundary (n : Nat) (s : State) : State :=
  let sfc := s.rd (F.FRM_SFC_SFC n)
  if ¬ (s.tree n).sfcOn ∨ sfc % 2 ^ s.ksLog2 ≠ 0 then s
  else
    let s1 := (s.cph.slots.filter fun e => s.slotTree e.1 == some n && e.2.staged.isSome && decide (e.2.state < 3)).foldl
      (fun a e => keyActive (takeKey e.1 (e.2.staged.getD []) false sfc a)) s
    let moved := s1.cph.terms.any (fun t => t.1 / 512 == n && t.2.switch.isSome)
    let turnTerm := fun (t : Nat × KeyTerm) =>
      if t.1 / 512 == n then (t.1, { t.2 with dsIndex := t.2.switch.getD t.2.dsIndex, switch := none }) else t
    let turnBind := fun (b : Nat × Nat) =>
      match SMap.find? s1.cph.bindSwitch b.1 with
      | some i => if bindTree b.2 = n then (b.1, (if i = 1 then withBit else noBit) b.2 23) else b
      | none => b
    let s2 := s1.modCph fun c =>
      { c with terms := c.terms.map turnTerm, binds := c.binds.map turnBind,
               bindSwitch := c.bindSwitch.filter fun b => bindTree (SMap.getD c.binds b.1 0) != n }
    if moved then mirrorSend (some n) s2 else s2

/-- A binding write takes effect (R327, R341): a changed DS_INDEX of a binding in use waits for its boundary. -/
def bindApply (b w : Nat) (s : State) : State :=
  let old := SMap.getD s.cph.binds b 0
  let same := bindValid old && bindValid w && bindTree old == bindTree w && bindTport old == bindTport w
  if same ∧ bindIndex old ≠ bindIndex w then
    s.modCph fun c =>
      { c with binds := SMap.put c.binds b ((if bindIndex old = 1 then withBit else noBit) w 23),
               bindSwitch := SMap.put c.bindSwitch b (bindIndex w) }
  else s.modCph fun c => { c with binds := SMap.put c.binds b w, bindSwitch := SMap.del c.bindSwitch b }

/-- What a tick brings to CPH. What asked for an index after payload of the boundary frame was dequeued waits for the boundary after (R341). -/
def cphTick (s : State) : State :=
  let early := s.cph.bindWr.filter fun e => !e.2.2
  let late := s.cph.bindWr.filter fun e => e.2.2
  let s1 := early.foldl (fun a e => bindApply e.1 e.2.1 a) (s.modCph fun c => { c with bindWr := [] })
  let s2 := (List.range 32).foldl (fun a n => boundary n a) (dueImports (laneTick s1))
  let s3 := s2.modCph fun c =>
    { c with terms := c.terms.map fun t => (t.1, { t.2 with switch := t.2.later.or t.2.switch, later := none }) }
  late.foldl (fun a e => bindApply e.1 e.2.1 a) s3

/-! The key-import path (R338). -/

/-- GO of CPH_IMPORT_CMD; ignored while BUSY. The unwrapping is a request of priority 4 (R328), of 12 blocks: RFC 3394 runs six rounds over the two
halves of the key. -/
def startImport (typ slot wrap : Nat) (data : Bool) (s : State) : State :=
  if s.on F.CPH_IMPORT_STAT_BUSY then s
  else
    ((((((s.wr F.CPH_IMPORT_CMD_SLOT slot).wr F.CPH_IMPORT_CMD_TYPE typ).wr F.CPH_IMPORT_CMD_WRAP wrap).wr F.CPH_IMPORT_CMD_KIND
      (bit data)).wr F.CPH_IMPORT_STAT_BUSY 1)).modCph fun c =>
      { c with imp := some ⟨typ, slot, wrap, data⟩, demand := c.demand + 12
               waiting := c.waiting ++ [{ prio := 4, slot := slotAuth wrap, blocks := 12, sfc := 0, frame := 0, flow := 0, tag := 0, mode := 0,
                                          decrypt := true, htag := 0, len := 24, src := 0, dst := 0, iv := 0, icb := 0, job := .unwrap }] }

/-- The target's kind matches the TYPE. -/
def kindMatches (typ k : Nat) : Bool :=
  if typ = 1 ∨ typ = 2 then isTermSlot k else if typ = 3 then isGroupSlot k else if typ = 4 then isAuthSlot k else false

/-- The 24 bytes of CPH_IMPORT_BLOB. -/
def State.blob (s : State) : List Nat := (List.range 3).flatMap fun i => leNats 8 (s.rd (F.CPH_IMPORT_BLOB_BLOB i))

/-- The WRAP key of a slot, none where it is not ACTIVE with KIND WRAP (R338). -/
def State.wrapKey (s : State) (k : Nat) : List Nat :=
  if (s.kslot k).state = 2 ∧ ¬ (s.kslot k).data then (s.kslot k).key.getD [] else []

/-- The code that refuses a host import under a wrapping key before its blob is unwrapped; 0 where it goes on (R338). -/
def importCode (s : State) (i : KeyImport) (key : List Nat) : Nat :=
  if 37119 < i.slot then 8
  else if isRootSlot i.slot then 5
  else if ¬ kindMatches i.typ i.slot then 4
  else if key.isEmpty then 2
  else if (s.kslot i.slot).state = 3 then 3
  else if (s.kslot i.slot).staged.isSome then 7
  else 0

/-- The outcome of a host import under the key that its request has copied: a refusal code, or the key (R338). -/
def importOutcome (s : State) (i : KeyImport) (key : List Nat) : Nat × List Nat :=
  if importCode s i key ≠ 0 then (importCode s i key, [])
  else match unwrapKey key s.blob with
    | none => (1, [])
    | some k => (0, k)

/-- Stages a key: an EMPTY slot becomes PENDING (R339). -/
def stageKey (k : Nat) (key : List Nat) (s : State) : State :=
  s.modKey k fun x => { x with staged := some key, state := if x.state = 0 then 1 else x.state }

/-- A host import finishes (R338, R339). -/
def finishImport (key : List Nat) (s : State) : State :=
  match s.cph.imp with
  | none => s
  | some i =>
    let o := importOutcome s i key
    let s1 := importEnds o.1 s
    if o.1 ≠ 0 then s1
    else
      let s2 := if i.typ = 1 then s1.modCph fun c => { c with due := c.due ++ [(i, o.2)] }
        else if i.typ = 4 then (stageKey i.slot o.2 s1).modCph fun c => { c with due := c.due ++ [(i, o.2)] }
        else stageKey i.slot o.2 s1
      let s3 := if i.typ = 2 then setDefect (i.slot / 1024) (i.slot / 2 % 512) 6 false s2 else s2
      raise E.CPH_IMPORT_DONE s3

/-- A Key_Report that CPH refuses (R338). -/
def reportRefused (s : State) : State := raise E.CPH_IMPORT_REFUSED (s.sat F.CPH_IMPORT_STAT_REFUSED 1)

/-- The code that refuses a Key_Report for a slot, 0 where it is taken (R338). -/
def reportCode (n term k : Nat) (s : State) : Nat :=
  if (s.kterm (512 * n + term)).session.isNone then 6
  else if (s.kslot k).state = 3 then 3
  else if (s.kslot k).staged.isSome then 7
  else 0

/-- A Key_Report's key field reaches CPH (R161, R338): the code, and the state with the refusal counted, or with the request of priority 3 for its
decryption (R328). -/
def keyReport (n term index : Nat) (body : List Nat) (w : Win) (s : State) : Nat × State :=
  let s0 := s.modKterm (512 * n + term) fun t => { t with rekey := none }
  let c := reportCode n term (slotTerm n term index) s
  if c ≠ 0 then (c, reportRefused s0)
  else
    (0, s0.modCph fun c =>
      { c with demand := c.demand + 1
               waiting := c.waiting ++ [{ messageReq with blocks := 1, job := .report n term index ((body.drop Config.keyField.1).take 16) w }] })

/-- A Key_Report whose key field has gone to CPH is refused after all (R338): KEY_ERR counts in the second in which the window of its burst
closes (R170), and the KEY defect rises (R168). -/
def reportLost (n term : Nat) (w : Win) (s : State) : State :=
  setDefect n term 6 true (countWithin n w pmKeyErr (reportRefused s))

/-- The decryption of a Key_Report is complete: the key is staged (R338), unless meanwhile the slot cannot take it. -/
def reportDone (n term index : Nat) (field : List Nat) (w : Win) (key : List Nat) (s : State) : State :=
  let k := slotTerm n term index
  if (s.kslot k).state = 3 ∨ (s.kslot k).staged.isSome then reportLost n term w s
  else setDefect n term 6 false (stageKey k (aesDec key field) s)

/-- R338 refuses a request whose turn for a lane has come: the session record of a Key_Report is gone, or the import has a code already. -/
def State.barred (s : State) (r : CipherReq) : Bool :=
  match r.job with
  | .report n term _ _ _ => (s.kterm (512 * n + term)).kek.isNone
  | .unwrap => s.cph.imp.any fun i => importCode s i (s.wrapKey r.slot) != 0
  | .data => false
  | .check _ => false

/-- Such a request ends without a lane and without a use of a key (R333, R338). -/
def endBarred (r : CipherReq) (s : State) : State :=
  match r.job with
  | .report n term _ _ w => reportLost n term w s
  | .unwrap => finishImport (s.wrapKey r.slot) s
  | .data => s
  | .check _ => s

/-- The key that a request copies into its lane (R328), and what FRM gets of a message's integrity check, which that copy settles. -/
def takeLane (r : CipherReq) (s : State) : State :=
  let x := s.kslot r.slot
  let prev := decide (r.prio < 3) && usesPrev x r.sfc
  let run := fun (key : List Nat) (t : State) => t.modCph fun c => { c with running := c.running ++ [⟨r, key, prev, s.guarded, x.gen, false⟩] }
  match r.job with
  | .data => run (if prev then (x.prev.map (·.1)).getD [] else x.key.getD []) s
  | .check none => run [] s
  | .check (some (n, m)) =>
    (run ((s.messageKey n m).getD []) s).modTree n fun t => { t with mics := t.mics ++ [(m, checkOf (s.messageKey n m) m)] }
  | .report n term _ _ _ => run (((s.kterm (512 * n + term)).kek).getD []) s
  | .unwrap => run (s.wrapKey r.slot) s

/-- CIPHER_REQUEST_START (R328, R333, R338, R340). -/
def startReq (s : State) : State :=
  match nextReq s with
  | none => s
  | some r =>
    let code := checkReq s r
    let s1 := s.modCph fun c => { c with waiting := c.waiting.erase r }
    if code ≠ 0 then refuseReq code r s1
    else if s.barred r then endBarred r s1
    else if s.lanes ≤ s.cph.running.length then s
    else
      let s2 := takeLane r s1
      let n := s2.cph.running.length
      if s2.rd F.CPH_LANE_STAT_BUSY_PEAK < n then s2.wr F.CPH_LANE_STAT_BUSY_PEAK n else s2

/-- CIPHER_REQUEST_DONE: the request in lane `i` of those that hold one ends (R332, R337), unless its accesses to DRAM are held. What a
frame that missed its downstream frame had encrypted is not used (R157). -/
def doneReq (i : Nat) (s : State) : State :=
  match s.cph.running[i]? with
  | none => s
  | some r =>
    if s.heldReq r.req then s else
    let s2 := showLanes (countUse r (s.modCph fun c => { c with running := c.running.eraseIdx i }))
    let q := r.req
    if q.prio = 1 then
      let n := q.slot / 1024
      let s3 := setDefect n (q.slot / 2 % 512) 6 false (passId q.frame true 2 n s2)
      let s4 := match s3.frame q.frame with
        | some f => s3.putFrame q.frame { f with icb := some q.icb }
        | none => s3
      s4.modFwd fun w => { w with ingress := w.ingress ++ [q.frame] }
    else if q.prio = 2 then (if r.missed then s2 else payloadDone (q.flow / 2 ^ 18) q.frame q.tag s2)
    else match q.job with
      | .data => hostDone r s2
      | .check _ => s2
      | .report n term index field w => reportDone n term index field w r.key s2
      | .unwrap => finishImport r.key s2

/-- IMPORT_END: the request that unwraps the host's blob ends (R338, R339). -/
def endImport (s : State) : State :=
  match s.cph.running.findIdx? fun r => r.req.job == .unwrap with
  | none => s
  | some i => doneReq i s

/-! Erasing (R343, R344). -/

/-- CPH_SLOT_CMD with ERASE: ignored for root slots. -/
def eraseSlot (k : Nat) (session : Bool) (s : State) : State :=
  let s0 := (s.wr F.CPH_SLOT_CMD_SLOT k).wr F.CPH_SLOT_CMD_ERASE_SESSION (bit session)
  if isRootSlot k ∨ 37119 < k then s0
  else (s0.modKey k fun x => { x with state := 3, staged := none, eraseSession := (x.state == 3 && x.eraseSession) || (session && isTermSlot k) }).modCph fun c =>
    { c with due := c.due.filter fun e => !(e.1.typ == 4 && e.1.slot == k) }

/-- SLOT_ZEROIZED: no request holds the slot's key any more. The use counters stay until a new key takes effect (R337). -/
def zeroizeSlot (k : Nat) (s : State) : State :=
  let x := s.kslot k
  if x.state ≠ 3 ∨ (s.cph.running.any fun r => r.req.slot == k) then s
  else
    let s1 := s.modKey k fun _ => { KeySlot.initial with gen := x.gen, useDs := x.useDs, useUs := x.useUs, raised := x.raised }
    raise E.CPH_SLOT_ZEROIZED
      (if x.eraseSession then s1.modKterm (k / 2) fun t => { t with session := none, mik := none, kek := none } else s1)

/-- PREV_KEY_ZEROIZE: 16 frames after the new key took effect (R340). -/
def zeroizePrev (k : Nat) (s : State) : State :=
  match (s.kslot k).prev with
  | none => s
  | some (_, _, t) => if t + 16 ≤ s.ticks then s.modKey k fun x => { x with prev := none } else s

/-- RIND zeroizes every key and session record; GEN and DS_INDEX stay (R344). -/
def zeroizeAll (s : State) : State :=
  s.modCph fun c =>
    { Cph.initial with
      slots := c.slots.filterMap fun e => if e.2.gen = 0 then none else some (e.1, { KeySlot.initial with gen := e.2.gen })
      terms := c.terms.filterMap fun e => if e.2.dsIndex = 0 then none else some (e.1, { KeyTerm.initial with dsIndex := e.2.dsIndex })
      binds := c.binds }

/-- Step 3: the root slots take the keys that RIND derives from the fuses (R325). -/
def rootSlots (s : State) : State :=
  (List.range 4).foldl (fun a i =>
    if Config.keyUsable i then takeKey (slotAuth i) (Config.rootKey i) false 0 a else a) s

/-! Terminals and bindings (R341, R342). -/

/-- CPH_TERM_CMD OP 1 and 2. A switch asked for after payload of the boundary frame was dequeued waits for the boundary after (R341). -/
def termCmd (op x index : Nat) (s : State) : State :=
  let s0 := ((s.wr F.CPH_TERM_CMD_TERM x).wr F.CPH_TERM_CMD_OP op).wr F.CPH_TERM_CMD_INDEX index
  if op = 1 then queueMsg (x / 512) ⟨1, 5, x % 512, (index : Int), []⟩ (s0.modKterm x fun t => { t with rekey := some index })
  else s0.modKterm x fun t => if hasBit s.cph.cut (x / 512) then { t with later := some index } else { t with switch := some index }

/-- The word of a binding as its register holds it. -/
def State.bindWord (s : State) (b : Nat) : Nat :=
  s.rd (F.CPH_BIND_VALID b) + 2 * s.rd (F.CPH_BIND_CLEAR b) + 4 * s.rd (F.CPH_BIND_TREE b) + 128 * s.rd (F.CPH_BIND_TPORT b) +
  2 ^ 23 * s.rd (F.CPH_BIND_DS_INDEX b)

/-- BIND_WRITE: ignored when another valid binding has the same TREE and TPORT (CPH_BIND). -/
def writeBind (b w : Nat) (s : State) : State :=
  let taken := (s.armed (F.CPH_BIND_VALID 0) 4 2048).any fun o =>
    o != b && bindTree (s.bindWord o) == bindTree w && bindTport (s.bindWord o) == bindTport w
  if taken ∧ bindValid w then raiseSec E.CPH_REQ_REFUSED s
  else
    (((((s.wr (F.CPH_BIND_VALID b) (slice w 0 1)).wr (F.CPH_BIND_CLEAR b) (slice w 1 1)).wr (F.CPH_BIND_TREE b) (bindTree w)).wr
      (F.CPH_BIND_TPORT b) (bindTport w)).wr (F.CPH_BIND_DS_INDEX b) (bindIndex w)).modCph fun c =>
        { c with bindWr := c.bindWr ++ [(b, w % 2 ^ 24, hasBit c.cut (bindTree w))] }

/-! The commands. -/

/-- FRAME_HANDOFF (R154, R157). -/
def execFrameHandoff (n idle : Nat) (short : Bool) (s : State) : Out := .next (frameOut n idle short s)
/-- PAYLOAD_PREFETCH (R154, R315). -/
def execPayloadPrefetch (n budget : Nat) (s : State) : Out := .next (prefetch n budget s)
/-- CIPHER_REQUEST_START (R328, R333). -/
def execCipherRequestStart (s : State) : Out := .next (s.when s.works startReq)
/-- CIPHER_REQUEST_DONE (R332, R337). -/
def execCipherRequestDone (i : Nat) (s : State) : Out := .next (s.when s.works (doneReq i))
/-- IMPORT_END (R338, R339). -/
def execImportEnd (s : State) : Out := .next (s.when s.works endImport)
/-- PREV_KEY_ZEROIZE (R340). -/
def execPrevKeyZeroize (k : Nat) (s : State) : Out := .next (s.when s.works (zeroizePrev k))
/-- SLOT_ZEROIZED (R343). -/
def execSlotZeroized (k : Nat) (s : State) : Out := .next (s.when s.works (zeroizeSlot k))
end Sys2Proof.Machine
end

