-- ==== Sys2Proof/Machine/Upstream.lean ====
section
/-! DEFINITION. Machine/Upstream.lean: upstream bursts in TPA and FRM: the delimiter search and confirmation (R163 to R166), the arrival
stamp (R144, R145), the close of a window (R134, R135, R138, R139), decoded code words (R143, R167) and management messages (R153,
R161, R162). -/
namespace Sys2Proof.Machine

/-- RU per 1/8 bit of a burst (R175). -/
def State.ruUnit (s : State) (n : Nat) (w : Win) : Int := (s.ruPerBit n w.rate / 8 : Nat)

/-- The window has opened, or has closed, by the end of this frame. -/
def Win.openBy (w : Win) (t : Nat) : Bool := decide (w.opens < ((t : Int) - w.frame + 1) * 125000)
def Win.closedBy (w : Win) (t : Nat) : Bool := decide (w.closes < ((t : Int) - w.frame + 1) * 125000)

/-- The window in which a burst of this instant lies (R137). -/
def State.curWin (s : State) (n : Nat) : Option Win := ((s.tree n).wins.head?).filter fun w => w.openBy s.ticks && !w.past s.ticks

/-! Candidates (R163). -/

/-- DELIM_TOL, where values above 8 act as 8. -/
def State.delimTol (s : State) (n : Nat) : Nat := min 8 (s.rd (F.FRM_SEARCH_CFG_DELIM_TOL n))

/-- A match lies in the search range of a window: P_k ± W_k, or the whole window for discovery. -/
def inRange (u : Int) (w : Win) (m : DelimMatch) : Bool :=
  decide (m.ofs * u ≤ w.half) && decide ((if w.kind = 2 then 0 else -w.half) ≤ m.ofs * u)

/-- Puts a match into a list of matches of rising offset. -/
def putMatch (m : DelimMatch) : List DelimMatch → List DelimMatch
  | [] => [m]
  | x :: r => if m.ofs < x.ofs then m :: x :: r else x :: putMatch m r

/-- The matches that FRM sees in a window: at most DELIM_TOL differing bits, in range, in order of offset. -/
def State.matchesIn (s : State) (n : Nat) (w : Win) (l : List DelimMatch) : List DelimMatch :=
  (l.filter fun m => decide (m.diff ≤ s.delimTol n) && inRange (s.ruUnit n w) w m).foldl (fun a m => putMatch m a) []

/-- The fewest differing bits, at the earliest offset on a tie. -/
def bestOf (m : DelimMatch) : List DelimMatch → DelimMatch
  | [] => m
  | x :: r => bestOf (if x.diff < m.diff then x else m) r

/-- Groups matches into candidates, earliest first (R163); each pass of the number takes one candidate. -/
def candidates : Nat → List DelimMatch → List DelimMatch
  | 0, _ => []
  | _, [] => []
  | k + 1, m :: r =>
    bestOf m (r.filter fun x => decide (x.ofs ≤ m.ofs + 64)) :: candidates k (r.filter fun x => !decide (x.ofs ≤ m.ofs + 64))

/-- What R164 finds of a candidate: confirmed from the raw bits, confirmed after FEC, another terminal, or a failing header. -/
inductive Found where
  | raw | fec | other | bad
  deriving DecidableEq, Repr

/-- The checks of a candidate's header (R164). -/
def judgeHead (fecOn : Bool) (term : Nat) (c : DelimMatch) : Found :=
  if c.raw = some term then .raw
  else if fecOn ∧ c.fec = some term then .fec
  else if c.raw.isSome ∨ (fecOn ∧ c.fec.isSome) then .other
  else .bad

/-- Runs through the candidates until one is confirmed: failed headers count in US_HDR_ERR and HDR_ERR, wrong terminals in US_WRONG_ID
(R164). -/
def resolve (n : Nat) (w : Win) : List DelimMatch → State → Option (DelimMatch × Bool) × State
  | [], s => (none, s)
  | c :: r, s =>
    match judgeHead w.fec w.term c with
    | .raw => (some (c, false), s)
    | .fec => (some (c, true), s)
    | .other => resolve n w r (winAdd n pmUsWrongId 1 s)
    | .bad => resolve n w r (winPm n (fun p => { p with hdrErr := p.hdrErr + 1 }) (winAdd n pmUsHdrErr 1 s))

/-! The arrival stamp. -/

/-- The arrival instant of a delimiter in RU from the tick of the window's map, corrected by RX_CAL_PS and cut to 1/8 bit (R144). -/
def State.arrival (s : State) (n : Nat) (w : Win) (ofs : Int) : Int :=
  let u := s.ruUnit n w
  (w.p + ofs * u - toSigned 16 (s.rd (F.TPA_CAL_RX_CAL_PS n)) * (s.ruFrame n : Nat) / 125000000) / u * u

/-- Tick count of the frame in which an arrival falls. -/
def State.arrivalFrame (s : State) (n : Nat) (w : Win) (a : Int) : Nat := ((w.frame : Int) + a / (s.ruFrame n : Nat)).toNat % 65536

/-- The stamp of R144. -/
def State.stampOf (s : State) (n : Nat) (w : Win) (a : Int) (term : Nat) : Nat :=
  (a % (s.ruFrame n : Nat) / s.ruUnit n w).toNat % 2 ^ 26 + w.rate % 4 * 2 ^ 26 + 2 ^ 28 + s.arrivalFrame n w a * 2 ^ 32 + term % 512 * 2 ^ 48

/-- RTD of R177 in RU, scaled by 125,000,000. -/
def State.rtdOf (s : State) (n : Nat) (w : Win) (a : Int) : Int := (a - w.sOfs) * 125000000 - s.dTx n * (s.ruFrame n : Nat)

/-- Takes the stamp of a burst (R145). -/
def takeStamp (n : Nat) (w : Win) (a : Int) (term : Nat) (s : State) : State :=
  s.wr (F.TPA_LAST_STAMP_STAMP n) (s.stampOf n w a term)

/-- Notes an ambiguous search (R164, R165). -/
def noteAmbiguous (n : Nat) (w : Win) (c : DelimMatch) (k : Nat) (s : State) : State :=
  let s1 := (((winAdd n pmUsAmbiguous 1 s).wr (F.FRM_AMBIG_LAST_FRAME n) (s.arrivalFrame n w (s.arrival n w c.ofs))).wr
    (F.FRM_AMBIG_LAST_TERMINAL n) w.term).wr (F.FRM_AMBIG_LAST_WIN_OFS n) (ofSigned 16 (c.ofs / 8))
  raiseSec (E.FRM_AMBIGUOUS n) (s1.wr (F.FRM_AMBIG_LAST_CANDIDATES n) (min 255 k))

/-- Confirms a burst from a candidate (R164): the stamp, the counts, and its sample or RTD in RNG (R177, R190). -/
def confirmBurst (n : Nat) (w : Win) (c : DelimMatch) (byFec : Bool) (k : Nat) (s : State) : State :=
  let a := s.arrival n w c.ofs
  let s1 := s.when (decide (1 < k)) (noteAmbiguous n w c k)
  let s2 := s1.when byFec (winAdd n pmUsFecConfirmed 1)
  let s3 := winPm n (fun p => { p with bursts := p.bursts + 1 }) (winAdd n pmUsBursts 1 (takeStamp n w a w.term s2))
  let s4 := burstSeen n w.term c.gasp (modWin n (fun x => { x with confirmed := true }) s3)
  if w.kind = 3 then ranged n w.term (s.rtdOf n w a) s4 else sample n w.term w.rate (a - w.p) s4

/-- Resolves the responses of a discovery window in order of offset (R166); each pass of the number takes one candidate. -/
def discover (n : Nat) (w : Win) : Nat → List DelimMatch → Nat → State → State
  | 0, _, _, s => s
  | _, [], _, s => s
  | k + 1, m :: r, got, s =>
    let c := bestOf m (r.filter fun x => decide (x.ofs ≤ m.ofs + 64))
    let rest := r.filter fun x => !decide (x.ofs ≤ m.ofs + 64)
    if c.raw.isSome ∨ (w.fec ∧ c.fec.isSome) then
      if 16 ≤ got then discover n w k rest got s
      else
        let a := s.arrival n w c.ofs
        let s1 := takeStamp n w a 0x1FF (winAdd n pmDiscResponses 1 s)
        discover n w k (r.filter fun x => decide (c.ends ≤ x.ofs)) (got + 1)
          ((modWin n (fun x => { x with accepted := x.accepted + 1, resume := c.ends }) s1).modTree n fun t =>
            { t with resps := t.resps ++ [(c.serial, (s.rtdOf n w a + 62500000) / 125000000, w.frame)], discHit := true })
    else discover n w k rest got ((winAdd n pmDiscCollisions 1 s).modTree n fun t => { t with discHit := true })

/-- The injection action of a tree port on a burst of a terminal (R466). -/
def injectBurst (n term : Nat) (selected : Bool) (s : State) : Nat × State :=
  let t := s.rd (F.OBS_INJ_CFG_TERM n)
  if t = 0x1FF ∨ t = term then inject n selected s else (0, s)

/-- The matches that an injected fault leaves (R466). -/
def injectMatches (s : State) (n action : Nat) (l : List DelimMatch) : List DelimMatch :=
  if action = 2 then l.filter fun m => !m.own
  else if action = 3 then l.map fun m =>
    let d := 8 * toSigned 12 (s.rd (F.OBS_INJ_CFG_SHIFT n))
    { m with ofs := m.ofs + d, ends := m.ends + d }
  else l

/-- A burst arrives in the current window (R137, R163 to R166). -/
def burst (n : Nat) (l : List DelimMatch) (selected : Bool) (s : State) : State :=
  match s.curWin n with
  | none => s
  | some w =>
    if w.confirmed ∨ (w.lost ∧ w.kind ≠ 2) then s
    else
      let r := injectBurst n w.term selected s
      if r.1 = 1 then modWin n (fun x => { x with lost := true }) r.2
      else
        let s1 := modWin n (fun x => { x with light := true }) r.2
        let ms := s1.matchesIn n w (injectMatches s1 n r.1 l)
        if w.kind = 2 then discover n w ms.length (ms.filter fun m => decide (w.resume ≤ m.ofs)) w.accepted s1
        else
          let cs := candidates ms.length ms
          match resolve n w cs s1 with
          | (some (c, byFec), s2) => confirmBurst n w c byFec cs.length s2
          | (none, s2) => s2

/-! The close of a window. -/

/-- A failure of lock or light counts towards LOCK_FAIL_RATE, raised at LOCK_FAIL_TH in one second; 0 disables it. -/
def lockFail (n : Nat) (s : State) : State :=
  let k := (s.port n).lockFails + 1
  let s1 := s.modPort n fun p => { p with lockFails := k }
  if s.rd (F.TPA_SD_CFG_LOCK_FAIL_TH n) = k then raise (E.TPA_LOCK_FAIL_RATE n) s1 else s1

/-- A fault injected into a window leaves no light in it: each burst of it was discarded (R466). -/
def Win.unlit (w : Win) : Bool := w.lost && !w.light

/-- The class of an unconfirmed burst (R138), a discovery window without an accepted response among them (R134), and what FRM and RNG make
of it (R165, R184, R194). -/
def classify (n : Nat) (w : Win) (sd lock : Bool) (s : State) : State :=
  if w.confirmed ∨ w.accepted ≠ 0 then s
  else
    let s1 := if ¬ sd then lockFail n (s.sat (F.TPA_BURST_ERR_NO_LIGHT n) 1)
      else if ¬ lock then lockFail n (s.sat (F.TPA_BURST_ERR_NO_LOCK n) 1)
      else s
    let s2 := if w.kind = 2 then s1 else missedBurst n w.term s1
    if w.kind = 2 then s2 else if w.kind = 3 then rangeMissed n w.term s2 else missing n w.term s2

/-- The gap from a window to the next in tenths of a nanosecond. -/
def gapTenths (w x : Win) : Int := ((((x.frame : Int) - w.frame) * 125000 + x.opens) - w.closes) * 10

/-- The BRST pulse of a gap is shorter than 1.6 ns (R134, R135). -/
def pulseShort (s : State) (n : Nat) (w x : Win) : Bool :=
  let off := gapTenths w x - (4 * s.brstSetup n : Nat)
  decide (off - max ((4 * s.brstLag n : Nat) : Int) (off - (4 * s.brstMax n : Nat)) < 16)

/-- What the schedule of the next window shows at Z_k (R135). -/
def nextGap (n : Nat) (w : Win) (s : State) : State :=
  match (s.tree n).wins with
  | [] => s
  | x :: _ =>
    let s1 := s.when (pulseShort s n w x) fun a => raiseSec (E.TPA_BRST_SKIP n) (a.sat (F.TPA_SCHED_ERR_BRST_SKIPPED n) 1)
    s1.when (w.rate != x.rate && decide (gapTenths w x < 160)) fun a =>
      raiseSec (E.TPA_SWITCH_LATE n) (a.sat (F.TPA_SCHED_ERR_SWITCH_LATE n) 1)

/-- Tick of the frame in which a window opens. -/
def Win.openFrame (w : Win) : Nat := ((w.frame : Int) + w.opens / 125000).toNat

/-- Notes a window of a frame, with SD high in it or not (R146). -/
def noteWin (f : Nat) (sd : Bool) (l : List (Nat × Bool)) : List (Nat × Bool) :=
  if l.any fun e => e.1 == f then l.map fun e => if e.1 = f then (f, e.2 || sd) else e else l ++ [(f, sd)]

/-- Z_k: the window closes (R134, R138, R139, R146). -/
def closeWindow (n : Nat) (sd lock cut : Bool) (s : State) : State :=
  match (s.tree n).wins with
  | [] => s
  | w :: r =>
    if ¬ w.closedBy s.ticks then s
    else
      let sd' := (sd && !w.unlit) || w.confirmed || w.accepted != 0
      let lock' := (lock && !w.unlit) || w.confirmed || w.accepted != 0
      let s1 := ((countWin n w (s.modTree n fun t => { t with wins := r, closed := some w })).modPort n fun p =>
        { p with winFrames := noteWin w.openFrame sd' p.winFrames }).wr (F.TPA_STAT_SD n) (bit sd')
      let s2 := s1.when lock' fun a => a.wrap (F.TPA_BURST_OK_LOCKED n) 1
      let s3 := s2.when (cut && !w.unlit) fun a => a.sat (F.TPA_SCHED_ERR_OVERRUN_CUT n) 1
      nextGap n w (classify n w sd' lock' s3)

/-! Code words (R143, R167). -/

/-- A received upstream frame as it enters the device (R298, R334, R458). -/
def upFrame (s : State) (n : Nat) (w : Win) (x : RxFrame) (tagged : Bool) : Frame :=
  { up := true, src := 16 + n, len := x.len, dst := x.dst, smac := x.smac, tagged := x.tagged, vid := x.vid, pcp := x.pcp,
    tport := x.tport, term := w.term, key := x.key, sfc := (s.rd (F.FRM_SFC_SFC n) + 2 ^ 51 - (s.ticks - w.frame)) % 2 ^ 51, flow := 0,
    cells := [], pool := 0, red := false, inner := x.inner, pos := x.pos, icb := none, tags := [], copies := false, marks := if tagged then some [] else none }

/-- A frame of a confirmed burst goes to BPM (R298); one longer than 9,728 bytes is dropped, and counted in a count of the model's (R28,
assumption 62). -/
def acceptUp (n : Nat) (w : Win) (x : RxFrame) (s : State) : State :=
  if 9728 < x.len then s.modPort n fun p => { p with tooLong := p.tooLong + 1 }
  else
    let t := skimTag true (16 + n) x.skim s
    let a := passStage (upFrame s n w x t.1) true 0 n t.2
    let b := passStage a.1 true 1 n a.2
    b.2.modBpm fun q => { q with arriving := q.arriving ++ [(s.ticks, b.1)] }

/-- The window closed in this frame or in the one before: what it received is still being decoded (R143). -/
def Win.recent (w : Win) (t : Nat) : Bool := decide (((t : Int) - w.frame - 1) * 125000 ≤ w.closes)

/-- The burst to which a code word belongs: the last one that closed, or the current one. -/
def State.cwWin (s : State) (n : Nat) (prev : Bool) : Option Win :=
  if prev then (s.tree n).closed.filter fun w => w.recent s.ticks else s.curWin n

/-- TPA finishes a code word of a window, and of none outside every window (R137, R143): `corr` corrected bits, uncorrectable or not, `bits` received bits with `bytes` of payload, the
reports it holds as (allocation, words), and the frames that end in it. -/
def codeword (n : Nat) (prev : Bool) (corr : Nat) (bad : Bool) (bits bytes : Nat) (reports : List (Nat × Nat)) (frames : List RxFrame)
    (s : State) : State :=
  match s.cwWin n prev with
  | none => s
  | some w =>
    let s1 := if bad then s.wrap (F.TPA_FEC_CW_UNCORR_CW n) 1
      else (s.wrap (F.TPA_FEC_BITS_CORR_BITS n) corr).wrap (F.TPA_FEC_CW_CORR_CW n) (bit (corr != 0))
    if ¬ w.confirmed then s1
    else
      let c := if bad then 0 else corr
      let drop := if bad then reports.length else 0
      let p : TermPm := { TermPm.zero with corrBits := c, uncorrCw := bit bad, usBytes := bytes }
      let s2 := if prev then countLate n w [(pmUsBytes, bytes), (pmUsReportDrop, drop)] p s1
        else winPm n (TermPm.plus · p) (winAdd n pmUsReportDrop drop (winAdd n pmUsBytes bytes s1))
      let s3 := s2.modTerm n w.term fun x =>
        { x with secBits := x.secBits + bits, secCorr := x.secCorr + c, secUncorr := x.secUncorr + if bad then bits else 0 }
      let s4 := if bad then s3
        else if s.mode = mStandby then s3
        else reports.foldl (fun a r => holdReport n w.term r.1 r.2 a) s3
      if s.mode = mStandby then s4 else frames.foldl (fun a x => acceptUp n w x a) s4

/-! Upstream management messages. -/

/-- The host's copy of a Key_Report: zeros in place of the key field (R161). -/
def withoutKey (body : List Nat) : List Nat :=
  body.take Config.keyField.1 ++ List.replicate (min 16 (body.length - Config.keyField.1)) 0 ++ body.drop (Config.keyField.1 + 16)

/-- An Acknowledge goes to the block that awaits one (R153): RNG, then CPH, then the host. -/
def acknowledge (n term : Nat) (body : List Nat) (s : State) : State :=
  match rangingAck n term s with
  | some t => t
  | none =>
    if (s.term n term).cphAcks ≠ 0 then s.modTerm n term fun x => { x with cphAcks := x.cphAcks - 1 }
    else if (s.term n term).hostAcks ≠ 0 then pushRx n term body (s.modTerm n term fun x => { x with hostAcks := x.hostAcks - 1 })
    else s

/-- The burst that brought a message of a terminal: the current one, or the last one that closed, which the answer marks; a discovery window
brings serial numbers only. Outside every window nothing is passed on (R137). -/
def State.msgWin (s : State) (n term kind : Nat) : Option (Win × Bool) :=
  let of_ := fun (w : Win) => if w.kind = 2 then kind == 0 && w.accepted != 0 else w.confirmed && w.term == term
  match (s.cwWin n false).filter of_ with
  | some w => some (w, false)
  | none => ((s.cwWin n true).filter of_).map fun w => (w, true)

/-- A message's count enters the second in which its burst's window closes (R170). -/
def countMsg (n : Nat) (w : Win × Bool) (i : Nat) (s : State) : State :=
  if w.2 then countLate n w.1 [(i, 1)] TermPm.zero s else winAdd n i 1 s

/-- A message that passed its check, by kind: 0 Serial_Number_ONU, whose response RNG handles, 1 Registration, which RNG takes too, 2 Key_Report of key index `index`, 3 Acknowledge, 4
Sleep_Request, 5 Power_Consumption_Report; the others are discarded (R153). -/
def routeMsg (n : Nat) (w : Win × Bool) (term kind index : Nat) (body : List Nat) (s : State) : State :=
  if kind = 0 ∨ kind = 5 then pushRx n term body s
  else if kind = 1 then pushRx n term body (registration n term s)
  else if kind = 2 then
    let r := keyReport n term index body w.1 s
    let s1 := if r.1 = 0 then r.2 else setDefect n term 6 true (countMsg n w pmKeyErr r.2)
    pushRx n term (withoutKey body) s1
  else if kind = 3 then acknowledge n term body s
  else if kind = 4 then pushRx n term body (queueMsg n ⟨2, 6, term, 0, []⟩ s)
  else s

/-- The integrity check of an upstream message under its terminal's integrity key, or the default one until a session key is imported (R326). -/
def State.upMic (s : State) (n term kind index : Nat) (body : List Nat) : Nat :=
  Config.micOf ((s.kterm (512 * n + term)).mik) kind term (index : Int) body

/-- An upstream management message arrives (R153, R168): a failed integrity check counts in MIC_ERR and raises MEM. DESIGN CHOICE (assumption 70): the
MEM of a Serial_Number_ONU, which has no terminal ID, is that of the row's terminal operand. -/
def upMsg (n term kind mic index : Nat) (body : List Nat) (s0 : State) : State :=
  match s0.msgWin n term kind with
  | none => s0
  | some w =>
    let s := askChecks [none] s0
    if mic ≠ s.upMic n term kind index body then setDefect n term 4 true (countMsg n w pmMicErr s)
    else routeMsg n w term kind index body (setDefect n term 4 false (countMsg n w pmPloamUs s))

/-- The receive path of a tree port runs on its terminals' light: its tile carries traffic, which it does until its drain ends (R83), and no
loopback turns its own transmitter back (R151). -/
def State.receives (s : State) (n : Nat) : Bool := s.works && s.carries n && !s.looped n

/-! The commands. -/

/-- UPSTREAM_BURST (R164). -/
def execUpstreamBurst (n : Nat) (l : List DelimMatch) (selected : Bool) (s : State) : Out :=
  .next (s.when (s.receives n) (burst n l selected))
/-- BURST_WINDOW_CLOSE (R138). -/
def execBurstWindowClose (n : Nat) (sd lock cut : Bool) (s : State) : Out := .next (s.when (s.receives n) (closeWindow n sd lock cut))
/-- CODEWORD_DECODED (R143, R167). -/
def execCodewordDecoded (n : Nat) (prev : Bool) (corr : Nat) (bad : Bool) (bits bytes : Nat) (reports : List (Nat × Nat))
    (frames : List RxFrame) (s : State) : Out :=
  .next (s.when (s.receives n) (codeword n prev corr bad bits bytes reports frames))
/-- UPSTREAM_MESSAGE (R153). -/
def execUpstreamMessage (n term kind mic index : Nat) (body : List Nat) (s : State) : Out :=
  .next (s.when (s.receives n && s.mode != mStandby) (upMsg n term kind mic index body))

end Sys2Proof.Machine
end

