-- ==== Sys2Proof/Machine/Port.lean ====
section
/-! DEFINITION. Machine/Port.lean: tree ports outside their bursts: bring-up under the stagger (R48, R49, R131, R132, R150), loopback
(R151), loss and rogue light (R146), and module management (R148, R149). -/
namespace Sys2Proof.Machine

/-- LEAD_TICKS and LOS_FRAMES, where 0 acts as 1 (TPA_BEN_CFG, TPA_SD_CFG). -/
def State.leadTicks (s : State) (n : Nat) : Nat := max 1 (s.rd (F.TPA_BEN_CFG_LEAD_TICKS n))
def State.losFrames (s : State) (n : Nat) : Nat := max 1 (s.rd (F.TPA_SD_CFG_LOS_FRAMES n))

/-- BEN may be active on a port now (R132): a reload of its tile does not take it away. -/
def State.benMay (s : State) (n : Nat) : Bool :=
  s.works && s.on (F.TPA_CTRL_ENABLE n) && s.rd (F.CFG_TILE_STAT_STATE n) != 0 && s.rd (F.CFG_TILE_STAT_STATE n) != 4 && s.menLong n &&
  s.mode != mStandby && !s.looped n && (s.unprotected || s.mode != mStarting)

/-- Asserts BEN and begins the LEAD_TICKS fill frames (R132). -/
def benOn (n : Nat) (s : State) : State :=
  ((s.wr (F.TPA_STAT_BEN n) 1).wr (F.TPA_STAT_PHASE n) 2).modPort n fun t => { t with lead := s.leadTicks n }

/-- BEN_ASSERT: the wait has passed, and no stagger entry holds the port back (R48, R132). -/
def benAssert (n : Nat) (s : State) : State :=
  if s.benMay n ∧ ¬ s.on (F.TPA_STAT_BEN n) ∧ ¬ s.pwr.queue.contains (.ben n) then benOn n s else s

/-- The fill frames are counted out: service frames begin (R132), with a full quiet-window budget (R182). -/
def leadEnd (n : Nat) (s : State) : State :=
  if s.rd (F.TPA_STAT_PHASE n) = 2 ∧ (s.port n).lead = 0 then fillBudget n (s.wr (F.TPA_STAT_PHASE n) 3) else s

/-- Tree ports may be brought up: the device is past the SerDes bring-up step's start (R101 step 10). -/
def State.portsOpen (s : State) : Bool := s.works && (s.mode != mStarting || decide (10 ≤ s.rd F.CFG_BOOT_STAT_STEP))

/-- Asks for the bring-up of a ready port whose MEN is inactive (R131, R150). -/
def askPort (n : Nat) (s : State) : State :=
  if s.portsOpen ∧ s.portReady n ∧ ¬ s.on (F.TPA_STAT_MEN n) then bringUp (.men n) s else s

/-- PORT_ENABLE: ENABLE is set, or the write is refused in LEAN (R35, R150). -/
def portEnable (n : Nat) (s : State) : State :=
  if s.on (F.TPA_CTRL_ENABLE n) then s
  else
    let s1 := (s.wr (F.TPA_CTRL_ENABLE n) 1).modPort n fun t => { t with downNext := false }
    if s.mode = mLean ∧ ¬ s1.leanFits then refuseMode mLean 2 s else askPort n s1

/-- PORT_DISABLE: the port goes down at the next tick, and its entry leaves the queue (R49, R150). -/
def portDisable (n : Nat) (s : State) : State :=
  if ¬ s.on (F.TPA_CTRL_ENABLE n) then s
  else dropBringUp n ((s.wr (F.TPA_CTRL_ENABLE n) 0).modPort n fun t => { t with downNext := true })

/-- A LOOPBACK write (R151): effective in PROVING, where it holds BEN inactive. Values 2 and 3 act as 0 (TPA_CTRL). -/
def loopbackSet (n v : Nat) (s : State) : State :=
  let s1 := (s.wr (F.TPA_CTRL_LOOPBACK n) v).wr (F.TPA_STAT_LB_BLOCKED n) (bit (s.mode != mProving && v % 4 == 1))
  loopBen n s1

/-! The stagger queue at a tick (R48, R49). -/

/-- What a tick has begun of the queue: the state, the entries that stay, the bring-ups begun, and the module enables among them. Requests
leave in the order they came (R49): once one stays, so do all after it. -/
structure StagAcc where
  s : State
  kept : List BringUp
  begun : Nat
  mens : Nat

/-- A request still has something to bring up: a port is still ready, and for BEN its wait has passed (R131, R132). -/
def State.stillWanted (s : State) : BringUp → Bool
  | .tile _ => true
  | .men p => s.portReady p && !s.on (F.TPA_STAT_MEN p)
  | .ben p => s.benMay p && !s.on (F.TPA_STAT_BEN p)

/-- One entry at its turn: a tile load, a module enable of the next optics group, or a BEN release; beyond a limit it stays, and one with
nothing left to bring up goes. -/
def stagOne (b : BringUp) (a : StagAcc) : StagAcc :=
  if ¬ a.s.stillWanted b then a
  else if ¬ a.kept.isEmpty ∨ a.s.perTick ≤ a.begun then { a with kept := a.kept ++ [b] }
  else match b with
    | .tile n => { a with s := beginTile n a.s, begun := a.begun + 1 }
    | .ben p => { a with s := benOn p a.s, begun := a.begun + 1 }
    | .men p =>
      if a.s.pwr.opticsAt.isSome ∨ a.s.optGroup ≤ a.mens then { a with kept := a.kept ++ [b] }
      else { a with s := menOn p a.s, begun := a.begun + 1, mens := a.mens + 1 }

/-- The queue at a tick (R48, R49). -/
def staggerTick (s : State) : State :=
  let a := s.pwr.queue.foldl (fun a b => stagOne b a) ⟨s, [], 0, 0⟩
  showQueue (a.s.modPwr fun p =>
    { p with queue := a.kept, accepted := [], begun := a.begun, deferRaised := false,
             opticsAt := if a.mens = 0 then p.opticsAt else some s.ticks })

/-- The module enables at the head of a queue. -/
def leadingMens : List BringUp → List Nat
  | .men p :: r => p :: leadingMens r
  | _ => []

/-- The gap has passed: the next optics group is released, if it stands at the head of the queue, and only as far as the frame's limit of
bring-ups goes (R48, R49). -/
def opticsRelease (s : State) : State :=
  match s.pwr.opticsAt with
  | none => s
  | some t =>
    if s.ticks < t + 8 * max 2 (s.rd F.PWR_STAGGER_CFG_OPT_GAP_MS) then s
    else
      let q := s.pwr.queue.filter s.stillWanted
      let l := (leadingMens q).take (min s.optGroup (s.perTick - s.pwr.begun))
      let s1 := l.foldl (fun a p => menOn p a) s
      showQueue (s1.modPwr fun w =>
        { w with queue := q.drop l.length, begun := w.begun + l.length, opticsAt := if l.isEmpty then none else some s.ticks })

/-- Judges the frames whose windows have all closed, oldest first (R146): the run of frames with SD low in every window, and the frames that
wait for a window to close. -/
def judgeFrames (wins : List Win) : List (Nat × Bool) → Nat → Nat × List (Nat × Bool)
  | [], run => (run, [])
  | e :: r, run =>
    if wins.any fun w => decide (w.openFrame ≤ e.1) then (run, e :: r) else judgeFrames wins r (if e.2 then 0 else run + 1)

/-- A tick of a tree port: a disabled port goes down (R150), the waits and fill frames count (R132), and the frame's windows count
towards loss (R146). -/
def portTick (n : Nat) (s : State) : State :=
  let s1 := if (s.port n).downNext then portDown n s else s
  let opened := ((s1.tree n).wins.filter fun w => decide (w.openFrame < s1.ticks)).foldl (fun l w => noteWin w.openFrame false l) (s1.port n).winFrames
  s1.modPort n fun p =>
    { p with menTicks := if s1.on (F.TPA_STAT_MEN n) then p.menTicks + 1 else 0
             lead := p.lead - 1
             losRun := (judgeFrames (s1.tree n).wins opened p.losRun).1
             winFrames := (judgeFrames (s1.tree n).wins opened p.losRun).2 }

/-! Loss and rogue light. -/

/-- TREE_LOS (R146). -/
def treeLos (n : Nat) (s : State) : State :=
  if (s.port n).losRun < s.losFrames n ∨ s.on (F.TPA_STAT_LOS n) then s
  else raise (E.TPA_TREE_LOS n) ((s.wr (F.TPA_STAT_LOS n) 1).wr (F.TPA_STAT_SD n) 0)

/-- SD goes high in a window after TREE_LOS (R146). -/
def treeLosClear (n : Nat) (s : State) : State :=
  if ¬ s.on (F.TPA_STAT_LOS n) then s
  else raise (E.TPA_TREE_LOS_CLEAR n) (((s.wr (F.TPA_STAT_LOS n) 0).wr (F.TPA_STAT_SD n) 1).modPort n fun p =>
    { p with losRun := 0, winFrames := p.winFrames.map fun e => (e.1, true) })

/-- ROGUE_NS in tenths of a nanosecond: units of 6.4 ns, where 0 acts as 1 (TPA_SD_CFG). -/
def State.rogueTenths (s : State) (n : Nat) : Nat := 64 * max 1 (s.rd (F.TPA_SD_CFG_ROGUE_NS n))

/-- SD has been high outside every window: for longer than ROGUE_NS it is a rogue occurrence (R146, TPA_ROGUE). -/
def rogue (n : Nat) (r : RogueLight) (s : State) : State :=
  if r.tenths ≤ s.rogueTenths n then s
  else
  let s1 := if s.rd (F.TPA_ROGUE_COUNT n) = 0 then
      (s.wr (F.TPA_ROGUE_FRAME n) s.frame16).wr (F.TPA_ROGUE_OFFSET_NS n) r.ofs
    else s
  raiseSec (E.TPA_ROGUE_LIGHT n) ((s1.sat (F.TPA_ROGUE_COUNT n) 1).wr (F.TPA_STAT_SD n) 1)

/-! Module management. -/

/-- The ports of a master whose command is pending (R148). -/
def State.masterCmds (s : State) (k : Nat) : List (Nat × ModCmd) :=
  (List.range 8).filterMap fun i => (s.port (8 * k + i)).modCmd.map fun c => (8 * k + i, c)

/-- TPA_MOD_CMD with GO (R148, R149): started or queued, or refused with a status. DEDUCED (assumption 30): the bytes of a write are
taken from TPA_MOD_DATA at GO; the spec does not say whether at GO or when a queued transaction runs. -/
def modSubmit (n : Nat) (read : Bool) (dev reg len khz : Nat) (s : State) : State :=
  let s0 := ((((s.wr (F.TPA_MOD_CMD_DEV_ADDR n) dev).wr (F.TPA_MOD_CMD_READ n) (bit read)).wr (F.TPA_MOD_CMD_REG n) reg).wr
    (F.TPA_MOD_CMD_LEN n) len).wr (F.TPA_MOD_CMD_BUS_KHZ n) khz
  if ¬ s.on (F.TPA_STAT_MEN n) then s0.wr (F.TPA_MOD_STAT_STATUS n) 3
  else if (s.port n).modCmd.isSome then s0.wr (F.TPA_MOD_STAT_STATUS n) 4
  else
    let k := (s.masterCmds (n / 8)).foldl (fun a c => max a (c.2.order + 1)) 0
    (s0.wr (F.TPA_MOD_STAT_STATUS n) 1).modPort n fun p =>
      { p with modCmd := some ⟨dev % 128, read, reg % 256, len % 4 + 1, s.rd (F.TPA_MOD_DATA_DATA n), k⟩ }

/-- The transaction in progress on a port ends with a status: only the oldest command of its master runs (R148). -/
def modEnd (n status data : Nat) (s : State) : State :=
  match (s.port n).modCmd with
  | none => s
  | some c =>
    if (s.masterCmds (n / 8)).any fun x => decide (x.2.order < c.order) then s
    else
      let s1 := (s.wr (F.TPA_MOD_STAT_STATUS n) status).modPort n fun p => { p with modCmd := none }
      let s2 := s1.when (status == 2 && c.read) fun a => a.wr (F.TPA_MOD_DATA_DATA n) (data % 2 ^ (8 * c.len))
      raise (if status = 2 then E.TPA_MOD_DONE n else E.TPA_MOD_FAIL n) s2

/-! The commands. -/

/-- OPTICS_GROUP_RELEASE (R48). -/
def execOpticsGroupRelease (s : State) : Out := .next (s.when s.works opticsRelease)
/-- BEN_ASSERT (R132). -/
def execBenAssert (n : Nat) (s : State) : Out := .next (benAssert n s)
/-- LEAD_END (R132). -/
def execLeadEnd (n : Nat) (s : State) : Out := .next (s.when s.works (leadEnd n))
/-- TREE_LOS (R146). -/
def execTreeLos (n : Nat) (s : State) : Out := .next (s.when (s.receives n) (treeLos n))
/-- TREE_LOS_CLEAR (R146). -/
def execTreeLosClear (n : Nat) (s : State) : Out := .next (s.when (s.receives n) (treeLosClear n))
/-- ROGUE_LIGHT (R146). -/
def execRogueLight (n : Nat) (r : RogueLight) (s : State) : Out := .next (s.when (s.receives n) (rogue n r))
/-- MODULE_TXN_END (R149). -/
def execModuleTxnEnd (n : Nat) (ack : Bool) (data : Nat) (s : State) : Out :=
  .next (s.when s.ticking (modEnd n (if ack then 2 else 5) data))
/-- MODULE_STRETCH_TIMEOUT (R149). -/
def execModuleStretchTimeout (n : Nat) (s : State) : Out := .next (s.when s.ticking (modEnd n 6 0))

end Sys2Proof.Machine
end

