-- ==== Sys2Proof/Machine/Observe.lean ====
section
/-! DEFINITION. Machine/Observe.lean: OBS: counter writes and chained reads (R454 to R456), snapshots (R457), SKIM's record queue (R459),
histograms (R460, R461) and permission views (R463, R464). -/
namespace Sys2Proof.Machine

/-! Counters. -/

/-- A write of OBS_CNT[i] (R455, R456). `incs` is how many increments the cycle of the write brings to the counter, or, for the upper
half of a chained pair, to its lower half, whose carry is then lost. -/
def counterWrite (i w incs : Nat) (s : State) : State :=
  let s1 := ((s.wr (F.OBS_CNT_COUNT i) w).wr (F.OBS_CNT_OVF i) (s.rd (F.OBS_CNT_OVF i) &&& (1 - slice w 48 1))).wr
    (F.OBS_CNT_CARRY_LOST i) (s.rd (F.OBS_CNT_CARRY_LOST i) &&& (1 - slice w 49 1))
  if obsChainedOdd s i then
    let incs := if s.rd (F.OBS_CNT_SEL_KIND (i - 1)) = 0 then 0 else incs
    let v := s.rd (F.OBS_CNT_COUNT (i - 1)) + incs
    let s2 := s1.wr (F.OBS_CNT_COUNT (i - 1)) v
    s2.when (decide (2 ^ 48 ≤ v)) fun a => raise E.OBS_CARRY_LOST (a.wr (F.OBS_CNT_CARRY_LOST i) 1)
  else if s.rd (F.OBS_CNT_SEL_KIND i) = 0 then s1
  else
    let r := obsAdd i incs s1
    r.1.when r.2 (raiseSec E.OBS_CNT_OVF)

/-- A read of a chained even counter latches its odd partner into OBS_CNT_HI (R454). -/
def latchHigh (i : Nat) (s : State) : State :=
  if i % 2 = 0 ∧ s.on (F.OBS_CNT_SEL_CHAIN i) then s.wr F.OBS_CNT_HI_COUNT (s.rd (F.OBS_CNT_COUNT (i + 1))) else s

/-- The word that a read of OBS_CNT returns. -/
def counterWord (i : Nat) (s : State) : Nat :=
  s.rd (F.OBS_CNT_COUNT i) + 2 ^ 48 * s.rd (F.OBS_CNT_OVF i) + 2 ^ 49 * s.rd (F.OBS_CNT_CARRY_LOST i)

/-! Snapshots. -/

/-- The copy of all counters at a tick, when it is wanted (R457). -/
def snapTick (second : Bool) (s : State) : State :=
  if s.obs.snapWanted ∨ (second ∧ s.on F.OBS_SNAP_CMD_AUTO) then
    ((List.range 512).foldl (fun a i => a.wr (F.OBS_SNAP_COUNT i) (s.rd (F.OBS_CNT_COUNT i)))
      (s.wrap F.OBS_SNAP_CMD_SEQ 1)).modObs fun o => { o with snapWanted := false }
  else s

/-! SKIM. -/

/-- The 64 bytes of a record (R459). -/
def SkimRec.bytes (r : SkimRec) : List Nat :=
  leNats 3 r.seq ++ [r.flags] ++ leNats 3 r.flow ++ [r.endStage] ++ leNats 2 r.len ++ [r.port] ++ List.replicate 5 0 ++
  r.stamps.flatMap (leNats 4) ++ List.replicate 20 0

/-- Shows the number of records and the oldest one (OBS_SKIM_STAT, OBS_SKIM_REC). -/
def showSkim (s : State) : State :=
  let b := match s.obs.skim with
    | [] => []
    | r :: _ => r.bytes
  (List.range 8).foldl (fun a i => a.wr (F.OBS_SKIM_REC_BYTES i) (ofLe (b.extract (8 * i) (8 * i + 8))))
    (s.wr F.OBS_SKIM_STAT_RECORDS s.obs.skim.length)

/-- The sample of a record reaches every unit with SRC 0, its direction and two stages that the frame passed (R460). -/
def skimSample (r : SkimRec) (s : State) : State :=
  ((List.range 32).filter fun h =>
      s.rd (F.OBS_HIST_CFG_SRC h) == 0 && s.rd (F.OBS_HIST_CFG_DIR h) == r.flags % 2 &&
      decide (s.rd (F.OBS_HIST_CFG_STAGE_A h) ≤ r.endStage) && decide (s.rd (F.OBS_HIST_CFG_STAGE_B h) ≤ r.endStage)).foldl
    (fun a h =>
      let d := toSigned 32 (r.stamps.getD (s.rd (F.OBS_HIST_CFG_STAGE_B h)) 0 + 2 ^ 32 - r.stamps.getD (s.rd (F.OBS_HIST_CFG_STAGE_A h)) 0)
      histAdd h (histBin (s.rd (F.OBS_HIST_CFG_UNIT_LOG2 h)) d.toNat) a) s

/-- The record of the oldest frame that ended goes into the queue (R459); while the queue is full it waits. -/
def skimRecord (s : State) : State :=
  match s.obs.finished with
  | [] => s
  | r :: rest =>
    if 512 ≤ s.obs.skim.length then s
    else
      let n := (s.obs.skimSeq + 1) % 2 ^ 24
      let x := { r with seq := n }
      let s1 := showSkim (skimSample x (s.modObs fun o => { o with finished := rest, skimSeq := n, skim := o.skim ++ [x] }))
      if s1.obs.skim.length = 512 ∧ ¬ s1.obs.skimFull then raise E.OBS_SKIM_FULL (s1.modObs fun o => { o with skimFull := true }) else s1

/-- Removes the oldest record (OBS_SKIM_STAT.POP). -/
def skimPop (s : State) : State := showSkim (s.modObs fun o => { o with skim := o.skim.drop 1, skimFull := false })

/-! Histograms. -/

/-- CLR of a unit, for the next tick (R461). -/
def histWant (h : Nat) (s : State) : State := s.modObs fun o => { o with histClear := o.histClear ++ [h] }
/-- The units cleared at a tick. -/
def histTick (s : State) : State := (s.obs.histClear.foldl (fun a h => histZero h a) s).modObs fun o => { o with histClear := [] }

/-- A write of OBS_HIST_CFG that changes SRC, INDEX or UNIT_LOG2 zeroes the unit (R461). -/
def histCfgWrite (old new : State) (h : Nat) : State :=
  if old.rd (F.OBS_HIST_CFG_SRC h) = new.rd (F.OBS_HIST_CFG_SRC h) ∧ old.rd (F.OBS_HIST_CFG_INDEX h) = new.rd (F.OBS_HIST_CFG_INDEX h) ∧
      old.rd (F.OBS_HIST_CFG_UNIT_LOG2 h) = new.rd (F.OBS_HIST_CFG_UNIT_LOG2 h) then new
  else histZero h new

/-! Views. -/

/-- A register that no view may name (R464): those of HIF, CFG, PWR, MEC, CPH and PRT, and the table windows. -/
def viewForbidden (a : Nat) : Bool :=
  decide (a < 0x300000) || (decide (0x2000000 ≤ a) && decide (a < 0x3000000)) || (decide (0x3A00000 ≤ a) && decide (a < 0x3C00000)) ||
  (decide (0x3E80000 ≤ a) && decide (a < 0x3F00000)) ||
  (match regAt a with
    | none => false
    | some r =>
      (List.range 8).any (fun i => r.addr == (F.FWD_TBL_DATA_WORD i).addr) ||
      (List.range 4).any (fun i => r.addr == (F.TMG_TBL_DATA_WORD i).addr) ||
      (List.range 32).any (fun n =>
        r.addr == (F.GNT_ALLOC_DATA_WORD n 0).addr || r.addr == (F.GNT_ALLOC_DATA_WORD n 1).addr ||
        (decide ((F.FRM_PM_DATA_DATA n 0).addr ≤ r.addr) && decide (r.addr ≤ (F.FRM_PM_DATA_DATA n 31).addr)) ||
        (decide ((F.FRM_MSG_RX_BYTES n 0).addr ≤ r.addr) && decide (r.addr ≤ (F.FRM_MSG_RX_BYTES n 11).addr))))

/-- A write of OBS_VIEW_BIND (R464). -/
def viewBind (v k w : Nat) (s : State) : State :=
  let kind := slice w 0 3
  let arg := slice w 32 26
  ((s.wr (F.OBS_VIEW_BIND_KIND v k) kind).wr (F.OBS_VIEW_BIND_ARG v k) arg).wr (F.OBS_VIEW_BIND_BAD v k)
    (bit (kind == 4 && viewForbidden arg))

/-- A write to a view page (R463). -/
def viewWrite (v : Nat) (s : State) : State := raiseSec E.OBS_VIEW_WRITE (s.sat (F.OBS_VIEW_CFG_WRITES v) 1)

/-! The commands. -/

/-- SKIM_RECORD (R459). -/
def execSkimRecord (s : State) : Out := .next (s.when s.works skimRecord)
end Sys2Proof.Machine
end

