-- ==== Sys2Proof/Machine/Uplink.lean ====
section
/-! DEFINITION. Machine/Uplink.lean: UPL: the checks and sorting of received frames (R430 to R432), links, and the host path (R433). -/
namespace Sys2Proof.Machine

/-- MAX_FRAME within 1,518 to 9,728 bytes. -/
def State.maxFrame (s : State) (u : Nat) : Nat := clampTo 1518 9728 (s.rd (F.UPL_PORT_CFG_MAX_FRAME u))

/-! The host path (R433). -/

/-- First byte of the receive and transmit rings. -/
def State.rxBase (s : State) : Nat := s.rd F.UPL_HOST_CFG_RX_BASE * 524288
def State.txBase (s : State) : Nat := s.rd F.UPL_HOST_CFG_TX_BASE * 131072
/-- Both rings lie wholly in the host area. -/
def State.hostPath (s : State) : Bool := s.partn.hostArea s.rxBase 524288 && s.partn.hostArea s.txBase 131072

/-- Shows the oldest descriptor (UPL_HRX_DESC). -/
def showHrx (s : State) : State :=
  let d := s.hrx.headD ⟨0, 0, 0, 0, 0⟩
  (((((s.wr F.UPL_HRX_DESC_VALID (bit !s.hrx.isEmpty)).wr F.UPL_HRX_DESC_PORT d.port).wr F.UPL_HRX_DESC_KIND d.kind).wr
    F.UPL_HRX_DESC_SLOT d.slot).wr F.UPL_HRX_DESC_LEN d.len).wr F.UPL_HRX_DESC_STAMP d.stamp

/-- A frame for the host: written to the next slot, or dropped and counted in HOST_DROP (R433, R438). DEDUCED (assumption 48): R352 names no
requester for the host path, and its accesses are the host window's. -/
def toHost (u kind : Nat) (bytes : List Nat) (s : State) : State :=
  let drop := uplCount u 11 1 s
  if s.minor < 3 ∨ ¬ s.hostPath then drop
  else if 256 ≤ s.hrx.length ∨ 2048 < bytes.length then raiseSec (E.UPL_HOST_RX_DROP u) drop
  else
    let slot := s.hostIf.hrxNext
    let s1 := dramPut 11 (bytesAt (s.rxBase + 2048 * slot) bytes) { s with hrx := s.hrx ++ [⟨u, kind, slot, bytes.length, s.stamp32⟩] }
    showHrx (s1.draw.modHost fun h => { h with hrxNext := (slot + 1) % 256 })

/-- UPL_HTX_CMD with GO: posts a frame, or shows the code that refuses it. -/
def htxPost (slot port len : Nat) (s : State) : State :=
  let s0 := ((s.wr F.UPL_HTX_CMD_SLOT slot).wr F.UPL_HTX_CMD_PORT port).wr F.UPL_HTX_CMD_LEN len
  let c := if ¬ s.hostPath then 1
    else if len < 60 ∨ 2048 < len then 2
    else if ¬ s.portUp port then 3
    else if 64 ≤ s.htx.length then 4
    else 0
  let s1 := s0.wr F.UPL_HTX_STAT_CODE c
  let s2 : State := { s1 with htx := s1.htx ++ [⟨slot % 64, port % 16, len⟩] }
  if c = 0 then s2.wr F.UPL_HTX_STAT_PENDING s2.htx.length else s1

/-- The number in a run of bytes, first byte highest. -/
def beNum (l : List Nat) : Nat := l.foldl (fun a b => a * 256 + b) 0

/-- The VLAN tags of a frame from byte `o` on, outermost first, as VID and PCP. -/
def tagsOf (b : List Nat) : Nat → Nat → List (Nat × Nat)
  | 0, _ => []
  | k + 1, o =>
    if beNum (b.extract o (o + 2)) = 0x8100 then
      (beNum (b.extract (o + 2) (o + 4)) % 4096, beNum (b.extract (o + 2) (o + 4)) / 8192) :: tagsOf b k (o + 4)
    else []

/-- The header of a frame by its bytes. -/
def headerOf (b : List Nat) (len : Nat) : TxHeader :=
  let t := tagsOf b (b.length / 4) 12
  let h := t.headD (0, 0)
  ⟨beNum (b.extract 0 6), beNum (b.extract 6 12), !t.isEmpty, h.1, h.2, len, t.tail⟩

/-- UPL sends the oldest posted frame, when its port's link is up and its bytes can be read (R361, R433). -/
def htxSend (s : State) : State :=
  match s.htx with
  | [] => s
  | p :: rest =>
    if ¬ s.portUp p.port ∨ s.zeroing (s.txBase + 2048 * p.slot) p.len then s
    else
      let g := dramGet 11 (s.txBase + 2048 * p.slot) p.len s
      txFrame p.port p.len (some (headerOf g.1 p.len))
        ((({ g.2 with htx := rest } : State).wr F.UPL_HTX_STAT_PENDING rest.length).wrap F.UPL_HTX_STAT_DONE 1)

/-! Received frames. -/

/-- A received downstream frame as it enters the device (R298, R458). -/
def downFrame (u : Nat) (x : RxFrame) (tagged : Bool) : Frame :=
  { up := false, src := u, len := x.len, dst := x.dst, smac := x.smac, tagged := x.tagged, vid := x.vid, pcp := x.pcp, tport := 0,
    term := 0, key := 0, sfc := 0, flow := 0, cells := [], pool := 0, red := false, inner := x.inner, pos := 0, icb := none, tags := [], copies := false,
    marks := if tagged then some [] else none }

/-- Every frame of a port lets those held behind it come closer; the ones whose turn has come follow this frame (R466). -/
def passHeldFrames (u : Nat) (s : State) : List HeldRx × State :=
  let h := (SMap.getD s.upl u UplPort.initial).held.map fun e => (e.1 - 1, e.2)
  ((h.filter fun e => e.1 == 0).map (·.2), s.modUpl u fun x => { x with held := h.filter fun e => e.1 != 0 })

/-- A sorted frame goes on: to BPM, where a frame for FWD asks for its cells (R300), or to the host path. -/
def sendOn (u : Nat) (h : HeldRx) (s : State) : State :=
  match h with
  | .forward f => s.modBpm fun b => { b with arriving := b.arriving ++ [(s.ticks, f)] }
  | .host k bytes => toHost u k bytes s
  | .counted => s

/-- Frames for the host that a lock has released reach the host path (R469). -/
def takeReleased (s : State) : State :=
  s.upl.foldl (fun a e => e.2.released.foldl (fun b x => toHost e.1 x.1 x.2 b) (a.modUpl e.1 fun p => { p with released := [] })) s

/-- A frame for FWD is tagged and passes its first stage (R458). In STANDBY, and in a start before step 14 opens the traffic, it is dropped, and
counted in a count of the model's (R28, R36, R101, assumption 62). -/
def toFwd (u : Nat) (x : RxFrame) (s : State) : HeldRx × State :=
  if ¬ s.forwards then (.counted, s.modUpl u fun p => { p with notForwarded := p.notForwarded + 1 })
  else
    let t := skimTag false u x.skim s
    let a := passStage (downFrame u x t.1) false 0 u t.2
    (.forward a.1, a.2)

/-- The class of a frame in UPL by its bytes (R432), the EtherType behind its VLAN tags (assumption 45): 0 any other frame, 1 a PTP Sync,
Follow_Up, Delay_Req or Delay_Resp message, 2 a PTP Announce, Signaling or Management message, 3 any other PTP message, 4 ESMC, 5 LLDP, 6 an
Annex 31B pause, 7 a priority pause, 8 any other MAC control frame. -/
def frameKind (b : List Nat) : Nat :=
  let o := 12 + 4 * (tagsOf b (b.length / 4) 12).length
  let ty := beNum (b.extract o (o + 2))
  let m := b.getD (o + 2) 0 % 16
  let op := beNum (b.extract (o + 2) (o + 4))
  if ty = 0x88F7 then (if m = 0 ∨ m = 1 ∨ m = 8 ∨ m = 9 then 1 else if 11 ≤ m ∧ m ≤ 13 then 2 else 3)
  else if ty = 0x8809 then (if b.getD (o + 2) 0 = 0x0A then 4 else 0)
  else if ty = 0x88CC then 5
  else if ty = 0x8808 then (if op = 1 then 6 else if op = 0x0101 then 7 else 8)
  else 0

/-- The priorities that a received priority pause enables, and those among them whose time is 0. -/
def pauseClasses (b : List Nat) : Nat × Nat :=
  let o := 16 + 4 * (tagsOf b (b.length / 4) 12).length
  (beNum (b.extract o (o + 2)) % 256,
    (List.range 8).foldl (fun a c => if beNum (b.extract (o + 2 + 2 * c) (o + 4 + 2 * c)) = 0 then withBit a c else a) 0)

/-- Sorts a good frame by its kind (R432), and says where it goes. A MAC control frame is consumed here (R431). -/
def sortFrame (u kind : Nat) (x : RxFrame) (bytes : List Nat) (s : State) : HeldRx × State :=
  let role := s.rd (F.TSU_PORT_CFG_ROLE u)
  if kind = 1 ∧ role ≠ 0 then (.counted, s)
  else if kind = 2 ∧ role ≠ 0 then (.host 0 bytes, s)
  else if kind = 1 ∨ kind = 2 ∨ kind = 3 then (.counted, uplCount u 10 1 s)
  else if kind = 4 ∧ s.on (F.UPL_PORT_CFG_TRAP_ESMC u) then (.host 1 bytes, s)
  else if kind = 5 ∧ s.on (F.UPL_PORT_CFG_TRAP_LLDP u) then (.host 2 bytes, s)
  else if kind = 6 then (.counted, raiseSec (E.UPL_PAUSE_GLOBAL_RX u) (uplCount u 9 1 s))
  else if kind = 7 then (.counted, pfcRx u (pauseClasses bytes).1 (pauseClasses bytes).2 s)
  else if kind = 8 then (.counted, s)
  else toFwd u x s

/-- Code words of a frame that fail to arrive intact, with the bit errors that an injected corruption adds ahead of the decoder (R466). -/
def State.hitWords (s : State) (u action len corr uncorr : Nat) : Nat × Nat :=
  if action = 2 then
    let e := Config.bitErrors (clampTo 1 9 (s.rd (F.OBS_INJ_CFG_RATE_M (32 + u)))) (clampTo 2 12 (s.rd (F.OBS_INJ_CFG_RATE_E (32 + u)))) len s.fresh
    (corr + e.1, uncorr + e.2)
  else (corr, uncorr)

/-- A frame is received on a port (R430): FCS wrong, code words corrected and uncorrectable that carried it, and its content. `kind` stands for
the bytes where a frame comes with none. -/
def rxFrame (u kind : Nat) (x : RxFrame) (bytes : List Nat) (fcsBad : Bool) (corr uncorr : Nat) (selected : Bool) (s : State) : State :=
  let r := inject (32 + u) selected s
  let w := r.2.hitWords u r.1 x.len corr uncorr
  let s1 := (uplCount u 13 w.2 (uplCount u 12 w.1 r.2)).when (r.1 == 2) State.draw
  let s2 := s1.when (w.2 != 0) (raiseSec (E.UPL_FEC_UNCORR u))
  let h := passHeldFrames u s2
  let out :=
    if fcsBad then uplCount u 4 1 h.2
    else if x.len + 4 < 64 then uplCount u 6 1 h.2
    else if s.maxFrame u < x.len + 4 then uplCount u 5 1 h.2
    else if w.2 ≠ 0 then uplCount u 7 1 h.2
    else
      let c := uplCount u 1 (x.len + 4) (uplCount u 0 1 h.2)
      if r.1 = 1 then c
      else
        let k := sortFrame u (if bytes.isEmpty then kind else frameKind bytes) x bytes c
        if r.1 = 3 then k.2.modUpl u fun p => { p with held := p.held ++ [(s.injDepth (32 + u), k.1)] } else sendOn u k.1 k.2
  h.1.foldl (fun a f => sendOn u f a) out

/-! Links. -/

/-- A link goes down (R430). -/
def linkDown (u : Nat) (s : State) : State :=
  if s.on (F.UPL_PORT_STAT_LINK u) then
    raise (E.UPL_LINK_DOWN u) ((s.wr (F.UPL_PORT_STAT_LINK u) 0).sat (F.UPL_PORT_STAT_LINK_DOWNS u) 1)
  else s

/-- A link comes up on a port that exists, whose tiles are JOINED, and that alternate 3 has not left disabled (R101). -/
def linkUp (u : Nat) (s : State) : State :=
  if s.rd (F.UPL_PORT_STAT_WIDTH u) = 0 ∨ s.on (F.UPL_PORT_STAT_LINK u) ∨ ¬ s.joined (s.uplinkGroup u) ∨ (s.rd (F.UPL_PORT_STAT_WIDTH u) = 3 ∧ ¬ s.joined (s.uplinkGroup u + 1)) ∨ hasBit s.cfg.disabled (32 + u) then s
  else raise (E.UPL_LINK_UP u) (s.wr (F.UPL_PORT_STAT_LINK u) 1)

/-! The commands. -/

/-- UPLINK_RX_FRAME (R430). -/
def execUplinkRxFrame (u kind : Nat) (x : RxFrame) (bytes : List Nat) (fcsBad : Bool) (corr uncorr : Nat) (selected : Bool) (s : State) :
    Out :=
  .next (s.when (s.works && decide (u < 16) && s.portUp u) (rxFrame u kind x bytes fcsBad corr uncorr selected))
/-- LINK_DOWN (R430). -/
def execLinkDown (u : Nat) (s : State) : Out := .next (s.when (s.works && decide (u < 16)) (linkDown u))
/-- LINK_UP (R430). -/
def execLinkUp (u : Nat) (s : State) : Out := .next (s.when (s.works && decide (u < 16)) (linkUp u))
/-- HOST_TX_SEND (R433). -/
def execHostTxSend (s : State) : Out := .next (s.when s.works htxSend)

end Sys2Proof.Machine
end

