-- ==== Sys2Proof/Machine/Hub.lean ====
section
/-! DEFINITION. Machine/Hub.lean: the event hub's records and ring (R441 to R445), the freeze of R449, the PCIe link (R434, R435, R493), the
flash pass-through (R439) and the host API minor (R438). -/
namespace Sys2Proof.Machine

/-! The record ring (R443, R444). -/

/-- Records that the ring holds: none with SIZE_LOG2 0; 1 to 7 act as 8. -/
def State.ringSize (s : State) : Nat :=
  let k := s.rd F.HIF_EVT_RING_SIZE_LOG2
  if k = 0 then 0 else 2 ^ clampTo 8 16 k

/-- Records written and not yet consumed. -/
def State.ringUsed (s : State) : Nat := (s.rd F.HIF_EVT_PI_PI + 2 ^ 32 - s.rd F.HIF_EVT_CI_CI) % 2 ^ 32
def State.ringFull (s : State) : Bool := decide (s.ringSize ≤ s.ringUsed)

/-- The 16 bytes of a record (R443); below minor 2, FLAGS and LAST are zero (R438). -/
def PRec.bytes (r : PRec) (seq minor : Nat) : List Nat :=
  leNats 3 seq ++ [if minor < 2 then 0 else bit r.sat + 2 * bit r.logged + 4 * bit r.held + 8 * bit r.reflex] ++ leNats 2 r.src ++
  leNats 2 r.count ++ leNats 4 r.first ++ leNats 4 (if minor < 2 then 0 else r.last)

/-- Due records wait for room: they carry HELD when written. -/
def holdDue (s : State) : State :=
  s.modHub fun h => { h with recs := h.recs.map fun r => if r.due then { r with held := true } else r }

/-- Records that are due while the ring is full have waited for room, whatever the host now does to the ring (R443). -/
def heldNow (s : State) : State := s.when (s.ringSize != 0 && s.ringFull) holdDue

/-- Writes the oldest due record by DMA, then its message (R442, R444, R445). -/
def recordWrite (s : State) : State :=
  match s.hub.recs.find? fun r => r.due with
  | none => s
  | some r =>
    if ¬ s.hostIf.pcieLive ∨ ¬ s.on F.HIF_PCIE_STAT_BUS_MASTER ∨ s.ringSize = 0 then s
    else if s.ringFull then holdDue s
    else
      let n := (s.hub.seq + 1) % 2 ^ 24
      let a := s.rd F.HIF_EVT_RING_BASE * 4096 + s.rd F.HIF_EVT_PI_PI % s.ringSize * 16
      let s1 := { s with hostMem := s.hostMem.writeBytes a ((r.bytes n s.minor).map (BitVec.ofNat 8)) }.wrap F.HIF_EVT_PI_PI 1
      let s2 := s1.modHub fun h => { h with seq := n, recs := dropFirst (fun x => x.src == r.src) h.recs }
      let s3 := s2.when (s2.on (F.HIF_EVT_ROUTE_MSIX r.src)) fun t => sendMsix (t.rd (F.HIF_EVT_ROUTE_VECTOR r.src)) t
      s3.when (s3.ringFull && !s3.hub.ringFull) fun t => raise E.HIF_RING_FULL (t.modHub fun h => { h with ringFull := true })

/-- COAL_US of its source's group has passed since a pending record's FIRST (R442). -/
def State.coalesced (s : State) (r : PRec) : Bool := decide (r.opened + s.rd (F.HIF_EVT_COAL_COAL_US (r.src / 32)) * 1000 ≤ s.nowNs)

/-- A pending record is due (R442). -/
def recordDue (src : Nat) (s : State) : State :=
  let s1 := s.modHub fun h => { h with recs := h.recs.map fun r => if r.src == src && s.coalesced r then { r with due := true } else r }
  heldNow s1

/-- A write of HIF_EVT_RING: PI and CI start again at 0 (R444). -/
def ringWrite (w : Nat) (s0 : State) : State :=
  let s := heldNow s0
  ((((s.wr F.HIF_EVT_RING_SIZE_LOG2 (slice w 0 4)).wr F.HIF_EVT_RING_BASE (slice w 12 52)).wr F.HIF_EVT_PI_PI 0).wr
    F.HIF_EVT_CI_CI 0).modHub fun h => { h with ringFull := false }

/-- A write of HIF_EVT_CI (R444). -/
def ciWrite (v : Nat) (s : State) : State :=
  let s1 := (heldNow s).wr F.HIF_EVT_CI_CI v
  s1.modHub fun h => { h with ringFull := h.ringFull && s1.ringFull }

/-! Reflexes. -/

/-- A write of HIF_RFX_FROZEN: the trees written 1 thaw at the next tick (R449). -/
def freezeEnd (mask : Nat) (s : State) : State :=
  let m := s.rd F.HIF_RFX_FROZEN_FROZEN &&& mask
  (s.wr F.HIF_RFX_FROZEN_FROZEN (without (s.rd F.HIF_RFX_FROZEN_FROZEN) m)).modHub fun h => { h with unfreeze := h.unfreeze ||| m }

/-- The commit of group 49 (R447, R448): a rule whose action is refused is held invalid, and a change of SOURCE, ACTION or ARG clears
FIRED, SPENT and the hold time. `old` is the state before the commit. -/
def reflexCommit (old s : State) : State :=
  (List.range 256).foldl (fun a r =>
    let bad := a.on (F.HIF_RFX_RULE_VALID r) && badRule (a.rd (F.HIF_RFX_RULE_ACTION r)) (a.rd (F.HIF_RFX_RULE_ARG r))
    let b := if bad = a.on (F.HIF_RFX_CNT_BAD r) then a else a.wr (F.HIF_RFX_CNT_BAD r) (bit bad)
    if old.rd (F.HIF_RFX_RULE_SOURCE r) = a.rd (F.HIF_RFX_RULE_SOURCE r) ∧ old.rd (F.HIF_RFX_RULE_ACTION r) = a.rd (F.HIF_RFX_RULE_ACTION r) ∧
        old.rd (F.HIF_RFX_RULE_ARG r) = a.rd (F.HIF_RFX_RULE_ARG r) then b
    else ((b.wr (F.HIF_RFX_CNT_FIRED r) 0).wr (F.HIF_RFX_CNT_SPENT r) 0).modHub fun h => { h with lastFire := SMap.del h.lastFire r }) s

/-! The PCIe link. -/

/-- The endpoint trains (R434): the link is up, and a link-down that was owed is raised (R435). -/
def pcieUp (s : State) : State :=
  if ¬ s.hostIf.endpoint ∨ s.hostIf.pcieLive then s
  else
    let s1 := ((s.wr F.HIF_PCIE_STAT_WIDTH (2 ^ (Config.linkWidth s.fresh % 3))).wr F.HIF_PCIE_STAT_SPEED
      (1 + Config.linkSpeed s.fresh % 4)).draw.modHost
      fun h => { h with pcieLive := true, linkDownDue := false }
    sendPending (s1.when s.hostIf.linkDownDue (raise E.HIF_PCIE_LINK_DOWN))

/-- PERST_N resets the endpoint and its configuration space (R493). -/
def perst (s : State) : State :=
  if ¬ s.hostIf.endpoint then s
  else (((pcieDown s).wr F.HIF_PCIE_STAT_BUS_MASTER 0).modHub fun h => { h with msix := [] }).modHost fun h => { h with aer := 0 }

/-! The flash pass-through. -/

/-- HIF_SPI_CMD with GO (R438, R439): issued, or refused below minor 4, while busy and during steps 5 and 6. -/
def spiCmd (read : Bool) (opcode addrBytes dummy len : Nat) (quad : Bool) (s : State) : State :=
  if s.minor < 4 then s.wr F.HIF_SPI_STAT_REFUSED 1
  else
    let s0 := (((((s.wr F.HIF_SPI_CMD_OPCODE opcode).wr F.HIF_SPI_CMD_ADDR_BYTES addrBytes).wr F.HIF_SPI_CMD_DUMMY dummy).wr
      F.HIF_SPI_CMD_LEN len).wr F.HIF_SPI_CMD_READ (bit read)).wr F.HIF_SPI_CMD_QUAD (bit quad)
    if s.hostIf.spiBusy ∨ (s.cfg.run.any fun r => r.step == 5 || r.step == 6) then s0.wr F.HIF_SPI_STAT_REFUSED 1
    else ((s0.wr F.HIF_SPI_STAT_REFUSED 0).wr F.HIF_SPI_STAT_BUSY 1).modHost fun h => { h with spiBusy := true }

/-- A pass-through command completes (R439). `data` is what the flash returned to a read, and `writes` the bytes of the flash that the command
changed: what a command does inside the flash is the flash's own. -/
def spiDone (data : List Nat) (writes : List (Nat × Nat)) (s : State) : State :=
  if ¬ s.hostIf.spiBusy then s
  else
    let len := min 256 (s.rd F.HIF_SPI_CMD_LEN)
    let s1 := { s with flash := writes.foldl (fun (m : Memory) (w : Nat × Nat) => m.write (w.1 % 2 ^ 28) (BitVec.ofNat 8 w.2)) s.flash }
    let s2 := s1.when (s.on F.HIF_SPI_CMD_READ) fun t =>
      (List.range ((len + 3) / 4)).foldl (fun a i =>
        a.wr (F.HIF_SPI_DATA_DATA i) (ofLe ((List.range 4).map fun j => if 4 * i + j < len then data.getD (4 * i + j) 0 % 256 else 0))) t
    raise E.HIF_SPI_DONE ((s2.wr F.HIF_SPI_STAT_BUSY 0).modHost fun h => { h with spiBusy := false })

/-! The commands. -/

/-- PCIE_LINK_DOWN (R435). -/
def execPcieLinkDown (s : State) : Out := .next (s.when s.awake pcieDown)
/-- PCIE_LINK_UP (R435). -/
def execPcieLinkUp (s : State) : Out := .next (s.when s.works pcieUp)
/-- BUS_MASTER_ENABLE (R444). -/
def execBusMasterEnable (s : State) : Out := .next (s.when (s.reach .pcie) fun a => sendPending (a.wr F.HIF_PCIE_STAT_BUS_MASTER 1))
/-- SPI_DONE (R439). -/
def execSpiDone (data : List Nat) (writes : List (Nat × Nat)) (s : State) : Out := .next (s.when s.ticking (spiDone data writes))
/-- EVENT_OCCURRENCE (R441). -/
def execEventOccurrence (id : Nat) (s : State) : Out :=
  .next (match E.ofId id with
    | none => s
    | some e => s.when s.ticking (raise e))
/-- RECORD_DUE (R442). -/
def execRecordDue (src : Nat) (s : State) : Out := .next (s.when s.ticking (recordDue src))
/-- RECORD_WRITE (R444). -/
def execRecordWrite (s : State) : Out := .next (s.when s.ticking recordWrite)
end Sys2Proof.Machine
end

