-- ==== Sys2Proof/Machine/Sync.lean ====
section
/-! DEFINITION. Machine/Sync.lean: TSU: the time unit and ToD (R375 to R379), the sources and the servo (R380 to R382), PTP (R383 to R385),
the jump rule (R386 to R390), stamps (R391 to R393), time of day to the terminals (R394, R395), 1PPS and the serial port (R396, R397).
Offsets, steps and instants of PTP are in picoseconds. -/
namespace Sys2Proof.Machine

/-! Settings, with the values that a description makes out-of-range ones act as. -/

def State.srcMode (s : State) : Nat := s.rd F.TSU_CTRL_SRC_MODE
def State.ptpPort (s : State) : Nat := s.rd F.TSU_CTRL_PTP_PORT
def State.ptpDomain (s : State) : Nat :=
  let d := s.rd F.TSU_CTRL_DOMAIN
  if d < 24 ∨ 43 < d then 24 else d
/-- LOCK_NS and JUMP_TH in picoseconds, and JUMP_CONFIRM (TSU_SERVO_CFG, TSU_JUMP_CFG). -/
def State.lockPs (s : State) : Nat := max 1 (s.rd F.TSU_SERVO_CFG_LOCK_NS) * 10000
def State.jumpPs (s : State) : Nat := clampTo 5 100000 (s.rd F.TSU_JUMP_CFG_JUMP_TH) * 10000
def State.jumpConfirm (s : State) : Nat := max 2 (s.rd F.TSU_JUMP_CFG_JUMP_CONFIRM)
/-- LOOP_S and HOLD_AVG_S (TSU_SERVO_CFG). -/
def State.loopS (s : State) : Nat := clampTo 1 16 (s.rd F.TSU_SERVO_CFG_LOOP_S)
def State.holdAvgS (s : State) : Nat := max 1 (s.rd F.TSU_SERVO_CFG_HOLD_AVG_S)

/-- The phase comes from PTP (SRC_MODE 1, 2) or from 1PPS (3) (R380). -/
def State.fromPtp (s : State) : Bool := s.srcMode == 1 || s.srcMode == 2
/-- SyncE, selected for frequency, delivers: its loop runs whatever becomes of the phase (R381, R382, R386). -/
def State.synceRuns (s : State) : Bool := s.srcMode == 2 && s.on F.TSU_STAT_FREQ_OK

/-- A port's exchange. -/
def State.ptp (s : State) (u : Nat) : PtpPort := SMap.getD s.tsu.ptp u PtpPort.initial
def State.modPtp (u : Nat) (g : PtpPort → PtpPort) (s : State) : State :=
  s.modTsu fun t => { t with ptp := SMap.put t.ptp u (g (s.ptp u)) }

/-- Picoseconds as a signed 32-bit number of nanoseconds, rounded down; outside that format the value shown is free. -/
def State.ns32 (s : State) (ps : Int) : Nat :=
  let n := ps / 1000
  if -2147483648 ≤ n ∧ n < 2147483648 then ofSigned 32 n else Config.outOfRange s.fresh

/-- Sets the time unit of the latest tick. -/
def setUnit (ns : Nat) (s : State) : State := s.modTsu fun t => { t with sec := ns / 1000000000 % 2 ^ 48, ns := ns % 1000000000 }

/-- A pending time-of-day result becomes STALE when its frame has not opened before this tick (R395). -/
def staleTod (s : State) : State :=
  s.when (s.tsu.todReq.any fun q => decide (s.ticks ≤ q.2.2)) fun a => a.wr F.TSU_TOD_RES0_STALE 1

/-- Changes TOD_OFS (R376). -/
def setTodOfs (ps : Int) (s : State) : State :=
  if ofSigned 64 ps = s.rd F.TSU_TOD_OFS_OFS_PS then s else staleTod (s.wr F.TSU_TOD_OFS_OFS_PS (ofSigned 64 ps))

/-- The ToD timestamp, in units of 1/65536 ns, of an instant in the same units since the latest tick (R376, R391). -/
def State.todStamp (s : State) (at_ : Nat) : Int := s.todFine / 2 ^ 24 + ((at_ % 8192000000 : Nat) : Int) - ((s.tsu.since * 65536 : Nat) : Int)

/-- The increment of a datapath cycle in units of 2^-40 ns: nominally 0.8 ns, steered by FREQ in units of 0.01 ppb (R375). -/
def cycleInc (freq : Int) : Nat := (8 * 2 ^ 40 * (10 ^ 11 + freq) / 10 ^ 12).toNat
/-- How far the time unit has passed a point `need` ahead of it, in units of 2^-40 ns, in the first cycle that reaches it. -/
def beyond (inc need : Nat) : Nat := (need + inc - 1) / inc * inc - need
def State.inc (s : State) : Nat := cycleInc (toSigned 32 (s.rd F.TSU_FREQ_FREQ))

/-! The servo. -/

/-- The servo takes a state of R381 and raises what entering it raises (R15). -/
def setServo (st : Nat) (s : State) : State :=
  if s.rd F.TSU_STAT_STATE = st then s
  else
    let s1 := (s.wr F.TSU_STAT_STATE st).modTsu fun t => { t with inLock := 0, holdAt := none }
    if st = 0 then raise E.TSU_FREERUN s1
    else if st = 2 then raise E.TSU_TIME_LOCKED s1
    else if st = 3 then raise E.TSU_HOLDOVER s1
    else s1

/-- The steering values that were in force within the last `w` ticks before tick `now`, newest first, by a history (R375). -/
def within (now w : Nat) : List (Nat × Int) → List Int
  | [] => []
  | e :: l => e.2 :: if now < e.1 + w then within now w l else []

/-- FREQ, and every value it had in the last second. -/
def State.lastFreqs (s : State) : List Int := toSigned 32 (s.rd F.TSU_FREQ_FREQ) :: within s.ticks 8000 s.tsu.freqs

/-- What remains of a steering within ±12.0 ppm, and within 0.1 ppm of every value of the last second (R375). -/
def State.freqLimit (s : State) (ask : Int) : Int :=
  let lo := s.lastFreqs.foldl (fun a v => max a (v - 10000)) (-1200000)
  let hi := s.lastFreqs.foldl (fun a v => min a (v + 10000)) 1200000
  max lo (min hi ask)

/-- The history keeps what the longest HOLD_AVG_S, 255 s, needs. -/
def keepFreqs (now : Nat) : List (Nat × Int) → List (Nat × Int)
  | [] => []
  | e :: l => e :: if now < e.1 + 2040000 then keepFreqs now l else []

/-- The steering changes to what its limits leave of a value; a first change notes what it was from the start on. -/
def setFreq (ask : Int) (s : State) : State :=
  let old := toSigned 32 (s.rd F.TSU_FREQ_FREQ)
  let got := s.freqLimit ask
  if got = old then s
  else
    let l := if s.tsu.freqs.isEmpty then [(0, old)] else s.tsu.freqs
    (s.wr F.TSU_FREQ_FREQ (ofSigned 32 got)).modTsu fun t => { t with freqs := keepFreqs s.ticks ((s.ticks, got) :: l) }

/-- Steers as a loop asks; a limit that acts raises FREQ_LIMIT (R375). -/
def steer (ask : Int) (s : State) : State :=
  (setFreq ask s.draw).when (s.freqLimit ask != ask) (raiseSec E.TSU_FREQ_LIMIT)

/-- The sum of a history's values over the ticks from `from_` to `end_`, each weighed with the ticks it was in force, and those ticks. -/
def freqSum (from_ : Nat) : Nat → List (Nat × Int) → Int × Nat
  | _, [] => (0, 0)
  | end_, (t, v) :: l =>
    let d := end_ - max t from_
    let r := if t ≤ from_ then (0, 0) else freqSum from_ t l
    (v * (d : Int) + r.1, d + r.2)

/-- The mean servo output over the last HOLD_AVG_S seconds (R381). -/
def State.meanFreq (s : State) : Int :=
  let r := freqSum (s.ticks - 8000 * s.holdAvgS) s.ticks s.tsu.freqs
  if r.2 = 0 then toSigned 32 (s.rd F.TSU_FREQ_FREQ) else r.1 / (r.2 : Int)

/-- In HOLDOVER the frequency is held at the mean before the loss, which the steering reaches within its limits (R375, R381). -/
def holdFreq (s : State) : State :=
  let m := s.meanFreq
  setFreq m (s.modTsu fun t => { t with holdAt := some m })

/-- A selected source is lost (R381): SRC_LOST, and from LOCKED or ACQUIRING the servo holds over; the frequency is held unless SyncE's loop
keeps it (R382). -/
def sourceLost (s : State) : State :=
  let s1 := raise E.TSU_SRC_LOST s
  let s2 := if s1.rd F.TSU_STAT_STATE = 1 ∨ s1.rd F.TSU_STAT_STATE = 2 then setServo 3 s1 else s1
  s2.when (s2.rd F.TSU_STAT_STATE == 3 && s2.tsu.holdAt.isNone && !s2.synceRuns) holdFreq

/-- The phase source delivers a measurement (R381): ACQUIRING from FREERUN, and from HOLDOVER when it delivers again. -/
def phaseDelivers (s : State) : State :=
  let again := !s.on F.TSU_STAT_PHASE_OK
  let s1 := s.wr F.TSU_STAT_PHASE_OK 1
  let s2 := if s.srcMode = 2 then s1 else s1.wr F.TSU_STAT_FREQ_OK 1
  if s.rd F.TSU_STAT_STATE = 0 ∨ (s.rd F.TSU_STAT_STATE = 3 ∧ again) then setServo 1 s2 else s2

/-- A measurement reaches the servo (R381): it steers, counts toward LOCKED, and the next prediction follows. At the held frequency of
HOLDOVER nothing steers. -/
def intoServo (ofs : Int) (s : State) : State :=
  let near := decide (ofs.natAbs ≤ s.lockPs)
  let s1 := if s.rd F.TSU_STAT_STATE = 3 then s else steer (Config.servoAsk s.fresh s.loopS ofs) s
  let s2 := (s1.modTsu fun t => { t with pred := Config.predict s1.fresh, outliers := [], inLock := if near then min (t.inLock + 1) 16 else 0 }).draw
  if s2.rd F.TSU_STAT_STATE = 1 ∧ s2.tsu.inLock = 16 then setServo 2 s2 else s2

/-! The jump rule. -/

/-- Clears the pending jump (R386, R387). -/
def clearJump (cause : Nat) (s : State) : State :=
  raise E.TSU_JUMP_CLEARED
    ((((s.wr F.TSU_STAT_PENDING 0).wr F.TSU_JUMP_STAT_PENDING 0).wr F.TSU_JUMP_STAT_CAUSE cause).modTsu fun t =>
      { t with outliers := [], backRun := 0, accept := false, rebase := false })

/-- An outlier is counted and reported (R386). -/
def countOutlier (event : Bool) (s : State) : State :=
  (s.sat F.TSU_STAT_OUTLIERS 1).when event (raiseSec E.TSU_PHASE_OUTLIER)

/-- The last JUMP_CONFIRM outliers, when there are as many and they lie within JUMP_TH of one another (R386). -/
def State.agreeing (s : State) (l : List Int) : Option (List Int) :=
  let k := s.jumpConfirm
  let r := l.drop (l.length - k)
  if r.length = k ∧ r.all (fun a => r.all fun b => decide ((a - b).natAbs ≤ s.jumpPs)) then some r else none

/-- A jump becomes pending with STEP, the mean less the prediction (R386). -/
def setPending (r : List Int) (s : State) : State :=
  let step := (r.foldl (· + ·) 0) / (r.length : Int) - s.tsu.pred
  let s1 := ((((s.wr F.TSU_STAT_PENDING 1).wr F.TSU_JUMP_STAT_PENDING 1).wr F.TSU_JUMP_STAT_PORT (if s.fromPtp then s.ptpPort else 0)).wr
    F.TSU_JUMP_STAT_SOURCE (bit (!s.fromPtp))).wr F.TSU_JUMP_STAT_FRAME s.frame16
  raise E.TSU_JUMP_PENDING ((s1.wr F.TSU_JUMP_STAT_STEP_NS (s1.ns32 step)).draw.modTsu fun t =>
    { t with step := step, backRun := 0, accept := false, rebase := false })

/-- The jump rule on one measurement (R386, R396): `th` is how far from the prediction it may lie. Answers whether it fed the servo. -/
def judgePhase (th : Nat) (ofs : Int) (s : State) : State × Bool :=
  let out := decide (th < (ofs - s.tsu.pred).natAbs)
  if s.on F.TSU_STAT_PENDING then
    let s1 := countOutlier out (s.modTsu fun t => { t with backRun := if out then 0 else t.backRun + 1, inLock := 0 })
    (s1.when (decide (s1.jumpConfirm ≤ s1.tsu.backRun)) (clearJump 3), false)
  else if out then
    let s1 := countOutlier true (s.modTsu fun t => { t with outliers := (t.outliers.drop (t.outliers.length - 14)) ++ [ofs], inLock := 0 })
    match s1.agreeing s1.tsu.outliers with
    | some r => (setPending r s1, false)
    | none => (s1, false)
  else (intoServo ofs s, true)

/-- The source's time at this instant, in units of 2^-40 ns: the offset measured is the ToD less the source. -/
def State.sourceFine (s : State) (ofs : Int) : Nat := (s.todFine + ((s.offsetNs : Int) - s.tsu.since) * 2 ^ 40 - psFine ofs).toNat

/-- The step of R377: the time unit takes the source's time, and the next tick comes at the first multiple of 125,000 ns after it, no sooner than
125,000 ns after the previous one. TOD_OFS, which a warm resume restores, stays (R379). -/
def fixGrid (ofs : Int) (s : State) : State :=
  let src := s.sourceFine ofs
  let least := max (src + 1) (src + (125000 - s.offsetNs) * 2 ^ 40)
  let next := (least + 125000 * 2 ^ 40 - 1) / (125000 * 2 ^ 40) * 125000
  (setUnit (src / 2 ^ 40) (s.draw.wr F.TSU_STAT_GRID_FIXED 1)).draw.modTsu fun t =>
    { t with awaitStep := false, stepped := true, since := s.offsetNs, nextNs := next, frac := src % 2 ^ 40, pred := Config.predict (s.fresh + 1) }

/-- The first measurement after a skipped step 11 (R378): the seconds become the source's, TOD_OFS the difference below a second, and the
ticks stay. -/
def loadOffset (ofs : Int) (s : State) : State :=
  let src := ((s.unitNs : Nat) : Int) * 1000 + s.todOfsPs - ofs
  let sec := (src / 1000000000000).toNat
  (setTodOfs (src - (((sec * 1000000000 + s.tsu.ns : Nat) : Int)) * 1000)
    (s.modTsu fun t => { t with sec := sec % 2 ^ 48, awaitOfs := false, pred := Config.predict s.fresh })).draw

/-- A measurement of the selected phase source (R377, R378, R386). -/
def measure (th : Nat) (ofs : Int) (s : State) : State × Bool :=
  let s1 := phaseDelivers s
  if s1.tsu.awaitStep then (fixGrid ofs s1, true)
  else if s1.tsu.awaitOfs then (loadOffset ofs s1, true)
  else judgePhase th ofs s1

/-- PHASE_MEASUREMENT: the oldest offset of PTP_PORT that waits is judged. -/
def phaseMeasurement (s : State) : State :=
  match s.tsu.meas with
  | [] => s
  | o :: rest => (measure s.jumpPs o (s.modTsu fun t => { t with meas := rest })).1

/-! PTP. -/

/-- Port `u` has a role, and its link is up. -/
def State.ptpRole (s : State) (u role : Nat) : Bool :=
  s.works && decide (u < 16) && s.rd (F.TSU_PORT_CFG_ROLE u) == role && s.on (F.UPL_PORT_STAT_LINK u)

/-- The address that a port sends its PTP messages to (R383). -/
def State.ptpDst (s : State) (u : Nat) : Nat := if s.on (F.TSU_PORT_CFG_MAC_FWD u) then 0x011B19000000 else 0x0180C200000E

/-- A Sync on a slave port in the domain: TSU stamps its arrival; a two-step one has no t1 yet (R383, R384, R391). -/
def syncRx (u domain : Nat) (t1 : Option Int) (t2 : Nat) (cs : Int) (s : State) : State :=
  if s.ptpRole u 1 ∧ domain = s.ptpDomain then
    s.modPtp u fun p => { p with t1 := t1, t2 := s.todStamp t2, cs := cs, haveSync := true, resp := none }
  else s

/-- A slave port sends Delay_Req, whose departure TSU stamps (R383, R391). -/
def delayReqTx (u t3 : Nat) (s : State) : State :=
  if s.ptpRole u 1 then
    s.modPtp u fun p => { p with t3 := s.todStamp t3, haveReq := true, reqTx := p.reqTx + 1, lastReq := some (s.ptpDst u, s.todStamp t3) }
  else s

/-- The offset of R384 and the mean path delay in picoseconds, of timestamps in units of 1/65536 ns. -/
def ptpOffset (t1 t2 cs t3 t4 cd asym : Int) : Int := ((t2 - t1 - cs) - (t4 - t3 - cd)) * 1000 / 131072 - asym
def ptpDelay (t1 t2 cs t3 t4 cd : Int) : Int := ((t2 - t1 - cs) + (t4 - t3 - cd)) * 1000 / 131072

/-- The offset and the mean path delay of a port's latest Sync with a Delay_Resp: t3 and t4 of it, and its correction (R384). Only the offsets of
PTP_PORT wait for the servo. -/
def pairResp (u : Nat) (t1 t3 t4 cd : Int) (s : State) : State :=
  let p := s.ptp u
  let o := ptpOffset t1 p.t2 p.cs t3 t4 cd (toSigned 32 (s.rd (F.TSU_PORT_CFG_ASYM_PS u)))
  let s1 := (s.wr (F.TSU_PORT_STAT_OFFSET_NS u) (s.ns32 o)).draw
  let s2 := (s1.wr (F.TSU_PORT_STAT_MPD_NS u) (s1.ns32 (ptpDelay t1 p.t2 p.cs t3 t4 cd))).draw
  s2.when (s.fromPtp && u == s.ptpPort) fun a => a.modTsu fun t => { t with meas := t.meas ++ [o] }

/-- A Delay_Resp pairs with the latest Sync, once that Sync's t1 is known (R384). -/
def delayRespRx (u : Nat) (t4 : PtpOrigin) (cd : Int) (s : State) : State :=
  let p := s.ptp u
  if s.ptpRole u 1 ∧ t4.domain = s.ptpDomain ∧ p.haveSync ∧ p.haveReq then
    match p.t1 with
    | none => s.modPtp u fun q => { q with haveReq := false, resp := some (p.t3, t4.time, cd) }
    | some t1 => pairResp u t1 p.t3 t4.time cd (s.modPtp u fun q => { q with haveReq := false })
  else s

/-- The Follow_Up of a two-step Sync: its origin time, and its correction beside the Sync's (R383, R384). A Delay_Resp that waits for it pairs
now. -/
def followUpRx (u : Nat) (t1 : PtpOrigin) (c : Int) (s : State) : State :=
  if s.ptpRole u 1 ∧ t1.domain = s.ptpDomain ∧ (s.ptp u).haveSync ∧ (s.ptp u).t1 = none then
    let s1 := s.modPtp u fun p => { p with t1 := some t1.time, cs := p.cs + c, resp := none }
    match (s.ptp u).resp with
    | none => s1
    | some (t3, t4, cd) => pairResp u t1.time t3 t4 cd s1
  else s

/-- A master port answers a Delay_Req with the timestamp of its arrival (R385, R391). -/
def delayReqRx (u : Nat) (q : PtpRequest) (s : State) : State :=
  if s.ptpRole u 2 ∧ q.domain = s.ptpDomain then
    s.modPtp u fun p => { p with respTx := p.respTx + 1, lastResp := some (s.ptpDst u, s.todStamp q.at_) }
  else s

/-- The multiple of a period, counted from 0, that the ToD reaches by advancing in this interval, from the step of R377 on where that lies in it
(R385, R390); none where it reaches none. -/
def State.reached (s : State) (period : Nat) : Option Nat :=
  let t := s.todFine / 2 ^ 40
  let k : Int := if s.tsu.stepped then t / period + 1 else (t + period - 1) / period
  if 0 ≤ k ∧ k * period < t + ((s.frameNs - s.tsu.since : Nat) : Int) then some k.toNat else none

/-- The multiple of 62.5 ms that the ToD reaches within this frame (R385). -/
def State.syncHere (s : State) : Option Nat := s.reached 62500000

/-- A master port sends a one-step Sync at each multiple of 62.5 ms of the ToD, with the timestamp of its departure (R383, R385, R391). -/
def syncTx (u : Nat) (s : State) : State :=
  match s.syncHere with
  | none => s
  | some k =>
    if s.ptpRole u 2 ∧ (s.ptp u).syncAt ≠ some k then
      (s.modPtp u fun p =>
        { p with syncTx := p.syncTx + 1, syncAt := some k
                 lastSync := some (s.ptpDst u, ((k * 62500000 * 65536 + Config.syncLag s.fresh : Nat) : Int)) }).draw
    else s

/-- No Sync for 1.0 s on PTP_PORT (R381, R382). -/
def ptpLost (s : State) : State :=
  if s.works ∧ s.fromPtp ∧ (s.on F.TSU_STAT_PHASE_OK ∨ (s.ptp s.ptpPort).haveSync) then
    let s1 := s.modPtp s.ptpPort fun p => { p with haveSync := false, t1 := none }
    let s2 := s1.wr F.TSU_STAT_PHASE_OK 0
    sourceLost (if s.srcMode = 1 then s2.wr F.TSU_STAT_FREQ_OK 0 else s2)
  else s

/-! 1PPS and the serial port. -/

/-- A 1PPS_IN edge (R391, R396): `at_` is its instant since the latest tick in units of 1/65536 ns, of which TSU takes the ToD, `since` the
nanoseconds since the previous edge. A valid edge that a serial message names is a measurement of SRC_MODE 3. -/
def ppsEdge (at_ since : Nat) (s : State) : State :=
  if ¬ s.works then s
  else
    let tod := s.todStamp at_
    let s1 := (((s.wr F.TSU_PPS_IN_STAMP32 (ofSigned 32 (tod / 65536))).wr F.TSU_PPS_IN_FRAC (tod % 65536).toNat).wr
      F.TSU_PPS_IN_USED 0).modTsu fun t => { t with ppsHave := true, serNamed := none }
    let valid := s.tsu.ppsHave && decide (900000000 ≤ since) && decide (since ≤ 1100000000)
    if ¬ valid then s1.modTsu fun t => { t with ppsSec := none }
    else if s.srcMode ≠ 3 then s1
    else match s.tsu.serNamed with
      | none => s1
      | some (sec, tick) =>
        if s.ticks < tick + 800 then s1
        else
          let r := measure (min s.jumpPs 1000000) (tod * 1000 / 65536 - ((sec * 1000000000000 : Nat) : Int))
            (s1.modTsu fun t => { t with ppsSec := some sec })
          r.1.wr F.TSU_PPS_IN_USED (bit r.2)

/-- No valid edge for 2.0 s (R381). -/
def ppsLost (s : State) : State :=
  if s.works ∧ s.srcMode = 3 ∧ (s.on F.TSU_STAT_PHASE_OK ∨ s.tsu.ppsHave) then
    sourceLost (((s.wr F.TSU_STAT_PHASE_OK 0).wr F.TSU_STAT_FREQ_OK 0).modTsu fun t => { t with ppsHave := false, ppsSec := none })
  else s

/-- A ToD second has been marked already (R390). -/
def Tsu.isMarked (t : Tsu) (sec : Nat) : Bool := t.marked.any fun e => decide (e.1 ≤ sec) && decide (sec ≤ e.2)

/-- A second is marked: it prolongs the latest run, or begins one. -/
def markSecond (sec : Nat) : List (Nat × Nat) → List (Nat × Nat)
  | [] => [(sec, sec)]
  | e :: l => if sec = e.2 + 1 then (e.1, sec) :: l else (sec, sec) :: e :: l

/-- The second that ToD reaches by advancing within this frame (R390). -/
def State.secondHere (s : State) : Option Nat := s.reached 1000000000

/-- 1PPS_OUT rises at a second that is not yet marked, and stays high for PPS_WIDTH_MS (R390, R396). -/
def ppsOut (s : State) : State :=
  if ¬ s.works ∨ s.rd F.TSU_PPS_CFG_PPS_WIDTH_MS = 0 then s
  else match s.secondHere with
    | none => s
    | some sec =>
      if s.tsu.isMarked sec then s
      else s.modTsu fun t => { t with
        marked := markSecond sec t.marked, ppsOut := t.ppsOut + 1, ppsUntil := some (s.ticks + 8 * s.rd F.TSU_PPS_CFG_PPS_WIDTH_MS) }

/-- 1PPS_OUT is high at the latest tick (R396). -/
def State.ppsHigh (s : State) : Bool := s.tsu.ppsUntil.any fun t => decide (s.ticks ≤ t)

/-- The second of the next edge that will be emitted (R390): an accepted jump that waits for its tick counts. -/
def State.nextEdge (s : State) : Nat :=
  let t := s.todFine / 2 ^ 40 + if s.tsu.accept then s.tsu.step / 1000 else 0
  let first := (t / 1000000000 + 1).toNat
  let free := (first :: s.tsu.marked.map fun e => max first (e.2 + 1)).filter fun x => !s.tsu.isMarked x
  free.foldl min (free.headD first)

/-- The serial message that names a second (R397). -/
def serMessage (s : State) (sec : Nat) : List Nat :=
  let st := s.rd F.TSU_STAT_STATE
  let body := [0xC3, 1] ++ leNats 6 sec ++ [bit (st == 2) + 2 * bit (st == 3) + 4 * s.rd F.TSU_PPS_CFG_UTC_VALID] ++
    leNats 2 (s.rd F.TSU_PPS_CFG_UTC_OFFSET) ++ [0, 0, 0, 0]
  body ++ [crc8 body]

/-- 100 ms after an edge the message goes out (R397). -/
def serTx (s : State) : State :=
  if s.works ∧ s.on F.TSU_PPS_CFG_SER_OUT_EN ∧ s.tsu.marked ≠ [] then s.modTsu fun t => { t with serSent := serMessage s s.nextEdge } else s

/-- A serial message comes in (R397); 16 bytes that are not this message's SYNC and TYPE are none of it. -/
def serRx (bytes : List Nat) (s : State) : State :=
  if ¬ s.works ∨ bytes.length ≠ 16 ∨ bytes.getD 0 0 ≠ 0xC3 ∨ bytes.getD 1 0 ≠ 1 then s
  else
    let sec := ofLe (bytes.extract 2 8)
    let next := match s.tsu.ppsSec with
      | none => true
      | some p => sec == p + 1
    if crc8 (bytes.extract 0 15) = bytes.getD 15 0 ∧ next = true then s.modTsu fun t => { t with serNamed := some (sec, s.ticks) }
    else raiseSec E.TSU_SER_TOD_ERR (s.modTsu fun t => { t with serNamed := none })

/-! SyncE (R381). -/

def synceLost (s : State) : State :=
  if s.works ∧ s.srcMode = 2 ∧ s.on F.TSU_STAT_FREQ_OK then sourceLost (s.wr F.TSU_STAT_FREQ_OK 0) else s

/-- The SyncE clock delivers again. -/
def synceBack (s : State) : State :=
  if s.works ∧ s.srcMode = 2 ∧ ¬ s.on F.TSU_STAT_FREQ_OK ∧ s.on (F.UPL_PORT_STAT_LINK (s.rd F.TSU_CTRL_SYNCE_PORT)) then
    let s1 := s.wr F.TSU_STAT_FREQ_OK 1
    if s.rd F.TSU_STAT_STATE = 3 then setServo 1 s1 else s1
  else s

/-! Decisions on a pending jump (R387, R389). -/

/-- ACCEPT: its effect comes at the next tick. -/
def jumpAccept (s : State) : State :=
  let s1 := s.wr F.TSU_JUMP_CMD_OP 1
  if s.on F.TSU_STAT_PENDING then s1.modTsu fun t => { t with accept := true } else s1

/-- REBASE: STEP goes into the shadow of the port's ASYM_PS, and the jump waits for the commit of group 50 (R387, R388). -/
def jumpRebase (s : State) : State :=
  let s1 := s.wr F.TSU_JUMP_CMD_OP 2
  if s.on F.TSU_STAT_PENDING then
    let u := s.rd F.TSU_JUMP_STAT_PORT
    let f := F.TSU_PORT_CFG_ASYM_PS u
    (s1.wrShadow 50 f (ofSigned 32 (toSigned 32 (s.rdShadow f) + s.tsu.step))).modTsu fun t =>
      { t with accept := false, rebase := true, rebased := SMap.put t.rebased u (SMap.getD t.rebased u 0 + s.tsu.step) }
  else s1

/-- REJECT: the jump is discarded, and detection starts afresh. -/
def jumpReject (s : State) : State :=
  let s1 := s.wr F.TSU_JUMP_CMD_OP 3
  if s.on F.TSU_STAT_PENDING then clearJump 0 s1 else s1

/-- The selection changes (R380, R381): what waited of another source is dropped, and SRC_MODE 0 runs free. -/
def selectSource (old s : State) : State :=
  let s1 := if old.srcMode = s.srcMode ∧ old.ptpPort = s.ptpPort then s
    else (s.wr F.TSU_STAT_PHASE_OK 0).modTsu fun t => { t with meas := [], outliers := [], inLock := 0 }
  let s2 := if old.srcMode = s.srcMode ∧ old.rd F.TSU_CTRL_SYNCE_PORT = s.rd F.TSU_CTRL_SYNCE_PORT then s1
    else s1.wr F.TSU_STAT_FREQ_OK (bit (s.srcMode == 2 && s.on (F.UPL_PORT_STAT_LINK (s.rd F.TSU_CTRL_SYNCE_PORT))))
  if s.srcMode = 0 then setServo 0 s2 else s2

/-- Group 50 takes effect (R388): `old` is the state before the commit. The corrected offsets of R384, those that wait and those kept of a run
of outliers among them, move by the opposite of the change; they are those of PTP alone. -/
def tsuCommit (old s : State) : State :=
  let u := s.ptpPort
  let moved := if s.fromPtp then toSigned 32 (s.rd (F.TSU_PORT_CFG_ASYM_PS u)) - toSigned 32 (old.rd (F.TSU_PORT_CFG_ASYM_PS u)) else 0
  let s1 := s.modTsu fun t =>
    { t with pred := if s.fromPtp then t.pred - (moved - SMap.getD t.rebased u 0) else t.pred, rebased := []
             meas := t.meas.map fun o => o - moved, outliers := t.outliers.map fun o => o - moved }
  let s2 := if s1.tsu.rebase ∧ s1.on F.TSU_STAT_PENDING then clearJump 2 s1 else s1
  selectSource old s2

/-! Time of day to the terminals (R394, R395). -/

/-- T_N,t in units of 1/65536 ns, rounded to the nearest. -/
def State.todTerm (s : State) (n t ahead : Nat) : Int :=
  let ru := s.ruFrame n
  let fs := (((s.nextUnit + 125000 * (ahead - 1) : Nat) : Int)) * 1000000 +
    (s.todOfsPs + toSigned 32 (s.rd (F.TPA_TX_DLY_D_TX_PS n)) + toSigned 32 (s.rd (F.TSU_TREE_CFG_TREE_OFS_PS n))) * 1000
  let asym := if t = 0x1FF then 0 else
    ((s.rtd n t * 125000 : Nat) - ((s.rd (F.TSU_TREE_CFG_RESP_NS n) * 10 * ru : Nat) : Int)) * toSigned 16 (s.rd (F.TSU_TREE_CFG_ASYM_PPM n))
  ((fs * (ru : Int) + asym) * 65536 + ((500000 * ru : Nat) : Int)) / ((1000000 * ru : Nat) : Int)

/-- TSU_TOD_REQ with GO. -/
def todRequest (n t ahead : Nat) (s : State) : State :=
  let s1 := ((s.wr F.TSU_TOD_REQ_TREE n).wr F.TSU_TOD_REQ_TERMINAL t).wr F.TSU_TOD_REQ_AHEAD ahead
  let code := if ahead < 8 ∨ 8000 < ahead then 1 else if t ≠ 0x1FF ∧ ¬ s.grantable n t then 2 else 0
  if code ≠ 0 then
    (((s1.wr F.TSU_TOD_RES0_VALID 0).wr F.TSU_TOD_RES0_STALE 0).wr F.TSU_TOD_RES0_CODE code).modTsu fun u => { u with todReq := none }
  else
    let v := (s.todTerm n t ahead).toNat
    let s2 := ((((s1.wr F.TSU_TOD_RES0_SFC (s.rd (F.FRM_SFC_SFC n) + ahead)).wr F.TSU_TOD_RES0_VALID 1).wr F.TSU_TOD_RES0_UNLOCKED
      (bit (s.rd F.TSU_STAT_STATE != 2))).wr F.TSU_TOD_RES0_STALE 0).wr F.TSU_TOD_RES0_CODE 0
    (((s2.wr F.TSU_TOD_RES1_SECONDS (v / 65536 / 1000000000)).wr F.TSU_TOD_RES2_NS (v / 65536 % 1000000000)).wr F.TSU_TOD_RES2_FRAC v).modTsu
      fun u => { u with todReq := some (n, t, s.ticks + ahead) }

/-- A read of word 0 of TSU_TIME_SNAP latches both words (R392), with the 16 fraction bits that R375 exposes. -/
def snapTime (s : State) : State :=
  let t := (s.todFine + ((s.offsetNs : Int) - s.tsu.since) * 2 ^ 40 + ((Config.instant (s.fresh + 1) % 2 ^ 40 : Nat) : Int)).toNat / 2 ^ 24
  (((s.wr F.TSU_TIME_SNAP0_SECONDS (t / 65536 / 1000000000)).wr F.TSU_TIME_SNAP1_NS (t / 65536 % 1000000000)).wr
    F.TSU_TIME_SNAP1_FRAC (t % 65536)).draw.draw

/-! The tick and the second. -/

/-- The time unit at a tick (R375): the datapath cycle that reaches a multiple of 125,000 ns; and an accepted jump (R387), by which, while its
source is lost, the prediction moves as the ToD does (R389). -/
def tsuTick (s : State) : State :=
  let s1 := (setUnit s.nextUnit s).modTsu fun t =>
    { t with rtdRaised := false, stepped := false, since := 0, nextNs := 0, frac := beyond s.inc (s.nextUnit * 2 ^ 40 - s.unitFine) }
  if s1.tsu.accept ∧ s1.on F.TSU_STAT_PENDING then
    (clearJump 1 (setTodOfs (s1.todOfsPs + s1.tsu.step) s1)).when (!s1.on F.TSU_STAT_PHASE_OK) fun a =>
      a.modTsu fun t => { t with pred := t.pred + t.step }
  else s1

/-- The one-second boundary: SyncE's loop steers (R381, R382, R386), and HOLDOVER goes on toward the frequency it holds (R375, R381). -/
def tsuSecond (s : State) : State :=
  if s.synceRuns ∧ s.rd F.TSU_STAT_STATE ≠ 0 then steer (Config.synceAsk s.fresh) s
  else match s.tsu.holdAt with
    | none => s
    | some m => setFreq m s

/-! The commands. -/

/-- PTP_SYNC_RX (R384). -/
def execPtpSyncRx (u domain : Nat) (t1 : Option Int) (t2 : Nat) (cs : Int) (s : State) : Out := .next (syncRx u domain t1 t2 cs s)
/-- PTP_FOLLOW_UP_RX (R383). -/
def execPtpFollowUpRx (u : Nat) (t1 : PtpOrigin) (c : Int) (s : State) : Out := .next (followUpRx u t1 c s)
/-- PTP_DELAY_RESP_RX (R384). -/
def execPtpDelayRespRx (u : Nat) (t4 : PtpOrigin) (cd : Int) (s : State) : Out := .next (delayRespRx u t4 cd s)
/-- PHASE_MEASUREMENT (R386). -/
def execPhaseMeasurement (s : State) : Out := .next (s.when s.works phaseMeasurement)
/-- PTP_DELAY_REQ_RX (R385). -/
def execPtpDelayReqRx (u : Nat) (q : PtpRequest) (s : State) : Out := .next (delayReqRx u q s)
/-- PTP_SYNC_TX (R385). -/
def execPtpSyncTx (u : Nat) (s : State) : Out := .next (syncTx u s)
/-- PTP_DELAY_REQ_TX (R383). -/
def execPtpDelayReqTx (u t3 : Nat) (s : State) : Out := .next (delayReqTx u t3 s)
/-- PTP_SOURCE_LOST (R381). -/
def execPtpSourceLost (s : State) : Out := .next (ptpLost s)
/-- PPS_SOURCE_LOST (R381). -/
def execPpsSourceLost (s : State) : Out := .next (ppsLost s)
/-- SYNCE_LOST (R381). -/
def execSynceLost (s : State) : Out := .next (synceLost s)
/-- SYNCE_RESTORED (R381). -/
def execSynceRestored (s : State) : Out := .next (synceBack s)
/-- PPS_IN_EDGE (R396). -/
def execPpsInEdge (at_ since : Nat) (s : State) : Out := .next (ppsEdge at_ since s)
/-- PPS_OUT (R390). -/
def execPpsOut (s : State) : Out := .next (ppsOut s)
/-- SER_TOD_TX (R397). -/
def execSerTodTx (s : State) : Out := .next (serTx s)
/-- SER_TOD_RX (R397). -/
def execSerTodRx (bytes : List Nat) (s : State) : Out := .next (serRx bytes s)
end Sys2Proof.Machine
end

