-- ==== Sys2Proof/Machine/Dram.lean ====
section
/-! DEFINITION. Machine/Dram.lean: DRC: the schedulers (R352 to R355), refresh (R356 to R358), segments and self-refresh (R359 to R365),
row disturbance (R368, R369), ECC and patrol (R350, R374). Instants below a tick (ages, gaps, refresh intervals, the instants of an
entry) are when the commands come. -/
namespace Sys2Proof.Machine

/-! Requests. -/

/-- The scheduler of `p` issues its next request (R353). `notReady` are the requests whose bank cannot take a command; `act` says that the
request needs an activation, `ecc` what SEC-DED found in each word, `drift` what a read shows of its lanes (R373). FWD's uncorrectable reads
follow R287. -/
def dramServed (p : Nat) (notReady : List Nat) (act : Bool) (ecc : Nat) (drift : List (Nat × Int)) (s : State) : State :=
  if ¬ s.stacks ∨ 32 ≤ p ∨ s.rd (F.DRC_PC_STAT_STATE p) ≠ 0 then s
  else match s.nextServed p notReady act with
    | none => s
    | some q =>
      (issueReq p q act ecc drift s).when (q.requester == 3 || q.requester == 6) fun a =>
        ((List.range 2).filter fun h => (q.badWords ecc).any fun w => w / 4 == h).foldl (fun b h => fwdEcc (q.addr / 64 * 64 + 32 * h) b) a

/-- A request can have waited its AGE_NS: it arrived in the tick interval that `arrived` begins (R354). -/
def DramReq.mayAge (q : DramReq) (now : Nat) : Bool := decide (2 ≤ q.cls) && decide (10 * q.age < (now - q.arrived + 1) * 125000)
/-- At a tick, it must have. -/
def DramReq.mustAge (q : DramReq) (now : Nat) : Bool := decide (2 ≤ q.cls) && decide (10 * q.age ≤ (now - q.arrived - 1) * 125000)

/-- A request of class 2 to 7 has waited AGE_NS, as its arrival and the tick allow (R354). -/
def agePromote (p id : Nat) (s : State) : State :=
  if s.stacks ∧ (s.pc p).queue.any (fun q => q.id == id && q.mayAge s.ticks) then
    s.modPc p fun c => { c with queue := c.queue.map fun q => if q.id = id then { q with cls := 1 } else q }
  else s

/-- Real-time requester `r` reports its level, in units of 0.1 µs (R355). -/
def panicLevel (r level : Nat) (s : State) : State :=
  if ¬ s.works ∨ 2 ≤ r then s
  else
    let lvl := s.rd (F.DRC_PANIC_CFG_PANIC_LVL r)
    let p := s.rd F.DRC_PANIC_STAT_PANIC
    if hasBit p r then
      if lvl + s.rd (F.DRC_PANIC_CFG_PANIC_HYST r) ≤ level ∨ lvl = 0 then s.wr F.DRC_PANIC_STAT_PANIC (noBit p r) else s
    else if level < lvl then raiseSec E.DRC_PANIC ((s.wr F.DRC_PANIC_STAT_PANIC (withBit p r)).modDrc fun d => { d with panicked := true })
    else s

/-! Refresh (R356 to R358). -/

/-- POSTPONE_MAX, where values above 8 act as 8. -/
def State.postponeMax (s : State) : Nat := min 8 (s.rd F.DRC_REF_CFG_POSTPONE_MAX)

/-- Banks that this round has not refreshed, in ascending order. -/
def PseudoCh.left (c : PseudoCh) : List Nat := (List.range 16).filter fun b => !hasBit c.round b

/-- The lowest of them that is idle: no command in progress (`busy`) and no request queued for it. -/
def PseudoCh.idleBank (c : PseudoCh) (busy : List Nat) : Option Nat :=
  c.left.find? fun b => !busy.contains b && !c.queue.any fun q => bankOf q.addr == b

/-- A bank is refreshed; a round of 16 ends. -/
def refreshBank (p b : Nat) (s : State) : State :=
  s.modPc p fun c => { c with round := if withBit c.round b = 0xFFFF then 0 else withBit c.round b }

/-- The pseudo-channel refreshes itself or is unpowered: DRC issues no refresh. -/
def State.noRefresh (s : State) (p : Nat) : Bool := !s.stacks || decide (32 ≤ p) || s.rd (F.DRC_PC_STAT_STATE p) == 2

/-- A refresh falls due (R356, R357). -/
def refreshDue (p : Nat) (busy : List Nat) (s : State) : State :=
  if s.noRefresh p then s
  else match (s.pc p).idleBank busy with
    | some b => refreshBank p b s
    | none =>
      if s.postponeMax ≤ s.rd (F.DRC_PC_STAT_OWED p) then
        raiseSec E.DRC_REF_FORCED (refreshBank p ((s.pc p).left.headD 0) (s.sat (F.DRC_REF_STAT_FORCED p) 1))
      else (s.wr (F.DRC_PC_STAT_OWED p) (s.rd (F.DRC_PC_STAT_OWED p) + 1)).sat (F.DRC_REF_STAT_POSTPONED p) 1

/-- An owed refresh is repaid (R356). -/
def refreshRepay (p : Nat) (busy : List Nat) (s : State) : State :=
  if s.noRefresh p ∨ s.rd (F.DRC_PC_STAT_OWED p) = 0 then s
  else match (s.pc p).idleBank busy with
    | some b => refreshBank p b (s.wr (F.DRC_PC_STAT_OWED p) (s.rd (F.DRC_PC_STAT_OWED p) - 1))
    | none => s

/-! Self-refresh (R362 to R365). -/

/-- SELF_REFRESH_ENTRY takes an idle pseudo-channel through the instants of R362: the decision at t0, the entry command, and the end of
tCKESR. -/
def srEntry (p : Nat) (s : State) : State :=
  if ¬ s.stacks ∨ 32 ≤ p then s
  else
    let st := s.rd (F.DRC_PC_STAT_STATE p)
    if st = 0 then
      if (s.mode = mLean ∨ s.mode = mStandby) ∧ s.rd F.DRC_SR_CFG_SR_IDLE ≠ 0 ∧ (s.pc p).queue = [] ∧ s.rd (F.DRC_PC_STAT_OWED p) = 0 ∧ s.drc.unzeroed = 0 then
        s.wr (F.DRC_PC_STAT_STATE p) 1
      else s
    else if st = 1 ∧ (s.mode = mLean ∨ s.mode = mStandby) then ((s.wr (F.DRC_PC_STAT_STATE p) 2).sat (F.DRC_SR_STAT_ENTRIES p) 1).modPc p fun c => { c with resident := false }
    else if st = 2 then s.modPc p fun c => { c with resident := true }
    else s

/-- SELF_REFRESH_EXIT: the exit command for the first request after residency, and, at the end of tXS, the first activate (R362). In HOLDING
the stacks stay in self-refresh (R363). -/
def srExit (p : Nat) (s : State) : State :=
  if ¬ s.stacks ∨ 32 ≤ p then s
  else
    let st := s.rd (F.DRC_PC_STAT_STATE p)
    if st = 2 ∧ s.mode ≠ mHolding ∧ (s.pc p).resident ∧ (s.pc p).queue ≠ [] then (s.wr (F.DRC_PC_STAT_STATE p) 3).modPc p fun c => { c with resident := false }
    else if st = 3 then rehold p (s.wr (F.DRC_PC_STAT_STATE p) 0)
    else s

/-- Some scheduler holds a ready request of a class lower than `c` (R353). -/
def State.busierThan (s : State) (c : Nat) : Bool :=
  s.drc.pcs.any fun e => s.rd (F.DRC_PC_STAT_STATE e.1) == 0 && e.2.queue.any fun q => !q.held && decide (s.servedAs q < c)

/-- The lowest segment that waits has been zeroed (R361): class 7 work at every pseudo-channel, since a segment is striped over them all (R349). It
gives way to every ready request of a lower class, and ends self-refresh (R353, R362; DEDUCED, assumption 48). -/
def segZeroed (s : State) : State :=
  match (List.range 64).find? fun g => s.unzeroedSeg g with
  | none => s
  | some g =>
    if ¬ s.stacks ∨ s.busierThan 7 then s
    else
      let s := (s.armed (F.DRC_PC_STAT_STATE 0) 0x20 32).foldl (fun a p => wake p a) s
      let s1 := (s.wr F.DRC_SEG_STAT_RELEASED (noBit (s.rd F.DRC_SEG_STAT_RELEASED) g)).modDrc fun d => { d with unzeroed := noBit d.unzeroed g }
      reholdAll { s1 with dram := s1.dram.filter fun e => segOf e.1 != g }

/-- R363: every segment is released, and every pseudo-channel takes the entry command to self-refresh. -/
def dramHolding (s : State) : State :=
  (List.range 32).foldl (fun a p => ((a.when (a.rd (F.DRC_PC_STAT_STATE p) != 2) (State.sat (F.DRC_SR_STAT_ENTRIES p) 1)).wr
    (F.DRC_PC_STAT_STATE p) 2).modPc p fun c => { c with resident := false }) (releaseSegs (2 ^ 64 - 1) s)

/-- The end of a row-disturbance window (R368, R369). -/
def rhWindowEnd (s : State) : State :=
  if s.stacks ∧ s.ticks % s.rhWindow = 0 then
    (s.wr F.DRC_RH_STAT_THROTTLED 0).modDrc fun d =>
      { d with pcs := d.pcs.map fun e => (e.1, { e.2 with rowActs := [], reqActs := [], throttled := [] }) }
  else s

/-- Where the patrol goes from a position: past released segments, as far as its pass reaches (R374). -/
def State.patrolFrom (s : State) (a : Nat) : Option Nat :=
  if 2 ^ 35 ≤ a then none
  else if ¬ s.releasedSeg (segOf a) then some a
  else ((List.range 64).find? fun g => decide (segOf a < g) && !s.releasedSeg g).map fun g => g * 0x20000000

/-- A pass of the patrol may begin: PATROL_H hours after the one before began (R374). -/
def State.passDue (s : State) : Bool := s.drc.patrolAt.all fun t => decide (t + 28800000 * s.rd F.DRC_PATROL_CFG_PATROL_H ≤ s.ticks)

/-- The patrol reads the next retained word as requester 13, once its segment has been zeroed (R361); SAGE reports what it finds (R374, R426). One
pass reads every retained word, and passes begin PATROL_H hours apart. -/
def patrolScrub (ecc : Nat) (s0 : State) : State :=
  if ¬ s0.stacks ∨ s0.rd F.DRC_PATROL_CFG_PATROL_H = 0 ∨ (s0.drc.patrol = 0 ∧ ¬ s0.passDue) then s0
  else
    let s := s0.when (s0.drc.patrol == 0) fun t => t.modDrc fun d => { d with patrolAt := some t.ticks }
    match s.patrolFrom s.drc.patrol with
    | none => s.modDrc fun d => { d with patrol := 0 }
    | some a =>
      let found := eccOf ecc 0
      if s.unzeroedSeg (segOf a) then s
      else (access 13 a none (found * 4 ^ (a / 8 % 8)) s).modDrc fun d =>
        { d with patrol := (a + 8) % 2 ^ 35, patrolCe := d.patrolCe + bit (found == 1), patrolUe := d.patrolUe + bit (decide (2 ≤ found)) }

/-- What a tick brings to the queues: requests that must have waited AGE_NS by now are in class 1 (R354), and the gap of R369 counts from
here again. -/
def PseudoCh.tick (c : PseudoCh) (now : Nat) : PseudoCh :=
  { c with queue := c.queue.map fun q => if q.mustAge now then { q with cls := 1 } else q
           gapActs := [] }

/-- DRC at a tick: DRC_SEG_KEEP in LEAN and STANDBY (R359), and the panic ticks: one whose interval had any panic in it counts (R355). -/
def drcTick (s : State) : State :=
  let s0 := takeBase (s.modDrc fun d => { d with pcs := d.pcs.map fun e => (e.1, e.2.tick s.ticks) })
  let s1 :=
    if s.mode = mLean ∨ s.mode = mStandby then
      let want := without s.partn.free (s.rd F.DRC_SEG_KEEP_KEEP)
      let now := s.rd F.DRC_SEG_STAT_RELEASED
      retainSegs want (releaseSegs (without want (without now s.drc.unzeroed)) s0)
    else s0
  let now := s1.rd F.DRC_PANIC_STAT_PANIC != 0
  (s1.when s1.drc.panicked (State.sat F.DRC_PANIC_STAT_PANIC_TICKS 1)).modDrc fun d => { d with panicked := now }

/-! The commands. -/

/-- DRAM_REQUEST_SERVED (R353). -/
def execDramRequestServed (p : Nat) (notReady : List Nat) (act : Bool) (ecc : Nat) (drift : List (Nat × Int)) (s : State) : Out :=
  .next (dramServed p notReady act ecc drift s)
/-- AGE_PROMOTE (R354). -/
def execAgePromote (p id : Nat) (s : State) : Out := .next (agePromote p id s)
/-- PANIC (R355). -/
def execPanic (r level : Nat) (s : State) : Out := .next (panicLevel r level s)
/-- REFRESH_DUE (R356). -/
def execRefreshDue (p : Nat) (busy : List Nat) (s : State) : Out := .next (refreshDue p busy s)
/-- REFRESH_REPAY (R356). -/
def execRefreshRepay (p : Nat) (busy : List Nat) (s : State) : Out := .next (refreshRepay p busy s)
/-- SELF_REFRESH_ENTRY (R362). -/
def execSelfRefreshEntry (p : Nat) (s : State) : Out := .next (srEntry p s)
/-- SELF_REFRESH_EXIT (R362). -/
def execSelfRefreshExit (p : Nat) (s : State) : Out := .next (srExit p s)
/-- SEGMENT_ZEROED (R361). -/
def execSegmentZeroed (s : State) : Out := .next (segZeroed s)
/-- RH_WINDOW_END (R368). -/
def execRhWindowEnd (s : State) : Out := .next (rhWindowEnd s)
/-- PATROL_SCRUB (R374). -/
def execPatrolScrub (ecc : Nat) (s : State) : Out := .next (patrolScrub ecc s)

end Sys2Proof.Machine
end

