-- ==== Sys2Proof/Machine/Load.lean ====
section
/-! DEFINITION. Machine/Load.lean: CFG in service: image slots (R67 to R69, R77), BAR2 writes (R436, R437), tile reloads (R80 to R88), commits
and linked sets (R91 to R96). -/
namespace Sys2Proof.Machine

/-! What a change of a tile's state brings to its block (R83). -/

/-- Uplink ports that U tile `k` serves, a 400GbE port's second half included. -/
def State.portsOf (s : State) (k : Nat) : List Nat :=
  (List.range 16).filter fun u =>
    s.rd (F.UPL_PORT_STAT_WIDTH u) != 0 && (s.uplinkGroup u == k || (s.rd (F.UPL_PORT_STAT_WIDTH u) == 3 && s.uplinkGroup u + 1 == k))

/-- The table entries that a load of tile `n` has read (R82). -/
def tablesOf (s : State) (n : Nat) : List (Nat × Nat × List Nat) := ((SMap.find? s.cfg.loads n).map Reload.tables).getD []

/-- A tree's tile is no longer there: its burst windows are gone, and a terminal whose ranging window is lost goes back to ASSIGNED
(R83, R184). -/
def treeAway (n : Nat) (s : State) : State :=
  let s1 := ((s.tree n).wins.foldl (fun a w => countWin n w a) s).modTree n fun t => { t with wins := [], closed := none, quiet := [], reports := [] }
  ((s.termsOf n).filter fun t => (s.term n t).open_).foldl (fun a t => windowLost n t a) s1

/-- A tree that joins under OXL 1 or mirror schema 1 is mirrored unless it is an F50 tree (R100). -/
def unprotJoin (n : Nat) (s : State) : State :=
  s.when (s.prt.oxl == 1 || (s.prt.oxl != 0 && s.rd (F.CFG_VER_AGREED 4) == 1)) fun a => a.modPrt fun p =>
    { p with unprot := if a.on (F.TPA_STAT_RATE_CLASS n) then withBit p.unprot n else noBit p.unprot n }

/-- One tile's change; `old` is the state before it. -/
def followTile (old : State) (n : Nat) (s : State) : State :=
  let o := old.rd (F.CFG_TILE_STAT_STATE n)
  let w := s.rd (F.CFG_TILE_STAT_STATE n)
  if o = w then s
  else if n < 32 then
    if w = 3 then unprotJoin n (treeCommit n (startSfc n s)) else if w = 2 ∨ w = 4 then treeAway n s else s
  else if n < 40 then s.when (w == 2 || w == 4) fun a => (old.portsOf n).foldl (fun b u => linkDown u b) a
  else if n < 44 then
    if w = 1 then fwdDrain (n - 40) s
    else if w = 3 then fwdJoined (n - 40) (ownerDefaults (n - 40) (tablesOf old n) s) else s
  else if n < 46 then s.when (w == 3) (queueDefaults (n - 44) (tablesOf old n))
  else if n = 47 then mecFollow o (SMap.find? old.cfg.loads 47) s
  else s

/-- Does something that may change tiles' states, and lets every block follow. -/
def follow (g : State → State) (s : State) : State :=
  let t := g s
  (List.range 48).foldl (fun a n => followTile s n a) t

/-! Image slots. -/

/-- A slot command is refused under R69. -/
def refuseSlot (k : Nat) (s : State) : State := raise E.CFG_IMG_REJECTED (s.wr (F.CFG_IMG_STAT_ERR k) 12)

/-- CFG_IMG_CMD OP 1 (R69, R77). -/
def imgVerify (k : Nat) (s : State) : State :=
  let s1 := (s.wr F.CFG_IMG_CMD_SLOT k).wr F.CFG_IMG_CMD_OP 1
  if s.slotRead k then refuseSlot k s1 else showBusy k (s1.modSlot k fun x => { x with verifying := true })

/-- CFG_IMG_CMD OP 2 (R69). DESIGN CHOICE (assumption 70): an invalidation is carried out while a verification of the slot runs, which it leaves
running; the rule names loads only. -/
def imgInvalidate (k : Nat) (s : State) : State :=
  let s1 := (s.wr F.CFG_IMG_CMD_SLOT k).wr F.CFG_IMG_CMD_OP 2
  if s.slotRead k ∨ (s.cfg.running.isSome ∧ s.cfg.runSlot = k) then refuseSlot k s1 else unverify k s1

/-- A verification ends with the code of its first failure (R77); what it has read up to there, CFG read as requester 9 (R352). -/
def verificationEnd (k : Nat) (s : State) : State :=
  if s.works ∧ (s.slot k).verifying then
    endVerify k (verifyImage (s.slotImg k)) (imageRead (s.slotBase k) (verifyReads (s.slotImg k)) s)
  else s

/-- A BAR2 write lands in a slot (R68): VERIFIED clears, loads that read the slot are abandoned, and so is a verification. -/
def slotWritten (k : Nat) (s : State) : State :=
  let was := s.on (F.CFG_IMG_STAT_VERIFIED k)
  let s1 := s.when was fun a =>
    let b := unverify k a
    if (a.slot k).writtenRaised then b else raise E.CFG_SLOT_WRITTEN (b.modSlot k fun x => { x with writtenRaised := true })
  let reading := s.cfg.loads.filter fun e => e.2.slot == k && !e.2.read && s.rd (F.CFG_TILE_STAT_STATE e.1) == 2
  let s2 := reading.foldl (fun a e => abandonReload e.1 3 a) s1
  if (s.slot k).verifying then
    raise E.CFG_IMG_REJECTED (showBusy k (unverify k ((s2.wr (F.CFG_IMG_STAT_ERR k) 13).modSlot k fun x => { x with verifying := false })))
  else s2

/-! BAR2. -/

/-- A BAR2 write may land at an address: the host area, the image store, or anywhere in PROVING (R437). -/
def State.bar2May (s : State) (a : Nat) : Bool :=
  s.mode == mProving || s.partn.hostArea a 1 || (decide (s.partn.image.base ≤ a) && decide (a < s.partn.image.base + s.partn.image.len))

/-- The bytes of a BAR2 write that may land; the others are discarded and counted (R437). -/
def State.landing (s : State) (all : List (Nat × Nat)) : List (Nat × Nat) := all.filter fun e => s.bar2May e.1
def countDiscard (all : List (Nat × Nat)) (s : State) : State :=
  s.when (decide ((s.landing all).length < all.length)) fun a => raiseSec E.HIF_BAR2_WR_DISCARD (a.sat F.HIF_ERR_STAT_BAR2_DISCARD 1)

/-- The slots that bytes land in are written (R68). -/
def slotsWritten (ok : List (Nat × Nat)) (s : State) : State :=
  [0, 1].foldl (fun a k =>
    if ok.any fun e => decide (s.slotBase k ≤ e.1) && decide (e.1 < s.slotBase k + 0x8000000) then slotWritten k a else a) s

/-- A BAR2 write at an offset of the window (R436, R437); R360 governs released segments, and R361 holds a write to one that waits to be
zeroed. -/
def bar2Write (off : Nat) (bytes : List Nat) (s : State) : State :=
  let all := bytesAt (s.bar2Base + off % 2 ^ 32) bytes
  slotsWritten (s.landing all) (dramPut 11 (s.landing all) (countDiscard all s))

/-- A write of requester 11 reaches DRC with the bytes that may land. -/
def landRequest (ok : List (Nat × Nat)) (s : State) : State :=
  match ok with
  | [] => s
  | e :: _ => slotsWritten ok (dramRequest 11 e.1 (some (ok.map (·.2))) s)

/-- A request of the BAR2 window reaches DRC as requester 11 (R352, R436, R437): a read of any address, a write of what may land. -/
def bar2Request (off : Nat) (data : Option (List Nat)) (s : State) : State :=
  let a := s.bar2Base + off % 2 ^ 32
  match data with
  | none => dramRequest 11 a none s
  | some b => landRequest (s.landing (bytesAt a (b.take (64 - a % 64)))) (countDiscard (bytesAt a (b.take (64 - a % 64))) s)

/-! Reloads. -/

/-- Half of a 400GbE port with its other half, by the descriptor of U tile `n`. -/
def otherHalf (n : Nat) (d : Option TileDesc) : List Nat :=
  match d with
  | some d => if d.width = 3 then [n + 1] else if d.width = 4 then [n - 1] else []
  | none => []

/-- Coexistence partner that a tree tile's descriptor names. -/
def treePartner (d : Option TileDesc) : List Nat :=
  match d with
  | some d => if d.partner = 0xFF then [] else [d.partner]
  | none => []

/-- Partners that R80 code 6 requires for a tile: the other half of a 400GbE port, old or new, or the coexistence partner when
RATE_CLASS or PARTNER changes. -/
def neededPartners (n : Nat) (old new : Option TileDesc) : List Nat :=
  if 32 ≤ n ∧ n < 40 then otherHalf n old ++ otherHalf n new
  else if n < 32 then
    if (old.map fun d => (d.rateClass, d.partner)) = (new.map fun d => (d.rateClass, d.partner)) then [] else treePartner old ++ treePartner new
  else []

/-- The code of R80 for a request, in the order of R80; 0 when it is accepted. `tiles` are TILE and, with PARTNER_EN, PARTNER. -/
def reloadCode (s : State) (tiles : List Nat) (slot gen : Nat) : Nat :=
  let i := s.slotImg slot
  let desc := fun n => (tileSect n i.sects).map i.desc
  let near := fun n => n :: (otherHalf n (SMap.find? s.cfg.tiles n) ++ otherHalf n (desc n)).filter (fun _ => decide (32 ≤ n) && decide (n < 40)) ++
    (treePartner (SMap.find? s.cfg.tiles n) ++ treePartner (desc n)).filter fun _ => decide (n < 32)
  let m := tiles.foldl (fun a n =>
    match desc n with
    | some d => SMap.put a n d
    | none => a) s.cfg.tiles
  if tiles.any fun n => decide (47 < n) then 8
  else if s.mode = mAsleep ∨ s.mode = mStarting ∨ s.mode = mHolding then 4
  else if ¬ s.on (F.CFG_IMG_STAT_VERIFIED slot) then 1
  else if tiles.any fun n => (tileSect n i.sects).isNone then 2
  else if (s.cfg.running.map fun r => (r.glob, r.keyFmt)) ≠ some (i.section 1, i.section 2) then 3
  else if tiles.any fun n => (near n).any fun p => s.cfg.loads.any fun e => e.1 == p then 5
  else if tiles.any fun n => (neededPartners n (SMap.find? s.cfg.tiles n) (desc n)).any fun p => !tiles.contains p then 6
  else if tiles.any fun n => !aheadOf 16 gen (s.rd (F.CFG_GEN_CUR n)) then 7
  else if ¬ tilesOk s.partn m then 9
  else 0

/-- CFG_RELOAD with GO (R80, R81). -/
def reloadRequest (tile slot : Nat) (pen : Bool) (partner gen : Nat) (s : State) : State :=
  let s1 := ((((s.wr F.CFG_RELOAD_TILE tile).wr F.CFG_RELOAD_SLOT slot).wr F.CFG_RELOAD_PARTNER_EN (bit pen)).wr F.CFG_RELOAD_PARTNER partner).wr
    F.CFG_RELOAD_GEN gen
  let two := pen && partner != tile
  let tiles := if two then (if partner < tile then [partner, tile] else [tile, partner]) else [tile]
  let c := reloadCode s tiles slot gen
  if c ≠ 0 then raise E.CFG_RELOAD_REFUSED ((s1.wr F.CFG_RELOAD_STAT_TILE tile).wr F.CFG_RELOAD_STAT_REFUSE_CODE c)
  else
    let take := fun (a : State) (n : Nat) =>
      let r : Reload :=
        { slot := slot, gen := gen, partner := if two then some (if n = tile then partner else tile) else none, full := false,
          drainLeft := 0, ticks := 0, read := false, negotiated := none, live := s.joined n, range := (0, 0), defaults := [], tables := [],
          engMap := [], vendor := [], openWords := [] }
      let b := ((a.wr (F.CFG_TILE_STAT_STATE n) 5).wr (F.CFG_TILE_STAT_IF_VER n) 0).modCfg fun c => { c with loads := SMap.put c.loads n r }
      if s.locked n then b else bringUp (.tile n) b
    showActive (tiles.foldl take (s1.wr F.CFG_RELOAD_STAT_REFUSE_CODE 0))

/-- QUEUED reloads whose group's commit has taken effect enter the stagger queue (R81). -/
def queueReloads (s : State) : State :=
  s.cfg.loads.foldl (fun a e =>
    if a.rd (F.CFG_TILE_STAT_STATE e.1) = 5 ∧ ¬ a.locked e.1 ∧ ¬ a.pwr.queue.contains (.tile e.1) then bringUp (.tile e.1) a else a) s

/-- Every quiet window begun on a tree has ended by this tick: its end lies T_EQ and its place in the frame after the tick of its map (R82,
R203). -/
def State.quietOver (s : State) (n : Nat) : Bool :=
  ((s.tree n).quiet.all fun q => decide (q.frame * s.ruFrame n + s.teqRu n + (q.posMu + q.lenMu) * 256 ≤ s.ticks * s.ruFrame n)) &&
  ((s.tree n).wins.all fun w => decide (w.kind < 2) || w.past s.ticks)

/-- The drain ticks are counted out, and no quiet window of the tree still runs (R82): LOADING, with the fill generator (R83). -/
def drainEnd (n : Nat) (s : State) : State :=
  match SMap.find? s.cfg.loads n with
  | none => s
  | some r =>
    if s.rd (F.CFG_TILE_STAT_STATE n) = 1 ∧ r.drainLeft = 0 ∧ s.quietOver n then
      showBusy r.slot ((s.wr (F.CFG_TILE_STAT_STATE n) 2).modCfg fun c => { c with filler := if n < 32 then withBit c.filler n else c.filler })
    else s

/-- The section has been read and checked and the tile's memories initialized, or SECT_CRC fails (R82, R85). -/
def sectionLoaded (n : Nat) (s : State) : State :=
  match SMap.find? s.cfg.loads n with
  | none => s
  | some r =>
    if s.rd (F.CFG_TILE_STAT_STATE n) ≠ 2 ∨ r.read then s
    else
      let i := s.slotImg r.slot
      match tileSect n i.sects with
      | none => abandonReload n 2 s
      | some x =>
        let s := imageRead (s.slotBase r.slot + x.off) x.len s
        if i.crc x.off x.len ≠ x.crc then abandonReload n 2 s
        else
          let d := i.desc x
          let b := i.bytes x.off x.len
          let r0 := { r with read := true, range := (x.ifMin, x.ifMax) }
          let r1 := if n = 47 then readStore i r0 else { r0 with defaults := Config.tileDefaults b, tables := Config.sectionTables b }
          let s1 := match SMap.find? s.cfg.tiles n with
            | some o => if 40 ≤ n ∧ n < 44 then fwdLoading (n - 40) o d s else s
            | none => s
          showBusy r.slot (s1.modCfg fun c => { c with loads := SMap.put c.loads n r1, tiles := SMap.put c.tiles n d })

/-- The tile offers its section's range, and S0 its own (R97, R98). -/
def tileNegotiation (n : Nat) (s : State) : State :=
  match SMap.find? s.cfg.loads n with
  | none => s
  | some r =>
    if ¬ r.read ∨ r.negotiated.isSome then s
    else
      match agree r.range (s0Range (tileType n)) with
      | some v => s.modCfg fun c => { c with loads := SMap.put c.loads n { r with negotiated := some v } }
      | none => (reloadTiles s n).foldl (fun a t => isolateTile false t a) s

/-- A reload is not JOINED 64 ticks after DRAINING began (R85). -/
def reloadTimeout (n : Nat) (s : State) : State :=
  match SMap.find? s.cfg.loads n with
  | none => s
  | some r =>
    let st := s.rd (F.CFG_TILE_STAT_STATE n)
    if ¬ r.full ∧ (st = 1 ∨ st = 2) ∧ 64 ≤ r.ticks then abandonReload n 1 s else s

/-! Commits. -/

/-- The code of R92 for a commit, or 7 of R94; 0 when it is accepted. -/
def commitCode (s : State) (g gen : Nat) : Nat :=
  if 52 ≤ g then 4
  else if s.mode = mHolding then 5
  else if s.on (F.CFG_GEN_FROZEN g) then 3
  else if s.locked g then 2
  else if ¬ aheadOf 16 gen (s.rd (F.CFG_GEN_CUR g)) then 1
  else if 8 ≤ s.cfg.linked.length then 7
  else 0

/-- A write of CFG_COMMIT (R91 to R94): refused with the whole open set, held in it, or accepted with it for the next tick. -/
def commitWrite (link : Bool) (g gen : Nat) (s : State) : State :=
  let c := commitCode s g gen
  if c ≠ 0 then
    let s1 := s.cfg.linked.foldl (fun a m => a.wr (F.CFG_GEN_PENDING m.group) 0) s
    refuseCommit g c ((s1.modCfg fun x => { x with linked := [] }).wr F.CFG_COMMIT_STAT_LINKED 0)
  else
    let s1 := s.wr (F.CFG_GEN_PENDING g) 1
    let set := s.cfg.linked ++ [⟨g, gen⟩]
    if link then (s1.modCfg fun x => { x with linked := set }).wr F.CFG_COMMIT_STAT_LINKED set.length
    else (s1.modCfg fun x => { x with commits := x.commits ++ set, linked := [] }).wr F.CFG_COMMIT_STAT_LINKED 0

/-- Makes a group's shadow active (R91): its fields, its generation, and nothing pending. -/
def activate (c : CommitReq) (s : State) : State :=
  let mine := s.shadow.filter fun e => e.2.1 == c.group
  let s1 := mine.foldl (fun a e =>
    match fldOfKey e.1 with
    | some f => a.wr f e.2.2
    | none => a) { s with shadow := s.shadow.filter fun e => e.2.1 != c.group }
  (s1.wr (F.CFG_GEN_CUR c.group) c.gen).wr (F.CFG_GEN_PENDING c.group) 0

/-- What the blocks do when a group takes effect; `old` is the state before the commits of the tick. -/
def groupHook (old : State) (g : Nat) (s : State) : State :=
  if g < 32 then
    match SMap.find? s.cfg.tiles g with
    | some d => treeCommit g (if s.inService g then showTree g d s else s)
    | none => s
  else if g < 40 then s
  else if g < 44 then fwdCommit (g - 40) s
  else if g < 46 then tmgCommit (g - 44) s
  else if g = 47 then { s with mec := { s.mec with mapDue := true } }
  else if g = 49 then reflexCommit old s
  else if g = 50 then tsuCommit old s
  else s

/-- Makes commits active together, then does what the activation of each group brings. -/
def activateAll (l : List CommitReq) (s : State) : State :=
  l.foldl (fun a c => groupHook s c.group a) (l.foldl (fun a c => activate c a) s)

/-- Commits that take effect at this tick (R89). Those of the reflex rules wait for the end of its cycle, whose occurrences the old table judges
(R448). -/
def commitTick (s : State) : State :=
  activateAll (s.cfg.commits.filter fun c => c.group != 49)
    (s.modCfg fun c => { c with commits := c.commits.filter fun x => x.group == 49 })
def ruleTick (s : State) : State := activateAll s.cfg.commits (s.modCfg fun c => { c with commits := [] })

/-- VERIFICATION_END (R77). -/
def execVerificationEnd (slot : Nat) (s : State) : Out := .next (verificationEnd (slot % 2) s)
/-- DRAM_REQUEST (R352): the host's requests come through the BAR2 window, whose offset `addr` then is (R436). -/
def execDramRequest (r addr : Nat) (data : Option (List Nat)) (s : State) : Out :=
  .next (if r = 11 then s.when (s.reach .pcie) (follow (bar2Request addr data)) else dramRequest r (addr % 2 ^ 35) data s)
/-- BAR2_WRITE (R437): nothing where the link is down. -/
def execBar2Write (off : Nat) (bytes : List Nat) (s : State) : Out := .next (s.when (s.reach .pcie) (follow (bar2Write off bytes)))
/-- DRAIN_END (R82). -/
def execDrainEnd (n : Nat) (s : State) : Out := .next (s.when s.works (follow (drainEnd n)))
/-- SECTION_LOADED (R82). -/
def execSectionLoaded (n : Nat) (s : State) : Out := .next (s.when s.works (follow (sectionLoaded n)))
/-- TILE_NEGOTIATION (R97). -/
def execTileNegotiation (n : Nat) (s : State) : Out := .next (s.when s.works (follow (tileNegotiation n)))
/-- RELOAD_TIMEOUT (R85). -/
def execReloadTimeout (n : Nat) (s : State) : Out := .next (s.when s.works (follow (reloadTimeout n)))
end Sys2Proof.Machine
end

