-- ==== Sys2Proof/Machine/Promotion.lean ====
section
/-! DEFINITION. Machine/Promotion.lean: what a verdict does at its tick (R26, R410, R417 to R420), and the records that a standby takes from
its active peer (R141, R413). -/
namespace Sys2Proof.Machine

/-- GNT begins to build maps: what a tick would have placed for the next frame is placed now, on a cleared page (R204, R210). -/
def openMaps (s : State) : State :=
  (List.range 32).foldl (fun a n => if (a.tree n).frozen then a else placeFixed n (setStandby n [] a)) s

/-- A mode takes effect: GNT and MEC abandon what the old cadence began (R213, R267). -/
def takeMode (m : Nat) (s : State) : State :=
  if s.mode = m then s
  else (abortAll (abandonRecs (setMode m s))).when (!buildsMaps s.mode && buildsMaps m) openMaps

/-! Promotion (R417, R418). -/

/-- A tree starts cold: its terminals are FREE (R418). -/
def coldTree (n : Nat) (s : State) : State :=
  ((s.termsOf n).filter fun t => s.tst n t != tsFree).foldl (fun a t => releaseTerm n t a) s

/-- A terminal of a warm tree takes ADJ as a correction under R192, and is verified (R418). One that awaits ranging is ranged by this device, about the
RTD that it holds: the active's window and its estimate are not mirrored (DEDUCED, assumption 53). -/
def warmTerm (n t : Nat) (adj : Int) (s : State) : State :=
  let st := s.tst n t
  if st = tsFree then s
  else
    let s1 := if adj = 0 then s else (setEqd n t ((s.eqd n t : Int) + adj) s).modTerm n t fun x =>
      { x with corr := some (-adj), corrBursts := 0, corrSends := 1, accepting := false }
    if st = tsService ∨ st = tsGuarded ∨ st = tsVerifying then
      (setTerm n t tsVerifying 0 s1).modTerm n t fun x => { x with ins := 0, outs := [], vFrames := 0, blkSum := 0, blkN := 0 }
    else if st = tsRanging ∨ st = tsAssigned then
      s1.modTerm n t fun x => { x with due := st == tsRanging, open_ := false, rtSends := 0, est := (s.rtd n t : Int), saved := s.rtd n t != 0, corr := none }
    else s1

/-- A warm tree: the broadcast relative adjustment, and verification (R418). -/
def warmTree (n : Nat) (s : State) : State :=
  let adj := near8 (-2 * toSigned 32 (s.rd (F.RNG_STBY_OFS_STBY_OFS n))) 1
  let s1 := if adj = 0 then s else queueMsg n ⟨0, 10, 0x1FF, adj, []⟩ s
  (s.termsOf n).foldl (fun a t => warmTerm n t adj a) s1

/-- A promotion's trees; the superframe counters lie 8,000 frames ahead, under a ceiling that is written (R159, R417). -/
def promoteTree (cold : Bool) (n : Nat) (s : State) : State :=
  let s1 := if (s.tree n).sfcOn then
      let a := s.wr (F.FRM_SFC_SFC n) (s.rd (F.FRM_SFC_SFC n) + 8000)
      if ceilingDue a n then writeCeiling n a else a
    else s
  let s2 := s1.modTree n fun t => { t with dyn := t.activePage.filter fun e => e.kind == 0, dynFresh := false }
  if cold then coldTree n s2 else warmTree n s2

/-- What a PROMOTE does to a standby beside its mode (R417, R418): role ACTIVE, no mirroring in, and the trees. -/
def takeOver (v : Verdict) (s : State) : State :=
  let allCold := s.domClass == 2 && v.replaces != s.rd F.PRT_ID_PEER_ID
  let s1 := ((setRole roleActive s).wr F.PRT_STAT_FENCED 0).modPrt fun p => { p with bulk := false }
  (List.range 32).foldl (fun a n => promoteTree (allCold || hasBit (v.unprot ||| s.prt.unprot) n) n a) (s1.wr F.PRT_STAT_MIRROR mirNone)

/-- PROMOTE takes effect on a device in STANDBY (R417). -/
def promote (v : Verdict) (s : State) : State :=
  let s1 := releaseBens (takeMode (s.promoteMode v.mode) (takeOver v s))
  s1.when (s1.on F.PRT_STAT_PATH_A) startBulk

/-- Service enable that waits for a mode waits for the one that the role of a verdict allows (R40, R104, R399). -/
def renameWait (m : Nat) (s : State) : State := s.modPwr fun p => { p with waiting := p.waiting.map fun _ => m }

/-- The role becomes STANDBY, mirrored from the new active (R410, R420). -/
def demote (s : State) : State :=
  let s1 := (setRole roleStandby s).wr F.PRT_STAT_FENCED 0
  let s2 := if isService s.mode then takeMode mStandby s1 else renameWait mStandby s1
  setMirror mirSyncing (s2.modPrt fun p => { p with bulk := true })

/-- FENCE (R410). -/
def fence (s : State) : State :=
  let s1 := (((setRole roleNone s).wr F.PRT_STAT_FENCED 1).wr F.PRT_STAT_MIRROR mirNone).modPrt fun p => { p with bulk := false }
  if isService s.mode then takeMode mStandby s1
  else s1.when (s.mode == mStarting) fun t => renameWait mStandby (t.modPrt fun p => { p with startMode := some mStandby })

/-- A verdict acts on the role it finds (R410). In STARTING the role is taken at once, a standby's trees with it (R417), and the mode at service
enable (R40, R104). -/
def actOn (v : Verdict) (s : State) : State :=
  if v.code = 1 then
    if s.role = roleActive then s
    else if s.mode = mStarting then
      renameWait (s.promoteMode v.mode)
        (((if s.role = roleStandby then takeOver v s else setRole roleActive s).wr F.PRT_STAT_FENCED 0).modPrt fun p =>
          { p with startMode := some (s.promoteMode v.mode) })
    else promote v s
  else if v.code = 2 then (if s.role = roleStandby then s else demote s)
  else if v.code = 4 then fence s
  else s

/-- A verdict that would change the configuration or the role it finds (R25, R410). -/
def State.verdictChanges (s : State) (v : Verdict) : Bool :=
  if v.code = 1 then s.role != roleActive
  else if v.code = 2 then s.role != roleStandby
  else if v.code = 4 then s.role != roleNone || !s.on F.PRT_STAT_FENCED
  else false

/-- The mode that a verdict enters at its tick; the current mode where it enters none (R410). -/
def State.verdictMode (s : State) (v : Verdict) : Nat :=
  if v.code = 1 ∧ s.role ≠ roleActive ∧ s.mode ≠ mStarting then s.promoteMode v.mode
  else if isService s.mode ∧ ((v.code = 2 ∧ s.role ≠ roleStandby) ∨ v.code = 4) then mStandby
  else s.mode

/-- The mode that a verdict enters may be entered: its floor, or the 4.5 V of a mode without one, is met, and LEAN fits (R32, R35, R39). -/
def State.verdictFits (s : State) (v : Verdict) : Bool :=
  let m := s.verdictMode v
  m == s.mode || (s.floorMet m && (m != mLean || s.leanFits))

/-- VERDICT_APPLIED: a verdict whose instant has come takes effect at this tick (R409). In HOLDING one that would change something is
suppressed (R25); one whose mode cannot be entered now is refused with code 7 (R32; DESIGN CHOICE, assumption 67). -/
def verdictApplied (s : State) : State :=
  match s.prt.verdict with
  | none => s
  | some v =>
    if ¬ v.due ∨ ¬ s.ticking then s
    else
      let s1 := (s.wr F.PRT_KAP_RX_STAT_WAITING 0).modPrt fun p => { p with verdict := none }
      if (s.mode = mHolding ∨ s.pwr.suppress) ∧ s.verdictChanges v then raise E.PWR_ACTION_SUPPRESSED s1
      else if s.mode ≠ mHolding ∧ ¬ s.verdictFits v then raise E.PRT_VERDICT_REFUSED (s1.wr F.PRT_KAP_RX_STAT_CODE 7)
      else
        let s2 := if v.pin then s1 else s1.wr F.PRT_KAP_RX_STAT_EPOCH v.epoch
        raise E.PRT_VERDICT_APPLIED (actOn v (s2.modPrt fun p => { p with appliedTick := true }))

/-! The standby's mirror (R413). -/

/-- A page entry from its two words. -/
def Entry.ofWords (w0 w1 : Nat) : Entry :=
  { alloc := slice w0 0 12, term := slice w0 12 9, profile := slice w0 21 2, newBurst := hasBit w0 23, report := hasBit w0 24,
    msg := hasBit w0 25, kind := slice w0 26 2, wide := hasBit w0 28, start := slice w0 32 32, size := slice w1 0 16, len := slice w1 16 32 }

/-- Where the quiet window of an entry lies in its frame, as the active placed it (R230). -/
def quietOf (s : State) (n m : Nat) (e : Entry) : QWin :=
  let back : Int := if e.kind = 2 then ((s.nsMu n (s.spanNs n) + s.delMu n e.profile : Nat) : Int)
    else (e.len : Int) / 2 + (s.teqSpan n / 125000000 - toSigned 32 (s.rtd n e.term) + 255) / 256 + (s.delMu n e.profile : Nat)
  ⟨e.term, 0, m, ((e.start : Int) - back).toNat, e.len⟩

/-- A mirrored page is the next frame's: TPA and FRM take their windows from it (R141). -/
def mirrorPage (n : Nat) (ws : List (Nat × Nat)) (s : State) : State :=
  let l := ws.map fun w => Entry.ofWords w.1 w.2
  let m := s.ticks + 1
  let s1 := setStandby n l s
  let s2 := s1.modTree n fun t =>
    { t with active := 1 - t.active, quiet := t.quiet ++ (l.filter fun e => decide (2 ≤ e.kind)).map (quietOf s n m) }
  if s.carries n then s2.modTree n fun t => { t with wins := t.wins ++ s2.windows n m l } else s2

/-- A record lands in the standby's own tables. -/
def applyRec (r : MirRec) (s : State) : State :=
  match r with
  | .page n ws => mirrorPage (n % 32) ws s
  | .term n t st serial eqd rtd =>
    if st % 8 = tsFree then (if s.tst (n % 32) (t % 512) = tsFree then s else releaseTerm (n % 32) (t % 512) s)
    else
      let s1 := (setTerm (n % 32) (t % 512) (st % 8) (s.tcause (n % 32) (t % 512)) s).modTerm (n % 32) (t % 512) fun x => x
      setRtd (n % 32) (t % 512) rtd (setEqd (n % 32) (t % 512) eqd (s1.wr (F.RNG_TERM_SN_SERIAL (n % 32) (t % 512)) serial))
  | .alloc n i w0 w1 => s.modTree (n % 32) fun t => { t with alloc := SMap.put t.alloc (i % 4096) (Alloc.ofWords ((SMap.find? t.alloc (i % 4096)).getD Alloc.empty) w0 w1) }
  | .flow x w0 w1 w2 => s.modFlow (x % 2 ^ 23) fun c => { c with w0 := w0 % 2 ^ 27, w1 := w1 % 2 ^ 43, w2 := w2 % 2 ^ 32 }
  | .keyGen k g => s.modKey k fun x => { x with gen := g }
  | .dsIndex x i => s.modKterm x fun t => { t with dsIndex := i }
  | .counters n sfc teq => (s.wr (F.FRM_SFC_SFC (n % 32)) sfc).wr (F.RNG_TEQ_T_EQ_NS (n % 32)) teq
  | .pm n b tree terms =>
    let bank : PmBank := ⟨tree.foldl (fun m e => SMap.put m e.1 e.2) [], terms.foldl (fun m e =>
      SMap.put m e.1 ⟨e.2.getD 0 0, e.2.getD 1 0, e.2.getD 2 0, e.2.getD 3 0, e.2.getD 4 0, e.2.getD 5 0⟩) []⟩
    s.modTree (n % 32) fun t => if b % 2 = 0 then { t with bankA := bank } else { t with bankB := bank }

/-- The tree of a record that belongs to one. -/
def recTree : MirRec → Option Nat
  | .page n _ => some (n % 32)
  | .term n .. => some (n % 32)
  | .alloc n .. => some (n % 32)
  | .flow x .. => some (x / 2 ^ 18 % 32)
  | .keyGen .. => none
  | .dsIndex x _ => some (x / 512 % 32)
  | .counters n .. => some (n % 32)
  | .pm n .. => some (n % 32)

/-- A record reaches the standby (R413); a tree that the agreed versions leave out is not mirrored (R100). -/
def mirrorRx (mg : Nat) (r : MirRec) (s : State) : State :=
  if ¬ s.works ∨ s.role ≠ roleStandby ∨ ¬ s.on F.PRT_STAT_PATH_A ∨ s.prt.oxl = 0 ∨ s.rd (F.CFG_VER_AGREED 4) = 0 then s
  else if (recTree r).any fun n => hasBit s.prt.unprot n then s
  else (applyRec r s).wr F.PRT_MIRROR_STAT_MG mg

/-- MIRROR_RECORD_RX (R413). -/
def execMirrorRecordRx (mg : Nat) (r : MirRec) (s : State) : Out := .next (mirrorRx mg r s)

end Sys2Proof.Machine
end

