-- ==== Sys2Proof/Machine/Warm.lean ====
section
/-! DEFINITION. Machine/Warm.lean: warm resume: whether step 13 resumes warm (R121, R122), and what a start takes back from a save-set copy
(R78, R123 to R126, R199, R344, R379, R478). -/
namespace Sys2Proof.Machine

/-- Seconds of the time of day now, 48 bits. -/
def State.todSec (s : State) : Nat := (s.todAt s.offsetNs / 1000000000).toNat % 2 ^ 48

/-- The latest valid copy, none under alternate 5 (R64, R101). -/
def State.latestCopy (s : State) : Option SaveCopy :=
  if s.cfg.alt5 ∨ s.store.latest = 0 then none else some (s.store.copy s.store.latest)

/-- The valid copy that is not the latest (alternate 4 of R101). -/
def State.olderCopy (s : State) : Option SaveCopy :=
  let c := s.store.copy (if s.store.latest = 1 then 2 else 1)
  if s.cfg.alt5 ∨ s.store.latest = 0 ∨ ¬ c.valid then none else some c

/-- The first of conditions 1 to 4 of R121 that fails, 0 when all hold: whether a warm resume is still possible before step 13. -/
def warmCode4 (s : State) (c : Option SaveCopy) : Nat :=
  if s.cfg.policy.warm ≠ 1 then 1
  else match c with
    | none => 2
    | some k =>
      if k.schema ≠ 1 then 3
      else if (k.content.map SaveSet.gkDigest) ≠ (s.cfg.picked.map ImageMeta.gkDigest) then 4
      else 0

/-- Step 11 succeeded in this start (R122). -/
def State.lockedStart (s : State) : Bool := s.rd (F.CFG_BOOT_STEP_OUTCOME 11) == 1

/-- The first of conditions 1 to 5 of R121 that fails; the age is checked only when step 11 succeeded (R122). -/
def warmCode5 (s : State) (c : Option SaveCopy) : Nat :=
  let r := warmCode4 s c
  if r ≠ 0 then r
  else
    let age := s.cfg.policy.warmMaxAge
    let time := (c.map SaveCopy.time).getD 0
    if s.lockedStart ∧ age ≠ 0 ∧ time + age < s.todSec then 5 else 0

/-- The copy from which steps 11 and 12 read ahead: the latest, while a warm resume is possible (R124). -/
def State.aheadSet (s : State) : Option SaveSet :=
  if warmCode4 s s.latestCopy = 0 then s.latestCopy.bind SaveCopy.content else none

/-- Addresses of the protection region and of the time-unit region of a copy (R63). -/
def protPage (a : Nat) : Bool := decide (0x3E80000 ≤ a) && decide (a < 0x3F00000)
def timePage (a : Nat) : Bool := decide (0x3E00000 ≤ a) && decide (a < 0x3E80000)

/-- The protection region of a copy: mirror generation, EPOCH and FENCED, and, while no role has been given, ROLE (R9, R478), which the beats
offer to the peer (R124) and which R400 chooses. -/
def takeProtRegion (c : SaveSet) (s : State) : State :=
  let kept := s.rd F.PRT_STAT_ROLE
  let s1 := takeSaved protPage c s
  if s.role ≠ roleNone then s1.wr F.PRT_STAT_ROLE kept
  else s1.modPrt fun p => { p with offered := some (s1.rd F.PRT_STAT_ROLE) }

/-- The time-unit region of a copy (R63, R124): the steering is the saved one from now on, and a time-of-day result that another TOD_OFS gave is
stale (R395). -/
def takeTimeRegion (c : SaveSet) (s : State) : State :=
  let s1 := takeSaved timePage c s
  let s2 := if s1.todOfsPs = s.todOfsPs then s1 else staleTod s1
  s2.modTsu fun t => { t with freqs := [(s2.ticks, toSigned 32 (s2.rd F.TSU_FREQ_FREQ))] }

/-- Step 11 starts from the saved frequency offset, TOD_OFS and asymmetry baselines (R124, R379). -/
def takeTime (s : State) : State :=
  match s.aheadSet with
  | none => s
  | some c => takeTimeRegion c s

/-- Step 12 takes the protection region (R124). -/
def takeProtection (s : State) : State :=
  match s.aheadSet with
  | none => s
  | some c => takeProtRegion c s

/-- A step has made no attempt in this start: it was skipped at once (R110). -/
def State.untried (s : State) (k : Nat) : Bool := s.rd (F.CFG_BOOT_STEP_ATTEMPTS k) == 0

/-- The saved fields that a test on keys selects and that still hold what a copy gave them return to their reset values (R478). -/
def returnSaved (p : Nat → Bool) (c : SaveSet) (s : State) : State :=
  c.regs.foldl (fun a e =>
    if p e.1 then
      match fldOfKey e.1 with
      | some f => if f.res == .pw && a.rd f == e.2 then { a.wr f f.rst with shadow := SMap.del a.shadow e.1 } else a
      | none => a
    else a) s

/-- A cold start leaves the fields marked W at their P values (R478), though steps 11 and 12 read two regions ahead (R124): those that still hold
what they took then go back. FREQ stays, for R375 bounds how fast it moves, and the protection region stays once a verdict has come. The
prediction moves with the ToD and with the corrected offsets, as in R388 (DEDUCED, assumption 20). -/
def returnAhead (s : State) : State :=
  match s.aheadSet with
  | none => s
  | some c =>
    let asym := fun (a : State) => toSigned 32 (a.rd (F.TSU_PORT_CFG_ASYM_PS a.ptpPort))
    let s1 := if s.untried 11 then s
      else
        let a := returnSaved (fun k => timePage (k / 64) && k != F.TSU_FREQ_FREQ.key) c s
        let moved := a.todOfsPs - s.todOfsPs - (if s.fromPtp then asym a - asym s else 0)
        (if a.todOfsPs = s.todOfsPs then a else staleTod a).modTsu fun t =>
          { t with pred := t.pred + moved, meas := t.meas.map fun o => o + moved, outliers := t.outliers.map fun o => o + moved }
    if s.untried 12 ∨ s.rd F.PRT_KAP_RX_STAT_EPOCH ≠ SMap.getD c.regs F.PRT_KAP_RX_STAT_EPOCH.key 0 then s1
    else returnSaved (fun k => protPage (k / 64) && k != F.PRT_STAT_ROLE.key) c s1

/-- A tree is restored warm (R123). -/
def warmTreeOk (s : State) (c : SaveSet) (n : Nat) : Bool :=
  s.joined n && ((SMap.find? s.cfg.tiles n).map fun d => (d.rateClass, d.partner)) == SMap.find? c.classes n && (s.tree n).sfcFrom.isSome

/-- Where a warm tree's superframe counter goes (R125): with time locked, the greater of the saved value advanced past the outage and the
ceiling from which it started; that ceiling without time lock. -/
def warmSfc (s : State) (c : SaveSet) (time n : Nat) : Nat :=
  let from_ := ((s.tree n).sfcFrom).getD 0
  let saved := SMap.getD c.regs (F.FRM_SFC_SFC n).key 0
  let elapsed := ((s.todAt s.offsetNs - (time * 1000000000 : Nat)) / 125000).toNat
  if s.rd F.TSU_STAT_STATE = 2 then max (saved + elapsed + 8000) from_ else from_

/-- A restored terminal is verified, or reserved with its serial number and no EqD (R126, R199), with a fresh block and its PM record, from which its first second counts on
(R173). -/
def restoreTerm (n : Nat) (c : SaveSet) (t : Nat) (s : State) : State :=
  let st := s.tst n t
  let pm := ((SMap.find? c.terms (512 * n + t)).map Term.pm).getD TermPm.zero
  let s1 := s.modTerm n t fun _ => { Term.initial with pm := pm, lastMissed := pm.missed, lastHdr := pm.hdrErr }
  if st = tsFree then s1
  else if st = tsService ∨ st = tsGuarded ∨ st = tsVerifying then setTerm n t tsVerifying 0 s1
  else (setTerm n t tsReserved 0 s1).wr (F.RNG_TERM_EQD_EQD_RU n t) 0

/-- T_EQ keeps its saved value (R176, R199): its part below a nanosecond is the one that the configuration gives, where that leads to the saved
value, else 0; the windows are sized, and PENDING says that another T_EQ waits for the terminals. -/
def restoreTeq (n : Nat) (s : State) : State :=
  let s1 := (s.wr (F.RNG_WIN_DISC_WIN n) (s.discWinNs n / 100)).wr (F.RNG_WIN_RANGE_WIN n) (s.rangeWinNs n / 100)
  let same := s1.rd (F.RNG_TEQ_T_EQ_NS n) == s1.teqWanted n / 1000
  (s1.wr (F.RNG_TEQ_PENDING n) (bit (!same && s1.held n != s1.rd (F.RNG_POP_RESERVED n)))).modTree n fun t =>
    { t with teqSub := if same then s1.teqWanted n % 1000 else 0 }

/-- One tree is restored warm: T_EQ, terminals, allocations, PM counters and the superframe counter under a new ceiling. A terminal whose RTD
this changes is reported (R395). -/
def restoreTree (c : SaveSet) (time : Nat) (s : State) (n : Nat) : State :=
  let sfc := warmSfc s c time n
  let s1 := takeSaved (fun a => treePage a == some n) c s
  let pm := SMap.getD c.treePm n []
  let s2 := s1.modTree n fun t => { t with alloc := SMap.getD c.allocs n [], pm := pm, secMissed := SMap.getD pm pmUsMissed 0 }
  let s3 := (List.range 512).foldl (fun a t =>
    if s2.tst n t = tsFree ∧ (SMap.find? c.terms (512 * n + t)).isNone then a else restoreTerm n c t a) s2
  let s4 := ((List.range 512).filter fun t => s3.rtd n t != s.rtd n t).foldl (fun a t => noteRtd n t a) s3
  writeCeiling n ((restoreTeq n s4).wr (F.FRM_SFC_SFC n) sfc)

/-- ENABLE of each tree port takes its saved value (R63): the port is brought up, or taken down. A port that alternate 3 left disabled stays so
(R101). -/
def restoreEnable (c : SaveSet) (s : State) (n : Nat) : State :=
  if hasBit s.cfg.disabled n then s
  else if SMap.getD c.regs (F.TPA_CTRL_ENABLE n).key 0 = 1 then portEnable n s else portDisable n s

/-- Step 13 restores the regions of a copy that no step before it has read (R78, R123 to R126, R344): the time-unit and protection regions are
among them where steps 11 and 12 were skipped at once, or could read none. -/
def restoreWarm (k : SaveCopy) (t : State) : State :=
  match k.content with
  | none => t
  | some c =>
    let s := (t.when (t.untried 11 || t.aheadSet.isNone) (takeTimeRegion c)).when (t.untried 12 || t.aheadSet.isNone) (takeProtRegion c)
    let trees := (List.range 32).filter (warmTreeOk s c)
    let s1 := takeSaved (fun a => (decide (0x100400 ≤ a) && decide (a < 0x1004D0)) || (decide (0x3A10000 ≤ a) && decide (a < 0x3B00000)) ||
      (decide (0x3F30000 ≤ a) && decide (a < 0x3F40000))) c s
    let s2 := c.gens.foldl (fun a e => a.modKey e.1 fun x => { x with gen := e.2 }) s1
    let s3 := c.keyTerms.foldl (fun a e => a.modKterm e.1 fun x => { x with dsIndex := e.2.1, switch := e.2.2 }) s2
    let s4 := trees.foldl (restoreTree c k.time) s3
    let s5 := (List.range 32).foldl (restoreEnable c) s4
    s5.wr F.CFG_WARM_TREES_TREES (trees.foldl withBit 0)

/-- CFG_WARM_STAT of a warm resume. -/
def showWarm (older : Bool) (s : State) : State :=
  (((s.wr F.CFG_WARM_STAT_WARM 1).wr F.CFG_WARM_STAT_DECLINE 0).wr F.CFG_WARM_STAT_AGE_UNCHECKED (bit (!s.lockedStart))).wr
    F.CFG_WARM_STAT_OLDER_COPY (bit older)

/-- CFG_WARM_STAT of a cold start with its decline code (R121), and the P values of what was read ahead (R478). -/
def showCold (code : Nat) (s0 : State) : State :=
  let s := returnAhead s0
  (((s.wr F.CFG_WARM_STAT_WARM 0).wr F.CFG_WARM_STAT_DECLINE code).wr F.CFG_WARM_STAT_AGE_UNCHECKED (bit (!s.lockedStart))).wr
    F.CFG_WARM_STAT_OLDER_COPY 0

/-- The work of step 13 on its normal path. `err` is an error that ended the restore (condition 7). -/
def resumeWork (err : Bool) (s : State) : State :=
  let code := warmCode5 s s.latestCopy
  match s.latestCopy with
  | some k => if code ≠ 0 then showCold code s else if err then showCold 7 s else showWarm false (restoreWarm k s)
  | none => showCold code s

end Sys2Proof.Machine
end

