-- ==== Sys2Proof/Machine/Boot.lean ====
section
/-! DEFINITION. Machine/Boot.lean: the boot sequencer: what each step does (R101 to R105), the policy (R106 to R109), failure and escalation
(R110 to R113), the journal of a start (R111, R115 to R120), and how a start begins (R112, R478). -/
namespace Sys2Proof.Machine

/-! Policies. -/

/-- An entry from its 16 bytes (R107). -/
def PolicyEntry.ofBytes (b : List Nat) : PolicyEntry :=
  { step := b.getD 0 0, optional := hasBit (b.getD 1 0) 0, tries := b.getD 2 0, retryMax := b.getD 3 0, escalate := b.getD 4 0,
    alt := b.getD 5 0, afterAlt := b.getD 6 0, recheck := b.getD 7 0, timeoutMs := ofLe (b.extract 8 12) }

/-- A policy from the 256 bytes of its section (R106, R107). -/
def Policy.ofBytes (b : List Nat) : Policy :=
  { serviceMode := b.getD 0 0, autoResume := b.getD 1 0, warm := b.getD 2 0, warmMaxAge := ofLe (b.extract 4 8)
    entries := (List.range 14).map fun i => PolicyEntry.ofBytes (b.extract (32 + 16 * i) (48 + 16 * i)) }

/-- Every entry holds its own position (R109). -/
def Policy.ordered (p : Policy) : Bool := (List.range 14).all fun i => (p.entries[i]?.map PolicyEntry.step) == some (i + 1)

/-- The alternate code that R101 lists for a step; 0 for none. -/
def altOf (k : Nat) : Nat :=
  if k = 4 then 5 else if k = 5 ∨ k = 6 then 2 else if k = 7 then 1 else if k = 10 then 3 else if k = 13 then 4 else 0

/-- SKIP may take effect on a step (R101, R108). -/
def PolicyEntry.skipOk (e : PolicyEntry) (k : Nat) : Bool := (k == 11 || k == 12 || k == 13) && e.optional

/-- ALTERNATE may take effect on a step (R108). -/
def PolicyEntry.altOk (e : PolicyEntry) (k : Nat) : Bool := altOf k != 0 && e.alt == altOf k

/-- What ESCALATE acts as: 1 SKIP, 2 ALTERNATE, 3 HALT (R107, R108). -/
def PolicyEntry.escalates (e : PolicyEntry) (k : Nat) : Nat :=
  if e.escalate = 1 ∧ e.skipOk k then 1 else if e.escalate = 2 ∧ e.altOk k then 2 else 3

/-- What AFTER_ALT acts as (R107, R108). -/
def PolicyEntry.after (e : PolicyEntry) (k : Nat) : Nat := if e.afterAlt = 1 ∧ e.skipOk k then 1 else 3

/-- The entry holds a SKIP or ALTERNATE that acts as HALT (R108). -/
def PolicyEntry.fixed (e : PolicyEntry) (k : Nat) : Bool :=
  (e.escalate == 1 && !e.skipOk k) || (e.escalate == 2 && !e.altOk k) || (e.afterAlt == 1 && !e.skipOk k)

/-- The entry that a step runs under: the fixed policy for steps 1 to 4 (R109). -/
def State.entry (s : State) (k : Nat) : PolicyEntry :=
  if k ≤ 4 then ⟨k, false, 3, 0, if k = 4 then 2 else 3, altOf k, 3, 0, 0⟩
  else s.cfg.policy.entries.getD (k - 1) ⟨k, false, 1, 0, 3, 0, 3, 0, 0⟩

/-! Memory, registers and records of a step. -/

def State.stepMem (s : State) (k : Nat) : StepMem := s.cfg.mem.getD (k - 1) StepMem.clear

/-- Shows STREAK and DIRECT_CNT of a step. -/
def showMem (k : Nat) (s : State) : State :=
  (s.wr (F.CFG_BOOT_STEP_STREAK k) (s.stepMem k).streak).wr (F.CFG_BOOT_STEP_DIRECT_CNT k) (s.stepMem k).direct

/-- Changes a step's memory; it reaches the control area by `keepMem` (R110, R117). -/
def setMem (k : Nat) (g : StepMem → StepMem) (s : State) : State :=
  showMem k (s.modCfg fun c => { c with mem := c.mem.set (k - 1) (g (s.stepMem k)) })

/-- Writes the memory into a new control copy, once step 4 has chosen the area. -/
def keepMem (s : State) : State := if s.cfg.area.isSome then writeCtrl (fun c => c) s else s

/-- The start area before this one: the one that HEAD names, or, without a control copy, the one with the highest START_NO (R116). -/
def Store.lastArea (t : Store) : Option Nat :=
  match t.ctrl with
  | some c => some c.head
  | none => (t.areas.foldl (fun (b : Option (Nat × Nat)) e =>
      match b with
      | none => some (e.1, e.2.startNo)
      | some x => if x.2 < e.2.startNo then some (e.1, e.2.startNo) else b) none).map (·.1)

/-- The control copy that a command given before step 4 has read the journal changes: the latest valid one, or, where none is, one that leaves the
next area and START_NO as they would be without it (R113, R116, R117). -/
def Store.ctrlBase (t : Store) : CtrlCopy :=
  match t.ctrl with
  | some c => c
  | none =>
    { CtrlCopy.none with
        head := t.lastArea.getD 15
        startNo := ((t.lastArea.bind fun k => SMap.find? t.areas k).map StartArea.startNo).getD 0
        mem := List.replicate 14 StepMem.clear }

/-- A host command is kept in a new control copy at once, before step 4 has chosen the area as well as after it; under alternate 5 it acts only
in S0 (R113, R117). -/
def keepCommand (g : CtrlCopy → CtrlCopy) (s : State) : State :=
  if s.cfg.area.isSome then keepMem s
  else if s.cfg.alt5 || s.cfg.scan then s
  else s.modStore fun t => t.putCtrl (g t.ctrlBase)

/-- A command on one step's memory (R113). -/
def commandMem (k : Nat) (g : StepMem → StepMem) (s : State) : State :=
  keepCommand (fun c => { c with mem := c.mem.set (k - 1) (g (c.mem.getD (k - 1) StepMem.clear)) }) (setMem k g s)

/-- A journal record of this instant (R119). -/
def State.jrec (s : State) (kind step attempt path outcome alt detail mask arg : Nat) : JRec :=
  { kind := kind, step := step, attempt := attempt, path := path, outcome := outcome, alt := alt, detail := detail % 65536,
    uptime := s.uptimeUs, mask := mask % 2 ^ 64, arg := arg, whole := true }

/-! What a start takes from an image (R105, R477, R482). -/

/-- The image chosen by step 5: flash copy or host memory. -/
def State.bootImg (s : State) : ImgAt :=
  match s.cfg.pickedFlash with
  | some o => ⟨s.flash, o⟩
  | none => ⟨s.hostMem, Config.hostImage⟩

/-- Chooses source and copy for step 5, or alternate 2 of step 5 or 6 (R101). -/
def pickImage (alternate : Bool) (s : State) : State :=
  let host := s.on F.CFG_BOOT_SEL_SOURCE
  let copy := if alternate then (if host then 0 else 1 - s.rd F.CFG_BOOT_SEL_COPY) else s.rd F.CFG_BOOT_SEL_COPY
  let src := if host ∧ ¬ alternate then none else some (copy * 0x8000000)
  ((s.wr F.CFG_BOOT_SEL_ALT_USED (bit alternate)).wr F.CFG_BOOT_SEL_COPY_USED copy).modCfg fun c => { c with pickedFlash := src }

/-- Events that occurred before EVENT_ROUTE are delivered under its routing (R105): the spec holds them as status and gives their records no
content; the model delivers each occurrence, stamped with this instant and with REFLEX 0 (DESIGN CHOICE, assumption 66). -/
def deliverEarly (s : State) : State :=
  s.hub.early.foldl (fun a e => deliver e.1 e.2 false a.stamp32 a)
    ((s.modCfg fun c => { c with routed := true }).modHub fun h => { h with early := [] })

/-- EVENT_ROUTE is applied (R105, R482). -/
def applyRoute (sec : List Byte) (s : State) : State :=
  let w := fun o => leNat (sec.extract o (o + 4))
  let s1 := (List.range 48).foldl (fun a g => (a.wr (F.HIF_EVT_EN_EN g) (w (4 * g))).wr (F.HIF_EVT_COAL_COAL_US g) (w (192 + 4 * g))) s
  let s2 := (List.range 1536).foldl (fun a i =>
    let v := w (384 + 4 * i)
    (((a.wr (F.HIF_EVT_ROUTE_VECTOR i) (slice v 0 8)).wr (F.HIF_EVT_ROUTE_MSIX i) (slice v 8 1)).wr (F.HIF_EVT_ROUTE_PIN i) (slice v 9 1)).wr
      (F.HIF_EVT_ROUTE_RECORD i) (slice v 10 1)) s1
  deliverEarly s2

/-- A reflex rule from its 64-bit word. -/
def setRule (s : State) (e : Nat × Nat) : State :=
  let r := e.1 % 256
  let w := e.2
  (((((((s.wr (F.HIF_RFX_RULE_SOURCE r) (slice w 0 11)).wr (F.HIF_RFX_RULE_VALID r) (slice w 11 1)).wr (F.HIF_RFX_RULE_QUAL r) (slice w 12 3)).wr
    (F.HIF_RFX_RULE_QMODE r) (slice w 15 3)).wr (F.HIF_RFX_RULE_ACTION r) (slice w 18 4)).wr (F.HIF_RFX_RULE_ONESHOT r) (slice w 22 1)).wr
    (F.HIF_RFX_RULE_ARG r) (slice w 32 16)).wr (F.HIF_RFX_RULE_HOLD_MS r) (slice w 48 16)

/-- PROTECTION is applied (R99, R398). -/
def applyProtection (sec : List Byte) (s : State) : State :=
  let p := Config.protField sec
  let s1 := ((((s.wr F.PRT_CFG_CLASS (p 0)).wr F.PRT_CFG_DOMAIN_ID (p 1)).wr F.PRT_ID_DEVICE_ID (p 2)).wr F.PRT_ID_PEER_ID (p 3)).wr F.PRT_CFG_HOME (p 4)
  let s2 := (s1.wr F.PRT_CFG_REVERTIVE (p 5)).wr F.PRT_CFG_ARB_MODE (p 6)
  [2, 3, 4].foldl (fun a i => (a.wr (F.CFG_VER_MIN i) (protRange sec i).1).wr (F.CFG_VER_MAX i) (protRange sec i).2) s2

/-- The start of step 9: DEFAULTS, EVENT_ROUTE, REFLEX and PROTECTION, once per start (R101, R477). -/
def applySections (s : State) : State :=
  if s.cfg.routed then s
  else
    let i := s.slotImg 0
    let s1 := applyWrites (fun k => ((fldOfKey k).map Fld.acc) == some .rw) (Config.defaultsWrites (i.section 3)) s
    let s2 := applyRoute (i.section 7) (selectSource s s1)
    let s3 := reflexCommit s2 ((Config.reflexWords (i.section 8)).foldl setRule s2)
    applyProtection (i.section 0xA) s3

/-- A load of the full load (R79). -/
def fullLoad : Reload :=
  { slot := 0, gen := 1, partner := none, full := true, drainLeft := 0, ticks := 0, read := false, negotiated := none, live := false,
    range := (0, 0), defaults := [], tables := [], engMap := [], vendor := [], openWords := [] }

/-- Step 9 asks for every tile that has a section and has not joined, in ascending order (R48, R49, R79). -/
def loadTiles (s : State) : State :=
  let l := ((List.range 48).filter fun n => (tileSect n (s.slotImg 0).sects).isSome && !s.joined n && !(s.cfg.loads.any fun e => e.1 == n))
  showActive (l.foldl (fun a n => bringUp (.tile n) ((a.wr (F.CFG_TILE_STAT_STATE n) 5).modCfg fun c =>
    { c with loads := SMap.put c.loads n fullLoad })) s)

/-- DS_QUEUES of each tree that has a TILE section in an image (R311). -/
def queuesOf (i : ImgAt) : SMap Nat :=
  (List.range 32).foldl (fun m n => match tileSect n i.sects with
    | some x => SMap.put m n (i.desc x).dsQueues
    | none => m) []

/-- WIDTH of each U tile that has a section in an image (R75). -/
def declared (i : ImgAt) : SMap Nat :=
  (List.range 8).foldl (fun m k => match tileSect (32 + k) i.sects with
    | none => m
    | some x => SMap.put m k (i.desc x).width) []

/-- Step 8: the partition of GLOBAL is applied, the image copied into slot 0 and checked again, every cell put into the free store in the MODE
that DEFAULTS gives, and the save armed (R22, R72, R101, R106, R301). -/
def adoptImage (s : State) : State :=
  let i := s.bootImg
  let len := i.le 8 4
  let s1 : State := { s with partn := globalPartition (i.section 1) }
  let s2 := endVerify 0 (verifyImage i) (imageRead (s1.slotBase 0) len (dramRun 9 (s1.slotBase 0) ((i.bytes 0 len).map BitVec.toNat) s1))
  let s2 := showUplinks { s2 with fwd := Fwd.initial, tmg := Tmg.initial, cfg := { s2.cfg with uplinks := declared i } }
  let s3 := fillStore (applyWrites (fun k => fldOfKey k == some F.BPM_FS_CFG_MODE) (Config.defaultsWrites (i.section 3)) s2)
  ((s3.wr F.PWR_SAVE_ARM_ARMED 1).wr F.PWR_SAVE_ARM_AUTO_RESUME (s.cfg.policy.autoResume % 2)).modCfg fun c =>
    { c with running := (s2.slot 0).img, runSlot := 0, dsq := queuesOf i }

/-! DRAM training (R370 to R372). -/

/-- The latest valid copy of the trained values: 0 none, 1 A, 2 B (R371). -/
def Store.trainLatest (t : Store) : Nat :=
  if t.trainA.valid then (if t.trainB.valid && aheadOf 32 t.trainB.seq t.trainA.seq then 2 else 1) else if t.trainB.valid then 2 else 0

/-- The normal path of step 7 passed: the values are written over the copy that is not the latest (R370). -/
def trained (s : State) : State :=
  let run := s.fresh
  let n := s.store.trainLatest
  let s1 := ((s.draw.wr F.DRC_TRAIN_STAT_PASS 0xFFFFFFFF).wr F.DRC_TRAIN_INFO_FIRST_FAIL 0xFF).modDrc fun d => { d with trained := some run }
  if s.cfg.alt5 ∨ s.cfg.scan then s1
  else
    let seq := if n = 0 then 1 else ((if n = 1 then s.store.trainA.seq else s.store.trainB.seq) + 1) % 2 ^ 32
    let c : TrainCopy := ⟨true, seq, 0, run⟩
    let s2 := s1.modStore fun t => if n = 1 then { t with trainB := c } else { t with trainA := c }
    ((s2.wr F.DRC_TRAIN_INFO_STORED_WRITTEN 1).wr F.DRC_TRAIN_INFO_COPY (bit (n == 1))).wr F.DRC_TRAIN_INFO_SEQ seq

/-- The device address of a byte of a pseudo-channel's bank, by row and column (R349). -/
def bankByte (p b row col : Nat) : Nat :=
  let c := row * 16384 + b * 1024 + col
  c / 256 * 8192 + p * 256 + c % 256

/-- The pattern of R372 stays on every bank of every pseudo-channel: 64 rows of a bank, each byte a free value. -/
def writePattern (s : State) : State :=
  (List.range 32).foldl (fun a p => (List.range 16).foldl (fun a b => (List.range 64).foldl (fun a r =>
    let row := Config.patternRow p b % 65472 + r
    { a with dram := (List.range 1024).foldl (fun m c => m.write (bankByte p b row c) (BitVec.ofNat 8 (Config.patternByte (bankByte p b row c)))) a.dram }) a) a) s

/-- Alternate 1 loaded the latest valid copy and its pattern compared clean (R372). -/
def trainStored (s : State) : State :=
  let c := if s.store.trainLatest = 1 then s.store.trainA else s.store.trainB
  let s1 := ((s.wr F.DRC_TRAIN_STAT_PASS 0xFFFFFFFF).wr F.DRC_TRAIN_INFO_FIRST_FAIL 0xFF).wr F.DRC_TRAIN_INFO_STORED_USED 1
  writePattern (((s1.wr F.DRC_TRAIN_INFO_COPY (bit (s.store.trainLatest == 2))).wr F.DRC_TRAIN_INFO_SEQ c.seq).modDrc fun d => { d with trained := some c.run })

/-- The first set bit of a mask below `n`. -/
def firstBit (m n : Nat) : Option Nat := (List.range n).find? fun i => hasBit m i

/-! The journal at step 4 (R111, R115 to R117, R120). -/

/-- Path of the last whole record of a step, when that record is BEGUN: its ENDED was never written (R111, R115). -/
def openPath (l : List JRec) (k : Nat) : Option Nat :=
  match (l.filter fun r => r.whole && r.step == k && (r.kind == 1 || r.kind == 2)).getLast? with
  | some r => if r.kind = 1 then some r.path else none
  | none => none

/-- A step left BEGUN by the previous start is a failure of its path (R111). -/
def blame (l : List JRec) (m : List StepMem) : List StepMem :=
  m.zipIdx.map fun e =>
    match openPath l (e.2 + 1) with
    | some 0 => { e.1 with streak := min (e.1.streak + 1) 255 }
    | some 1 => { e.1 with altBad := true }
    | _ => e.1

/-- The end of step 4: the journal's control area and previous start are read, this start's area is opened with the records held so far,
and a control copy with the new START_NO is written (R109, R111, R113, R115 to R117, R120, R478). -/
def openJournal (s : State) : State :=
  let t := s.store
  let ctrl := t.ctrl
  let last := t.lastArea
  let prev := last.bind fun k => SMap.find? t.areas k
  let recs := (prev.map StartArea.recs).getD []
  let torn := (recs.filter fun r => !r.whole).length
  let no := match ctrl with
    | some c => (c.startNo + 1) % 2 ^ 32
    | none => (prev.map fun a => (a.startNo + 1) % 2 ^ 32).getD 1
  let area := (last.map fun k => (k + 1) % 16).getD 0
  let mem0 := blame recs ((ctrl.map CtrlCopy.mem).getD (List.replicate 14 StepMem.clear))
  let mem := mem0.zipIdx.map fun e => if e.2 < 4 then StepMem.clear else e.1
  let pol := (ctrl.bind CtrlCopy.policy).filter Policy.ordered
  let s1 := match ctrl with
    | none => s
    | some c => (s.wr F.CFG_BOOT_SEL_SOURCE c.source).wr F.CFG_BOOT_SEL_COPY c.copy
  let s2 := (((s1.wr F.CFG_JNL_STAT_START_NO no).wr F.CFG_JNL_STAT_HEAD area).wr F.CFG_JNL_STAT_CTRL_OK (bit ctrl.isSome)).wr
    F.CFG_BOOT_STAT_POLICY_SRC (bit pol.isSome)
  let start : StartArea :=
    { startNo := no, cause := s.rd F.CFG_BOOT_STAT_CAUSE, final := 0, policySrc := bit pol.isSome, warm := 0, imageVer := 0, imageId := 0,
      time := 0, durationMs := 0, recs := s.cfg.held }
  let s3 := (s2.modStore fun w => { w with areas := SMap.put w.areas area start }).modCfg fun c =>
    { c with area := some area, held := [], mem := mem, policy := pol.getD Policy.builtIn }
  let s4 := (List.range 14).foldl (fun a i => showMem (i + 1) a) s3
  let s5 := writeCtrl (fun c => c) (showLatest s4)
  s5.when (decide (0 < torn)) fun a => raise E.CFG_JOURNAL_TORN (a.sat F.CFG_JNL_STAT_TORN torn)

/-- Alternate 5: the journal is held in S0 and shown in the fault log, and START_ID is drawn at random (R101, R120, R335). -/
def holdJournal (s : State) : State :=
  let s1 := (s.wr F.CFG_JNL_STAT_HELD 1).modCfg fun c => { c with alt5 := true, policy := Policy.builtIn }
  let s2 := if s.cfg.scan then s1 else s1.cfg.held.foldl journalFault s1
  setMem 4 (fun m => { m with streak := 1, direct := 0 })
    { s2 with cph := { s2.cph with startId := some s2.cph.drawnId } }

/-! What a step does when an attempt begins, and when it has ended well. -/

/-- The first actions of an attempt (R101). -/
def stepBegins (k : Nat) (alternate : Bool) (s : State) : State :=
  if k = 5 ∨ (k = 6 ∧ alternate) then pickImage alternate s
  else if k = 9 then follow loadTiles (applySections s)
  else if k = 10 then (List.range 32).foldl (fun a n => askPort n a) s
  else if k = 11 then takeTime (s.modTsu fun t => { t with awaitStep := !s.on F.TSU_STAT_GRID_FIXED })
  else if k = 12 then takeProtection s
  else s

/-- The role that step 12 chooses (R400); skipped in a PAIR or POOL domain, it takes none by itself (R104). A saved role is offered no
longer. -/
def chooseRole (skipped : Bool) (s0 : State) : State :=
  let s := setRole s0.role s0
  if s.unprotected then setRole roleActive s
  else if s.role ≠ roleNone then s
  else if ¬ skipped ∧ s.rd F.PRT_STAT_PEER_ROLE = roleActive then
    setMirror mirSyncing (((setRole roleStandby s).wr F.PRT_STAT_FENCED 0).modPrt fun p => { p with bulk := true })
  else trigger 5 s

/-- The start area takes what this start has learned. -/
def State.imageInArea (s : State) : State :=
  modArea (fun a => { a with imageVer := (s.cfg.picked.map ImageMeta.ver).getD 0, imageId := (s.cfg.picked.map ImageMeta.id).getD 0 }) s

/-- Which modes SERVICE_MODE names (R106): 2, 3, 4, or 7 with CLASS 0; any other acts as 3. -/
def State.namedMode (s : State) : Nat :=
  let m := s.cfg.policy.serviceMode
  if s.role = roleStandby then mStandby
  else match s.prt.startMode with
    | some m => m
    | none => if isService m ∨ (m = mProving ∧ s.unprotected) then m else mBalanced

/-- HOLD_OK, the floor and the LEAN limit as they stand for a named mode (R40). -/
def waitMet (s : State) (m : Nat) : Bool :=
  s.on F.PWR_HOLD_HOLD_OK && s.floorMet m && (m != mLean || s.leanFits)

/-- Reports each condition of R40 that fails. -/
def reportWait (m : Nat) (s : State) : State :=
  let s1 := s.when (!s.on F.PWR_HOLD_HOLD_OK) (raise E.PWR_HOLD_NOT_READY)
  let s2 := s1.when (!s.floorMet m) fun a =>
    raise E.PWR_VIN_BELOW_FLOOR ((a.wr F.PWR_MODE_STAT_BELOW_FLOOR 1).wr F.PWR_MODE_STAT_HIGHEST_OK a.highestOk)
  s2.when (m == mLean && !s.leanFits) (refuseMode mLean 2)

/-- Shadow and active copies are equal when service is enabled (R78): what a host wrote into a shadow before goes. -/
def equalShadows (s : State) : State :=
  { s with shadow := [], tmg := { s.tmg with shadow := [] }
           fwd := { s.fwd with owners := s.fwd.owners.map fun e => (e.1, { e.2 with shadow := none }) } }

/-- The full load gives every commit group generation 1 (R78); a warm resume gives them their saved ones at step 13. -/
def firstGens (s : State) : State := (List.range 52).foldl (fun a g => a.wr (F.CFG_GEN_CUR g) 1) s

/-- The end of step 14: the start is closed, BOOT_DONE, and the named mode is awaited (R40, R101, R118). -/
def serviceEnable (s : State) : State :=
  let s1 := closeStart 1 (modArea (fun a => { a with time := s.todSec }) ((equalShadows s).wr F.CFG_BOOT_STAT_STEP 15))
  let m := s.namedMode
  reportWait m (raise E.CFG_BOOT_DONE (s1.modPwr fun p => { p with waiting := some m }))

/-- Step 13 is over: its outcome is recorded and announced (R118, R121). -/
def warmDone (s : State) : State :=
  let s1 := modArea (fun a => { a with warm := s.rd F.CFG_WARM_STAT_DECLINE }) s
  raise (if s.on F.CFG_WARM_STAT_WARM then E.CFG_WARM_RESUMED else E.CFG_WARM_DECLINED) s1

/-- The order of the rails in step 2 (R490). -/
def railOrder : List Rail := [.vcore, .vsram, .vdramCore, .vdramIo, .vser090, .vser120, .viob]

/-- What follows a step that has ended, before the next begins. DESIGN CHOICE (assumption 70): the entries of an image's BOOT_POLICY are those of
steps 1 to 14 in their order, whatever their STEP field holds; R107 wants it equal to the position, and no rule says what a departure does. -/
def stepDone (k : Nat) (skipped alternate : Bool) (s : State) : State :=
  if k = 2 then ((s.wr F.PWR_HOLD_CHG_ON 1).modHost fun h => { h with endpoint := true }).modPwr fun p => { p with rails := railOrder }
  else if k = 3 then (rootSlots s.draw).modCph fun c => { c with drawnId := 2 ^ 31 + Config.startId s.fresh % 2 ^ 31 }
  else if k = 4 then (if alternate then holdJournal s else openJournal s)
  else if k = 6 then
    let i := s.bootImg
    let p := Policy.ofBytes ((i.section 9).map BitVec.toNat)
    let s1 := s.modCfg fun c => { c with picked := some i.metaOf }
    let s2 := writeCtrl (fun c => { c with policy := some p }) (modArea (fun a => { a with policySrc := 2 }) s1.imageInArea)
    s2.modCfg fun c => { c with policy := p }
  else if k = 9 then firstGens s
  else if k = 11 then
    (if skipped then (s.wr F.TSU_STAT_GRID_FIXED 1).modTsu fun t => { t with awaitStep := false, awaitOfs := true }
     else s.modTsu fun t => { t with awaitStep := false })
  else if k = 12 then chooseRole skipped s
  else if k = 13 then
    let s1 := if skipped then showCold (if warmCode5 s s.latestCopy = 0 then 6 else warmCode5 s s.latestCopy) s else s
    warmDone s1
  else if k = 14 then serviceEnable s
  else s

/-! The sequencer (R110). -/

/-- A start begins (R478): every field returns to its reset value but for those marked only X; the save store, the flash and host memory
keep theirs, and so do the waiting commands, the supply's measurements and its detectors, and what SCAN_N showed (R494). Its step 2 brings up
every rail (assumption 20). Step 1 begins, and the time unit runs free,
which is an event (R15, R381). -/
def startOver (cause : Nat) (s : State) : State :=
  let vin := s.rd F.PWR_VIN_VIN_MV
  let hold := s.rd F.PWR_HOLD_HOLD_MV
  let b : State :=
    { State.initial with
      regs := s.regs.filter fun e => isKeptKey e.1
      pending := s.pending
      fresh := s.fresh
      store := s.store
      flash := s.flash
      hostMem := s.hostMem
      hostIf := { HostIf.initial with linkDownDue := s.hostIf.linkDownDue || s.hostIf.pcieLive }
      pwr := { Pwr.initial with phase := .running, warnReady := s.pwr.warnReady, sagReady := s.pwr.sagReady, recoverOwed := s.pwr.recoverOwed }
      cfg := { Cfg.initial with run := some ⟨1, false, 1, false⟩, scan := s.cfg.scan } }
  let r := (((b.wr F.PWR_VIN_VIN_MV vin).wr F.PWR_VIN_VIN_MIN_MV vin).wr F.PWR_HOLD_HOLD_MV hold).wr F.PWR_HOLD_HOLD_OK
    (bit (decide (b.rd F.PWR_HOLD_CFG_HOLD_OK_MV ≤ hold)))
  let q := (((r.wr F.PWR_MODE_CUR mStarting).wr F.CFG_BOOT_STAT_CAUSE cause).wr F.CFG_BOOT_STAT_STEP 1).wr (F.CFG_BOOT_STEP_OUTCOME 1) 7
  raise E.TSU_FREERUN (journal ({ (q.jrec 1 1 1 0 0 0 0 0 0) with uptime := 0 }) (q.wr (F.CFG_BOOT_STEP_ATTEMPTS 1) 1))

/-- An attempt of a step's path begins: its BEGUN record first, then its work (R101, R120). -/
def beginAttempt (k : Nat) (alternate : Bool) (attempt : Nat) (direct : Bool) (s : State) : State :=
  let s1 := ((s.wr (F.CFG_BOOT_STEP_OUTCOME k) 7).sat (F.CFG_BOOT_STEP_ATTEMPTS k) 1).modCfg fun c =>
    { c with run := some ⟨k, alternate, attempt, direct⟩ }
  stepBegins k alternate (journal (s.jrec 1 k attempt (bit alternate) 0 (if alternate then altOf k else 0) 0 0 0) s1)

/-- HALT (R112). -/
def haltStep (k : Nat) (s : State) : State :=
  let o := s.rd (F.CFG_BOOT_STEP_OUTCOME k)
  let s1 := ((((s.wr (F.CFG_BOOT_STEP_ACTION k) 3).wr F.CFG_BOOT_STAT_HALTED 1).wr F.CFG_BOOT_STAT_HALT_STEP k).wr F.CFG_BOOT_STAT_HALT_OUTCOME o).modCfg
    fun c => { c with run := none }
  raise E.CFG_BOOT_HALTED (closeStart 2 (journal (s.jrec 4 k 0 0 o 0 0 0 0) (s1.modTsu fun t => { t with awaitStep := false })))

/-- The first reading of a policy entry: BOOT_POLICY_FIXED and its record where R108 turns something in it into HALT. -/
def readEntry (k : Nat) (s : State) : State :=
  if 4 < k ∧ (s.entry k).fixed k ∧ ¬ s.cfg.fixedRaised.contains k then
    raise E.CFG_BOOT_POLICY_FIXED (journal (s.jrec 5 k 0 0 0 0 0 0 0) (s.modCfg fun c => { c with fixedRaised := k :: c.fixedRaised }))
  else s

/-- Runs step `k` and, when it is skipped at once, the steps after it; `n` bounds how many. -/
def runStep : Nat → Nat → State → State
  | 0, _, s => s
  | n + 1, k, s =>
    if 14 < k then s
    else
      let s0 := readEntry k (s.wr F.CFG_BOOT_STAT_STEP k)
      let e := s0.entry k
      let m := s0.stepMem k
      if 4 < k ∧ ¬ m.force ∧ e.retryMax < m.streak ∧ ¬ (e.recheck ≠ 0 ∧ e.recheck ≤ m.direct) then
        let s1 := keepMem (setMem k (fun x => { x with direct := min (x.direct + 1) 255 }) (s0.wr (F.CFG_BOOT_STEP_DIRECT k) 1))
        escalate n k (e.escalates k) true s1
      else
        let s1 := if 4 < k ∧ m.force then keepMem (setMem k (fun x => { x with force := false }) s0) else s0
        beginAttempt k false 1 false s1
where
  /-- Applies an escalation (R110): 1 SKIP, 2 ALTERNATE, taken only while ALT_BAD is 0, 3 HALT. -/
  escalate (n k act : Nat) (direct : Bool) (s : State) : State :=
    let act := if act = 2 ∧ 4 < k ∧ (s.stepMem k).altBad then (s.entry k).after k else act
    if act = 1 then
      let s1 := (s.wr (F.CFG_BOOT_STEP_ACTION k) 1).wr (F.CFG_BOOT_STEP_OUTCOME k) 3
      let s2 := raise E.CFG_BOOT_ESCALATED (journal (s.jrec 2 k 0 2 3 0 0 0 0) s1)
      runStep n (k + 1) (stepDone k true false (s2.modCfg fun c => { c with run := none }))
    else if act = 2 then
      beginAttempt k true 1 direct (raise E.CFG_BOOT_ESCALATED (s.wr (F.CFG_BOOT_STEP_ACTION k) 2))
    else haltStep k s

/-- A step has ended well: the next begins, unless the sequencer stops with SCAN_N low after step 2 (R101, R494). -/
def stepOver (k : Nat) (alternate : Bool) (s : State) : State :=
  let s1 := stepDone k false alternate (s.modCfg fun c => { c with run := none })
  if k = 2 ∧ s1.cfg.scan then s1 else runStep 15 (k + 1) s1

/-- A sequencer restart: a start with CAUSE 7 (R110). -/
def seqRestart (s : State) : State := startOver 7 (raise E.CFG_BOOT_SEQ_RESTART (closeStart 4 s))

/-- An attempt ends with an outcome (R101, R110): 1 OK, 4 FAILED, 5 TIMEOUT, 8 PARTIAL. -/
def endAttempt (r : RunStep) (outcome detail mask : Nat) (s : State) : State :=
  let k := r.step
  let good := outcome = 1 ∨ outcome = 8
  let o := if r.alternate ∧ good then 2 else outcome
  let s1 := journal (s.jrec 2 k r.attempt (bit r.alternate) o (if r.alternate then altOf k else 0) detail mask 0)
    ((s.wr (F.CFG_BOOT_STEP_OUTCOME k) o).modCfg fun c => { c with run := none })
  if good then
    let s2 := if r.alternate ∨ k ≤ 4 then s1
      else keepMem (setMem k (fun m => { m with streak := 0, direct := 0, altBad := false }) s1)
    stepOver k r.alternate s2
  else
    let s2 := raise E.CFG_BOOT_STEP_FAILED s1
    let e := s2.entry k
    if r.alternate then
      let s3 := if k ≤ 4 then s2 else keepMem (setMem k (fun m => { m with altBad := true }) s2)
      runStep.escalate 15 k (e.after k) r.direct s3
    else if r.attempt < clampTo 1 8 e.tries then beginAttempt k false (r.attempt + 1) false s2
    else if k ≤ 4 then runStep.escalate 15 k (e.escalates k) false s2
    else
      let s3 := setMem k (fun m => { m with streak := min (m.streak + 1) 255 }) s2
      if (s3.stepMem k).streak ≤ e.retryMax then seqRestart (keepMem s3)
      else runStep.escalate 15 k (e.escalates k) false (keepMem (setMem k (fun m => { m with direct := 0 }) s3))

/-- Every tile with a section has joined or is ISOLATED (R102). -/
def tilesSettled (s : State) : Bool :=
  (List.range 48).all fun n =>
    (tileSect n (s.slotImg 0).sects).isNone || s.joined n || s.rd (F.CFG_TILE_STAT_STATE n) == 4

/-- Tiles that ended ISOLATED, in ascending order. -/
def isolatedTiles (s : State) : List Nat := (List.range 48).filter fun n => s.rd (F.CFG_TILE_STAT_STATE n) == 4

/-- Step 14 may end: with CLASS 0, or once a role or a verdict has come (R104, R400). -/
def roleKnown (s : State) : Bool := s.unprotected || s.role != roleNone || s.prt.startMode.isSome

/-- VIN lies within the 4.5 to 18 V of step 1 (R101). -/
def State.vinUsable (s : State) : Bool := decide (4500 ≤ s.rd F.PWR_VIN_VIN_MV) && decide (s.rd F.PWR_VIN_VIN_MV ≤ 18000)

/-- At step 1 the test source raises HOLD by a number of millivolts that is neither a short's nor an open end's (R491). -/
def holdSound (riseMv : Nat) : Bool := decide (50 ≤ riseMv) && decide (riseMv ≤ 8000)

/-- A step ends (R101, R110). A tile from 32 up that is ISOLATED at step 9 has no bit in MASK, whose bits from 32 up R119 names for ports and
lanes (DESIGN CHOICE, assumption 66). `ok` is the outcome of work that the model does not compute; `detail` and `mask` are what the step found:
the rise of HOLD in mV at step 1 (`mask`), the position of the rail that did not regulate at step 2 (`detail`, 1 to 7, R490: nothing else fails
that step), failing pseudo-channels at step 7, ports
and lanes at step 10, an error that ended the restore at step 13. -/
def bootStepEnd (ok : Bool) (detail mask : Nat) (s : State) : State :=
  match s.cfg.run with
  | none => s
  | some r =>
    let plain := fun (b : Bool) (d m : Nat) (t : State) => endAttempt r (if b then 1 else 4) d m t
    if r.step = 1 then plain (ok && s.vinUsable && holdSound mask) detail 0 s
    else if r.step = 2 then
      if 1 ≤ detail ∧ detail ≤ 7 then plain false detail 0 (s.modPwr fun p => { p with rails := railOrder.take (detail - 1) })
      else if ok then plain true 0 0 s else s
    else if r.step = 6 then
      let code := verifyImage s.bootImg
      plain (code == 0) code 0 s
    else if r.step = 7 then
      let bad := mask % 2 ^ 32
      if r.alternate then
        (if ok ∧ s.store.trainLatest ≠ 0 then plain true 0 0 (trainStored s) else plain false detail 0 s)
      else if ok ∧ bad = 0 then plain true 0 0 (trained s)
      else
        let f := (firstBit bad 32).getD (detail % 32)
        plain false f 0 ((s.wr F.DRC_TRAIN_STAT_PASS (without 0xFFFFFFFF (withBit bad f))).wr F.DRC_TRAIN_INFO_FIRST_FAIL f)
    else if r.step = 8 then
      let code := verifyImage s.bootImg
      if ok ∧ code = 0 then plain true 0 0 (adoptImage s) else plain false code 0 s
    else if r.step = 9 then
      if ¬ tilesSettled s then s
      else if ¬ s.joined 47 then plain false 47 0 s
      else match isolatedTiles s with
        | [] => plain true 0 0 s
        | n :: l => endAttempt r 8 n (((n :: l).filter fun i => decide (i < 32)).foldl withBit 0) s
    else if r.step = 10 ∧ r.alternate then
      let s1 := ((List.range 32).filter fun p => hasBit mask p).foldl (fun a p => portDisable p a) s
      plain ok detail mask (s1.modCfg fun c => { c with disabled := c.disabled ||| mask })
    else if r.step = 11 then
      if ok ∧ (s.rd F.TSU_STAT_STATE ≠ 2 ∨ ¬ s.on F.TSU_STAT_GRID_FIXED) then s else plain ok detail mask s
    else if r.step = 13 then
      if ¬ ok then plain false detail mask s
      else if r.alternate then
        match s.olderCopy with
        | none => plain false detail 0 s
        | some k => if warmCode5 s (some k) ≠ 0 then plain false detail 0 s else plain true 0 0 (showWarm true (restoreWarm k s))
      else plain true 0 0 (resumeWork (detail != 0) s)
    else if r.step = 14 then
      if ¬ ok then plain false detail mask s else if roleKnown s then plain true 0 0 s else s
    else plain ok detail mask s

/-- A step still runs at its timeout (R101). -/
def bootStepTimeout (s : State) : State :=
  match s.cfg.run with
  | none => s
  | some r => endAttempt r 5 0 0 s

/-! The start is interrupted by a brown-out (R114). -/

/-- The step at which a start area's start was interrupted. -/
def StartArea.interruptedAt (a : StartArea) : Option Nat :=
  if a.final = 3 then ((a.recs.filter fun r => r.whole && r.kind == 2 && r.outcome == 6).getLast?).map JRec.step else none

/-- The start area `d` starts before this one. -/
def State.areaBefore (s : State) (d : Nat) : Option StartArea :=
  match s.cfg.area, s.startArea with
  | some k, some a => (SMap.find? s.store.areas ((k + 16 - d) % 16)).filter fun b => (b.startNo + d) % 2 ^ 32 == a.startNo
  | _, _ => none

/-- ENDED with INTERRUPTED for the running step, FINAL 3, and BOOT_SAG_REPEAT at the third in a row (R114). -/
def interruptStart (s : State) : State :=
  match s.cfg.run with
  | none => s
  | some r =>
    let k := r.step
    let s1 := journal (s.jrec 2 k r.attempt (bit r.alternate) 6 (if r.alternate then altOf k else 0) 0 0 0)
      ((s.wr (F.CFG_BOOT_STEP_OUTCOME k) 6).modCfg fun c => { c with run := none })
    let s2 := closeStart 3 s1
    let again := fun d => ((s2.areaBefore d).bind StartArea.interruptedAt) == some k
    s2.when (again 1 && again 2) (raise E.CFG_BOOT_SAG_REPEAT)

/-! Host commands on the sequencer (R112, R113). -/

/-- CFG_BOOT_CMD.RESTART while halted (R112). -/
def bootRestart (s : State) : State := if s.on F.CFG_BOOT_STAT_HALTED then startOver 5 s else s

/-- CLEAR_STREAK (R113). -/
def clearStreak (k : Nat) (s : State) : State :=
  let s1 := s.wr F.CFG_BOOT_CMD_STEP k
  if k = 0 ∨ 14 < k then s1 else commandMem k (fun m => { m with streak := 0, direct := 0, altBad := false }) s1

/-- FORCE_NORMAL (R113). -/
def forceNormal (k : Nat) (s : State) : State :=
  let s1 := s.wr F.CFG_BOOT_CMD_STEP k
  if k = 0 ∨ 14 < k then s1 else commandMem k (fun m => { m with force := true }) s1

/-- A write of CFG_BOOT_SEL is kept in a new control copy (R117). -/
def bootSelWrite (w : Nat) (s : State) : State :=
  keepCommand (fun c => { c with source := slice w 0 1, copy := slice w 1 1 })
    ((s.wr F.CFG_BOOT_SEL_SOURCE (slice w 0 1)).wr F.CFG_BOOT_SEL_COPY (slice w 1 1))

/-- PERST_N (R493, R496): the endpoint is reset; an image read over PCIe at step 5 or 6 fails with DETAIL 0xFFFF. -/
def perstN (s : State) : State :=
  let s1 := perst s
  match s.cfg.run with
  | some r =>
    if s.works ∧ s.hostIf.endpoint ∧ (r.step = 5 ∨ r.step = 6) ∧ s.cfg.pickedFlash.isNone then endAttempt r 4 0xFFFF 0 s1 else s1
  | none => s1

/-- SERVICE_MODE_TAKEN: the named mode is taken at the first tick at which every condition of R40 holds; in a PAIR or POOL domain the BENs
are then released (R48, R132). -/
def serviceModeTaken (s : State) : State :=
  match s.pwr.waiting with
  | none => s
  | some m =>
    if s.mode ≠ mStarting ∨ ¬ waitMet s m then s
    else
      let s1 := takeMode m ((s.wr F.PWR_MODE_STAT_BELOW_FLOOR 0).modPwr fun p => { p with waiting := none })
      s1.when (m != mStandby && !s.unprotected) releaseBens

/-! The commands. -/

/-- BOOT_STEP_END (R101, R110). -/
def execBootStepEnd (ok : Bool) (detail mask : Nat) (s : State) : Out := .next (s.when s.works (bootStepEnd ok detail mask))
/-- BOOT_STEP_TIMEOUT (R101). -/
def execBootStepTimeout (s : State) : Out := .next (s.when s.works bootStepTimeout)
/-- PERST (R493, R496). -/
def execPerst (s : State) : Out := .next (s.when s.awake perstN)
/-- SERVICE_MODE_TAKEN (R40). -/
def execServiceModeTaken (s : State) : Out := .next (s.when s.works serviceModeTaken)

end Sys2Proof.Machine
end

