-- ==== Sys2Proof/Machine/Power.lean ====
section
/-! DEFINITION. Machine/Power.lean: PWR: power-on and reset (R39, R490, R492, R495), the supply's events (R42, R46, R51, R53), the brown-out
save and HOLDING (R38, R54 to R60), in-service saves (R61), mode requests (R37, R40, R43) and arming (R66). -/
namespace Sys2Proof.Machine

/-- The path that an operand names. -/
def pathOf (i2c : Bool) : Path := if i2c then .i2c else .pcie

/-! Power-on and reset. -/

/-- HOLD is measured: HOLD_MV, and HOLD_OK against its threshold (R51). -/
def showHold (mv : Nat) (s : State) : State :=
  let s1 := s.wr F.PWR_HOLD_HOLD_MV mv
  s1.wr F.PWR_HOLD_HOLD_OK (bit (decide (s1.rd F.PWR_HOLD_CFG_HOLD_OK_MV ≤ s1.rd F.PWR_HOLD_HOLD_MV)))

/-- VIN rises through 4.5 V: the VAUX regulator starts, and the reset timer runs (R490). -/
def vinRise (s : State) : State :=
  if s.pwr.phase = .unpowered then s.modPwr fun p => { p with phase := .vauxUp, nextCause := 1 } else s

/-- Power-on reset is released after VIN has stood at 4.5 V or more for 10 ms with RST_N high (R39, R492); SCAN_N is read then (R494). -/
def resetRelease (vinMv holdMv : Nat) (scanLow : Bool) (s : State) : State :=
  if (s.pwr.phase = .vauxUp ∨ s.pwr.phase = .resetHeld) ∧ 4500 ≤ vinMv then
    startOver s.pwr.nextCause (((s.wr F.PWR_VIN_VIN_MV vinMv).wr F.PWR_HOLD_HOLD_MV holdMv).modCfg fun c => { c with scan := scanLow })
  else s

/-- The newest journal record of the start area was torn: its CRC does not check (R115). -/
def tearRecord (s : State) : State :=
  modArea (fun a => { a with recs := a.recs.zipIdx.map fun e => if e.2 + 1 = a.recs.length then { e.1 with whole := false } else e.1 }) s

/-- The newest fault-log record was torn: it counts as never written (R58, R115). -/
def tearFault (s : State) : State :=
  s.modStore fun t => { t with faults := SMap.del t.faults ((t.faultNext + 262143) % 262144) }

/-- What the loss of power tears. -/
def tear (rec fault : Bool) (s : State) : State := (s.when rec tearRecord).when fault tearFault

/-- Power-on reset is asserted with no save, and the rails go off in the reverse of their order; the next start has CAUSE 6 (R490, R492). -/
def holdReset (s : State) : State := s.modPwr fun p => { p with phase := .resetHeld, nextCause := 6, resetWaits := false, rails := [] }

/-- RST_N low for 10 µs or more (R492); in HOLDING it is held until the save has ended (R495). -/
def boardReset (rec fault : Bool) (s : State) : State :=
  if s.pwr.phase ≠ .running then s
  else if s.mode = mHolding then s.modPwr fun p => { p with resetWaits := true }
  else holdReset (tear rec fault s)

/-- The rails fall, VAUX and S0 included (R58): what remains is the save store, the flash, the host's memory and the fields marked only X,
with the commands that wait. -/
def unpower (rec fault : Bool) (s : State) : State :=
  let t := tear rec fault s
  { State.initial with
    regs := t.regs.filter fun e => isKeptKey e.1
    pending := t.pending
    fresh := t.fresh
    store := t.store
    flash := t.flash
    hostMem := t.hostMem }

/-! ASLEEP and the quiesce (R55, R61, R490). -/

/-- The quiesce: BENs inactive, uplink and OXL transmitters off, the engines stopped, and nothing takes work (R55); the PCIe link goes
down (R435). -/
def quiesce (s : State) : State :=
  let s1 := pcieDown (stopAll (uplinksOff (phasesDown (benOff s))))
  showQueue ((lockInjection s1).modPwr fun p => { p with quiesced := true, queue := [], accepted := [] })

/-- ASLEEP is entered: rails and charger off, the switch open, and a board reset that waited acts (R51, R52, R490, R495). -/
def enterAsleep (fromHolding : Bool) (s : State) : State :=
  let s1 := takeMode mAsleep (zeroizeAll (pcieDown s))
  let s2 := (s1.armed (F.TPA_STAT_MEN 0) 0x10000 32).foldl (fun a p => portDown p a) s1
  let s3 := ({ s2 with dram := [] }.wr F.PWR_HOLD_CHG_ON 0).wr F.PWR_MODE_PENDING 0
  let s4 := (s3.modHost fun h => { h with endpoint := false }).modPwr fun p =>
    { p with switchClosed := false, vinPathOpen := false, quiesced := true, suppress := false, fromHolding := fromHolding, queue := [],
             accepted := [], modeReq := none, waiting := none, save := none, leaving := .resume, rails := [] }
  if s4.pwr.resetWaits then holdReset s4 else s4

/-! Saves. -/

/-- STARTING before the state-restore step has ended (R57), or a halt at any step (R112). -/
def State.beforeRestore (s : State) : Bool :=
  s.mode == mStarting && (decide (s.rd F.CFG_BOOT_STAT_STEP < 14) || s.on F.CFG_BOOT_STAT_HALTED)

/-- Alternate 5 or a low SCAN_N: nothing is written to the save store (R101, R494). -/
def State.storeOff (s : State) : Bool := s.cfg.alt5 || s.cfg.scan

/-- The save writes a save-set copy. -/
def SaveRun.writes (r : SaveRun) : Bool := !r.journalOnly && !r.noStore && !r.lowHold

def State.modSave (g : SaveRun → SaveRun) (s : State) : State := s.modPwr fun p => { p with save := p.save.map g }

/-- A save begins. -/
def openSave (brownout : Bool) (cause : Nat) (after : SaveThen) (journalOnly : Bool) (s : State) : State :=
  let r : SaveRun :=
    { brownout := brownout, cause := cause, after := after, journalOnly := journalOnly, noStore := s.storeOff, lowHold := false,
      target := s.store.target, captured := false, staging := false, block := 0, mism := 0, rewrites := 0, header := false }
  let t : State := { s with capture := none }
  (((t.wr F.PWR_SAVE_STAT_BUSY 1).wr F.PWR_SAVE_STAT_REWRITES 0)).modPwr fun p => { p with save := some r }

/-- An in-service save is asked for (R61): it starts, or merges into the running save, which then does what was asked last. A SLEEP or
restart merged into the running save still follows it. -/
def startSave (cause : Nat) (after : SaveThen) (s : State) : State :=
  match s.pwr.save with
  | some _ => (s.wr F.PWR_SAVE_STAT_MERGED 1).modSave fun r => if after = .resume then r else { r with after := after }
  | none => if s.works then openSave false cause after s.beforeRestore s else s

/-- The mode that a SLEEP or an orderly restart enters, as a TARGET. -/
def SaveThen.target (a : SaveThen) : Nat := if a = .sleep then mAsleep else mStarting

/-- A SLEEP or orderly restart whose save has ended and that waits for its tick is discarded with a code (R32, R44). -/
def dropLeaving (code : Nat) (s : State) : State :=
  if s.pwr.leaving = .resume then s
  else refuseMode s.pwr.leaving.target code (s.modPwr fun p => { p with leaving := .resume, quiesced := false })

/-- A SLEEP or orderly restart whose save runs is discarded with a code; the save goes on (R44, R45). -/
def dropSaving (code : Nat) (s : State) : State :=
  match s.pwr.save with
  | none => s
  | some r => if r.after = .resume then s else refuseMode r.after.target code (s.modSave fun x => { x with after := .resume })

/-- HOLDING is entered (R44, R46, R55, R60, R86, R403); `crossed` is false for a rail undervoltage, which raises no V_WARN_CROSS. -/
def enterHolding (crossed : Bool) (s : State) : State :=
  let only := s.beforeRestore
  let s1 := dropLeaving 6 (dropSaving 6 (dropRequest 6 s))
  let s2 := s1.when s1.pwr.save.isSome (raise E.PWR_SAVE_ABANDONED)
  let s3 := follow (fun a => a.cfg.loads.foldl (fun (b : State) (e : Nat × Reload) => if e.2.full then b else abandonReload e.1 4 b) a) (gasp s2)
  let s4 := (takeMode mHolding s3).when crossed (raise E.PWR_V_WARN_CROSS)
  openSave true 1 .resume only (s4.modPwr fun p => { p with suppress := true, waiting := none })

/-- A V_WARN crossing is confirmed (R53, R54): with the save disarmed, or in ASLEEP, only the event. -/
def vWarnCross (s : State) : State :=
  if ¬ s.pwr.warnReady then s
  else
    let s1 := s.modPwr fun p => { p with warnReady := false, recoverOwed := true }
    if s1.mode = mAsleep ∨ s1.mode = mHolding ∨ ¬ s1.on F.PWR_SAVE_ARM_ARMED then raise E.PWR_V_WARN_CROSS s1 else enterHolding true s1

/-- A rail undervoltage (R46). -/
def railUv (s : State) : State :=
  let s1 := raise E.PWR_RAIL_UV (s.wr F.PWR_IIN_RAIL_UV_SEEN 1)
  if s1.mode = mAsleep ∨ s1.mode = mHolding ∨ ¬ s1.on F.PWR_SAVE_ARM_ARMED then s1 else enterHolding false s1

/-- A brown-out save runs in HOLDING. -/
def State.holdingSave (s : State) : Bool := s.mode == mHolding && s.pwr.save.any SaveRun.brownout

/-- t_W + 5 µs (R52, R55, R58): the switch closes when HOLD stands at 8.0 V or above, the charger stops, and the quiesce begins. -/
def holdSwitch (holdMv : Nat) (s : State) : State :=
  if ¬ s.holdingSave ∨ s.pwr.quiesced then s
  else
    let s1 := (showHold holdMv s).wr F.PWR_HOLD_CHG_ON 0
    let s2 := if 8000 ≤ s1.rd F.PWR_HOLD_HOLD_MV then s1.modPwr fun p => { p with switchClosed := true, vinPathOpen := true }
      else (s1.wr F.PWR_HOLD_SAVE_ON_VIN 1).modSave fun r => { r with lowHold := true }
    quiesce s2

/-- The running save takes the set as it stands. -/
def takeCapture (s : State) : State := { s with capture := some (captureSet s) }

/-- t_W + 150 µs (R55): the capture is frozen, VSER and the tile rails fall, and DRAM enters self-refresh. -/
def captureFrozen (s : State) : State :=
  match s.pwr.save with
  | none => s
  | some r =>
    if ¬ s.holdingSave ∨ ¬ s.pwr.quiesced ∨ r.captured then s
    else
      (zeroizeAll (dramHolding ((s.when r.writes takeCapture).modSave fun x => { x with captured := true }))).modPwr fun p =>
        { p with rails := p.rails.filter fun x => x != .vser090 && x != .vser120 }

/-- The staging area, as GLOBAL places it: the last of the regions of R351. -/
def Partition.staging (p : Partition) : Region := p.others.getD 10 ⟨0, 0⟩

/-- The save set is copied into the staging area (R61) by requester 8 (R352), at the offsets it has in a save-set copy; the bytes of its regions are free (R63). -/
def stageSet (s : State) : State :=
  let r := s.partn.staging
  let n := min r.len 3215360
  dramRun 8 r.base ((List.range n).map fun o => if o < 4096 then 0 else Config.saveByte s.store.nextSeq o % 256) s

/-- At a tick, an in-service save begins to copy the values in force (R61). -/
def saveTick (s : State) : State :=
  match s.pwr.save with
  | none => s
  | some r =>
    if r.brownout ∨ r.staging then s
    else (s.when r.writes takeCapture).modSave fun x => { x with staging := true }

/-- The staging copy of an in-service save ends (R61). -/
def saveStaged (s : State) : State :=
  match s.pwr.save with
  | none => s
  | some r =>
    if r.brownout ∨ ¬ r.staging ∨ r.captured then s
    else (s.when (r.writes && s.works) stageSet).modSave fun x => { x with captured := true }

/-- A save ends (R55, R56, R58, R114, R120): its records, its status and event, and what follows it (R39, R61). LAST_DUR of a full
brown-out save follows from its rewrites; that of any other is `us`. SLEEP and an orderly restart quiesce now, and change the mode at the next
tick (R31); they do so after a save that failed too, of which the spec does not speak (DEDUCED, assumption 26). -/
def endSave (ok : Bool) (us : Nat) (s : State) : State :=
  match s.pwr.save with
  | none => s
  | some r =>
    let seq := if ok then (s.store.copy r.target).seq else 0
    let dur := if r.brownout ∧ ok then 3030 + r.rewrites * 34 / 10 else us
    let s1 := s.when r.brownout interruptStart
    let s2 := s1.when s1.cfg.area.isSome (journal (s1.jrec 3 0 0 0 0 0 0 0 seq))
    let s3 := (((s2.wr F.PWR_SAVE_STAT_BUSY 0).wr F.PWR_SAVE_STAT_LAST_OK (bit ok)).wr F.PWR_SAVE_STAT_LAST_CAUSE r.cause).wr
      F.PWR_SAVE_STAT_LAST_DUR (min dur 65535)
    let s4 := if ok then raise E.PWR_SAVE_DONE s3 else s3.when (!r.journalOnly) (raise E.PWR_SAVE_INCOMPLETE)
    let s5 := { s4 with capture := none }.modPwr fun p => { p with save := none }
    if r.brownout then enterAsleep true s5
    else match r.after with
      | .resume => s5
      | after => (quiesce s5).modPwr fun p => { p with leaving := after }

/-- A block's read-back is compared (R56): the first block written ends what the target copy held; a third mismatch ends the save at
`us`. The set has 785 blocks. -/
def blockWritten (good : Bool) (us : Nat) (s : State) : State :=
  match s.pwr.save with
  | none => s
  | some r =>
    if ¬ r.writes ∨ ¬ r.captured ∨ 785 ≤ r.block then s
    else
      let s1 := if r.block = 0 ∧ r.mism = 0 then
          s.modStore fun t => t.setCopy r.target { (t.copy r.target) with complete := false, bodyOk := false }
        else s
      if good then s1.modSave fun x => { x with block := x.block + 1, mism := 0 }
      else if r.mism = 2 then endSave false us s1
      else (s1.sat F.PWR_SAVE_STAT_REWRITES 1).modSave fun x => { x with mism := x.mism + 1, rewrites := x.rewrites + 1 }

/-- The header is written, its complete marker last: the copy becomes the latest valid copy (R55, R63, R64). -/
def headerWritten (s : State) : State :=
  match s.pwr.save with
  | none => s
  | some r =>
    if ¬ r.writes ∨ r.block ≠ 785 ∨ r.header then s
    else
      let c : SaveCopy :=
        { complete := true, bodyOk := true, seq := s.store.nextSeq, schema := 1, cause := r.cause, time := s.todSec, content := s.capture }
      showLatest ((s.modStore fun t => t.setCopy r.target c).modSave fun x => { x with header := true })

/-- The save is complete (R55): its copy, where it writes one, has its header. -/
def saveDone (us : Nat) (s : State) : State :=
  match s.pwr.save with
  | none => s
  | some r => if (r.brownout ∧ ¬ r.captured) ∨ (r.writes ∧ ¬ r.header) then s else endSave r.header us s

/-- 8 ms after the confirmation the save stops, and ASLEEP is entered (R38, R56). -/
def holdingTimeout (s : State) : State :=
  match s.pwr.save with
  | none => s
  | some r => if s.holdingSave then endSave r.header 8002 s else s

/-! The supply's other events. -/

/-- A V_SAG crossing is confirmed (R53). -/
def vSagCross (s : State) : State :=
  if s.pwr.sagReady then raise E.PWR_V_SAG_CROSS (s.modPwr fun p => { p with sagReady := false }) else s

/-- A detector re-arms after 50 ms at its threshold + 0.3 V (R53). -/
def rearm (sag : Bool) (s : State) : State :=
  s.modPwr fun p => if sag then { p with sagReady := true } else { p with warnReady := true }

/-- VIN has recovered after a crossing (R59). -/
def vinRecovered (s : State) : State :=
  if s.pwr.recoverOwed then raise E.PWR_VIN_RECOVERED (s.modPwr fun p => { p with recoverOwed := false }) else s

/-- The condition of auto-resume is met (R39). -/
def autoResume (s : State) : State :=
  if s.mode = mAsleep ∧ s.pwr.fromHolding ∧ s.on F.PWR_SAVE_ARM_AUTO_RESUME then startOver 2 s else s

/-- The input limiter engages (R46). -/
def ilimOn (s : State) : State :=
  if s.on F.PWR_IIN_ILIM then s else raise E.PWR_ILIM ((s.wr F.PWR_IIN_ILIM 1).wr F.PWR_IIN_ILIM_SEEN 1)

/-- VIN has stood below the mode's floor for 8 ticks (R42). -/
def belowFloor (s : State) : State :=
  if 8 ≤ s.pwr.belowTicks ∧ ¬ s.on F.PWR_MODE_STAT_BELOW_FLOOR then
    raise E.PWR_VIN_BELOW_FLOOR ((s.wr F.PWR_MODE_STAT_BELOW_FLOOR 1).wr F.PWR_MODE_STAT_HIGHEST_OK s.highestOk)
  else s

/-- HOLD falls to the recharge start (R51). -/
def chargerRestart (s : State) : State :=
  if s.on F.PWR_HOLD_CHG_ON then s
  else (s.wr F.PWR_HOLD_CHG_ON 1).modPwr fun p => { p with chgTicks := 0, chgFaulted := false }

/-- HOLD has not reached HOLD_OK_MV in time (R51): eight ticks are a millisecond. -/
def chargerFault (s : State) : State :=
  if s.on F.PWR_HOLD_CHG_ON ∧ ¬ s.on F.PWR_HOLD_HOLD_OK ∧ ¬ s.pwr.chgFaulted ∧ 8 * s.rd F.PWR_HOLD_CFG_CHG_TIMEOUT_MS ≤ s.pwr.chgTicks then
    raise E.PWR_CHG_FAULT ((s.wr F.PWR_HOLD_CHG_FAULT 1).modPwr fun p => { p with chgFaulted := true })
  else s

/-! Requests (PWR_MODE_REQ, PWR_SAVE_CMD, PWR_SAVE_ARM, PWR_SAG_CFG). -/

/-- TARGET and PROMOTE_TO of a write. -/
def modeReqFields (target promoteTo : Nat) (s : State) : State := (s.wr F.PWR_MODE_REQ_TARGET target).wr F.PWR_MODE_REQ_PROMOTE_TO promoteTo

/-- A SLEEP (target 0) or orderly restart (target 1) is asked for: it merges into a save that runs (R61); otherwise it waits for its tick, at
which its save begins (R43). Either way it replaces a request that waits. -/
def leaveRequest (target cause : Nat) (after : SaveThen) (s : State) : State :=
  if s.pwr.save.isSome then startSave cause after (noPending s) else pendMode none target s

/-- In ASLEEP the VIN monitor and the comparator of HOLD still run, and no tick carries what they measure (R31, R32, R51). -/
def asleepSupply (s : State) : State :=
  s.when (s.mode == mAsleep) fun a =>
    let t := a.draw.wr F.PWR_VIN_VIN_MV (Config.asleepVin a.fresh)
    showHold (Config.asleepHold a.fresh) (t.wr F.PWR_VIN_VIN_MIN_MV (min (t.rd F.PWR_VIN_VIN_MIN_MV) (t.rd F.PWR_VIN_VIN_MV)))

/-- TARGET 1 (R31, R39, R112): a wake, a boot restart while halted, or an orderly restart. STARTING is entered at 4.5 V or above (R32). -/
def target1 (s : State) : State :=
  if s.mode = mAsleep then (let t := asleepSupply s; if t.floorMet mStarting then startOver 3 t else refuseMode 1 1 t)
  else if s.mode = mHolding then refuseMode 1 4 s
  else if s.on F.CFG_BOOT_STAT_HALTED then startOver 5 s
  else if ¬ s.floorMet mStarting then refuseMode 1 1 s
  else leaveRequest 1 5 .restart s

/-- A KEY written to PWR_MODE_REQ. 0 is no key, and 0x7A0B where the second key is due begins the unlock again (both DEDUCED, assumption
25). -/
def provKey (key : Nat) (s : State) : State :=
  if key = 0 then s
  else s.modPwr fun p => { p with provKeys := if key = 0x7A0B then 1 else if key = 0x2C41 ∧ p.provKeys = 1 then 2 else 0 }

/-- TARGET 7 with GO (R37): the unlock must be complete, and it is used up. -/
def target7 (s : State) : State :=
  let s1 := s.modPwr fun p => { p with provKeys := 0 }
  if s.pwr.provKeys = 2 then requestMode none mProving s1 else refuseMode mProving 5 s1

/-- A whole write of PWR_MODE_REQ. -/
def modeReqWrite (w : Nat) (s : State) : State :=
  let s1 := provKey (slice w 16 16) (modeReqFields (slice w 0 3) (slice w 4 3) s)
  let t := slice w 0 3
  if ¬ hasBit w 8 then s1 else if t = 1 then target1 s1 else if t = 7 then target7 s1 else requestMode none t s1

/-- PWR_SAVE_CMD.SLEEP (R61): refused in HOLDING, from which R39 has no such transition. -/
def sleepRequest (s : State) : State := if s.mode = mHolding ∨ s.mode = mAsleep then refuseMode mAsleep 4 s else leaveRequest 0 4 .sleep s

/-- A whole write of PWR_SAVE_CMD. -/
def saveCmdWrite (w : Nat) (s : State) : State := (s.when (hasBit w 0) (startSave 2 .resume)).when (hasBit w 1) sleepRequest

/-- The first key has been written, at most 1 ms ago (R66). -/
def State.disarmDue (s : State) : Bool := s.pwr.disarmKey && decide (s.nowNs ≤ s.pwr.disarmAt + 1000000)

/-- A write of PWR_SAVE_ARM with a KEY (R66); `late` says that more than 1 ms has passed since the first key where the ticks do not show it.
Only the two keys in succession disarm: any other write between them, one with KEY 0 too, ends the sequence. -/
def disarmKey (key : Nat) (late : Bool) (s : State) : State :=
  if key = 0x9E3A then s.draw.modPwr fun p => { p with disarmKey := true, disarmAt := s.nowNs }
  else
    let s1 := s.draw.modPwr fun p => { p with disarmKey := false }
    if key = 0x61C5 ∧ s.disarmDue ∧ ¬ late ∧ s.on F.PWR_SAVE_ARM_ARMED then raise E.PWR_SAVE_DISARMED (s1.wr F.PWR_SAVE_ARM_ARMED 0) else s1

/-- ARM re-arms the save (R54), and ends a disarm that was under way. -/
def armSave (s : State) : State := (s.wr F.PWR_SAVE_ARM_ARMED 1).modPwr fun p => { p with disarmKey := false }

/-- A whole write of PWR_SAVE_ARM. -/
def saveArmWrite (w : Nat) (late : Bool) (s : State) : State :=
  disarmKey (slice w 16 16) late (((s.wr F.PWR_SAVE_ARM_AUTO_RESUME (slice w 1 1))).when (hasBit w 2) armSave)

/-- A write of PWR_SAG_CFG (R65). -/
def sagCfgWrite (w : Nat) (s : State) : State :=
  let warn := slice w 0 16
  let sag := slice w 16 16
  if s.mode = mHolding ∨ warn < 4400 ∨ 16000 < warn ∨ sag < 4200 ∨ 15000 < sag ∨ warn < sag + 200 then
    raise E.PWR_MODE_REFUSED (s.wr F.PWR_MODE_STAT_REFUSE_CODE 4)
  else (s.wr F.PWR_SAG_CFG_V_WARN_MV warn).wr F.PWR_SAG_CFG_V_SAG_MV sag

/-- A read of PWR_SS_DATA (R62): four bytes, and ADDR goes on by 4; zero in HOLDING. -/
def ssDataRead (s : State) : State × Nat :=
  let w := s.rd F.PWR_SS_ADDR_ADDR
  let v := if s.mode = mHolding then 0 else ofLe ((List.range 4).map fun i => s.store.byte (4 * w + i))
  (s.wr F.PWR_SS_ADDR_ADDR ((w + 1) % 2 ^ 23), v)

/-! The commands. -/

/-- VIN_RISE (R490). -/
def execVinRise (s : State) : Out := .next (vinRise s)
/-- POWER_ON_RESET_RELEASE (R39). -/
def execPowerOnResetRelease (vinMv holdMv : Nat) (scanLow : Bool) (s : State) : Out := .next (resetRelease vinMv holdMv scanLow s)
/-- BOARD_RESET (R492). -/
def execBoardReset (tornRec tornFault : Bool) (s : State) : Out := .next (boardReset tornRec tornFault s)
/-- DEVICE_UNPOWERED (R58). -/
def execDeviceUnpowered (tornRec tornFault : Bool) (s : State) : Out := .next (unpower tornRec tornFault s)
/-- V_WARN_CROSS (R55). -/
def execVWarnCross (s : State) : Out := .next (s.when s.awake vWarnCross)
/-- HOLD_SWITCH_CLOSE (R55). -/
def execHoldSwitchClose (holdMv : Nat) (s : State) : Out := .next (s.when s.awake (holdSwitch holdMv))
/-- CAPTURE_FROZEN (R55). -/
def execCaptureFrozen (s : State) : Out := .next (s.when s.awake captureFrozen)
/-- WHEY_BLOCK_WRITTEN (R56). -/
def execWheyBlockWritten (good : Bool) (us : Nat) (s : State) : Out := .next (s.when s.awake (blockWritten good us))
/-- SAVE_HEADER_WRITTEN (R55). -/
def execSaveHeaderWritten (s : State) : Out := .next (s.when s.awake headerWritten)
/-- SAVE_DONE (R55). -/
def execSaveDone (us : Nat) (s : State) : Out := .next (s.when s.awake (saveDone us))
/-- HOLDING_TIMEOUT (R38). -/
def execHoldingTimeout (s : State) : Out := .next (s.when s.awake holdingTimeout)
/-- V_SAG_CROSS (R53). -/
def execVSagCross (s : State) : Out := .next (s.when s.awake vSagCross)
/-- V_WARN_REARM (R53). -/
def execVWarnRearm (sag : Bool) (s : State) : Out := .next (s.when s.awake (rearm sag))
/-- VIN_RECOVERED (R59). -/
def execVinRecovered (s : State) : Out := .next (s.when s.awake vinRecovered)
/-- AUTO_RESUME (R39). -/
def execAutoResume (s : State) : Out := .next (s.when s.awake autoResume)
/-- RAIL_UV (R46). -/
def execRailUv (s : State) : Out := .next (s.when s.awake railUv)
/-- ILIM (R46). -/
def execIlim (s : State) : Out := .next (s.when s.awake ilimOn)
/-- VIN_BELOW_FLOOR (R42). -/
def execVinBelowFloor (s : State) : Out := .next (s.when s.works belowFloor)
/-- CHARGER_RESTART (R51). -/
def execChargerRestart (s : State) : Out := .next (s.when s.works chargerRestart)
/-- CHG_FAULT (R51). -/
def execChgFault (s : State) : Out := .next (s.when s.works chargerFault)
/-- PROVING_UNLOCK_EXPIRE (R37). -/
def execProvingUnlockExpire (s : State) : Out := .next (s.when s.awake fun t => t.modPwr fun p => { p with provKeys := 0 })
/-- SAVE_STAGED (R61). -/
def execSaveStaged (s : State) : Out := .next (s.when s.awake saveStaged)
end Sys2Proof.Machine
end

