-- ==== Sys2Proof/Machine/Sage.lean ====
section
/-! DEFINITION. SAGE: the report of a second, the digests that two devices compare, and the eyes (R414, R416, R426, R427). -/
namespace Sys2Proof.Machine

/-- CRC-32 over numbered entries: each as its number and its words, 8 bytes each. R426 gives the tables' digests no byte layout: the entries in
rising order that are not all zero (DESIGN CHOICE, assumption 69). -/
def tableCrc (l : List (Nat × List Nat)) : Nat :=
  crc32 ((l.filter fun e => e.2.any (· != 0)).flatMap fun e => leNats 8 e.1 ++ e.2.flatMap (leNats 8))

/-- What a standby holds of an allocation: the fields that a write gives it. -/
def Alloc.mirrored (a : Alloc) : List Nat :=
  let b := Alloc.ofWords Alloc.empty a.word0 a.word1
  [b.word0, b.word1]

/-- The digests of this second (R416, R426): allocation tables, terminals, the sixty-fourth of the flow contexts whose turn the ToD second gives, and
the active copies of groups 0 to 47. -/
def State.digests (s : State) (sec : Nat) : Digests :=
  { alloc := tableCrc (s.trees.flatMap fun e => (e.2.alloc.map fun a => (4096 * e.1 + a.1, a.2.mirrored)))
    terms := tableCrc (s.terms.map fun e =>
      let n := e.1 / 512
      let t := e.1 % 512
      (e.1, [s.tst n t, s.rd (F.RNG_TERM_SN_SERIAL n t), s.rd (F.RNG_TERM_EQD_EQD_RU n t), s.rtd n t]))
    flows := tableCrc ((s.fwd.flows.filter fun e => e.1 % 64 == sec % 64).map fun e => (e.1, [e.2.w0, e.2.w1, e.2.w2]))
    cfg := tableCrc ((s.regs.filter fun e => ((regAt (e.1 / 64)).bind s.groupOf).any fun g => decide (g < 48)).map fun e => (e.1, [e.2 + 1])) }

/-- The eyes that were measured in the second, eight at most and in STANDBY only (R426): a lane below EYE_MIN fails until it is measured again. -/
def eyesSecond (l : List (Nat × Nat)) (s : State) : State :=
  if s.mode ≠ mStandby then s.modPrt fun p => { p with laneFail := 0 }
  else
    let least := max 1 (s.rd F.PRT_SAGE_CFG_EYE_MIN)
    s.modPrt fun p => { p with laneFail := (l.take 8).foldl (fun m e =>
      if e.2 < least then withBit m (e.1 % 64) else without m (withBit 0 (e.1 % 64))) p.laneFail }

/-- DIGEST_FAIL (R427): the configuration against the peer's, and in STANDBY the tables against the active's, where digests have come. -/
def digestFail (standby : Bool) (own : Digests) (peer : Option Digests) : Nat :=
  match peer with
  | none => 0
  | some q => 8 * bit (own.cfg != q.cfg) +
      (if standby then bit (own.alloc != q.alloc) + 2 * bit (own.terms != q.terms) + 4 * bit (own.flows != q.flows) else 0)

/-- SAGE publishes its report at a one-second boundary, and sends it and the digests to the peer under OXL 3 (R414, R426, R427). Outside STANDBY
the eye and engine checks are not run. -/
def sageReport (r : SageIn) (s00 : State) : State :=
  let s0 := eyesSecond r.eyes s00
  let sb := s0.mode == mStandby
  let lane := s0.prt.laneFail
  let eng := if sb then s0.prt.engineFail else 0
  let ce := min (2 ^ 32 - 1) s0.drc.patrolCe
  let ue := min 65535 s0.drc.patrolUe
  let sec := (s0.todAt 0 / 1000000000).toNat
  let own := s0.digests sec
  let bad := digestFail sb own r.peer
  let healthy := (lane &&& s0.enabledLanes) == 0 && ue == 0 && bad == 0 && eng == 0
  let s := (s0.modPrt fun p => { p with engineFail := 0 }).modDrc fun d => { d with patrolCe := 0, patrolUe := 0 }
  let seq := (s.prt.sageSeq + 1) % 2 ^ 32
  let b := withCrc (leNats 4 0x534C5347 ++ leNats 4 seq ++ leNats 6 sec ++
    leNats 2 (s.rd F.PRT_ID_DEVICE_ID + 4096 * s.role + 16384 * bit healthy) ++ [s.mode, s.rd F.PRT_STAT_MIRROR] ++
    leNats 2 (s.rd F.PRT_MIRROR_STAT_LAG) ++ leNats 8 lane ++ leNats 4 ce ++ leNats 2 ue ++
    leNats 2 bad ++ leNats 8 eng ++ leNats 4 s.prt.unprot ++ [if sb then 31 else 22] ++ List.replicate 11 0)
  let s1 := (List.range 8).foldl (fun a i => a.wr (F.PRT_SAGE_BYTES i) (ofLe (b.extract (8 * i) (8 * i + 8))))
    (s.modPrt fun p =>
      { p with sageSeq := seq, healthy := healthy, sageTx := if p.oxl = 3 ∧ s.on F.PRT_STAT_PATH_A then some (b, own) else p.sageTx })
  let s2 := raise E.PRT_SAGE_REPORT s1
  let s3 := s2.when (!healthy) (raise E.PRT_SAGE_UNHEALTHY)
  s3.when (hasBit bad 3) (raise E.PRT_CFG_MISMATCH)

end Sys2Proof.Machine
end

