-- ==== Sys2Proof/Machine/Time.lean ====
section
/-! DEFINITION. Machine/Time.lean: what every tick brings (R12, R16) beside what has a row of its own, the reflex actions (R26, R447 to
R450), and the one-second boundary (R17). -/
namespace Sys2Proof.Machine

/-! The supply at a tick (R42, R47, R51). -/

/-- VIN against the mode's floor, or, while service enable waits, against that of the mode it waits for (R40, R42). -/
def floorTick (s : State) : State :=
  match s.pwr.waiting with
  | some m => s.wr F.PWR_MODE_STAT_BELOW_FLOOR (bit (!s.floorMet m))
  | none =>
    if s.floorMet s.mode then (s.wr F.PWR_MODE_STAT_BELOW_FLOOR 0).modPwr fun p => { p with belowTicks := 0 }
    else s.modPwr fun p => { p with belowTicks := p.belowTicks + 1 }

/-- What the supply monitor measures. The limiter's engaging is its own command; its release shows here. -/
def supplyTick (u : Supply) (s : State) : State :=
  let s1 := (s.wr F.PWR_VIN_VIN_MV u.vinMv).wr F.PWR_IIN_IIN_MA u.iinMa
  let s2 := s1.wr F.PWR_VIN_VIN_MIN_MV (min (s1.rd F.PWR_VIN_VIN_MIN_MV) (s1.rd F.PWR_VIN_VIN_MV))
  let s3 := (s2.when (!u.ilim) fun a => a.wr F.PWR_IIN_ILIM 0).wr F.PWR_PIN_PIN_10MW u.pin10mw
  let s4 := s3.when (decide (ceiling10mw s3.mode < s3.rd F.PWR_PIN_PIN_10MW)) fun a =>
    (a.sat F.PWR_PIN_OVER_TICKS 1).modPwr fun p => { p with overRose := true }
  let s5 := showHold u.holdMv s4
  let s6 := s5.modPwr fun p =>
    { p with chgTicks := if s5.on F.PWR_HOLD_CHG_ON && !s5.on F.PWR_HOLD_HOLD_OK then p.chgTicks + 1 else 0 }
  floorTick (s6.when u.charged fun a => a.wr F.PWR_HOLD_CHG_ON 0)

/-! Mode requests at their tick (R43, R45). -/

/-- A mode asked for is taken: a host request for STANDBY in a PAIR or POOL domain sets the role (R400); leaving STANDBY releases BEN
(R43). -/
def reachMode (t : Nat) (s : State) : State :=
  if t = mStandby ∧ ¬ s.unprotected then demote s
  else
    let s1 := takeMode t s
    if s.mode = mStandby then releaseBens s1 else s1

/-- A change to a mode with a higher ceiling waits while the stagger queue holds tile loads or module enables: it takes effect at the tick after
the last of them has begun (R43). -/
def State.waitsStagger (s : State) (t : Nat) : Bool :=
  s.mode != mStandby && decide (ceiling10mw s.mode < ceiling10mw t) && s.pwr.queue.any fun b => match b with
    | .ben _ => false
    | _ => true

/-- The pending request at a tick; `promoting` says that a promoting verdict takes effect at it (R45). SLEEP and an orderly restart begin their
save (R61); while service enable waits, the request names the mode it waits for (R40). -/
def modeTick (promoting : Bool) (s0 : State) : State :=
  let s := s0.when promoting (dropSaving 7)
  match s.pwr.modeReq with
  | none => s
  | some r =>
    if promoting then dropRequest 7 s
    else if r.target = mAsleep then startSave 4 .sleep (noPending s)
    else if r.target = mStarting then startSave 5 .restart (noPending s)
    else
      let c := checkMode s r.target
      if c ≠ 0 then refuseMode r.target c (noPending s)
      else if s.mode = mStarting then (noPending s).modPwr fun p => { p with waiting := some r.target }
      else if s.waitsStagger r.target then s
      else reachMode r.target (noPending s)

/-- A waiting verdict whose apply instant has come is due at this tick (R409). -/
def verdictDue (s : State) : State :=
  s.modPrt fun p => { p with verdict := p.verdict.map fun v => if v.comes (s.todAt 0) then { v with due := true } else v }

/-! Reflex actions (R25, R26, R447 to R450). -/

/-- A firing that does not act (R450). -/
def dropFiring (r : Nat) (s : State) : State :=
  raise E.HIF_REFLEX_DROPPED ((s.sat (F.HIF_RFX_CNT_DROPPED r) 1).wr F.HIF_RFX_STAT_LAST_DROPPED r)

/-- A tree's map freezes (R449). -/
def freezeTree (n : Nat) (s : State) : State :=
  (s.wr F.HIF_RFX_FROZEN_FROZEN (withBit (s.rd F.HIF_RFX_FROZEN_FROZEN) n)).modHub fun h => { h with mapFrozen := withBit h.mapFrozen n }

/-- From the V_WARN crossing onwards a SAVE merges into the running save, and every other action is suppressed and reported (R25). -/
def suppressed (f : Firing) (s : State) : State :=
  if f.action = 0 then s
  else if f.action = 3 then s.wr F.PWR_SAVE_STAT_MERGED 1
  else raise E.PWR_ACTION_SUPPRESSED s

/-- The MODE firings of a tick (R26, R450): the lowest-numbered rule acts, unless a host request or a verdict outranks them all. -/
def modeFirings (outranked : Bool) (l : List Firing) (s : State) : State :=
  match l with
  | [] => s
  | _ =>
    let low := l.foldl (fun a f => min a f.rule) 256
    let s1 := l.foldl (fun a f => if outranked || f.rule != low then dropFiring f.rule a else a) s
    match List.find? (fun (f : Firing) => f.rule == low) l with
    | some f => if outranked then s1 else requestMode (some low) (f.arg % 8) s1
    | none => s1

/-- VERDICT firings merge into one request (R447, R450); under FENCE, where only the host opens one (R410), none acts and each is dropped. -/
def verdictFirings (l : List Firing) (s : State) : State :=
  if s.on F.PRT_STAT_FENCED then l.foldl (fun a f => dropFiring f.rule a) s else s.when (!l.isEmpty) (trigger 3)

/-- What the FREEZE and PORT_OFF firings do to their trees, and the VERDICT firings (R447). -/
def actFirings (l : List Firing) (s : State) : State :=
  let s1 := verdictFirings (l.filter fun f => f.action == 1) s
  l.foldl (fun (a : State) (f : Firing) =>
    if f.action = 2 then freezeTree (f.arg % 32) a
    else if f.action = 5 then portDisable (f.arg % 32) a
    else a) s1

/-- The firings since the last tick act (R447). With a verdict due at the tick, FREEZE, PORT_OFF and VERDICT wait until it has taken effect
(R26). -/
def reflexTick (l : List Firing) (due outranked : Bool) (s : State) : State :=
  let s0 := s.modHub fun h => { h with mapFrozen := without h.mapFrozen h.unfreeze, unfreeze := 0 }
  if s.mode = mHolding ∨ s.pwr.suppress then l.foldl (fun a f => suppressed f a) s0
  else
    let s1 := s0.when (l.any fun f => f.action == 3) (startSave 3 .resume)
    let later := l.filter fun f => f.action == 1 || f.action == 2 || f.action == 5
    let s2 := if due then s1.modHub fun h => { h with after := later } else actFirings later s1
    modeFirings outranked (l.filter fun f => f.action == 4) s2

/-- A verdict takes effect, and then the reflex actions that waited for it (R26). -/
def verdictTick (s : State) : State :=
  let t := verdictApplied s
  if s.prt.verdict.isSome ∧ t.prt.verdict.isNone then
    let l := t.hub.after
    let t1 := t.modHub fun h => { h with after := [] }
    if t.mode = mHolding ∨ t.pwr.suppress then l.foldl (fun a f => suppressed f a) t1 else actFirings l t1
  else t

/-! The tick. -/

/-- Trees and ports that have something to count: a listed structure, or a JOINED tile. -/
def State.liveTrees (s : State) : List Nat := (List.range 32).filter fun n => s.joined n || (s.trees.any fun e => e.1 == n)
def State.livePorts (s : State) : List Nat := (List.range 32).filter fun n => s.on (F.TPA_STAT_MEN n) || (s.tpa.any fun e => e.1 == n)

/-- STATE of each terminal reaches GNT (R195). -/
def gntView (s : State) : State :=
  { s with gview := s.terms.filterMap fun e => if s.tst (e.1 / 512) (e.1 % 512) = 0 then none else some (e.1, s.tst (e.1 / 512) (e.1 % 512)) }

/-- What every tick begins with: the counts of ticks, the time unit, the supply, and the limits that count per tick. -/
def tickOpens (u : Supply) (s : State) : State :=
  let s1 := ({ s with ticks := s.ticks + 1, cfg := { s.cfg with joinRecompute := 0 } } : State).modPrt fun p => { p with sentTick := false, appliedTick := false, reqTicks := p.reqTicks + 1 }
  let s2 := (s1.wr F.RNG_DEV_STAT_BEGUN 0).modPwr fun p => { p with cadence := p.cadence + 1 }
  verdictDue (supplyTick u (tsuTick s2))

/-- The per-frame work of the trees (R16), and the superframe counters and T_EQ that go to the standby at every tick (R413). -/
def treeTicks (s : State) : State :=
  let l := s.liveTrees
  let s1 := s.livePorts.foldl (fun a n => portTick n a) s
  let s2 := l.foldl (fun a n => frameTick n a) (staggerTick s1)
  let s3 := gntView (l.foldl (fun a n => rangingTick n a) s2)
  l.foldl (fun a n => mirrorSend (some n) (grantTick n a)) s3

/-- The work of the other blocks at a tick. A one-second boundary makes its own snapshot (R457). -/
def blockTicks (s : State) : State :=
  let s1 := mapTick (bucketTick (tmgTick (fwdTick (cphTick (endCycle s)))))
  let s2 := histTick (takeReleased (injectTick (drcTick s1)))
  if s2.tsu.ns = 0 ∧ s2.on F.OBS_SNAP_CMD_AUTO then s2 else snapTick false s2

/-- A verdict that promotes this device applies at this tick: a host's request then ends with code 7 (R45). -/
def State.promoted (s : State) : Bool :=
  s.prt.verdict.any fun v => v.due && v.code == 1 && s.role != roleActive && s.verdictFits v

/-- A tick (R12). The pages of the frame just over have been sent or are dropped (R414). In HOLDING only the supply, the time unit and the suppression of R25 work on; after the quiesce of a SLEEP or orderly restart
the tick changes the mode (R31), but for a promotion, which discards that request (R45). -/
def tick (u : Supply) (s : State) : State :=
  let hostReq := s.pwr.modeReq.any fun r => r.rule.isNone
  let acts := s.hub.after ++ s.hub.fired
  let s1 := tickOpens u ((s.modHub fun h => { h with fired := [], after := [] }).when s.works sendPages)
  let due := s1.prt.verdict.any fun v => v.due
  let promoting := s1.promoted
  if s1.pwr.leaving = .sleep ∧ ¬ promoting then enterAsleep false s1
  else if s1.pwr.leaving = .restart ∧ ¬ promoting then (if s1.floorMet mStarting then startOver 4 s1 else dropLeaving 1 s1)
  else if ¬ s1.works then reflexTick acts due due s1
  else
    let s1 := s1.when promoting (dropLeaving 7)
    let s2 := follow commitTick (s1.liveTrees.foldl (fun a n => outTick n a) s1)
    let s3 := saveTick (modeTick promoting s2)
    let s4 := queueReloads (follow loadTick s3)
    ruleTick (reflexTick acts due (hostReq || due) (blockTicks (follow treeTicks s4)))

/-! The one-second boundary. -/

/-- PWR's reports that last (R40, R42, R47). -/
def powerSecond (s : State) : State :=
  let s1 := s.when s.pwr.overRose fun a => raise E.PWR_OVER_CEIL (a.modPwr fun p => { p with overRose := false })
  match s1.pwr.waiting with
  | some m => if s1.mode = mStarting then reportWait m s1 else s1
  | none =>
    if s1.on F.PWR_MODE_STAT_BELOW_FLOOR then raise E.PWR_VIN_BELOW_FLOOR (s1.wr F.PWR_MODE_STAT_HIGHEST_OK s1.highestOk) else s1

/-- The per-second limits start again (R17). -/
def limitsSecond (s : State) : State :=
  let s1 := ({ s with secondAt := s.ticks, tpa := s.tpa.map fun e => (e.1, { e.2 with lockFails := 0 }) } : State).modHub fun h => { h with secRaised := [] }
  s1.modCfg fun c => { c with slotA := { c.slotA with writtenRaised := false }, slotB := { c.slotB with writtenRaised := false } }

/-- PM latches, error ratios and the mean drift of STANDBY (R169, R171, R193). -/
def treesSecond (s : State) : State :=
  let l := s.liveTrees
  let s1 := s.terms.foldl (fun a e => errorSecond (e.1 / 512) (e.1 % 512) a) s
  l.foldl (fun a n => stbySecond n (latchTree n a)) s1

/-- A one-second boundary: a tick at which the time unit's nanoseconds read zero (R17), once; where the step of R377 leaves them is no tick. -/
def oneSecond (r : SageIn) (s : State) : State :=
  if s.tsu.ns ≠ 0 ∨ s.tsu.stepped ∨ s.ticks = 0 ∨ s.secondAt = s.ticks then s
  else
    let s1 := tsuSecond (limitsSecond s)
    if ¬ s1.works then s1
    else
      let s2 := powerSecond (treesSecond s1)
      snapTick true (laneSecond (fwdSecond (holdoffSecond (sageTasks (sageReport r s2)))))

/-! The commands. -/

/-- TICK (R12): no tick runs in ASLEEP (R31). -/
def execTick (u : Supply) (s : State) : Out := .next (s.when s.ticking (tick u))
/-- VERDICT_APPLIED (R26, R417). -/
def execVerdictApplied (s : State) : Out := .next (verdictTick s)
/-- ONE_SECOND_BOUNDARY (R17). -/
def execOneSecondBoundary (r : SageIn) (s : State) : Out := .next (s.when s.ticking (oneSecond r))

end Sys2Proof.Machine
end

