-- ==== Sys2Proof/Machine/Access.lean ====
section
/-! DEFINITION. Machine/Access.lean: host accesses to BAR0 as such (R7, R8, R90, R435, R440, R473 to R476): reads and writes of any width and
address, on the PCIe path or over I2C. A write of a register that a row of the command table describes has that row's effect. -/
namespace Sys2Proof.Machine

/-! Writes whose effect is more than a field's new value. Each function answers none where the write is an ordinary one. `w` is the whole
register's word, `n` and `k` its indexes, and `lo` says that the lower word was written, where every GO bit lies. -/

def writePwr (b w : Nat) (s : State) : Option State :=
  if b = 0x200004 then some (modeReqWrite w s)
  else if b = 0x200028 then some (sagCfgWrite w s)
  else if b = 0x200030 then some (saveArmWrite w false s)
  else if b = 0x200034 then some (saveCmdWrite w s)
  else none

def writeCfg (b w : Nat) (s : State) : Option State :=
  if b = F.CFG_IMG_CMD_SLOT.addr ∧ hasBit w 3 ∧ slice w 1 2 = 1 then some (imgVerify (slice w 0 1) s)
  else if b = F.CFG_IMG_CMD_SLOT.addr ∧ hasBit w 3 ∧ slice w 1 2 = 2 then some (imgInvalidate (slice w 0 1) s)
  else if b = F.CFG_RELOAD_TILE.addr ∧ hasBit w 14 then
    some (reloadRequest (slice w 0 6) (slice w 6 1) (hasBit w 7) (slice w 8 6) (slice w 16 16) s)
  else if b = F.CFG_COMMIT_GROUP.addr then some (commitWrite (hasBit w 6) (slice w 0 6) (slice w 16 16) s)
  else if b = F.CFG_BOOT_CMD_STEP.addr then
    let s1 := (s.wr F.CFG_BOOT_CMD_STEP (slice w 4 4)).when (hasBit w 1) (clearStreak (slice w 4 4))
    some ((s1.when (hasBit w 2) (forceNormal (slice w 4 4))).when (hasBit w 0) bootRestart)
  else if b = F.CFG_BOOT_SEL_SOURCE.addr then some (bootSelWrite w s)
  else none

def writeTree (b n w : Nat) (s : State) : Option State :=
  if b = (F.TPA_CTRL_ENABLE 0).addr then
    let s1 := loopbackSet n (slice w 1 2) s
    some (if hasBit w 0 then portEnable n s1 else portDisable n s1)
  else if b = (F.TPA_MOD_CMD_GO 0).addr ∧ hasBit w 19 then
    some (modSubmit n (hasBit w 7) (slice w 0 7) (slice w 8 8) (slice w 16 2) (slice w 18 1) s)
  else if b = (F.FRM_MSG_TX_CMD_GO 0).addr ∧ hasBit w 9 then some (submitMsg n (slice w 0 9) s)
  else if b = (F.FRM_MSG_RX_POP_POP 0).addr ∧ hasBit w 0 then some (popRx n s)
  else if b = (F.FRM_PM_SEL_GO 0).addr ∧ hasBit w 10 then some (selectPm n (slice w 0 9) (hasBit w 9) s)
  else if b = (F.RNG_DISC_CMD_NOW 0).addr ∧ hasBit w 0 then some (wantDiscovery n s)
  else if b = (F.RNG_SN_CMD_GO 0).addr ∧ hasBit w 11 ∧ slice w 9 2 ≠ 0 then some (rngSubmit n (4 + slice w 9 2) (slice w 0 9) s)
  else if b = (F.RNG_TERM_CMD_GO 0).addr ∧ hasBit w 12 ∧ 1 ≤ slice w 9 3 ∧ slice w 9 3 ≤ 4 then
    some (rngSubmit n (slice w 9 3) (slice w 0 9) s)
  else if b = (F.GNT_ALLOC_CMD_GO 0).addr ∧ hasBit w 14 ∧ slice w 12 2 = 1 then some (allocRead n (slice w 0 12) s)
  else if b = (F.GNT_ALLOC_CMD_GO 0).addr ∧ hasBit w 14 ∧ slice w 12 2 = 2 then some (allocWrite n (slice w 0 12) s)
  else none

def writeHif (part b w : Nat) (s : State) : Option State :=
  if b = F.HIF_EVT_RING_SIZE_LOG2.addr then some (ringWrite w s)
  else if b = F.HIF_EVT_CI_CI.addr then some (ciWrite w s)
  else if b = F.HIF_BAR2_CFG_BASE.addr then some (baseWrite (w % 64) s)
  else if b = F.HIF_RFX_FROZEN_FROZEN.addr then some (freezeEnd w s)
  else if b = F.HIF_SPI_CMD_GO.addr ∧ hasBit w 25 ∧ part ≠ 2 then
    some (spiCmd (hasBit w 23) (slice w 0 8) (slice w 8 2) (slice w 10 4) (slice w 14 9) (hasBit w 24) s)
  else none

def writeMec (lo : Bool) (b n w : Nat) (s : State) : Option State :=
  if b = (F.MEC_ENG_CTRL_STOP 0).addr then
    some (if hasBit w 0 = s.on (F.MEC_ENG_CTRL_STOP n) then s
      else if hasBit w 0 then engineStop n (s.offsetNs * 3 / 2) s.draw else engineStart n s)
  else if b = F.MEC_OPEN_LOAD_GO.addr ∧ hasBit w 2 then some (openLoad (slice w 0 1) (slice w 1 1) s)
  else if b = F.MEC_TASK_POST_GO.addr ∧ lo ∧ hasBit w 15 then some (hostTask (slice w 0 8) (slice w 8 7) (slice w 16 16) (slice w 32 32) s)
  else none

def writeTables (b w : Nat) (s : State) : Option State :=
  if b = F.FWD_TBL_CMD_GO.addr ∧ hasBit w 8 ∧ 1 ≤ slice w 3 3 ∧ slice w 3 3 ≤ 4 then
    some (tblCmd (slice w 0 3) (slice w 3 3) (s.rd F.FWD_TBL_KEY_KEY) (hasBit w 6) (hasBit w 7) s)
  else if b = F.TMG_TBL_CMD_GO.addr ∧ hasBit w 5 ∧ slice w 3 2 = 1 then some (tmgRead (slice w 0 3) (s.rd F.TMG_TBL_KEY_INDEX) s)
  else if b = F.TMG_TBL_CMD_GO.addr ∧ hasBit w 5 ∧ slice w 3 2 = 2 then some (tmgWrite (slice w 0 3) (s.rd F.TMG_TBL_KEY_INDEX) s)
  else if b = F.BPM_HOST_FREE_CELL.addr then some (cellFree (slice w 0 25) tagHost s)
  else none

def writeCph (lo : Bool) (b n w : Nat) (s : State) : Option State :=
  if b = F.CPH_HREQ_CMD_GO.addr ∧ lo ∧ hasBit w 4 then
    some (hostReq (slice w 0 3) (hasBit w 3) (slice w 8 8) (slice w 16 16) (slice w 32 17) s)
  else if b = F.CPH_IMPORT_CMD_GO.addr ∧ hasBit w 28 then some (startImport (slice w 16 3) (slice w 0 16) (slice w 19 8) (hasBit w 27) s)
  else if b = F.CPH_SLOT_CMD_ERASE.addr ∧ hasBit w 16 then some (eraseSlot (slice w 0 16) (hasBit w 17) s)
  else if b = F.CPH_TERM_CMD_GO.addr ∧ hasBit w 17 ∧ (slice w 14 2 = 1 ∨ slice w 14 2 = 2) then
    some (termCmd (slice w 14 2) (slice w 0 14) (slice w 16 1) s)
  else if b = (F.CPH_BIND_VALID 0).addr then some (writeBind n w s)
  else none

def writeTimes (b w : Nat) (s : State) : Option State :=
  if b = F.TSU_JUMP_CMD_OP.addr ∧ hasBit w 2 then
    some (if slice w 0 2 = 1 then jumpAccept s else if slice w 0 2 = 2 then jumpRebase s else if slice w 0 2 = 3 then jumpReject s
      else s.wr F.TSU_JUMP_CMD_OP 0)
  else if b = F.TSU_TOD_REQ_GO.addr ∧ hasBit w 27 then some (todRequest (slice w 0 5) (slice w 5 9) (slice w 14 13) s)
  else none

def writePeer (b w : Nat) (s : State) : Option State :=
  if b = F.PRT_VERDICT_CMD_REQUEST.addr ∧ hasBit w 0 then some (trigger 2 s)
  else if b = F.PRT_KAP_TX_STAT_POP.addr ∧ hasBit w 3 then some (showKapTx (s.modPrt fun q => { q with txq := q.txq.drop 1 }))
  else if b = F.PRT_KAP_RX_CMD_GO.addr ∧ hasBit w 0 ∧ ¬ s.pinArb then some (submitKap s)
  else if b = F.UPL_HRX_POP_POP.addr ∧ hasBit w 0 ∧ 3 ≤ s.minor then some (showHrx { s with hrx := s.hrx.drop 1 })
  else if b = F.UPL_HTX_CMD_GO.addr ∧ hasBit w 22 ∧ 3 ≤ s.minor then some (htxPost (slice w 0 6) (slice w 6 4) (slice w 10 12) s)
  else none

def writeObs (b n k w : Nat) (s : State) : Option State :=
  if b = (F.OBS_CNT_COUNT 0).addr then some (counterWrite n w 0 s)
  else if b = F.OBS_SNAP_CMD_GO.addr then
    some ((s.wr F.OBS_SNAP_CMD_AUTO (slice w 1 1)).when (hasBit w 0) fun a => a.modObs fun o => { o with snapWanted := true })
  else if b = F.OBS_SKIM_STAT_POP.addr ∧ hasBit w 10 then some (skimPop s)
  else if b = (F.OBS_VIEW_BIND_KIND 0 0).addr then some (viewBind n k w s)
  else if b = F.OBS_INJ_UNLOCK_LINK.addr then some (unlockKey (slice w 0 6) (slice w 16 16) s)
  else if b = (F.OBS_INJ_CFG_ACTION 0).addr then some (armInjection n w s)
  else none

/-- The effect of a write on a register that has one of its own. -/
def special (part w : Nat) (r : RegRef) (s : State) : Option State :=
  let b := r.reg.base
  let n := r.idx.getD 0 0
  let k := r.idx.getD 1 0
  let lo := part != 2
  if b < 0x100000 then writeHif part b w s
  else if b < 0x200000 then writeCfg b w s
  else if b < 0x1000000 then writePwr b w s
  else if b < 0x2000000 then writeTree b n w s
  else if b < 0x3000000 then writeMec lo b n w s
  else if b < 0x3A00000 then writeTables b w s
  else if b < 0x3C00000 then writeCph lo b n w s
  else if 0x3E00000 ≤ b ∧ b < 0x3E80000 then writeTimes b w s
  else if 0x3D00000 ≤ b ∧ b < 0x3F00000 then writePeer b w s
  else if 0x3F00000 ≤ b then writeObs b n k w s
  else none

/-- The word of a register as its stored fields stand, for the half that an access leaves alone: fields that act when written read zero, but for
a written value that lies across the two halves (R474). -/
def State.restWord (s : State) (r : RegRef) : Nat :=
  (r.fields.filter fun f => f.acc == .rw || (f.acc == .wo && decide (f.lsb < 32) && decide (32 < f.lsb + f.width))).foldl (fun a f => a ||| (s.rdShadow f <<< f.lsb)) 0

/-- The whole word of a write of one half: the other half keeps its fields. -/
def State.mergeWord (s : State) (part w : Nat) (r : RegRef) : Nat :=
  if part = 0 then w
  else if part = 1 then w % 2 ^ 32 + s.restWord r / 2 ^ 32 * 2 ^ 32
  else s.restWord r % 2 ^ 32 + w / 2 ^ 32 * 2 ^ 32

/-- What an ordinary write brings with it: HOLD_OK follows its threshold (R51), back-pressure its thresholds (R304, R320), a histogram
unit its settings (R461), and MSG_RX is raised again where its cause lasts after a clear of the status (R162). -/
def writeFollows (old : State) (w : Nat) (r : RegRef) (s : State) : State :=
  let b := r.reg.base
  if b = F.PWR_HOLD_CFG_HOLD_OK_MV.addr then showHold (s.rd F.PWR_HOLD_HOLD_MV) s
  else if b = (F.HIF_EVT_STAT_STAT 0).addr then msgRxAgain s
  else if b = F.TMG_BP_CFG_THR_WARN.addr ∨ (0x3801000 ≤ b ∧ b < 0x3802000) then backPressure s
  else if b = (F.OBS_HIST_CFG_SRC 0).addr then
    (histCfgWrite old s (r.idx.getD 0 0)).when (hasBit w 18) (histWant (r.idx.getD 0 0))
  else s

/-- A write of a register, of both its words (`part` 0) or of the lower (1) or upper (2) alone. -/
def hostWrite (part w : Nat) (r : RegRef) (s : State) : State :=
  if s.tileAway r.addr then tileAccess s
  else
    let m := s.mergeWord part w r
    match special part m r s with
    | some t => t
    | none => writeFollows s m r (writeReg part m r s)

/-- A read of a whole register with the side effects of every field (R8, R474), and the word it returns. -/
def sideRead (r : RegRef) (s : State) : State × Nat :=
  let b := r.reg.base
  if b = F.PWR_SS_DATA_DATA.addr then ssDataRead s
  else if b = F.TSU_TIME_SNAP0_SECONDS.addr then (let t := snapTime s; (t, t.readWord r))
  else if b = (F.OBS_CNT_COUNT 0).addr then (latchHigh (r.idx.getD 0 0) s, s.readWord r)
  else if b = F.MEC_TASK_RESULT_VALID.addr then (readTaskResult .pcie s, s.readWord r)
  else if b = F.CPH_HREQ_RESULT_TAG.addr then (let t := readResult .pcie s; (t, t.hostIf.lastRead))
  else if b = F.BPM_HOST_ALLOC_CELL.addr then (let t := hostAlloc .pcie s; (t, t.hostIf.lastRead))
  else (clearRead 0 r s, s.readWord r)

/-! Spans that hold no register of the table: the view pages (R463), the MSI-X table and its pending-bit array (R434, R445). -/

/-- The 4-byte word of the MSI-X table at an offset: message address, data and mask of a vector. -/
def State.msixWord (s : State) (o : Nat) : Nat :=
  let m := SMap.getD s.hub.msix (o / 16) Msix.initial
  let i := o % 16 / 4
  if i = 0 then m.addr % 2 ^ 32 else if i = 1 then m.addr / 2 ^ 32 else if i = 2 then m.data else bit m.masked

/-- A write of the MSI-X table: unmasking a vector whose pending bit is set sends its message. -/
def msixWrite (o v : Nat) (s : State) : State :=
  s.modHub fun h =>
    let m := SMap.getD h.msix (o / 16) Msix.initial
    let i := o % 16 / 4
    let m1 : Msix :=
      if i = 0 then { m with addr := m.addr / 2 ^ 32 * 2 ^ 32 + v % 2 ^ 32 / 4 * 4 }
      else if i = 1 then { m with addr := m.addr % 2 ^ 32 + v * 2 ^ 32 }
      else if i = 2 then { m with data := v }
      else if hasBit v 0 then { m with masked := true }
      else if m.pendingBit && s.msixLive then { m with masked := false, pendingBit := false, sent := m.sent + 1 }
      else { m with masked := false }
    { h with msix := SMap.put h.msix (o / 16) m1 }

/-- The 4-byte word of the pending-bit array. -/
def State.pbaWord (s : State) (o : Nat) : Nat :=
  (List.range 32).foldl (fun a i => if (SMap.getD s.hub.msix (o / 4 * 32 + i) Msix.initial).pendingBit then withBit a i else a) 0

/-- The 4-byte word at an address of such a span. -/
def State.spanWord (s : State) (a : Nat) : Nat :=
  if 0x80000 ≤ a ∧ a < 0x81000 then s.msixWord (a - 0x80000)
  else if 0x81000 ≤ a ∧ a < 0x81020 then s.pbaWord (a - 0x81000)
  else if 0x3F00000 ≤ a ∧ a < 0x3F10000 then
    let v := s.viewSlot ((a - 0x3F00000) / 0x1000) (a % 0x1000 / 8)
    if a % 8 = 0 then v % 2 ^ 32 else v / 2 ^ 32
  else 0

/-- A write of such a span; `wide` joins two words in one access. -/
def spanWrite (wide : Bool) (a v : Nat) (s : State) : State :=
  if 0x80000 ≤ a ∧ a < 0x81000 then
    (if wide then msixWrite (a - 0x7FFFC) (v / 2 ^ 32) (msixWrite (a - 0x80000) (v % 2 ^ 32) s) else msixWrite (a - 0x80000) (v % 2 ^ 32) s)
  else if 0x3F00000 ≤ a ∧ a < 0x3F10000 then viewWrite ((a - 0x3F00000) / 0x1000) s
  else s

/-! Accesses by width (R473, R474). -/

/-- An access on a path begins: a held upper word is written alone first, and what the path remembered is gone (R474). -/
def flushPath (p : Path) (s : State) : State :=
  match s.mem p with
  | .heldUpper a hi =>
    match regAt a with
    | none => s.setMem p .none
    | some r => hostWrite 2 (hi <<< 32) r (s.setMem p .none)
  | _ => s.setMem p .none

/-- A 4-byte read in a register, once nothing is held on the path. -/
def readHalf (p : Path) (r : RegRef) (upper : Bool) (s : State) : State × Nat :=
  if s.tileAway r.addr then (tileAccess s, 0)
  else if r.reg.bytes = 4 then sideRead r s
  else if upper then (clearRead 2 r s, s.readWord r / 2 ^ 32)
  else
    let q := sideRead r s
    (q.1.setMem p (.readLow r.addr (q.2 / 2 ^ 32)), q.2 % 2 ^ 32)

/-- A 4-byte read. -/
def read4 (p : Path) (a : Nat) (s : State) : State × Nat :=
  match regAt a with
  | none => (let t := flushPath p s; (t, t.spanWord a))
  | some r =>
    let upper := decide (r.addr + 4 ≤ a)
    match s.mem p, upper with
    | .readLow b hi, true => if b = r.addr then (s.setMem p .none, hi) else readHalf p r upper (flushPath p s)
    | _, _ => readHalf p r upper (flushPath p s)

/-- An 8-byte read: one access to a 64-bit register, two words otherwise. -/
def read8 (p : Path) (a : Nat) (s : State) : State × Nat :=
  match (regAt a).filter fun r => r.reg.bytes == 8 && r.addr == a with
  | some r =>
    let t := flushPath p s
    if t.tileAway a then (tileAccess t, 0) else sideRead r t
  | none =>
    let x := read4 p a s
    let y := read4 p (a + 4) x.1
    (y.1, x.2 + y.2 * 2 ^ 32)

/-- A path holds an upper word for a register. -/
def PathMem.holds (m : PathMem) (a : Nat) : Bool :=
  match m with
  | .heldUpper b _ => b == a
  | _ => false

/-- A 4-byte write of an upper word is held (R474): a second one to the same register replaces it. -/
def holdUpper (p : Path) (r : RegRef) (v : Nat) (s : State) : State :=
  (if (s.mem p).holds r.addr then s else flushPath p s).setMem p (.heldUpper r.addr v)

/-- A 4-byte write. -/
def write4 (p : Path) (a v : Nat) (s : State) : State :=
  match regAt a with
  | none => spanWrite false a v (flushPath p s)
  | some r =>
    if r.reg.bytes = 4 then hostWrite 0 v r (flushPath p s)
    else if r.addr + 4 ≤ a then holdUpper p r v s
    else match s.mem p with
      | .heldUpper b hi => if b = r.addr then hostWrite 0 (v + hi * 2 ^ 32) r (s.setMem p .none) else hostWrite 1 v r (flushPath p s)
      | _ => hostWrite 1 v r (flushPath p s)

/-- An 8-byte write: one access to a 64-bit register or a view slot, two words otherwise. -/
def write8 (p : Path) (a v : Nat) (s : State) : State :=
  match (regAt a).filter fun r => r.reg.bytes == 8 && r.addr == a with
  | some r => hostWrite 0 v r (flushPath p s)
  | none =>
    if (regAt a).isNone ∧ (regAt (a + 4)).isNone then spanWrite true a v (flushPath p s)
    else write4 p (a + 4) (v / 2 ^ 32) (write4 p a (v % 2 ^ 32) s)

/-- A width and alignment that BAR0 accepts (R473). -/
def goodAccess (a len : Nat) : Bool := decide (a + len ≤ 0x4000000) && ((len == 4 && a % 4 == 0) || (len == 8 && a % 8 == 0))

/-- An access that BAR0 does not accept completes with Unsupported Request (R473). -/
def unsupported (s : State) : State := s.modHost fun h => { h with aer := h.aer + 1 }

/-- A host read on PCIe; its data are the completion's. -/
def hostRead (wide : Bool) (a : Nat) (s : State) : State :=
  if ¬ goodAccess a (if wide then 8 else 4) then unsupported s
  else
    let q := if wide then read8 .pcie a s else read4 .pcie a s
    answer .pcie q.2 q.1

/-- A host write on PCIe. -/
def hostStore (wide : Bool) (a v : Nat) (s : State) : State :=
  if ¬ goodAccess a (if wide then 8 else 4) then unsupported s
  else if wide then write8 .pcie a (v % 2 ^ 64) s else write4 .pcie a (v % 2 ^ 32) s

/-! I2C (R440). -/

/-- Addresses that the I2C target reads: the PWR registers, CFG_BOOT_STAT, CFG_JNL_STAT, HIF_API_VER and HIF_EVT_SUM. -/
def i2cReads (a : Nat) : Bool :=
  (decide (0x200000 ≤ a) && decide (a < 0x200068) && (regAt a).isSome) || a == F.CFG_BOOT_STAT_CAUSE.addr || a == F.CFG_JNL_STAT_START_NO.addr ||
  a == F.CFG_JNL_STAT_START_NO.addr + 4 || a == F.HIF_API_VER_MAJOR.addr || a == F.HIF_EVT_SUM_GROUPS.addr || a == F.HIF_EVT_SUM_GROUPS.addr + 4

/-- Addresses that it writes: PWR_MODE_REQ and PWR_SS_ADDR. -/
def i2cWrites (a : Nat) : Bool := a == F.PWR_MODE_REQ_TARGET.addr || a == F.PWR_SS_ADDR_ADDR.addr

/-- An I2C transaction (R440): performed, or not acknowledged and counted. -/
def i2cAccess (write : Bool) (a v : Nat) (s : State) : State :=
  let ok := a % 4 == 0 && (if write then i2cWrites a else i2cReads a)
  let s1 := s.modHost fun h => { h with i2cAck := ok }
  if ¬ ok then raiseSec E.HIF_I2C_REFUSED (s1.sat F.HIF_ERR_STAT_I2C_REFUSED 1)
  else if write then write4 .i2c a (v % 2 ^ 32) s1
  else
    let q := read4 .i2c a (asleepSupply s1)
    answer .i2c q.2 q.1

/-! The commands. -/

/-- REGISTER_WRITE (R90): a 4-byte or 8-byte write to a BAR0 address. -/
def execRegisterWrite (wide : Bool) (addr value : Nat) (s : State) : Out := .next (s.when (s.reach .pcie) (hostStore wide addr value))
/-- READ_CLEAR_ACCESS (R8): a 4-byte or 8-byte read of a BAR0 address. -/
def execReadClearAccess (wide : Bool) (addr : Nat) (s : State) : Out := .next (s.when (s.reach .pcie) (hostRead wide addr))
/-- UPPER_WORD_WRITE (R474): a 4-byte write to the upper word of a 64-bit register; at any other address nothing is held. -/
def execUpperWordWrite (addr value : Nat) (s : State) : Out :=
  .next (s.when (s.reach .pcie) fun t =>
    match (regAt addr).filter fun r => r.reg.bytes == 8 && r.addr + 4 == addr with
    | some r => holdUpper .pcie r (value % 2 ^ 32) t
    | none => t)
/-- UNSUPPORTED_REQUEST (R473). -/
def execUnsupportedRequest (addr len : Nat) (s : State) : Out :=
  .next (s.when (s.reach .pcie && !goodAccess addr len) unsupported)
/-- I2C_TRANSACTION (R440). -/
def execI2cTransaction (write : Bool) (addr value : Nat) (s : State) : Out := .next (s.when (s.reach .i2c) (i2cAccess write addr value))

end Sys2Proof.Machine
end

