-- ==== Sys2Proof/Machine/Commands.lean ====
section
/-! DEFINITION. Machine/Commands.lean: the commands that a host gives by writing or reading a register which a row of the command table
describes. What each does stands with its block; here is how it reaches the block: the path must reach BAR0, a word held on the path is
written first (R474), and a register in a tile that is not JOINED takes nothing (R435). -/
namespace Sys2Proof.Machine

/-- A host command on the register at an address. -/
def hostCmd (p : Path) (addr : Nat) (g : State → State) (s : State) : State :=
  if !s.reach p then s
  else
    let t := flushPath p s
    if t.tileAway addr then tileAccess t else g t

/-! Tree ports. -/

/-- PORT_ENABLE (R35, R150). -/
def execPortEnable (n : Nat) (s : State) : Out := .next (hostCmd .pcie (F.TPA_CTRL_ENABLE n).addr (portEnable n) s)
/-- PORT_DISABLE (R150). -/
def execPortDisable (n : Nat) (s : State) : Out := .next (hostCmd .pcie (F.TPA_CTRL_ENABLE n).addr (portDisable n) s)
/-- LOOPBACK_SET (R151). -/
def execLoopbackSet (n v : Nat) (s : State) : Out := .next (hostCmd .pcie (F.TPA_CTRL_LOOPBACK n).addr (loopbackSet n v) s)
/-- MODULE_READ (R148, R149). -/
def execModuleRead (n dev reg len khz : Nat) (s : State) : Out :=
  .next (hostCmd .pcie (F.TPA_MOD_CMD_GO n).addr (modSubmit n true dev reg len khz) s)
/-- MODULE_WRITE (R148, R149). -/
def execModuleWrite (n dev reg len khz : Nat) (s : State) : Out :=
  .next (hostCmd .pcie (F.TPA_MOD_CMD_GO n).addr (modSubmit n false dev reg len khz) s)

/-! The framer. -/

/-- MSG_TX_SUBMIT: FRM_MSG_TX_CMD with GO (R155). -/
def execMsgTxSubmit (n term : Nat) (s : State) : Out := .next (hostCmd .pcie (F.FRM_MSG_TX_CMD_GO n).addr (submitMsg n term) s)
/-- MSG_RX_POP (R162). -/
def execMsgRxPop (n : Nat) (s : State) : Out :=
  .next (hostCmd .pcie (F.FRM_MSG_RX_POP_POP n).addr (popRx n) s)
/-- PM_SELECT: FRM_PM_SEL with GO (R174). -/
def execPmSelect (n term : Nat) (tree : Bool) (s : State) : Out :=
  .next (hostCmd .pcie (F.FRM_PM_SEL_GO n).addr (selectPm n term tree) s)

/-! Ranging. -/

/-- DISCOVERY_NOW: RNG_DISC_CMD.NOW (R181). -/
def execDiscoveryNow (n : Nat) (s : State) : Out := .next (hostCmd .pcie (F.RNG_DISC_CMD_NOW n).addr (wantDiscovery n) s)
/-- ACCEPT: RNG_TERM_CMD with GO (R196). -/
def execAccept (n t : Nat) (s : State) : Out := .next (hostCmd .pcie (F.RNG_TERM_CMD_GO n).addr (rngSubmit n 1 t) s)
/-- RERANGE (R196). -/
def execRerange (n t : Nat) (s : State) : Out := .next (hostCmd .pcie (F.RNG_TERM_CMD_GO n).addr (rngSubmit n 2 t) s)
/-- RELEASE (R187). -/
def execRelease (n t : Nat) (s : State) : Out := .next (hostCmd .pcie (F.RNG_TERM_CMD_GO n).addr (rngSubmit n 3 t) s)
/-- RETRY (R184). -/
def execRetry (n t : Nat) (s : State) : Out := .next (hostCmd .pcie (F.RNG_TERM_CMD_GO n).addr (rngSubmit n 4 t) s)
/-- SN_ADMIT: RNG_SN_CMD with GO (R185). -/
def execSnAdmit (n t : Nat) (s : State) : Out := .next (hostCmd .pcie (F.RNG_SN_CMD_GO n).addr (rngSubmit n 5 t) s)
/-- SN_DROP (R185). -/
def execSnDrop (n : Nat) (s : State) : Out :=
  .next (hostCmd .pcie (F.RNG_SN_CMD_GO n).addr (fun a => rngSubmit n 6 (a.rd (F.RNG_SN_CMD_TERMINAL n)) a) s)
/-- SN_RESERVE (R184). -/
def execSnReserve (n t : Nat) (s : State) : Out := .next (hostCmd .pcie (F.RNG_SN_CMD_GO n).addr (rngSubmit n 7 t) s)

/-! The grant engine. -/

/-- ALLOC_READ: GNT_ALLOC_CMD with OP 1 and GO (R217). -/
def execAllocRead (n i : Nat) (s : State) : Out := .next (hostCmd .pcie (F.GNT_ALLOC_CMD_GO n).addr (allocRead n i) s)
/-- ALLOC_WRITE: GNT_ALLOC_CMD with OP 2 and GO (R218, R219). -/
def execAllocWrite (n i : Nat) (s : State) : Out := .next (hostCmd .pcie (F.GNT_ALLOC_CMD_GO n).addr (allocWrite n i) s)

/-! The engines. -/

/-- ENGINE_STOP: MEC_ENG_CTRL[e] written with STOP = 1, at a cycle of the frame (R245). -/
def execEngineStop (e c : Nat) (s : State) : Out :=
  .next (if e < 64 then hostCmd .pcie (F.MEC_ENG_CTRL_STOP e).addr (engineStop e c) s else s)
/-- ENGINE_START: MEC_ENG_CTRL[e] written with STOP = 0 (R245). -/
def execEngineStart (e : Nat) (s : State) : Out :=
  .next (if e < 64 then hostCmd .pcie (F.MEC_ENG_CTRL_STOP e).addr (engineStart e) s else s)
/-- OPEN_LOAD_SHADOW (R263). -/
def execOpenLoadShadow (s : State) : Out := .next (hostCmd .pcie F.MEC_OPEN_LOAD_GO.addr (openLoad 0 0) s)
/-- OPEN_LOAD_SLOT (R263). -/
def execOpenLoadSlot (slot : Nat) (s : State) : Out := .next (hostCmd .pcie F.MEC_OPEN_LOAD_GO.addr (openLoad 1 (slot % 2)) s)
/-- TASK_POST (R266). -/
def execTaskPost (typ engine tag arg : Nat) (s : State) : Out :=
  .next (hostCmd .pcie F.MEC_TASK_POST_GO.addr (hostTask typ engine tag arg) s)
/-- TASK_RESULT_READ (R266). -/
def execTaskResultRead (s : State) : Out := .next (hostCmd .pcie F.MEC_TASK_RESULT_VALID.addr (readTaskResult .pcie) s)

/-! The traffic manager. -/

/-- TMG_TABLE_READ (R317). -/
def execTmgTableRead (table index : Nat) (s : State) : Out :=
  .next (hostCmd .pcie F.TMG_TBL_CMD_GO.addr (tmgRead (table % 8) (index % 2 ^ 20)) s)
/-- TMG_TABLE_WRITE (R317). -/
def execTmgTableWrite (table index : Nat) (s : State) : Out :=
  .next (hostCmd .pcie F.TMG_TBL_CMD_GO.addr (tmgWrite (table % 8) (index % 2 ^ 20)) s)

/-! Forwarding tables. -/

/-- TABLE_READ: OP 1 (R292, R297). -/
def execTableRead (table key : Nat) (s : State) : Out :=
  .next (hostCmd .pcie F.FWD_TBL_CMD_GO.addr (tblCmd (table % 8) 1 (key % 2 ^ 64) false false) s)
/-- TABLE_WRITE: OP 2 (R292, R293). -/
def execTableWrite (table key : Nat) (clr wrCount : Bool) (s : State) : Out :=
  .next (hostCmd .pcie F.FWD_TBL_CMD_GO.addr (tblCmd (table % 8) 2 (key % 2 ^ 64) clr wrCount) s)
/-- TABLE_DELETE: OP 3 (R293). -/
def execTableDelete (table key : Nat) (s : State) : Out :=
  .next (hostCmd .pcie F.FWD_TBL_CMD_GO.addr (tblCmd (table % 8) 3 (key % 2 ^ 64) false false) s)
/-- FLUSH_OWNER: OP 4 (R291). -/
def execFlushOwner (table key : Nat) (s : State) : Out :=
  .next (hostCmd .pcie F.FWD_TBL_CMD_GO.addr (tblCmd (table % 8) 4 (key % 2 ^ 64) false false) s)

/-! Buffers. -/

/-- HOST_CELL_ALLOC: a read of BPM_HOST_ALLOC (R302). -/
def execHostCellAlloc (s : State) : Out := .next (hostCmd .pcie F.BPM_HOST_ALLOC_CELL.addr (hostAlloc .pcie) s)
/-- HOST_CELL_FREE: a write of BPM_HOST_FREE (R302). -/
def execHostCellFree (c : Nat) (s : State) : Out :=
  .next (hostCmd .pcie F.BPM_HOST_FREE_CELL.addr (cellFree (c % 2 ^ 25) tagHost) s)

/-! The cipher array. -/

/-- HREQ_CTR: CPH_HREQ_CMD with MODE 1 (R335). -/
def execHreqCtr (decrypt : Bool) (a tag len : Nat) (s : State) : Out :=
  .next (hostCmd .pcie F.CPH_HREQ_CMD_GO.addr (hostReq 1 decrypt (a % 256) (tag % 65536) (len % 2 ^ 17)) s)
/-- HREQ_CBC: MODE 2 (R335). -/
def execHreqCbc (decrypt : Bool) (a tag len : Nat) (s : State) : Out :=
  .next (hostCmd .pcie F.CPH_HREQ_CMD_GO.addr (hostReq 2 decrypt (a % 256) (tag % 65536) (len % 2 ^ 17)) s)
/-- HREQ_CFB: MODE 3 (R335). -/
def execHreqCfb (decrypt : Bool) (a tag len : Nat) (s : State) : Out :=
  .next (hostCmd .pcie F.CPH_HREQ_CMD_GO.addr (hostReq 3 decrypt (a % 256) (tag % 65536) (len % 2 ^ 17)) s)
/-- HREQ_CMAC: MODE 4 (R335). -/
def execHreqCmac (verify : Bool) (a tag len : Nat) (s : State) : Out :=
  .next (hostCmd .pcie F.CPH_HREQ_CMD_GO.addr (hostReq 4 verify (a % 256) (tag % 65536) (len % 2 ^ 17)) s)
/-- HREQ_RESULT_READ (R333). -/
def execHreqResultRead (s : State) : Out := .next (hostCmd .pcie F.CPH_HREQ_RESULT_TAG.addr (readResult .pcie) s)
/-- IMPORT_SESSION: TYPE 1 (R338). -/
def execImportSession (slot wrap : Nat) (s : State) : Out :=
  .next (hostCmd .pcie F.CPH_IMPORT_CMD_GO.addr (startImport 1 (slot % 65536) (wrap % 256) false) s)
/-- IMPORT_DATA: TYPE 2 (R338). -/
def execImportData (slot wrap : Nat) (s : State) : Out :=
  .next (hostCmd .pcie F.CPH_IMPORT_CMD_GO.addr (startImport 2 (slot % 65536) (wrap % 256) false) s)
/-- IMPORT_GROUP: TYPE 3 (R338). -/
def execImportGroup (slot wrap : Nat) (s : State) : Out :=
  .next (hostCmd .pcie F.CPH_IMPORT_CMD_GO.addr (startImport 3 (slot % 65536) (wrap % 256) false) s)
/-- IMPORT_AUTH: TYPE 4, with its KIND (R338). -/
def execImportAuth (slot wrap : Nat) (data : Bool) (s : State) : Out :=
  .next (hostCmd .pcie F.CPH_IMPORT_CMD_GO.addr (startImport 4 (slot % 65536) (wrap % 256) data) s)
/-- SLOT_ERASE (R343). -/
def execSlotErase (k : Nat) (session : Bool) (s : State) : Out :=
  .next (hostCmd .pcie F.CPH_SLOT_CMD_ERASE.addr (eraseSlot (k % 65536) session) s)
/-- KEY_CONTROL_SEND: CPH_TERM_CMD OP 1 (R342). -/
def execKeyControlSend (x index : Nat) (s : State) : Out :=
  .next (hostCmd .pcie F.CPH_TERM_CMD_GO.addr (termCmd 1 (x % 16384) (index % 2)) s)
/-- DS_INDEX_SWITCH: CPH_TERM_CMD OP 2 (R341). -/
def execDsIndexSwitch (x index : Nat) (s : State) : Out :=
  .next (hostCmd .pcie F.CPH_TERM_CMD_GO.addr (termCmd 2 (x % 16384) (index % 2)) s)
/-- BIND_WRITE (R327, R341). -/
def execBindWrite (b w : Nat) (s : State) : Out :=
  .next (if b < 2048 then hostCmd .pcie (F.CPH_BIND_VALID b).addr (writeBind b w) s else s)

/-! Fault injection. -/

/-- INJ_UNLOCK_KEY (R467). -/
def execInjUnlockKey (l key : Nat) (s : State) : Out := .next (hostCmd .pcie F.OBS_INJ_UNLOCK_LINK.addr (unlockKey l key) s)
/-- INJ_CFG_WRITE (R468). -/
def execInjCfgWrite (l w : Nat) (s : State) : Out :=
  .next (s.when (decide (l < 51)) (hostCmd .pcie (F.OBS_INJ_CFG_ACTION l).addr (armInjection l w)))

/-! Protection. -/

/-- A row of a submitted verdict: the message's CODE selects the row; codes that R409 reserves belong to HOLD's. With ARB_MODE 1 in a PAIR
PRT_KAP_RX is ignored (R411). -/
def submitRow (row : Nat) (s : State) : State :=
  hostCmd .pcie 0x3E80240 (fun t =>
    let c := kapAt t.kapRx 16 1
    let r := if c = 1 ∨ c = 2 ∨ c = 4 then c else 3
    if t.pinArb ∨ r ≠ row then t else submitKap t) s
/-- PROMOTE: PRT_KAP_RX_CMD.GO with CODE 1 in PRT_KAP_RX (R409, R410). -/
def execPromote (s : State) : Out := .next (submitRow 1 s)
/-- DEMOTE: CODE 2 (R409, R410). -/
def execDemote (s : State) : Out := .next (submitRow 2 s)
/-- VERDICT_HOLD: CODE 3 and the codes R409 reserves (R409, R410). -/
def execVerdictHold (s : State) : Out := .next (submitRow 3 s)
/-- FENCE: CODE 4 (R409, R410). -/
def execFence (s : State) : Out := .next (submitRow 4 s)
/-- VERDICT_REQUEST_HOST: PRT_VERDICT_CMD.REQUEST (R405). -/
def execVerdictRequestHost (s : State) : Out := .next (hostCmd .pcie 0x3E80030 (trigger 2) s)
/-- KAP_TX_POP: removes the oldest message (PRT_KAP_TX_STAT.POP). -/
def execKapTxPop (s : State) : Out :=
  .next (hostCmd .pcie 0x3E80140 (fun t => showKapTx (t.modPrt fun q => { q with txq := q.txq.drop 1 })) s)

/-! Observation. -/

/-- COUNTER_WRITE (R455, R456). -/
def execCounterWrite (i w incs : Nat) (s : State) : Out :=
  .next (s.when (decide (i < 512)) (hostCmd .pcie (F.OBS_CNT_COUNT i).addr (counterWrite i w incs)))
/-- CHAINED_COUNTER_READ (R454). -/
def execChainedCounterRead (i : Nat) (s : State) : Out :=
  .next (s.when (decide (i < 512)) (hostCmd .pcie (F.OBS_CNT_COUNT i).addr fun a => answer .pcie (counterWord i a) (latchHigh i a)))
/-- SNAPSHOT (R457). -/
def execSnapshot (s : State) : Out :=
  .next (hostCmd .pcie F.OBS_SNAP_CMD_GO.addr (fun a => a.modObs fun o => { o with snapWanted := true }) s)
/-- SKIM_POP (R459). -/
def execSkimPop (s : State) : Out := .next (hostCmd .pcie F.OBS_SKIM_STAT_POP.addr skimPop s)
/-- HIST_CLEAR (R461). -/
def execHistClear (h : Nat) (s : State) : Out :=
  .next (s.when (decide (h < 32)) (hostCmd .pcie (F.OBS_HIST_CFG_CLR h).addr (histWant h)))
/-- VIEW_BIND (R464). -/
def execViewBind (v k w : Nat) (s : State) : Out :=
  .next (s.when (decide (v < 16) && decide (k < 512)) (hostCmd .pcie (F.OBS_VIEW_BIND_KIND v k).addr (viewBind v k w)))
/-- VIEW_WRITE (R463). -/
def execViewWrite (v : Nat) (s : State) : Out :=
  .next (s.when (decide (v < 16)) (hostCmd .pcie (0x3F00000 + 0x1000 * v) (viewWrite v)))

/-! The uplink host path. -/

/-- HOST_RX_POP (R433). -/
def execHostRxPop (s : State) : Out :=
  .next (hostCmd .pcie F.UPL_HRX_POP_POP.addr (fun a => a.when (decide (3 ≤ a.minor)) fun b => showHrx { b with hrx := b.hrx.drop 1 }) s)
/-- HOST_TX_POST (R433). -/
def execHostTxPost (slot port len : Nat) (s : State) : Out :=
  .next (hostCmd .pcie F.UPL_HTX_CMD_GO.addr (fun a => a.when (decide (3 ≤ a.minor)) (htxPost slot (port % 16) (len % 4096))) s)

/-! Host interface and events. -/

/-- BAR2_BASE_WRITE (R436): values above 56 act as 56. -/
def execBar2BaseWrite (base : Nat) (s : State) : Out :=
  .next (hostCmd .pcie F.HIF_BAR2_CFG_BASE.addr (baseWrite (base % 64)) s)
/-- API_MINOR_SELECT (R438): values above 4 act as 4. -/
def execApiMinorSelect (minor : Nat) (s : State) : Out :=
  .next (hostCmd .pcie F.HIF_API_VER_SEL_MINOR.addr (fun a => a.wr F.HIF_API_VER_SEL_MINOR minor) s)
/-- SPI_READ (R439). -/
def execSpiRead (opcode addrBytes dummy len : Nat) (quad : Bool) (s : State) : Out :=
  .next (hostCmd .pcie F.HIF_SPI_CMD_GO.addr (spiCmd true opcode addrBytes dummy len quad) s)
/-- SPI_WRITE (R439). -/
def execSpiWrite (opcode addrBytes dummy len : Nat) (quad : Bool) (s : State) : Out :=
  .next (hostCmd .pcie F.HIF_SPI_CMD_GO.addr (spiCmd false opcode addrBytes dummy len quad) s)
/-- EVT_RING_WRITE (R444). -/
def execEvtRingWrite (w : Nat) (s : State) : Out := .next (hostCmd .pcie F.HIF_EVT_RING_SIZE_LOG2.addr (ringWrite w) s)
/-- EVT_CI_WRITE (R444). -/
def execEvtCiWrite (v : Nat) (s : State) : Out := .next (hostCmd .pcie F.HIF_EVT_CI_CI.addr (ciWrite v) s)
/-- FREEZE_END (R449). -/
def execFreezeEnd (mask : Nat) (s : State) : Out := .next (hostCmd .pcie F.HIF_RFX_FROZEN_FROZEN.addr (freezeEnd mask) s)

/-! Time. -/

/-- JUMP_ACCEPT (R387). -/
def execJumpAccept (s : State) : Out := .next (hostCmd .pcie F.TSU_JUMP_CMD_OP.addr jumpAccept s)
/-- JUMP_REBASE (R387). -/
def execJumpRebase (s : State) : Out := .next (hostCmd .pcie F.TSU_JUMP_CMD_OP.addr jumpRebase s)
/-- JUMP_REJECT (R387). -/
def execJumpReject (s : State) : Out := .next (hostCmd .pcie F.TSU_JUMP_CMD_OP.addr jumpReject s)
/-- TOD_REQUEST (R394). -/
def execTodRequest (n t ahead : Nat) (s : State) : Out :=
  .next (hostCmd .pcie F.TSU_TOD_REQ_TREE.addr (todRequest (n % 32) (t % 512) (ahead % 8192)) s)
/-- TIME_SNAP_READ (R392). -/
def execTimeSnapRead (s : State) : Out :=
  .next (hostCmd .pcie F.TSU_TIME_SNAP0_SECONDS.addr (fun a => let b := snapTime a; answer .pcie (b.rd F.TSU_TIME_SNAP0_SECONDS) b) s)

/-! Images, reloads and commits. -/

/-- IMG_VERIFY (R77). -/
def execImgVerify (slot : Nat) (s : State) : Out := .next (hostCmd .pcie F.CFG_IMG_CMD_SLOT.addr (imgVerify (slot % 2)) s)
/-- IMG_INVALIDATE (R69). -/
def execImgInvalidate (slot : Nat) (s : State) : Out := .next (hostCmd .pcie F.CFG_IMG_CMD_SLOT.addr (imgInvalidate (slot % 2)) s)
/-- RELOAD_REQUEST (R80). -/
def execReloadRequest (tile slot : Nat) (pen : Bool) (partner gen : Nat) (s : State) : Out :=
  .next (hostCmd .pcie F.CFG_RELOAD_TILE.addr (reloadRequest (tile % 64) (slot % 2) pen (partner % 64) (gen % 65536)) s)
/-- COMMIT (R92). -/
def execCommit (group gen : Nat) (s : State) : Out :=
  .next (hostCmd .pcie F.CFG_COMMIT_GROUP.addr (commitWrite false (group % 64) (gen % 65536)) s)
/-- COMMIT_LINK (R94). -/
def execCommitLink (group gen : Nat) (s : State) : Out :=
  .next (hostCmd .pcie F.CFG_COMMIT_GROUP.addr (commitWrite true (group % 64) (gen % 65536)) s)

/-! The boot sequencer. -/

/-- BOOT_RESTART (R112). -/
def execBootRestart (s : State) : Out := .next (hostCmd .pcie F.CFG_BOOT_CMD_RESTART.addr bootRestart s)
/-- CLEAR_STREAK (R113). -/
def execClearStreak (k : Nat) (s : State) : Out := .next (hostCmd .pcie F.CFG_BOOT_CMD_RESTART.addr (clearStreak (k % 16)) s)
/-- FORCE_NORMAL (R113). -/
def execForceNormal (k : Nat) (s : State) : Out := .next (hostCmd .pcie F.CFG_BOOT_CMD_RESTART.addr (forceNormal (k % 16)) s)

/-! Power. -/

/-- MODE_REQUEST (R43): TARGET with GO, for a target other than 1 and 7. -/
def execModeRequest (i2c : Bool) (target promoteTo : Nat) (s : State) : Out :=
  .next (hostCmd (pathOf i2c) F.PWR_MODE_REQ_TARGET.addr (fun t => requestMode none (target % 8) (modeReqFields target promoteTo t)) s)
/-- WAKE (R31): TARGET 1 in ASLEEP. -/
def execWake (i2c : Bool) (s : State) : Out :=
  .next (s.when (s.mode == mAsleep) (hostCmd (pathOf i2c) F.PWR_MODE_REQ_TARGET.addr target1))
/-- ORDERLY_RESTART (R39): TARGET 1 outside ASLEEP. -/
def execOrderlyRestart (i2c : Bool) (promoteTo : Nat) (s : State) : Out :=
  .next (s.when (s.mode != mAsleep) (hostCmd (pathOf i2c) F.PWR_MODE_REQ_TARGET.addr fun t => target1 (modeReqFields 1 promoteTo t)))
/-- PROVING_UNLOCK_KEY (R37). -/
def execProvingUnlockKey (i2c : Bool) (key target promoteTo : Nat) (s : State) : Out :=
  .next (hostCmd (pathOf i2c) F.PWR_MODE_REQ_TARGET.addr (fun t => provKey (key % 65536) (modeReqFields target promoteTo t)) s)
/-- PROVING_REQUEST (R37): TARGET 7 with GO. -/
def execProvingRequest (i2c : Bool) (promoteTo : Nat) (s : State) : Out :=
  .next (hostCmd (pathOf i2c) F.PWR_MODE_REQ_TARGET.addr (fun t => target7 (modeReqFields 7 promoteTo t)) s)
/-- SAVE_CMD (R61). -/
def execSaveCmd (s : State) : Out := .next (hostCmd .pcie F.PWR_SAVE_CMD_SAVE.addr (startSave 2 .resume) s)
/-- SLEEP_CMD (R61). -/
def execSleepCmd (s : State) : Out := .next (hostCmd .pcie F.PWR_SAVE_CMD_SLEEP.addr sleepRequest s)
/-- SAVE_ARM (R54): AUTO_RESUME lies in the same word. -/
def execSaveArm (autoRes : Bool) (s : State) : Out :=
  .next (hostCmd .pcie F.PWR_SAVE_ARM_ARMED.addr (fun t => armSave (t.wr F.PWR_SAVE_ARM_AUTO_RESUME (bit autoRes))) s)
/-- SAVE_DISARM_KEY (R66). -/
def execSaveDisarmKey (key : Nat) (late autoRes : Bool) (s : State) : Out :=
  .next (hostCmd .pcie F.PWR_SAVE_ARM_ARMED.addr (fun t => disarmKey (key % 65536) late (t.wr F.PWR_SAVE_ARM_AUTO_RESUME (bit autoRes))) s)
/-- SAG_CFG_WRITE (R65). -/
def execSagCfgWrite (word : Nat) (s : State) : Out := .next (hostCmd .pcie F.PWR_SAG_CFG_V_WARN_MV.addr (sagCfgWrite word) s)
/-- SS_DATA_READ (R62). -/
def execSsDataRead (i2c : Bool) (s : State) : Out :=
  .next (hostCmd (pathOf i2c) F.PWR_SS_DATA_DATA.addr (fun t => answer (pathOf i2c) (ssDataRead t).2 (ssDataRead t).1) s)

end Sys2Proof.Machine
end

