-- ==== Sys2Proof/Machine/Dispatch.lean ====
section
/-! DEFINITION. Machine/Dispatch.lean: each command's meaning. -/
namespace Sys2Proof.Machine

def exec (i : Instr) (s : State) : Host.Outcome State Fault Refusal :=
  match i with
  | .tick u => Sys2Proof.Machine.execTick u s
  | .oneSecondBoundary r => Sys2Proof.Machine.execOneSecondBoundary r s
  | .vinRise => Sys2Proof.Machine.execVinRise s
  | .powerOnResetRelease vinMv holdMv scanLow => Sys2Proof.Machine.execPowerOnResetRelease vinMv holdMv scanLow s
  | .boardReset tornRec tornFault => Sys2Proof.Machine.execBoardReset tornRec tornFault s
  | .registerWrite wide addr value => Sys2Proof.Machine.execRegisterWrite wide addr value s
  | .readClearAccess wide addr => Sys2Proof.Machine.execReadClearAccess wide addr s
  | .upperWordWrite addr value => Sys2Proof.Machine.execUpperWordWrite addr value s
  | .unsupportedRequest addr len => Sys2Proof.Machine.execUnsupportedRequest addr len s
  | .vWarnCross => Sys2Proof.Machine.execVWarnCross s
  | .holdSwitchClose holdMv => Sys2Proof.Machine.execHoldSwitchClose holdMv s
  | .captureFrozen => Sys2Proof.Machine.execCaptureFrozen s
  | .wheyBlockWritten good us => Sys2Proof.Machine.execWheyBlockWritten good us s
  | .saveHeaderWritten => Sys2Proof.Machine.execSaveHeaderWritten s
  | .saveDone us => Sys2Proof.Machine.execSaveDone us s
  | .holdingTimeout => Sys2Proof.Machine.execHoldingTimeout s
  | .vSagCross => Sys2Proof.Machine.execVSagCross s
  | .vWarnRearm sag => Sys2Proof.Machine.execVWarnRearm sag s
  | .vinRecovered => Sys2Proof.Machine.execVinRecovered s
  | .autoResume => Sys2Proof.Machine.execAutoResume s
  | .railUv => Sys2Proof.Machine.execRailUv s
  | .ilim => Sys2Proof.Machine.execIlim s
  | .vinBelowFloor => Sys2Proof.Machine.execVinBelowFloor s
  | .chargerRestart => Sys2Proof.Machine.execChargerRestart s
  | .chgFault => Sys2Proof.Machine.execChgFault s
  | .modeRequest i2c target promoteTo => Sys2Proof.Machine.execModeRequest i2c target promoteTo s
  | .wake i2c => Sys2Proof.Machine.execWake i2c s
  | .orderlyRestart i2c promoteTo => Sys2Proof.Machine.execOrderlyRestart i2c promoteTo s
  | .provingUnlockKey i2c key target promoteTo => Sys2Proof.Machine.execProvingUnlockKey i2c key target promoteTo s
  | .provingRequest i2c promoteTo => Sys2Proof.Machine.execProvingRequest i2c promoteTo s
  | .provingUnlockExpire => Sys2Proof.Machine.execProvingUnlockExpire s
  | .saveCmd => Sys2Proof.Machine.execSaveCmd s
  | .sleepCmd => Sys2Proof.Machine.execSleepCmd s
  | .saveStaged => Sys2Proof.Machine.execSaveStaged s
  | .saveArm autoRes => Sys2Proof.Machine.execSaveArm autoRes s
  | .saveDisarmKey key late autoRes => Sys2Proof.Machine.execSaveDisarmKey key late autoRes s
  | .sagCfgWrite word => Sys2Proof.Machine.execSagCfgWrite word s
  | .ssDataRead i2c => Sys2Proof.Machine.execSsDataRead i2c s
  | .opticsGroupRelease => Sys2Proof.Machine.execOpticsGroupRelease s
  | .serviceModeTaken => Sys2Proof.Machine.execServiceModeTaken s
  | .bootStepEnd ok detail mask => Sys2Proof.Machine.execBootStepEnd ok detail mask s
  | .bootStepTimeout => Sys2Proof.Machine.execBootStepTimeout s
  | .bootRestart => Sys2Proof.Machine.execBootRestart s
  | .clearStreak k => Sys2Proof.Machine.execClearStreak k s
  | .forceNormal k => Sys2Proof.Machine.execForceNormal k s
  | .imgVerify slot => Sys2Proof.Machine.execImgVerify slot s
  | .imgInvalidate slot => Sys2Proof.Machine.execImgInvalidate slot s
  | .verificationEnd slot => Sys2Proof.Machine.execVerificationEnd slot s
  | .bar2Write off bytes => Sys2Proof.Machine.execBar2Write off bytes s
  | .reloadRequest tile slot pen partner gen => Sys2Proof.Machine.execReloadRequest tile slot pen partner gen s
  | .drainEnd n => Sys2Proof.Machine.execDrainEnd n s
  | .sectionLoaded n => Sys2Proof.Machine.execSectionLoaded n s
  | .tileNegotiation n => Sys2Proof.Machine.execTileNegotiation n s
  | .reloadTimeout n => Sys2Proof.Machine.execReloadTimeout n s
  | .commit group gen => Sys2Proof.Machine.execCommit group gen s
  | .commitLink group gen => Sys2Proof.Machine.execCommitLink group gen s
  | .portEnable n => Sys2Proof.Machine.execPortEnable n s
  | .portDisable n => Sys2Proof.Machine.execPortDisable n s
  | .loopbackSet n v => Sys2Proof.Machine.execLoopbackSet n v s
  | .benAssert n => Sys2Proof.Machine.execBenAssert n s
  | .leadEnd n => Sys2Proof.Machine.execLeadEnd n s
  | .upstreamBurst n l selected => Sys2Proof.Machine.execUpstreamBurst n l selected s
  | .burstWindowClose n sd lock cut => Sys2Proof.Machine.execBurstWindowClose n sd lock cut s
  | .codewordDecoded n prev corr bad bits bytes reports frames => Sys2Proof.Machine.execCodewordDecoded n prev corr bad bits bytes reports frames s
  | .treeLos n => Sys2Proof.Machine.execTreeLos n s
  | .treeLosClear n => Sys2Proof.Machine.execTreeLosClear n s
  | .rogueLight n r => Sys2Proof.Machine.execRogueLight n r s
  | .moduleRead n dev reg len khz => Sys2Proof.Machine.execModuleRead n dev reg len khz s
  | .moduleWrite n dev reg len khz => Sys2Proof.Machine.execModuleWrite n dev reg len khz s
  | .moduleTxnEnd n ack data => Sys2Proof.Machine.execModuleTxnEnd n ack data s
  | .moduleStretchTimeout n => Sys2Proof.Machine.execModuleStretchTimeout n s
  | .msgSelect n => Sys2Proof.Machine.execMsgSelect n s
  | .payloadPrefetch n budget => Sys2Proof.Machine.execPayloadPrefetch n budget s
  | .mapFreeze n bad => Sys2Proof.Machine.execMapFreeze n bad s
  | .mapLate n => Sys2Proof.Machine.execMapLate n s
  | .frameHandoff n idle short => Sys2Proof.Machine.execFrameHandoff n idle short s
  | .msgTxSubmit n term => Sys2Proof.Machine.execMsgTxSubmit n term s
  | .upstreamMessage n term kind mic index body => Sys2Proof.Machine.execUpstreamMessage n term kind mic index body s
  | .msgRxPop n => Sys2Proof.Machine.execMsgRxPop n s
  | .pmLatched => Sys2Proof.Machine.execPmLatched s
  | .pmSelect n term tree => Sys2Proof.Machine.execPmSelect n term tree s
  | .sfcCeilingWrite n => Sys2Proof.Machine.execSfcCeilingWrite n s
  | .discoveryPeriod n => Sys2Proof.Machine.execDiscoveryPeriod n s
  | .discoveryNow n => Sys2Proof.Machine.execDiscoveryNow n s
  | .quietWindowBegin n => Sys2Proof.Machine.execQuietWindowBegin n s
  | .discoveryResponse n => Sys2Proof.Machine.execDiscoveryResponse n s
  | .rangingTimeResend n t => Sys2Proof.Machine.execRangingTimeResend n t s
  | .correctionResend n t => Sys2Proof.Machine.execCorrectionResend n t s
  | .verifyTimeout n t => Sys2Proof.Machine.execVerifyTimeout n t s
  | .accept n t => Sys2Proof.Machine.execAccept n t s
  | .rerange n t => Sys2Proof.Machine.execRerange n t s
  | .release n t => Sys2Proof.Machine.execRelease n t s
  | .retry n t => Sys2Proof.Machine.execRetry n t s
  | .snAdmit n t => Sys2Proof.Machine.execSnAdmit n t s
  | .snDrop n => Sys2Proof.Machine.execSnDrop n s
  | .snReserve n t => Sys2Proof.Machine.execSnReserve n t s
  | .recomputationStart n => Sys2Proof.Machine.execRecomputationStart n s
  | .deadlineNear n => Sys2Proof.Machine.execDeadlineNear n s
  | .treeDone n c => Sys2Proof.Machine.execTreeDone n c s
  | .recomputationDeadline n => Sys2Proof.Machine.execRecomputationDeadline n s
  | .insertion n c => Sys2Proof.Machine.execInsertion n c s
  | .allocRead n k => Sys2Proof.Machine.execAllocRead n k s
  | .allocWrite n k => Sys2Proof.Machine.execAllocWrite n k s
  | .profileHoldEnd n p => Sys2Proof.Machine.execProfileHoldEnd n p s
  | .opNext e c => Sys2Proof.Machine.execNext e c s
  | .opJump e c => Sys2Proof.Machine.execJump e c s
  | .opBranch e c => Sys2Proof.Machine.execBranch e c s
  | .opCall e c => Sys2Proof.Machine.execCall e c s
  | .opReturn e c => Sys2Proof.Machine.execReturn e c s
  | .opWait e c => Sys2Proof.Machine.execWait e c s
  | .opLoop e c => Sys2Proof.Machine.execLoop e c s
  | .opSpanOpen e c => Sys2Proof.Machine.execSpanOpen e c s
  | .opSpanClose e c => Sys2Proof.Machine.execSpanClose e c s
  | .opDone e c => Sys2Proof.Machine.execDone e c s
  | .opHret e c => Sys2Proof.Machine.execHret e c s
  | .opHook e c => Sys2Proof.Machine.execHook e c s
  | .opIdle e c => Sys2Proof.Machine.execIdle e c s
  | .trap e c => Sys2Proof.Machine.execTrap e c s
  | .opAdd e c => Sys2Proof.Machine.execAdd e c s
  | .opSub e c => Sys2Proof.Machine.execSub e c s
  | .opAnd e c => Sys2Proof.Machine.execAnd e c s
  | .opOr e c => Sys2Proof.Machine.execOr e c s
  | .opXor e c => Sys2Proof.Machine.execXor e c s
  | .opShl e c => Sys2Proof.Machine.execShl e c s
  | .opShr e c => Sys2Proof.Machine.execShr e c s
  | .opSar e c => Sys2Proof.Machine.execSar e c s
  | .opMin e c => Sys2Proof.Machine.execMin e c s
  | .opMax e c => Sys2Proof.Machine.execMax e c s
  | .opMinu e c => Sys2Proof.Machine.execMinu e c s
  | .opMaxu e c => Sys2Proof.Machine.execMaxu e c s
  | .opMul e c => Sys2Proof.Machine.execMul e c s
  | .opMulhu e c => Sys2Proof.Machine.execMulhu e c s
  | .opCmp e c => Sys2Proof.Machine.execCmp e c s
  | .opAddi e c => Sys2Proof.Machine.execAddi e c s
  | .opMovi e c => Sys2Proof.Machine.execMovi e c s
  | .opShlor e c => Sys2Proof.Machine.execShlor e c s
  | .opLd e c => Sys2Proof.Machine.execLd e c s
  | .opSt e c => Sys2Proof.Machine.execSt e c s
  | .opLdl e c => Sys2Proof.Machine.execLdl e c s
  | .opStl e c => Sys2Proof.Machine.execStl e c s
  | .lineLands e k => Sys2Proof.Machine.execLineLands e k s
  | .opAllocRd e c => Sys2Proof.Machine.execAllocRd e c s
  | .opRpt e c => Sys2Proof.Machine.execRpt e c s
  | .opWsa e c => Sys2Proof.Machine.execWsa e c s
  | .opSize e c => Sys2Proof.Machine.execSize e c s
  | .opIns e c => Sys2Proof.Machine.execIns e c s
  | .opAcc e c => Sys2Proof.Machine.execAcc e c s
  | .opAccRd e c => Sys2Proof.Machine.execAccRd e c s
  | .opBar e c => Sys2Proof.Machine.execBar e c s
  | .opDiv e c => Sys2Proof.Machine.execDiv e c s
  | .assistResult e c => Sys2Proof.Machine.execAssistResult e c s
  | .spanCap e c => Sys2Proof.Machine.execSpanCap e c s
  | .hookTimeout e c => Sys2Proof.Machine.execHookTimeout e c s
  | .engineStop e c => Sys2Proof.Machine.execEngineStop e c s
  | .engineStart e => Sys2Proof.Machine.execEngineStart e s
  | .openLoadShadow => Sys2Proof.Machine.execOpenLoadShadow s
  | .openLoadSlot slot => Sys2Proof.Machine.execOpenLoadSlot slot s
  | .openCheckEnd => Sys2Proof.Machine.execOpenCheckEnd s
  | .openLoaded => Sys2Proof.Machine.execOpenLoaded s
  | .taskPost typ engine tag arg => Sys2Proof.Machine.execTaskPost typ engine tag arg s
  | .taskStart e c => Sys2Proof.Machine.execTaskStart e c s
  | .taskTimeout e c => Sys2Proof.Machine.execTaskTimeout e c s
  | .taskResultRead => Sys2Proof.Machine.execTaskResultRead s
  | .uplinkRxFrame u kind x bytes fcsBad corr uncorr selected => Sys2Proof.Machine.execUplinkRxFrame u kind x bytes fcsBad corr uncorr selected s
  | .pfcRx u classes zero => Sys2Proof.Machine.execPfcRx u classes zero s
  | .pauseExpire u c => Sys2Proof.Machine.execPauseExpire u c s
  | .linkDown u => Sys2Proof.Machine.execLinkDown u s
  | .linkUp u => Sys2Proof.Machine.execLinkUp u s
  | .frameLookup hold brNs flNs => Sys2Proof.Machine.execFrameLookup hold brNs flNs s
  | .learnCommit k => Sys2Proof.Machine.execLearnCommit k s
  | .churnVisit k flow => Sys2Proof.Machine.execChurnVisit k flow s
  | .tableRead table key => Sys2Proof.Machine.execTableRead table key s
  | .tableWrite table key clr wrCount => Sys2Proof.Machine.execTableWrite table key clr wrCount s
  | .tableDelete table key => Sys2Proof.Machine.execTableDelete table key s
  | .flushOwner table key => Sys2Proof.Machine.execFlushOwner table key s
  | .flushDone k => Sys2Proof.Machine.execFlushDone k s
  | .cellAlloc => Sys2Proof.Machine.execCellAlloc s
  | .cellFree c x => Sys2Proof.Machine.execCellFree c x s
  | .hostCellAlloc => Sys2Proof.Machine.execHostCellAlloc s
  | .hostCellFree c => Sys2Proof.Machine.execHostCellFree c s
  | .pauseRefresh u => Sys2Proof.Machine.execPauseRefresh u s
  | .uplinkTxSelect u => Sys2Proof.Machine.execUplinkTxSelect u s
  | .tmgTableRead table index => Sys2Proof.Machine.execTmgTableRead table index s
  | .tmgTableWrite table index => Sys2Proof.Machine.execTmgTableWrite table index s
  | .cipherRequestStart => Sys2Proof.Machine.execCipherRequestStart s
  | .cipherRequestDone k => Sys2Proof.Machine.execCipherRequestDone k s
  | .hreqCtr decrypt a tag len => Sys2Proof.Machine.execHreqCtr decrypt a tag len s
  | .hreqCbc decrypt a tag len => Sys2Proof.Machine.execHreqCbc decrypt a tag len s
  | .hreqCfb decrypt a tag len => Sys2Proof.Machine.execHreqCfb decrypt a tag len s
  | .hreqCmac verify a tag len => Sys2Proof.Machine.execHreqCmac verify a tag len s
  | .hreqResultRead => Sys2Proof.Machine.execHreqResultRead s
  | .importSession slot wrap => Sys2Proof.Machine.execImportSession slot wrap s
  | .importData slot wrap => Sys2Proof.Machine.execImportData slot wrap s
  | .importGroup slot wrap => Sys2Proof.Machine.execImportGroup slot wrap s
  | .importAuth slot wrap data => Sys2Proof.Machine.execImportAuth slot wrap data s
  | .importEnd => Sys2Proof.Machine.execImportEnd s
  | .prevKeyZeroize k => Sys2Proof.Machine.execPrevKeyZeroize k s
  | .slotErase k session => Sys2Proof.Machine.execSlotErase k session s
  | .slotZeroized k => Sys2Proof.Machine.execSlotZeroized k s
  | .keyControlSend x index => Sys2Proof.Machine.execKeyControlSend x index s
  | .dsIndexSwitch x index => Sys2Proof.Machine.execDsIndexSwitch x index s
  | .bindWrite b w => Sys2Proof.Machine.execBindWrite b w s
  | .dramRequest r addr data => Sys2Proof.Machine.execDramRequest r addr data s
  | .dramRequestServed p notReady act ecc drift => Sys2Proof.Machine.execDramRequestServed p notReady act ecc drift s
  | .agePromote p id => Sys2Proof.Machine.execAgePromote p id s
  | .panic r level => Sys2Proof.Machine.execPanic r level s
  | .refreshDue p busy => Sys2Proof.Machine.execRefreshDue p busy s
  | .refreshRepay p busy => Sys2Proof.Machine.execRefreshRepay p busy s
  | .selfRefreshEntry p => Sys2Proof.Machine.execSelfRefreshEntry p s
  | .selfRefreshExit p => Sys2Proof.Machine.execSelfRefreshExit p s
  | .segmentZeroed => Sys2Proof.Machine.execSegmentZeroed s
  | .rhWindowEnd => Sys2Proof.Machine.execRhWindowEnd s
  | .patrolScrub ecc => Sys2Proof.Machine.execPatrolScrub ecc s
  | .ptpSyncRx u domain t1 t2 cs => Sys2Proof.Machine.execPtpSyncRx u domain t1 t2 cs s
  | .ptpFollowUpRx u t1 c => Sys2Proof.Machine.execPtpFollowUpRx u t1 c s
  | .ptpDelayRespRx u t4 cd => Sys2Proof.Machine.execPtpDelayRespRx u t4 cd s
  | .phaseMeasurement => Sys2Proof.Machine.execPhaseMeasurement s
  | .ptpDelayReqRx u q => Sys2Proof.Machine.execPtpDelayReqRx u q s
  | .ptpSyncTx u => Sys2Proof.Machine.execPtpSyncTx u s
  | .ptpDelayReqTx u t3 => Sys2Proof.Machine.execPtpDelayReqTx u t3 s
  | .ptpSourceLost => Sys2Proof.Machine.execPtpSourceLost s
  | .ppsSourceLost => Sys2Proof.Machine.execPpsSourceLost s
  | .synceLost => Sys2Proof.Machine.execSynceLost s
  | .ppsInEdge at_ since => Sys2Proof.Machine.execPpsInEdge at_ since s
  | .ppsOut => Sys2Proof.Machine.execPpsOut s
  | .serTodTx => Sys2Proof.Machine.execSerTodTx s
  | .serTodRx bytes => Sys2Proof.Machine.execSerTodRx bytes s
  | .jumpAccept => Sys2Proof.Machine.execJumpAccept s
  | .jumpRebase => Sys2Proof.Machine.execJumpRebase s
  | .jumpReject => Sys2Proof.Machine.execJumpReject s
  | .todRequest n t ahead => Sys2Proof.Machine.execTodRequest n t ahead s
  | .timeSnapRead => Sys2Proof.Machine.execTimeSnapRead s
  | .heartbeatTx path selected => Sys2Proof.Machine.execHeartbeatTx path selected s
  | .heartbeatRx path beat near missed => Sys2Proof.Machine.execHeartbeatRx path beat near missed s
  | .pathLost path => Sys2Proof.Machine.execPathLost path s
  | .verdictRequestHost => Sys2Proof.Machine.execVerdictRequestHost s
  | .verdictTimeout => Sys2Proof.Machine.execVerdictTimeout s
  | .promote => Sys2Proof.Machine.execPromote s
  | .demote => Sys2Proof.Machine.execDemote s
  | .verdictHold => Sys2Proof.Machine.execVerdictHold s
  | .fence => Sys2Proof.Machine.execFence s
  | .verdictApplied => Sys2Proof.Machine.execVerdictApplied s
  | .arbGntVerdict level => Sys2Proof.Machine.execArbGntVerdict level s
  | .kapTxPop => Sys2Proof.Machine.execKapTxPop s
  | .oxlLinkTrained oxlMin oxlMax schemaMin schemaMax => Sys2Proof.Machine.execOxlLinkTrained oxlMin oxlMax schemaMin schemaMax s
  | .mirrorRecordRx mg r => Sys2Proof.Machine.execMirrorRecordRx mg r s
  | .bulkCopyDone => Sys2Proof.Machine.execBulkCopyDone s
  | .revertRequest => Sys2Proof.Machine.execRevertRequest s
  | .hostRxPop => Sys2Proof.Machine.execHostRxPop s
  | .hostTxPost slot port len => Sys2Proof.Machine.execHostTxPost slot port len s
  | .hostTxSend => Sys2Proof.Machine.execHostTxSend s
  | .perst => Sys2Proof.Machine.execPerst s
  | .pcieLinkDown => Sys2Proof.Machine.execPcieLinkDown s
  | .bar2BaseWrite base => Sys2Proof.Machine.execBar2BaseWrite base s
  | .apiMinorSelect minor => Sys2Proof.Machine.execApiMinorSelect minor s
  | .i2cTransaction write addr value => Sys2Proof.Machine.execI2cTransaction write addr value s
  | .spiRead opcode addrBytes dummy len quad => Sys2Proof.Machine.execSpiRead opcode addrBytes dummy len quad s
  | .spiWrite opcode addrBytes dummy len quad => Sys2Proof.Machine.execSpiWrite opcode addrBytes dummy len quad s
  | .spiDone data writes => Sys2Proof.Machine.execSpiDone data writes s
  | .eventOccurrence id => Sys2Proof.Machine.execEventOccurrence id s
  | .recordDue src => Sys2Proof.Machine.execRecordDue src s
  | .recordWrite => Sys2Proof.Machine.execRecordWrite s
  | .evtRingWrite w => Sys2Proof.Machine.execEvtRingWrite w s
  | .evtCiWrite v => Sys2Proof.Machine.execEvtCiWrite v s
  | .freezeEnd mask => Sys2Proof.Machine.execFreezeEnd mask s
  | .counterWrite k w incs => Sys2Proof.Machine.execCounterWrite k w incs s
  | .chainedCounterRead k => Sys2Proof.Machine.execChainedCounterRead k s
  | .snapshot => Sys2Proof.Machine.execSnapshot s
  | .skimRecord => Sys2Proof.Machine.execSkimRecord s
  | .skimPop => Sys2Proof.Machine.execSkimPop s
  | .histClear h => Sys2Proof.Machine.execHistClear h s
  | .viewBind v k w => Sys2Proof.Machine.execViewBind v k w s
  | .viewWrite v => Sys2Proof.Machine.execViewWrite v s
  | .injUnlockKey l key => Sys2Proof.Machine.execInjUnlockKey l key s
  | .injExpired l => Sys2Proof.Machine.execInjExpired l s
  | .injCfgWrite l w => Sys2Proof.Machine.execInjCfgWrite l w s
  | .deviceUnpowered tornRec tornFault => Sys2Proof.Machine.execDeviceUnpowered tornRec tornFault s
  | .pcieLinkUp => Sys2Proof.Machine.execPcieLinkUp s
  | .synceRestored => Sys2Proof.Machine.execSynceRestored s
  | .busMasterEnable => Sys2Proof.Machine.execBusMasterEnable s

end Sys2Proof.Machine
end

