-- ==== Sys2Proof/Machine/Pins.lean ====
section
/-! DEFINITION. Machine/Pins.lean: what the device shows at its pins, as functions of the state (R130 to R132, R445, R497), and its
identities (R494, R504). -/
namespace Sys2Proof.Machine

/-- What a pin or a group of lanes shows (R497). -/
inductive PinState where
  | highZ | low | high | driven | idle | off | live | scanned
  deriving DecidableEq, Repr

/-- VIOB is off: no power-on reset release, steps 1 and 2, and ASLEEP (R130, R497). -/
def State.viobOff (s : State) : Bool := !s.awake || s.mode == mAsleep || !s.hostIf.endpoint
/-- HOLDING after the quiesce of R55. -/
def State.dark (s : State) : Bool := s.mode == mHolding && s.pwr.quiesced

def levelOf (b : Bool) : PinState := if b then .high else .low

/-- The sequencer has stopped after step 2 with SCAN_N low: the boundary-scan instructions have the pins, every differential lane among
them (R494). -/
def State.scanHolds (s : State) : Bool :=
  s.awake && s.cfg.scan && s.cfg.run.isNone && s.rd F.CFG_BOOT_STAT_STEP == 2 && s.hostIf.endpoint
/-- What a pin shows by the mode, unless a boundary-scan instruction has it. -/
def State.orScan (s : State) (p : PinState) : PinState := if s.scanHolds then .scanned else p

/-- What a rail feeds (R490): nothing, everything on it, S0 alone, or the optics control pins alone. -/
inductive RailFeed where
  | off | full | s0Only | controlPins
  deriving DecidableEq, Repr

/-- A rail's state in the running mode: in HOLDING, once the capture is frozen, the tile rails are off but for S0 (R55, R490). -/
def State.railFeed (s : State) (r : Rail) : RailFeed :=
  if ¬ s.pwr.rails.contains r then .off
  else if s.mode = mHolding then
    match r with
    | .vcore => if s.pwr.save.any (·.captured) then .s0Only else .full
    | .vsram => if s.pwr.save.any (·.captured) then .s0Only else .full
    | .viob => .controlPins
    | _ => .full
  else .full
/-- VAUX stays up while the part has its supply (R490). -/
def State.vauxUp (s : State) : Bool := s.pwr.phase != .unpowered

/-- TPn_MEN: in HOLDING its level is kept (R131). -/
def State.menPin (s : State) (n : Nat) : PinState :=
  s.orScan (if s.viobOff then .highZ else levelOf (s.on (F.TPA_STAT_MEN n)))
/-- TPn_BEN: low in STANDBY and from the quiesce (R36, R132). -/
def State.benPin (s : State) (n : Nat) : PinState :=
  s.orScan (if s.viobOff then .highZ else levelOf (s.on (F.TPA_STAT_BEN n) && !s.dark && s.mode != mStandby))
/-! The burst reset (R133 to R135, R140). Instants here are tenths of a nanosecond from a tick; the windows alone set them, whatever the
signal detect shows (R140). -/

/-- The BRST pulse before window `x`, as its instants of assertion and release from the tick of that window's frame; none where it would be
shorter than 1.6 ns (R134, R135). `w` is the window that closes before it, where there is one. -/
def brstPulse (s : State) (n : Nat) (w : Option Win) (x : Win) : Option (Int × Int) :=
  let off := x.opens * 10 - (4 * s.brstSetup n : Nat)
  let early := off - (4 * s.brstMax n : Nat)
  let on := match w with
    | none => early
    | some v => max ((v.closes - ((x.frame : Int) - v.frame) * 125000) * 10 + (4 * s.brstLag n : Nat)) early
  if off - on < 16 then none else some (on, off)

/-- The level that a list of windows schedules at instant `t` of frame `f`, after window `w`. -/
def brstHigh (s : State) (n f : Nat) (t : Int) : Option Win → List Win → Bool
  | _, [] => false
  | w, x :: r =>
    let d := ((x.frame : Int) - f) * 1250000
    ((brstPulse s n w x).any fun p => decide (p.1 + d ≤ t) && decide (t < p.2 + d)) || brstHigh s n f t (some x) r

/-- TPn_BRST at instant `t` of the running frame (R134, R140, R497). -/
def State.brstPin (s : State) (n : Nat) (t : Int) : PinState :=
  s.orScan (if s.viobOff then .highZ else if s.mode = mHolding then .low
  else levelOf (brstHigh s n s.ticks t (s.tree n).closed (s.tree n).wins))

/-- The rate to which the receiver is set at instant `t` of the running frame: that of the first window which has not yet closed, to which it
switches at the close before it, on time or late (R134, R135); the last one's where none waits. -/
def State.rxRate (s : State) (n : Nat) (t : Int) : Option Nat :=
  match (s.tree n).wins.find? fun w => decide (t < (((w.frame : Int) - s.ticks) * 125000 + w.closes) * 10) with
  | some w => some w.rate
  | none => ((s.tree n).wins.getLast? <|> (s.tree n).closed).map Win.rate

/-- What a port's receiver takes its bits from: its lane, in burst mode at a rate, or, under loopback 1, the port's own serializer, in continuous
mode at the downstream rate of an F50 or an X10 tree (R151). -/
inductive RxPath where
  | lane (rate : Option Nat)
  | ownSerializer (f50 : Bool)
  deriving DecidableEq, Repr

/-- The receive path of port `n` at instant `t` of the running frame. -/
def State.rxPath (s : State) (n : Nat) (t : Int) : RxPath :=
  if s.looped n then .ownSerializer (hasBit s.f50Trees n) else .lane (s.rxRate n t)

/-- TPn_MSEL. -/
def State.mselPin (s : State) : PinState :=
  s.orScan (if s.viobOff then .highZ else if s.mode = mHolding then .low else .driven)
/-- The transmit lanes of the tree ports. -/
def State.treeLanes (s : State) : PinState :=
  s.orScan (if ¬ s.awake then .idle else if s.mode = mAsleep then .off else if ¬ s.hostIf.endpoint then .idle else if s.dark then .off
  else if s.mode = mStandby then .idle else .live)
/-- The transmit lanes of the uplinks and of OXL. -/
def State.linkLanes (s : State) : PinState :=
  s.orScan (if ¬ s.awake then .idle else if s.mode = mAsleep then .off else if ¬ s.hostIf.endpoint then .idle else if s.dark then .off else .live)
/-- HB: off in HOLDING but for the beat with GASP (R403). -/
def State.hbLane (s : State) : PinState :=
  s.orScan (if s.viobOff ∨ s.mode = mHolding then .off else .live)
/-- 1PPS_OUT: high from its edge for PPS_WIDTH_MS (R396). -/
def State.ppsPin (s : State) : PinState :=
  s.orScan (if s.viobOff then .highZ else if s.mode = mHolding then .low else levelOf s.ppsHigh)
/-- 1PPS_OUT and TOD_OUT as R497 shows them. -/
def State.timePins (s : State) : PinState :=
  s.orScan (if s.viobOff then .highZ else if s.mode = mHolding then .low else .driven)
/-- ARB_REQ (R411). -/
def State.arbReqPin (s : State) : PinState :=
  s.orScan (if s.viobOff then .highZ else if s.mode = mHolding then .low else levelOf s.prt.arbReq)
/-- EVT_N, an open drain (R445). -/
def State.evtPin (s : State) : PinState :=
  s.orScan (if !s.viobOff && s.evtN then .low else .highZ)
/-- The I2C target, and the PCIe lanes, whose link is down from the quiesce (R435, R440). -/
def State.i2cTarget (s : State) : PinState := if s.awake then .live else .off
def State.pcieLanes (s : State) : PinState :=
  s.orScan (if s.viobOff ∨ s.dark then .off else .live)

/-- The identities of R504 and the boundary-scan code of R494. -/
def pcieVendorId : Nat := 0x1DF7
def pcieDeviceId : Nat := 0x3250
def pcieRevisionId : Nat := 2
def pcieSubsystemVendorId : Nat := 0x1DF7
/-- The subsystem ID of grade KE or KA. -/
def pcieSubsystemId (ke : Bool) : Nat := if ke then 1 else 2
def pcieClassCode : Nat := 0x028000
def idcode : Nat := 0x232504B3
/-- The IDCODE instruction answers while VIOB, which feeds JTAG, is up (R494). -/
def State.tapId (s : State) : Option Nat := if s.viobOff then none else some idcode

end Sys2Proof.Machine
end

