-- ==== Sys2Proof/Safety.lean ====
section
/-! DEFINITION. Safety.lean: the terms in which claims about the machine are stated: the canonical forms that every step keeps, and what
a command leaves unchanged. -/
namespace Sys2Proof.Machine

/-- Device DRAM, the flash and host memory are in canonical form, and the register file and the shadow copies list rising keys. -/
structure State.Inv (s : State) : Prop where
  dram : Memory.wf s.dram = true
  flash : Memory.wf s.flash = true
  hostMem : Memory.wf s.hostMem = true
  regs : SMap.rising s.regs = true
  shadow : SMap.rising s.shadow = true

/-- The key of a field that raising an event may change: event status, reflex counts and status, and the counters of OBS (R441, R448,
R451). -/
def evtKey (k : Nat) : Bool :=
  (decide (0x1000 ≤ k / 64) && decide (k / 64 < 0x10C0)) || (decide (0x4800 ≤ k / 64) && decide (k / 64 < 0x4C00)) ||
    k / 64 == 0x4C04 || (decide (0x3F30008 ≤ k / 64) && decide (k / 64 < 0x3F32008))

/-- Every register field but the listed ones and those of `evtKey` reads as before. -/
def RegFrame (l : List Fld) (s t : State) : Prop :=
  ∀ f : Fld, f.key ∉ l.map Fld.key → evtKey f.key = false → t.rd f = s.rd f

/-- Every register field but the listed ones reads as before: what a command shows that raises no event. -/
def RegOnly (l : List Fld) (s t : State) : Prop :=
  ∀ f : Fld, f.key ∉ l.map Fld.key → t.rd f = s.rd f

/-- `t` with everything that registers, records of events and free values make of it taken back to `s`. -/
def State.calm (t s : State) : State := { t with regs := s.regs, hub := s.hub, store := s.store, fresh := s.fresh }

/-- `t` with its registers and its count of free values taken back to `s`: nothing else may differ after a command that raises no event. -/
def State.still (t s : State) : State := { t with regs := s.regs, fresh := s.fresh }

/-- Every byte of device DRAM, of the flash and of host memory reads as before. -/
def MemFrame (s t : State) : Prop :=
  ∀ a : Nat, Memory.read t.dram a = Memory.read s.dram a ∧ Memory.read t.flash a = Memory.read s.flash a ∧
    Memory.read t.hostMem a = Memory.read s.hostMem a

/-- The status bit of an event is set (R441). -/
def State.status (s : State) (e : Ev) : Bool := hasBit (s.rd (F.HIF_EVT_STAT_STAT (e.id / 32))) (e.id % 32)

/-- The host reaches BAR0 over PCIe and holds back no word (R435, R474). -/
def State.hostReady (s : State) : Bool := s.reach .pcie && s.hostIf.pcieMem == .none

/-- An access of device DRAM at `a` is served at once: the stacks run, its pseudo-channel refreshes normally and no request waits there, and
its segment is neither released nor waits to be zeroed (R359 to R364). -/
def State.stackCalm (s : State) (a : Nat) : Bool :=
  s.stacks && s.rd (F.DRC_PC_STAT_STATE (pcOf a)) == 0 && (s.pc (pcOf a)).queue.isEmpty && !s.releasedSeg (segOf a) &&
    !s.unzeroedSeg (segOf a)

/-- The fields that activating a row may change (R369). -/
def rhFields : List Fld :=
  [F.DRC_RH_LAST_PC, F.DRC_RH_LAST_ROW_GROUP, F.DRC_RH_LAST_REQUESTER, F.DRC_RH_LAST_PANIC, F.DRC_RH_LAST_FRAME, F.DRC_RH_LAST_REQ_ACTS,
    F.DRC_RH_STAT_CROSSINGS, F.DRC_RH_STAT_THROTTLED]

/-- Engine `e` executes the word `w` at cycle `c` of the frame: it can run, no limit has ended the word, and the word neither traps nor
stalls nor waits (R238, R239, R245). -/
def State.executes (s : State) (e c : Nat) (w : MWord) : Bool :=
  s.wordAt e == w && s.canRun e c && !s.overrun e c && (s.trapCode e c w).isNone && !s.stalls e c w && !s.waits e c w

/-- The engine takes no signal after the word at hand: none is pending (R245). -/
def State.quietEng (s : State) (e : Nat) : Bool := (s.eng e).pend == 0

/-- Of MEC only engine `e` may differ, and of the registers only what MEC_ENG_STAT shows of it. -/
def EngFrame (e : Nat) (s t : State) : Prop :=
  RegFrame [F.MEC_ENG_STAT_STATE e, F.MEC_ENG_STAT_SPAN e, F.MEC_ENG_STAT_OPEN e, F.MEC_ENG_STAT_PC e] s t ∧
    { t.calm s with mec := s.mec } = s ∧ t.mec = { s.mec with engines := SMap.put s.mec.engines e (t.eng e) }

end Sys2Proof.Machine
end

