-- ==== Sys2Proof/Certificates/Slice0/Obligations.lean ====
section
/-! DEFINITION. Certificates/Slice0/Obligations.lean: the statements for the provers. Each clause of a per-command statement says that the command
answers a next state under hypotheses on the state and the operands alone, what that state holds, and what it leaves unchanged. `RegFrame` and
`State.calm` leave room for what raising an event shows; `RegOnly` and `State.still` do not. -/
open Sys2Proof Sys2Proof.Machine

/-- A step of a state with a command at the front of its queue is `exec` of that command on the state with the queue's rest (the model's own
  convention of a queue, assumption 1). Time and the queue are the model's choice (log entries 1, 5). -/
def Obligations.StepRunsFrontCommand : Prop :=
  (∀ (c : Instr) (s : State),
      step { s with pending := c :: s.pending } = exec c s)

/-- The block idles on an empty queue: a DESIGN CHOICE of the model (assumption 1), no rule of the spec. -/
def Obligations.EmptyQueueIdles : Prop :=
  (∀ (s : State),
      s.pending = [] →
      step s = .next s)

/-- No command ends in a fault or a refusal of the model, in any state, and none changes the queue of waiting commands. That a command whose
  condition does not hold leaves the state as it was, and answers next all the same, is the model's choice (log entries 1, 16). -/
def Obligations.EveryCommandAnswersNext : Prop :=
  (∀ (c : Instr) (s : State),
      ∃ t, exec c s = .next t ∧ t.pending = s.pending)

/-- The invariant of `StepKeepsTheForms` holds after reset. The forms are the model's own, and the empty memories its choice (log entry 3). -/
def Obligations.ResetKeepsTheForms : Prop :=
  (
      State.reset.Inv)

/-- Every step keeps the canonical form of the three memories and of the register files, whatever the command and its operands. The canonical
  forms are the model's own (log entry 3: an unlisted byte reads 0). -/
def Obligations.StepKeepsTheForms : Prop :=
  (∀ (s t : State),
      s.Inv → step s = .next t →
      t.Inv)

/-- The machine right after reset: STARTING with CAUSE 1, step 1 begun (R39, R101), every other register at the reset value of its table
  (R477). The model's choices: a field whose table gives no reset value reads 0 (log entry 2), and memory that nothing has written reads
  0 (log entry 3). The fields with a reset value follow R477. -/
def Obligations.ResetLeavesStarting : Prop :=
  (
      State.reset.mode = mStarting ∧ State.reset.rd F.CFG_BOOT_STAT_CAUSE = 1 ∧ State.reset.rd F.CFG_BOOT_STAT_STEP = 1 ∧
      State.reset.rd (F.CFG_BOOT_STEP_OUTCOME 1) = 7 ∧ State.reset.rd (F.CFG_BOOT_STEP_ATTEMPTS 1) = 1 ∧
      State.reset.rd F.CFG_BOOT_STAT_HALTED = 0 ∧ State.reset.ticks = 0 ∧ State.reset.tsu.sec = 0 ∧ State.reset.tsu.ns = 0 ∧
      State.reset.rd F.PRT_STAT_ROLE = 0 ∧ State.reset.status E.TSU_FREERUN = true ∧ State.reset.rd F.TSU_STAT_STATE = 0 ∧
      (∀ f : Fld, f.key ∉ [F.CFG_BOOT_STAT_STEP, F.CFG_BOOT_STAT_CAUSE, F.CFG_BOOT_STEP_OUTCOME 1, F.CFG_BOOT_STEP_ATTEMPTS 1,
        F.PWR_MODE_CUR, F.HIF_EVT_STAT_STAT 2].map Fld.key → State.reset.rd f = f.rst) ∧
      { startOver 1 State.initial with fresh := 0 } = State.reset ∧ State.reset.pending = [] ∧ State.reset.dram = [])

/-- Read after write for the three byte memories. That an unlisted byte reads 0 is the model's choice (log entry 3). -/
def Obligations.MemoryReadsBackWhatIsWritten : Prop :=
  (∀ (m : Memory) (a b : Nat) (v : Byte),
      (m.write a v).read a = v ∧ (b ≠ a → (m.write a v).read b = m.read b) ∧ (Memory.wf m = true → Memory.wf (m.write a v) = true))

/-- Supply, power-on reset and board reset (R39, R58, R490, R492, R495). The model's choices: DRAM that nothing has written reads 0 (log
  entry 3), the mode field reads 0 with the device unpowered (log entry 2), and what a start brings up again (log entry 20). -/
def Obligations.SupplyAndReset : Prop :=
  (∀ (s : State),
      s.pwr.phase = .unpowered →
      ∃ t, exec (.vinRise) s = .next t ∧ t = { s with pwr := { s.pwr with phase := .vauxUp, nextCause := 1 } }) ∧
  (∀ (s : State) (vin hold : Nat) (scan : Bool),
      (s.pwr.phase = .vauxUp ∨ s.pwr.phase = PowerPhase.resetHeld) → 4500 ≤ vin → (s.pwr.nextCause = 1 ∨ s.pwr.nextCause = 6) →
      ∃ t, exec (.powerOnResetRelease vin hold scan) s = .next t ∧ t.mode = mStarting ∧ t.rd F.CFG_BOOT_STAT_CAUSE = s.pwr.nextCause ∧
      t.rd F.CFG_BOOT_STAT_STEP = 1 ∧ t.rd F.PWR_VIN_VIN_MV = vin % 65536 ∧ t.cfg.run = some (RunStep.mk 1 false 1 false) ∧
      t.cfg.scan = scan ∧ t.pwr.phase = PowerPhase.running ∧ t.ticks = 0 ∧ t.dram = [] ∧ t.flash = s.flash ∧ t.hostMem = s.hostMem ∧
      t.pending = s.pending) ∧
  (∀ (s : State) (rec fault : Bool),
      s.pwr.phase = .running → s.mode ≠ mHolding →
      ∃ t, exec (.boardReset rec fault) s = .next t ∧ t.pwr.phase = PowerPhase.resetHeld ∧ t.pwr.nextCause = 6 ∧ t.regs = s.regs ∧
      MemFrame s t ∧ t.pending = s.pending) ∧
  (∀ (s : State) (rec fault : Bool),
      s.pwr.phase = .running → s.mode = mHolding →
      ∃ t, exec (.boardReset rec fault) s = .next t ∧ t = { s with pwr := { s.pwr with resetWaits := true } }) ∧
  (∀ (s : State) (rec fault : Bool),
      ∃ t, exec (.deviceUnpowered rec fault) s = .next t ∧ t.pwr.phase = PowerPhase.unpowered ∧ t.dram = [] ∧ t.rd F.PWR_MODE_CUR = 0 ∧
      t.flash = s.flash ∧ t.hostMem = s.hostMem ∧ t.pending = s.pending ∧ t.store.ctrlA = s.store.ctrlA ∧ t.store.copyA = s.store.copyA ∧
      t.store.copyB = s.store.copyB)

/-- The brown-out save, command by command (R38, R52, R54, R55, R56, R58, R64). The model's choices: which count REWRITES gives, the place of
  the SAVE and INTERRUPTED records and LAST_DUR (log entry 23), every key slot zeroized at the capture (log entry 27), and what stands in
  a copy that no save completed (log entry 68). -/
def Obligations.BrownOutSave : Prop :=
  (∀ (s : State),
      s.awake = true → isService s.mode = true → s.on F.PWR_SAVE_ARM_ARMED = true → s.pwr.warnReady = true →
      ∃ t, exec (.vWarnCross) s = .next t ∧ t.mode = mHolding ∧ t.on F.PWR_SAVE_STAT_BUSY = true ∧ t.pwr.suppress = true ∧
      t.pwr.warnReady = false ∧ t.pwr.recoverOwed = true ∧
      (∃ r, t.pwr.save = some r ∧ r.brownout = true ∧ r.cause = 1 ∧ r.target = s.store.target ∧ r.target ≠ s.store.latest ∧ r.captured =
        false ∧ r.block = 0 ∧ r.header = false) ∧ t.status E.PWR_V_WARN_CROSS = true ∧ t.flash = s.flash ∧ t.hostMem = s.hostMem ∧
      t.dram = s.dram) ∧
  (∀ (s : State) (mv : Nat),
      s.awake = true → s.holdingSave = true → s.pwr.quiesced = false → mv < 65536 →
      ∃ t, exec (.holdSwitchClose mv) s = .next t ∧ t.pwr.quiesced = true ∧ t.rd F.PWR_HOLD_CHG_ON = 0 ∧ t.rd F.PWR_HOLD_HOLD_MV = mv ∧
      (if 8000 ≤ mv then t.pwr.switchClosed = true ∧ t.pwr.vinPathOpen = true else t.rd F.PWR_HOLD_SAVE_ON_VIN = 1 ∧ ∃ r, t.pwr.save =
        some r ∧ r.lowHold = true) ∧ t.hostIf.pcieLive = false ∧ MemFrame s t) ∧
  (∀ (s : State) (r : SaveRun),
      s.awake = true → s.holdingSave = true → s.pwr.quiesced = true → s.pwr.save = some r → r.captured = false →
      ∃ t, exec (.captureFrozen) s = .next t ∧ t.pwr.save = some { r with captured := true } ∧
      (r.writes = true → t.capture = some (captureSet s)) ∧ t.rd F.DRC_SEG_STAT_RELEASED = 2 ^ 64 - 1 ∧
      (∀ p < 32, t.rd (F.DRC_PC_STAT_STATE p) = 2) ∧ t.cph.running = [] ∧
      (∀ k, (t.kslot k).key = none ∧ (t.kslot k).staged = none ∧ (t.kslot k).prev = none ∧ (t.kterm k).session = none ∧ (t.kterm k).mik =
        none ∧ (t.kterm k).kek = none) ∧ t.flash = s.flash ∧ t.hostMem = s.hostMem ∧ t.mode = mHolding) ∧
  (∀ (s : State) (r : SaveRun) (us : Nat),
      s.awake = true → s.pwr.save = some r → r.writes = true → r.captured = true → r.block < 785 →
      ∃ t, exec (.wheyBlockWritten true us) s = .next t ∧ t.pwr.save = some { r with block := r.block + 1, mism := 0 } ∧
      t.regs = s.regs ∧ MemFrame s t) ∧
  (∀ (s : State) (r : SaveRun) (us : Nat),
      s.awake = true → s.pwr.save = some r → r.writes = true → r.captured = true → r.block < 785 → r.mism < 2 →
      ∃ t, exec (.wheyBlockWritten false us) s = .next t ∧ t.pwr.save = some { r with mism := r.mism + 1, rewrites := r.rewrites + 1 } ∧
      t.rd F.PWR_SAVE_STAT_REWRITES = min (s.rd F.PWR_SAVE_STAT_REWRITES + 1) (2 ^ F.PWR_SAVE_STAT_REWRITES.width - 1) ∧
      RegFrame [F.PWR_SAVE_STAT_REWRITES] s t ∧ MemFrame s t) ∧
  (∀ (s : State) (r : SaveRun) (us : Nat),
      s.awake = true → s.pwr.save = some r → r.writes = true → r.captured = true → r.block < 785 → r.mism = 2 → r.brownout = true →
      s.pwr.resetWaits = false → s.mode = mHolding →
      ∃ t, exec (.wheyBlockWritten false us) s = .next t ∧ t.mode = mAsleep ∧ t.rd F.PWR_SAVE_STAT_LAST_OK = 0 ∧
      t.rd F.PWR_SAVE_STAT_BUSY = 0 ∧ t.pwr.save = none ∧ t.pwr.fromHolding = true ∧ t.flash = s.flash ∧ t.hostMem = s.hostMem) ∧
  (∀ (s : State) (r : SaveRun),
      s.awake = true → s.pwr.save = some r → r.writes = true → r.block = 785 → r.header = false →
      ∃ t, exec (.saveHeaderWritten) s = .next t ∧ t.pwr.save = some { r with header := true } ∧
      (t.store.copy r.target).complete = true ∧ (t.store.copy r.target).bodyOk = true ∧ (t.store.copy r.target).seq = s.store.nextSeq ∧
      (t.store.copy r.target).cause = r.cause ∧ (t.store.copy r.target).content = s.capture ∧ MemFrame s t) ∧
  (∀ (s : State) (r : SaveRun) (us : Nat),
      s.awake = true → s.pwr.save = some r → r.brownout = true → r.captured = true → r.header = true → s.pwr.resetWaits = false →
      s.mode = mHolding →
      ∃ t, exec (.saveDone us) s = .next t ∧ t.mode = mAsleep ∧ t.rd F.PWR_SAVE_STAT_LAST_OK = 1 ∧ t.rd F.PWR_SAVE_STAT_BUSY = 0 ∧
      t.rd F.PWR_SAVE_STAT_LAST_CAUSE = r.cause % 16 ∧ t.pwr.save = none ∧ t.pwr.fromHolding = true ∧ t.pwr.suppress = false ∧
      t.flash = s.flash ∧ t.hostMem = s.hostMem) ∧
  (∀ (s : State) (r : SaveRun),
      s.awake = true → s.holdingSave = true → s.pwr.save = some r → s.pwr.resetWaits = false →
      ∃ t, exec (.holdingTimeout) s = .next t ∧ t.mode = mAsleep ∧ t.rd F.PWR_SAVE_STAT_LAST_OK = bit r.header ∧
      t.rd F.PWR_SAVE_STAT_BUSY = 0 ∧ t.pwr.save = none ∧ t.pwr.fromHolding = true ∧ t.flash = s.flash ∧ t.hostMem = s.hostMem)

/-- The supply monitor's events (R39, R42, R46, R51, R53, R59). The model's choices: RAIL_UV enters HOLDING without V_WARN_CROSS, and a
  crossing in ASLEEP, in HOLDING or with the save disarmed only raises its event (log entry 24); HIGHEST_OK where VIN is below every
  floor (log entry 60). AUTO_RESUME ends in a start, and an armed RAIL_UV in HOLDING: those two clauses name no register frame. -/
def Obligations.SupplyEvents : Prop :=
  (∀ (s : State),
      s.awake = true → s.pwr.sagReady = true →
      ∃ t, exec (.vSagCross) s = .next t ∧ t.pwr = { s.pwr with sagReady := false } ∧ t.status E.PWR_V_SAG_CROSS = true ∧
      RegFrame [] s t ∧ { t.calm s with pwr := s.pwr } = s) ∧
  (∀ (s : State) (sag : Bool),
      s.awake = true →
      ∃ t, exec (.vWarnRearm sag) s = .next t ∧
      (t = { s with pwr := if sag then { s.pwr with sagReady := true } else { s.pwr with warnReady := true } })) ∧
  (∀ (s : State),
      s.awake = true → s.pwr.recoverOwed = true →
      ∃ t, exec (.vinRecovered) s = .next t ∧ t.pwr = { s.pwr with recoverOwed := false } ∧ t.status E.PWR_VIN_RECOVERED = true ∧
      RegFrame [] s t ∧ { t.calm s with pwr := s.pwr } = s) ∧
  (∀ (s : State),
      s.awake = true → s.mode = mAsleep → s.pwr.fromHolding = true → s.on F.PWR_SAVE_ARM_AUTO_RESUME = true →
      ∃ t, exec (.autoResume) s = .next t ∧ t.mode = mStarting ∧ t.rd F.CFG_BOOT_STAT_CAUSE = 2 ∧ t.rd F.CFG_BOOT_STAT_STEP = 1 ∧
      t.flash = s.flash ∧ t.hostMem = s.hostMem) ∧
  (∀ (s : State),
      s.awake = true → isService s.mode = true → s.on F.PWR_SAVE_ARM_ARMED = false →
      ∃ t, exec (.railUv) s = .next t ∧ t.rd F.PWR_IIN_RAIL_UV_SEEN = 1 ∧ t.status E.PWR_RAIL_UV = true ∧
      RegFrame [F.PWR_IIN_RAIL_UV_SEEN] s t ∧ t.calm s = s) ∧
  (∀ (s : State),
      s.awake = true → isService s.mode = true → s.on F.PWR_SAVE_ARM_ARMED = true →
      ∃ t, exec (.railUv) s = .next t ∧ t.rd F.PWR_IIN_RAIL_UV_SEEN = 1 ∧ t.mode = mHolding ∧ t.on F.PWR_SAVE_STAT_BUSY = true ∧
      t.pwr.suppress = true ∧ MemFrame s t) ∧
  (∀ (s : State),
      s.awake = true → s.on F.PWR_IIN_ILIM = false →
      ∃ t, exec (.ilim) s = .next t ∧ t.rd F.PWR_IIN_ILIM = 1 ∧ t.rd F.PWR_IIN_ILIM_SEEN = 1 ∧ t.status E.PWR_ILIM = true ∧
      RegFrame [F.PWR_IIN_ILIM, F.PWR_IIN_ILIM_SEEN] s t ∧ t.calm s = s) ∧
  (∀ (s : State),
      s.works = true → 8 ≤ s.pwr.belowTicks → s.on F.PWR_MODE_STAT_BELOW_FLOOR = false →
      ∃ t, exec (.vinBelowFloor) s = .next t ∧ t.rd F.PWR_MODE_STAT_BELOW_FLOOR = 1 ∧ t.rd F.PWR_MODE_STAT_HIGHEST_OK = s.highestOk ∧
      t.status E.PWR_VIN_BELOW_FLOOR = true ∧ RegFrame [F.PWR_MODE_STAT_BELOW_FLOOR, F.PWR_MODE_STAT_HIGHEST_OK] s t ∧ t.calm s = s) ∧
  (∀ (s : State),
      s.works = true → s.on F.PWR_HOLD_CHG_ON = false →
      ∃ t, exec (.chargerRestart) s = .next t ∧ t.rd F.PWR_HOLD_CHG_ON = 1 ∧ t.pwr = { s.pwr with chgTicks := 0, chgFaulted := false } ∧
      RegOnly [F.PWR_HOLD_CHG_ON] s t ∧ { t.still s with pwr := s.pwr } = s) ∧
  (∀ (s : State),
      s.works = true → s.on F.PWR_HOLD_CHG_ON = true → s.on F.PWR_HOLD_HOLD_OK = false → s.pwr.chgFaulted = false →
      8 * s.rd F.PWR_HOLD_CFG_CHG_TIMEOUT_MS ≤ s.pwr.chgTicks →
      ∃ t, exec (.chgFault) s = .next t ∧ t.rd F.PWR_HOLD_CHG_FAULT = 1 ∧ t.pwr = { s.pwr with chgFaulted := true } ∧
      t.status E.PWR_CHG_FAULT = true ∧ RegFrame [F.PWR_HOLD_CHG_FAULT] s t ∧ { t.calm s with pwr := s.pwr } = s)

/-- Mode requests over PCIe (R31, R37, R39, R43). The model's choices: what a write between the two PROVING keys does (log entry 25), the
  merging and replacing of requests and the code 1 refusals of wake and restart (log entry 26), and that the last continuation rules (log
  entry 23). -/
def Obligations.ModeRequests : Prop :=
  (∀ (s : State) (m p : Nat),
      s.hostReady = true → isService s.mode = true → isService m = true → m ≠ s.mode → s.floorMet m = true →
      (m = mLean → s.leanFits = true) →
      ∃ t, exec (.modeRequest false m p) s = .next t ∧ t.rd F.PWR_MODE_PENDING = 1 ∧ t.pwr = { s.pwr with modeReq := some ⟨m, none⟩ } ∧
      t.rd F.PWR_MODE_REQ_TARGET = m ∧ t.mode = s.mode ∧
      RegFrame [F.PWR_MODE_PENDING, F.PWR_MODE_REQ_TARGET, F.PWR_MODE_REQ_PROMOTE_TO] s t ∧ { t.calm s with pwr := s.pwr } = s) ∧
  (∀ (s : State) (m p : Nat),
      s.hostReady = true → isService s.mode = true → m = s.mode →
      ∃ t, exec (.modeRequest false m p) s = .next t ∧ t.rd F.PWR_MODE_STAT_REFUSE_CODE = 4 ∧ t.rd F.PWR_MODE_STAT_REFUSED_TARGET = m ∧
      t.status E.PWR_MODE_REFUSED = true ∧ t.mode = s.mode ∧
      RegFrame [F.PWR_MODE_STAT_REFUSE_CODE, F.PWR_MODE_STAT_REFUSED_TARGET, F.PWR_MODE_REQ_TARGET, F.PWR_MODE_REQ_PROMOTE_TO] s t ∧
      t.calm s = s) ∧
  (∀ (s : State),
      s.awake = true → s.hostIf.i2cMem = .none → s.mode = mAsleep →
      ∃ t, exec (.wake true) s = .next t ∧
      (if (asleepSupply s).floorMet mStarting = true then t.mode = mStarting ∧ t.rd F.CFG_BOOT_STAT_CAUSE = 3 ∧ t.rd F.CFG_BOOT_STAT_STEP
        = 1 else t.mode = mAsleep ∧ t.rd F.PWR_MODE_STAT_REFUSE_CODE = 1 ∧ t.rd F.PWR_MODE_STAT_REFUSED_TARGET = 1) ∧ t.flash = s.flash ∧
      t.hostMem = s.hostMem) ∧
  (∀ (s : State) (p : Nat),
      s.awake = true → s.hostIf.i2cMem = .none → s.mode = mHolding →
      ∃ t, exec (.orderlyRestart true p) s = .next t ∧ t.rd F.PWR_MODE_STAT_REFUSE_CODE = 4 ∧ t.rd F.PWR_MODE_STAT_REFUSED_TARGET = 1 ∧
      t.mode = mHolding ∧ t.calm s = s) ∧
  (∀ (s : State) (p : Nat),
      s.hostReady = true → s.mode ≠ mAsleep → s.mode ≠ mHolding → s.pwr.save = none → s.on F.CFG_BOOT_STAT_HALTED = false →
      s.floorMet mStarting = true →
      ∃ t, exec (.orderlyRestart false p) s = .next t ∧ t.rd F.PWR_MODE_PENDING = 1 ∧ t.pwr = { s.pwr with modeReq := some ⟨1, none⟩ } ∧
      t.mode = s.mode ∧ RegOnly [F.PWR_MODE_PENDING, F.PWR_MODE_REQ_TARGET, F.PWR_MODE_REQ_PROMOTE_TO] s t ∧
      { t.still s with pwr := s.pwr } = s) ∧
  (∀ (s : State) (p : Nat),
      s.hostReady = true → s.mode ≠ mAsleep → s.mode ≠ mHolding → s.on F.CFG_BOOT_STAT_HALTED = false → s.floorMet mStarting = false →
      ∃ t, exec (.orderlyRestart false p) s = .next t ∧ t.rd F.PWR_MODE_STAT_REFUSE_CODE = 1 ∧ t.rd F.PWR_MODE_STAT_REFUSED_TARGET = 1 ∧
      t.status E.PWR_MODE_REFUSED = true ∧ t.pwr = s.pwr ∧ t.mode = s.mode ∧ t.calm s = s) ∧
  (∀ (s : State) (r : SaveRun) (p : Nat),
      s.hostReady = true → s.mode ≠ mAsleep → s.mode ≠ mHolding → s.pwr.save = some r → s.on F.CFG_BOOT_STAT_HALTED = false →
      s.floorMet mStarting = true →
      ∃ t, exec (.orderlyRestart false p) s = .next t ∧ t.rd F.PWR_SAVE_STAT_MERGED = 1 ∧ t.rd F.PWR_MODE_PENDING = 0 ∧
      t.pwr = { s.pwr with save := some { r with after := SaveThen.restart }, modeReq := none } ∧ t.mode = s.mode ∧
      RegFrame [F.PWR_SAVE_STAT_MERGED, F.PWR_MODE_PENDING, F.PWR_MODE_REQ_TARGET, F.PWR_MODE_REQ_PROMOTE_TO] s t ∧
      { t.calm s with pwr := s.pwr } = s) ∧
  (∀ (s : State) (k m p : Nat),
      s.hostReady = true → k < 65536 → k ≠ 0 →
      ∃ t, exec (.provingUnlockKey false k m p) s = .next t ∧
      (t.pwr = { s.pwr with provKeys := if k = 0x7A0B then 1 else if k = 0x2C41 ∧ s.pwr.provKeys = 1 then 2 else 0 }) ∧
      RegOnly [F.PWR_MODE_REQ_TARGET, F.PWR_MODE_REQ_PROMOTE_TO] s t ∧ { t.still s with pwr := s.pwr } = s) ∧
  (∀ (s : State) (p : Nat),
      s.hostReady = true → s.pwr.provKeys ≠ 2 →
      ∃ t, exec (.provingRequest false p) s = .next t ∧ t.rd F.PWR_MODE_STAT_REFUSE_CODE = 5 ∧
      t.rd F.PWR_MODE_STAT_REFUSED_TARGET = mProving ∧ t.pwr = { s.pwr with provKeys := 0 } ∧ t.status E.PWR_MODE_REFUSED = true ∧
      RegFrame [F.PWR_MODE_STAT_REFUSE_CODE, F.PWR_MODE_STAT_REFUSED_TARGET, F.PWR_MODE_REQ_TARGET, F.PWR_MODE_REQ_PROMOTE_TO] s t ∧
      { t.calm s with pwr := s.pwr } = s) ∧
  (∀ (s : State) (p : Nat),
      s.hostReady = true → s.pwr.provKeys = 2 → isService s.mode = true → s.unprotected = true → s.floorMet mProving = true →
      ∃ t, exec (.provingRequest false p) s = .next t ∧ t.rd F.PWR_MODE_PENDING = 1 ∧
      t.pwr = { s.pwr with provKeys := 0, modeReq := some ⟨mProving, none⟩ } ∧
      RegFrame [F.PWR_MODE_PENDING, F.PWR_MODE_REQ_TARGET, F.PWR_MODE_REQ_PROMOTE_TO] s t ∧ { t.calm s with pwr := s.pwr } = s) ∧
  (∀ (s : State),
      s.awake = true →
      ∃ t, exec (.provingUnlockExpire) s = .next t ∧ t = { s with pwr := { s.pwr with provKeys := 0 } })

/-- In-service saves, arming, thresholds and the save-store window (R54, R61, R62, R65, R66). The model's choices: REWRITES, LAST_DUR and the
  SAVE record (log entry 23), the keys of the disarm (log entry 25), merging into a running save (log entry 26), and what stands in the
  staging area (log entry 68). -/
def Obligations.InServiceSave : Prop :=
  (∀ (s : State),
      s.hostReady = true → s.works = true → s.pwr.save = none →
      ∃ t, exec (.saveCmd) s = .next t ∧
      (∃ r, t.pwr.save = some r ∧ r.brownout = false ∧ r.cause = 2 ∧ r.after = SaveThen.resume ∧ r.target = s.store.target) ∧
      t.on F.PWR_SAVE_STAT_BUSY = true ∧ RegOnly [F.PWR_SAVE_STAT_BUSY, F.PWR_SAVE_STAT_REWRITES] s t ∧ MemFrame s t) ∧
  (∀ (s : State) (r : SaveRun),
      s.hostReady = true → s.pwr.save = some r →
      ∃ t, exec (.saveCmd) s = .next t ∧ t.rd F.PWR_SAVE_STAT_MERGED = 1 ∧ RegOnly [F.PWR_SAVE_STAT_MERGED] s t ∧ t.still s = s) ∧
  (∀ (s : State),
      s.hostReady = true → s.mode ≠ mAsleep → s.mode ≠ mHolding → s.pwr.save = none →
      ∃ t, exec (.sleepCmd) s = .next t ∧ t.rd F.PWR_MODE_PENDING = 1 ∧ t.pwr = { s.pwr with modeReq := some ⟨0, none⟩ } ∧
      RegFrame [F.PWR_MODE_PENDING] s t ∧ { t.calm s with pwr := s.pwr } = s) ∧
  (∀ (s : State) (r : SaveRun),
      s.hostReady = true → s.mode ≠ mAsleep → s.mode ≠ mHolding → s.pwr.save = some r →
      ∃ t, exec (.sleepCmd) s = .next t ∧ t.rd F.PWR_SAVE_STAT_MERGED = 1 ∧ t.rd F.PWR_MODE_PENDING = 0 ∧
      t.pwr = { s.pwr with save := some { r with after := SaveThen.sleep }, modeReq := none } ∧
      RegFrame [F.PWR_SAVE_STAT_MERGED, F.PWR_MODE_PENDING] s t ∧ { t.calm s with pwr := s.pwr } = s) ∧
  (∀ (s : State),
      s.hostReady = true → s.mode = mHolding →
      ∃ t, exec (.sleepCmd) s = .next t ∧ t.rd F.PWR_MODE_STAT_REFUSE_CODE = 4 ∧ t.rd F.PWR_MODE_STAT_REFUSED_TARGET = 0 ∧
      RegFrame [F.PWR_MODE_STAT_REFUSE_CODE, F.PWR_MODE_STAT_REFUSED_TARGET] s t ∧ t.calm s = s) ∧
  (∀ (s : State) (r : SaveRun),
      s.awake = true → s.pwr.save = some r → r.brownout = false → r.staging = true → r.captured = false → (r.writes && s.works) = false →
      ∃ t, exec (.saveStaged) s = .next t ∧ t = { s with pwr := { s.pwr with save := some { r with captured := true } } }) ∧
  (∀ (s : State) (a : Bool),
      s.hostReady = true →
      ∃ t, exec (.saveArm a) s = .next t ∧ t.rd F.PWR_SAVE_ARM_ARMED = 1 ∧ t.rd F.PWR_SAVE_ARM_AUTO_RESUME = bit a ∧
      t.pwr = { s.pwr with disarmKey := false } ∧ RegOnly [F.PWR_SAVE_ARM_ARMED, F.PWR_SAVE_ARM_AUTO_RESUME] s t ∧
      { t.still s with pwr := s.pwr } = s) ∧
  (∀ (s : State) (a late : Bool),
      s.hostReady = true →
      ∃ t, exec (.saveDisarmKey 0x9E3A late a) s = .next t ∧ t.pwr = { s.pwr with disarmKey := true, disarmAt := s.nowNs } ∧
      t.rd F.PWR_SAVE_ARM_ARMED = s.rd F.PWR_SAVE_ARM_ARMED ∧ RegOnly [F.PWR_SAVE_ARM_AUTO_RESUME] s t ∧
      { t.still s with pwr := s.pwr } = s) ∧
  (∀ (s : State) (a : Bool),
      s.hostReady = true → s.pwr.disarmKey = true → s.nowNs ≤ s.pwr.disarmAt + 1000000 → s.on F.PWR_SAVE_ARM_ARMED = true →
      ∃ t, exec (.saveDisarmKey 0x61C5 false a) s = .next t ∧ t.rd F.PWR_SAVE_ARM_ARMED = 0 ∧ t.pwr = { s.pwr with disarmKey := false } ∧
      t.status E.PWR_SAVE_DISARMED = true ∧ RegFrame [F.PWR_SAVE_ARM_ARMED, F.PWR_SAVE_ARM_AUTO_RESUME] s t ∧
      { t.calm s with pwr := s.pwr } = s) ∧
  (∀ (s : State) (warn sag : Nat),
      s.hostReady = true → s.mode ≠ mHolding → 4400 ≤ warn → warn ≤ 16000 → 4200 ≤ sag → sag ≤ 15000 → sag + 200 ≤ warn →
      ∃ t, exec (.sagCfgWrite (warn + 65536 * sag)) s = .next t ∧ t.rd F.PWR_SAG_CFG_V_WARN_MV = warn ∧
      t.rd F.PWR_SAG_CFG_V_SAG_MV = sag ∧ RegFrame [F.PWR_SAG_CFG_V_WARN_MV, F.PWR_SAG_CFG_V_SAG_MV] s t ∧ t.calm s = s) ∧
  (∀ (s : State) (warn sag : Nat),
      s.hostReady = true → warn < 65536 → sag < 65536 → (warn < 4400 ∨ 16000 < warn ∨ sag < 4200 ∨ 15000 < sag ∨ warn < sag + 200) →
      ∃ t, exec (.sagCfgWrite (warn + 65536 * sag)) s = .next t ∧ t.rd F.PWR_MODE_STAT_REFUSE_CODE = 4 ∧
      t.rd F.PWR_SAG_CFG_V_WARN_MV = s.rd F.PWR_SAG_CFG_V_WARN_MV ∧ t.status E.PWR_MODE_REFUSED = true ∧
      RegFrame [F.PWR_MODE_STAT_REFUSE_CODE] s t ∧ t.calm s = s) ∧
  (∀ (s : State),
      s.hostReady = true → s.mode ≠ mHolding →
      ∃ t, exec (.ssDataRead false) s = .next t ∧
      (t.hostIf.lastRead = ofLe ((List.range 4).map fun i => s.store.byte (4 * s.rd F.PWR_SS_ADDR_ADDR + i))) ∧
      t.rd F.PWR_SS_ADDR_ADDR = (s.rd F.PWR_SS_ADDR_ADDR + 1) % 2 ^ 23 ∧ RegFrame [F.PWR_SS_ADDR_ADDR] s t ∧
      { t.calm s with hostIf := s.hostIf } = s) ∧
  (∀ (s : State) (r : SaveRun),
      s.awake = true → s.works = true → s.pwr.save = some r → r.brownout = false → r.staging = true → r.captured = false →
      r.writes = true → (∀ p < 32, (s.pc p).queue = []) →
      ∃ t, exec (.saveStaged) s = .next t ∧ t.pwr = { s.pwr with save := some { r with captured := true } } ∧
      t.dram = (stageSet s).dram ∧ t.regs = (stageSet s).regs ∧
      (∀ a, (a < s.partn.staging.base ∨ s.partn.staging.base + min s.partn.staging.len 3215360 ≤ a) → t.dram.read a = s.dram.read a) ∧
      t.flash = s.flash ∧ t.hostMem = s.hostMem) ∧
  (∀ (s : State) (k : Nat) (a late : Bool),
      s.hostReady = true → k < 65536 → k ≠ 0x9E3A →
      (k ≠ 0x61C5 ∨ s.pwr.disarmKey = false ∨ s.pwr.disarmAt + 1000000 < s.nowNs ∨ late = true) →
      ∃ t, exec (.saveDisarmKey k late a) s = .next t ∧ t.rd F.PWR_SAVE_ARM_ARMED = s.rd F.PWR_SAVE_ARM_ARMED ∧
      t.pwr = { s.pwr with disarmKey := false } ∧ RegFrame [F.PWR_SAVE_ARM_AUTO_RESUME] s t ∧ { t.calm s with pwr := s.pwr } = s)

/-- How a boot step ends (R101, R110), the halt (R112), the host's commands on the sequencer (R112, R113), and the mode taken at the end of
  the boot (R40). The model's choices: the outcomes of steps that the model does not compute, and the rise of HOLD judged with VIN at
  step 1, are operands of BOOT_STEP_END (log entry 20); a command given before step 4 (log entry 66). -/
def Obligations.BootSteps : Prop :=
  (∀ (s : State) (a detail mask : Nat),
      s.works = true → s.cfg.run = some ⟨1, false, a, false⟩ → s.vinUsable = true → 50 ≤ mask → mask ≤ 8000 →
      ∃ t, exec (.bootStepEnd true detail mask) s = .next t ∧ t.cfg.run = some (RunStep.mk 2 false 1 false) ∧
      t.rd F.CFG_BOOT_STAT_STEP = 2 ∧ t.rd (F.CFG_BOOT_STEP_OUTCOME 1) = 1 ∧ t.rd (F.CFG_BOOT_STEP_OUTCOME 2) = 7 ∧
      RegFrame [F.CFG_BOOT_STAT_STEP, F.CFG_BOOT_STEP_OUTCOME 1, F.CFG_BOOT_STEP_OUTCOME 2, F.CFG_BOOT_STEP_ATTEMPTS 2] s t ∧
      { t.calm s with cfg := s.cfg } = s) ∧
  (∀ (s : State) (ok : Bool) (a detail mask : Nat),
      s.works = true → s.cfg.run = some ⟨1, false, a, false⟩ → a < 3 → (ok = false ∨ s.vinUsable = false ∨ mask < 50 ∨ 8000 < mask) →
      ∃ t, exec (.bootStepEnd ok detail mask) s = .next t ∧ t.cfg.run = some (RunStep.mk 1 false (a + 1) false) ∧
      t.rd (F.CFG_BOOT_STEP_OUTCOME 1) = 7 ∧ t.status E.CFG_BOOT_STEP_FAILED = true ∧
      RegFrame [F.CFG_BOOT_STEP_OUTCOME 1, F.CFG_BOOT_STEP_ATTEMPTS 1] s t ∧ { t.calm s with cfg := s.cfg } = s) ∧
  (∀ (s : State) (ok : Bool) (detail mask : Nat),
      s.works = true → s.cfg.run = some ⟨1, false, 3, false⟩ → (ok = false ∨ s.vinUsable = false ∨ mask < 50 ∨ 8000 < mask) →
      ∃ t, exec (.bootStepEnd ok detail mask) s = .next t ∧ t.cfg.run = none ∧ t.rd F.CFG_BOOT_STAT_HALTED = 1 ∧
      t.rd F.CFG_BOOT_STAT_HALT_STEP = 1 ∧ t.rd F.CFG_BOOT_STAT_HALT_OUTCOME = 4 ∧ t.status E.CFG_BOOT_HALTED = true ∧
      t.status E.CFG_BOOT_STEP_FAILED = true ∧
      RegFrame [F.CFG_BOOT_STEP_OUTCOME 1, F.CFG_BOOT_STEP_ACTION 1, F.CFG_BOOT_STAT_HALTED, F.CFG_BOOT_STAT_HALT_STEP,
        F.CFG_BOOT_STAT_HALT_OUTCOME, F.CFG_BOOT_STAT_FINAL] s t ∧ { t.calm s with cfg := s.cfg } = s) ∧
  (∀ (s : State) (a : Nat),
      s.works = true → s.cfg.run = some ⟨1, false, a, false⟩ → a < 3 →
      ∃ t, exec (.bootStepTimeout) s = .next t ∧ t.cfg.run = some (RunStep.mk 1 false (a + 1) false) ∧
      t.status E.CFG_BOOT_STEP_FAILED = true ∧ RegFrame [F.CFG_BOOT_STEP_OUTCOME 1, F.CFG_BOOT_STEP_ATTEMPTS 1] s t ∧
      { t.calm s with cfg := s.cfg } = s) ∧
  (∀ (s : State),
      s.hostReady = true → s.on F.CFG_BOOT_STAT_HALTED = true →
      ∃ t, exec (.bootRestart) s = .next t ∧ t.mode = mStarting ∧ t.rd F.CFG_BOOT_STAT_CAUSE = 5 ∧ t.rd F.CFG_BOOT_STAT_HALTED = 0 ∧
      t.cfg.run = some (RunStep.mk 1 false 1 false) ∧ t.flash = s.flash ∧ t.hostMem = s.hostMem) ∧
  (∀ (s : State),
      s.hostReady = true → s.on F.CFG_BOOT_STAT_HALTED = false →
      ∃ t, exec (.bootRestart) s = .next t ∧ t = s) ∧
  (∀ (s : State) (k : Nat),
      s.hostReady = true → 1 ≤ k → k ≤ 14 →
      ∃ t, exec (.clearStreak k) s = .next t ∧ t.rd (F.CFG_BOOT_STEP_STREAK k) = 0 ∧ t.rd (F.CFG_BOOT_STEP_DIRECT_CNT k) = 0 ∧
      t.cfg.mem = s.cfg.mem.set (k - 1) { s.stepMem k with streak := 0, direct := 0, altBad := false } ∧
      RegOnly [F.CFG_BOOT_CMD_STEP, F.CFG_BOOT_STEP_STREAK k, F.CFG_BOOT_STEP_DIRECT_CNT k] s t ∧ { t.calm s with cfg := s.cfg } = s) ∧
  (∀ (s : State) (k : Nat),
      s.hostReady = true → 1 ≤ k → k ≤ 14 →
      ∃ t, exec (.forceNormal k) s = .next t ∧ t.cfg.mem = s.cfg.mem.set (k - 1) { s.stepMem k with force := true } ∧
      RegOnly [F.CFG_BOOT_CMD_STEP, F.CFG_BOOT_STEP_STREAK k, F.CFG_BOOT_STEP_DIRECT_CNT k] s t ∧ { t.calm s with cfg := s.cfg } = s) ∧
  (∀ (s : State) (m : Nat),
      s.works = true → s.mode = mStarting → s.pwr.waiting = some m → isService m = true → waitMet s m = true →
      ∃ t, exec (.serviceModeTaken) s = .next t ∧ t.mode = m ∧ t.pwr.waiting = none ∧ t.rd F.PWR_MODE_PREV = mStarting ∧
      t.rd F.PWR_MODE_STAT_BELOW_FLOOR = 0 ∧ t.flash = s.flash ∧ t.hostMem = s.hostMem)

/-- The tick (R12) and the one-second boundary (R17). What a tick does as a whole, its order, and what it leaves undone in HOLDING are the
  model's choice (log entry 7). -/
def Obligations.TickAndSecond : Prop :=
  (∀ (s : State) (u : Supply),
      s.ticking = true → s.pwr.leaving ≠ SaveThen.restart →
      ∃ t, exec (.tick u) s = .next t ∧ t.ticks = s.ticks + 1) ∧
  (∀ (s : State) (u : Supply),
      s.ticking = true → s.mode = mHolding → s.pwr.leaving = SaveThen.resume →
      ∃ t, exec (.tick u) s = .next t ∧ t.ticks = s.ticks + 1 ∧ t.mode = mHolding ∧ t.rd F.PWR_VIN_VIN_MV = u.vinMv % 65536 ∧
      t.rd F.PWR_HOLD_HOLD_MV = u.holdMv % 65536 ∧ MemFrame s t) ∧
  (∀ (s : State) (r : SageIn),
      s.ticking = true → s.tsu.ns ≠ 0 →
      ∃ t, exec (.oneSecondBoundary r) s = .next t ∧ t = s) ∧
  (∀ (s : State) (r : SageIn),
      s.ticking = true → s.tsu.ns = 0 → s.tsu.stepped = false → s.ticks ≠ 0 → s.secondAt ≠ s.ticks →
      ∃ t, exec (.oneSecondBoundary r) s = .next t ∧ t.secondAt = s.ticks ∧ t.ticks = s.ticks ∧ MemFrame s t)

/-- Host reads and writes of registers (R7, R8, R90, R93, R440, R473, R474). The model's choices: an Unsupported Request leaves the held
  words (log entry 16), addresses that I2C refuses (log entry 18), which tile holds a register (log entry 9), RC fields (log entry 15),
  and supply values measured at an access in ASLEEP (log entry 24). -/
def Obligations.HostAccess : Prop :=
  (∀ (s : State) (v : Nat),
      s.hostReady = true → v < 2 ^ 32 →
      ∃ t, exec (.registerWrite false 0x200040 v) s = .next t ∧ t.rd F.PWR_STAGGER_CFG_PER_TICK = v % 8 ∧
      t.rd F.PWR_STAGGER_CFG_OPT_GROUP = v / 256 % 8 ∧ t.rd F.PWR_STAGGER_CFG_OPT_GAP_MS = v / 65536 % 256 ∧
      RegOnly [F.PWR_STAGGER_CFG_PER_TICK, F.PWR_STAGGER_CFG_OPT_GROUP, F.PWR_STAGGER_CFG_OPT_GAP_MS] s t ∧ t.still s = s) ∧
  (∀ (s : State) (g v : Nat),
      s.hostReady = true → g < 48 → v < 2 ^ 32 → s.locked 48 = false →
      ∃ t, exec (.registerWrite false (0x1100 + 4 * g) v) s = .next t ∧ t.rdShadow (F.HIF_EVT_EN_EN g) = v ∧ t.regs = s.regs ∧
      { t with shadow := s.shadow } = s) ∧
  (∀ (s : State) (g v : Nat),
      s.hostReady = true → g < 48 → v < 2 ^ 32 → s.locked 48 = true →
      ∃ t, exec (.registerWrite false (0x1100 + 4 * g) v) s = .next t ∧ t.rd F.CFG_COMMIT_STAT_CODE = 6 ∧
      t.rd F.CFG_COMMIT_STAT_GROUP = 48 ∧ t.status E.CFG_COMMIT_REFUSED = true ∧
      RegFrame [F.CFG_COMMIT_STAT_CODE, F.CFG_COMMIT_STAT_GROUP, F.CFG_COMMIT_STAT_REFUSED] s t ∧ t.calm s = s) ∧
  (∀ (s : State) (r v : Nat),
      s.hostReady = true → r < 256 → v < 2 ^ 32 →
      ∃ t, exec (.upperWordWrite (0x4004 + 8 * r) v) s = .next t ∧
      t = { s with hostIf := { s.hostIf with pcieMem := .heldUpper (0x4000 + 8 * r) v } }) ∧
  (∀ (s : State) (r hi v : Nat),
      s.reach .pcie = true → s.hostIf.pcieMem = .heldUpper (0x4000 + 8 * r) hi → r < 256 → hi < 2 ^ 32 → v < 2 ^ 32 →
      s.locked 49 = false → 1 ≤ s.minor →
      ∃ t, exec (.registerWrite false (0x4000 + 8 * r) v) s = .next t ∧ t.rdShadow (F.HIF_RFX_RULE_SOURCE r) = v % 2048 ∧
      t.rdShadow (F.HIF_RFX_RULE_VALID r) = v / 2048 % 2 ∧ t.rdShadow (F.HIF_RFX_RULE_ACTION r) = v / 2 ^ 18 % 16 ∧
      t.rdShadow (F.HIF_RFX_RULE_ARG r) = hi % 65536 ∧ t.rdShadow (F.HIF_RFX_RULE_HOLD_MS r) = hi / 65536 ∧ t.regs = s.regs ∧
      t.hostIf.pcieMem = .none) ∧
  (∀ (s : State),
      s.hostReady = true → s.rdShadow F.HIF_ERR_STAT_TILE_ACC < 1024 → s.rdShadow F.HIF_ERR_STAT_BAR2_DISCARD < 1024 →
      s.rdShadow F.HIF_ERR_STAT_I2C_REFUSED < 1024 →
      ∃ t, exec (.readClearAccess false 0x14) s = .next t ∧
      t.hostIf.lastRead = s.rdShadow F.HIF_ERR_STAT_TILE_ACC + 1024 * s.rdShadow F.HIF_ERR_STAT_BAR2_DISCARD + 1048576 * s.rdShadow
        F.HIF_ERR_STAT_I2C_REFUSED ∧ t.rd F.HIF_ERR_STAT_TILE_ACC = 0 ∧ t.rd F.HIF_ERR_STAT_BAR2_DISCARD = 0 ∧
      t.rd F.HIF_ERR_STAT_I2C_REFUSED = 0 ∧
      RegOnly [F.HIF_ERR_STAT_TILE_ACC, F.HIF_ERR_STAT_BAR2_DISCARD, F.HIF_ERR_STAT_I2C_REFUSED] s t ∧
      { t.still s with hostIf := s.hostIf } = s) ∧
  (∀ (s : State) (a n : Nat),
      s.reach .pcie = true → goodAccess a n = false →
      ∃ t, exec (.unsupportedRequest a n) s = .next t ∧ t = { s with hostIf := { s.hostIf with aer := s.hostIf.aer + 1 } }) ∧
  (∀ (s : State) (a n : Nat),
      goodAccess a n = true →
      ∃ t, exec (.unsupportedRequest a n) s = .next t ∧ t = s) ∧
  (∀ (s : State) (v : Nat),
      s.awake = true → s.hostIf.i2cMem = .none → s.mode ≠ mAsleep →
      ∃ t, exec (.i2cTransaction false 0x200000 v) s = .next t ∧ t.hostIf.i2cAck = true ∧
      t.hostIf.lastI2c = (regAt 0x200000).elim 0 s.readWord ∧ t.regs = s.regs ∧ { t with hostIf := s.hostIf } = s) ∧
  (∀ (s : State) (v : Nat),
      s.awake = true → s.hostIf.i2cMem = .none → s.mode = mAsleep →
      ∃ t, exec (.i2cTransaction false 0x200000 v) s = .next t ∧ t.hostIf.i2cAck = true ∧
      RegOnly [F.PWR_VIN_VIN_MV, F.PWR_VIN_VIN_MIN_MV, F.PWR_HOLD_HOLD_MV, F.PWR_HOLD_HOLD_OK] s t ∧
      { t.still s with hostIf := s.hostIf } = s) ∧
  (∀ (s : State) (w : Bool) (a v : Nat),
      s.awake = true → i2cReads a = false → i2cWrites a = false →
      ∃ t, exec (.i2cTransaction w a v) s = .next t ∧ t.hostIf.i2cAck = false ∧
      t.rd F.HIF_ERR_STAT_I2C_REFUSED = min (s.rd F.HIF_ERR_STAT_I2C_REFUSED + 1) 1023 ∧ RegFrame [F.HIF_ERR_STAT_I2C_REFUSED] s t ∧
      { t.calm s with hostIf := s.hostIf } = s) ∧
  (∀ (s : State) (v : Nat),
      s.awake = true → s.hostIf.i2cMem = .none → v < 2 ^ 32 →
      ∃ t, exec (.i2cTransaction true 0x200060 v) s = .next t ∧ t.hostIf.i2cAck = true ∧ t.rd F.PWR_SS_ADDR_ADDR = v / 4 % 2 ^ 23 ∧
      RegFrame [F.PWR_SS_ADDR_ADDR] s t ∧ { t.calm s with hostIf := s.hostIf } = s)

/-- Image slots (R68, R69, R77) and BAR2 writes (R436, R437). The model's choices: a failed verification clears VERIFIED, and BAR2 bytes are
  checked one by one (log entry 29), the codes of R77 that no rule names (log entry 61), an invalidation while a verification runs (log
  entry 70), the accesses of requester 9 that last until they are served (log entry 48), and a BASE write that waits (R436). -/
def Obligations.ImageSlots : Prop :=
  (∀ (s : State) (k : Nat),
      s.hostReady = true → k < 2 → s.slotRead k = false →
      ∃ t, exec (.imgVerify k) s = .next t ∧ t.rd (F.CFG_IMG_STAT_BUSY k) = 1 ∧ (t.slot k).verifying = true ∧
      RegFrame [F.CFG_IMG_CMD_SLOT, F.CFG_IMG_CMD_OP, F.CFG_IMG_STAT_BUSY k] s t ∧ { t.calm s with cfg := s.cfg } = s) ∧
  (∀ (s : State) (k : Nat),
      s.hostReady = true → k < 2 → s.slotRead k = true →
      ∃ t, exec (.imgVerify k) s = .next t ∧ t.rd (F.CFG_IMG_STAT_ERR k) = 12 ∧ t.status E.CFG_IMG_REJECTED = true ∧
      RegFrame [F.CFG_IMG_CMD_SLOT, F.CFG_IMG_CMD_OP, F.CFG_IMG_STAT_ERR k] s t ∧ t.calm s = s) ∧
  (∀ (s : State) (k : Nat),
      s.hostReady = true → k < 2 → s.slotRead k = false → (s.cfg.running = none ∨ s.cfg.runSlot ≠ k) →
      ∃ t, exec (.imgInvalidate k) s = .next t ∧ t.rd (F.CFG_IMG_STAT_VERIFIED k) = 0 ∧ t.rd (F.CFG_IMG_ID_IMAGE_ID k) = 0 ∧
      t.rd (F.CFG_IMG_VER_IMAGE_VER k) = 0 ∧ (t.slot k).img = none ∧
      RegOnly [F.CFG_IMG_CMD_SLOT, F.CFG_IMG_CMD_OP, F.CFG_IMG_STAT_VERIFIED k, F.CFG_IMG_ID_IMAGE_ID k, F.CFG_IMG_VER_IMAGE_VER k] s t ∧
      { t.still s with cfg := s.cfg } = s) ∧
  (∀ (s u : State) (k : Nat),
      s.works = true → k < 2 → (s.slot k).verifying = true → u = imageRead (s.slotBase k) (verifyReads (s.slotImg k)) s →
      ∃ t, exec (.verificationEnd k) s = .next t ∧ t.rd (F.CFG_IMG_STAT_ERR k) = verifyImage (s.slotImg k) ∧
      t.rd (F.CFG_IMG_STAT_VERIFIED k) = bit (verifyImage (s.slotImg k) == 0) ∧
      (if verifyImage (s.slotImg k) = 0 then t.status E.CFG_IMG_VERIFIED = true else t.status E.CFG_IMG_REJECTED = true) ∧
      (t.slot k).verifying = false ∧
      RegFrame [F.CFG_IMG_STAT_ERR k, F.CFG_IMG_STAT_FORMAT k, F.CFG_IMG_STAT_VERIFIED k, F.CFG_IMG_ID_IMAGE_ID k,
        F.CFG_IMG_VER_IMAGE_VER k, F.CFG_IMG_STAT_BUSY k] u t ∧ { t.calm u with cfg := u.cfg } = u) ∧
  (∀ (s : State) (off a : Nat) (bytes : List Nat),
      s.reach .pcie = true → a = min 56 (s.hostIf.baseWait.getD (s.rd F.HIF_BAR2_CFG_BASE)) * 0x20000000 + off % 2 ^ 32 →
      a + bytes.length ≤ 2 ^ 35 → (∀ i < bytes.length, s.bar2May (a + i) = true) →
      (∀ i < bytes.length, s.releasedSeg (segOf (a + i)) = false ∧ s.unzeroedSeg (segOf (a + i)) = false) →
      ∃ t, exec (.bar2Write off bytes) s = .next t ∧ (∀ i < bytes.length, Memory.read t.dram (a + i) = BitVec.ofNat 8 (bytes.getD i 0)) ∧
      (∀ x, (x < a ∨ a + bytes.length ≤ x) → Memory.read t.dram x = Memory.read s.dram x) ∧ t.flash = s.flash ∧ t.hostMem = s.hostMem) ∧
  (∀ (s : State) (off a : Nat) (bytes : List Nat),
      s.reach .pcie = true → a = min 56 (s.hostIf.baseWait.getD (s.rd F.HIF_BAR2_CFG_BASE)) * 0x20000000 + off % 2 ^ 32 →
      a + bytes.length ≤ 2 ^ 35 → bytes ≠ [] → (∀ i < bytes.length, s.bar2May (a + i) = false) →
      ∃ t, exec (.bar2Write off bytes) s = .next t ∧ t.rd F.HIF_ERR_STAT_BAR2_DISCARD = min (s.rd F.HIF_ERR_STAT_BAR2_DISCARD + 1) 1023 ∧
      RegFrame [F.HIF_ERR_STAT_BAR2_DISCARD] s t ∧ t.calm s = s)

/-- Tile reloads (R80, R82, R85, R97). The model's choices: T fields at JOINED, ABANDON_CODE and PARTNER equal to TILE (log entry 29), the
  reads by requester 9 (log entry 48), and what a reload keeps (log entry 70). -/
def Obligations.TileReloads : Prop :=
  (∀ (s : State) (n slot p gen : Nat),
      s.hostReady = true → n < 48 → slot < 2 → p < 64 → gen < 65536 → reloadCode s [n] slot gen = 0 → s.locked n = false →
      ∃ t, exec (.reloadRequest n slot false p gen) s = .next t ∧ t.rd (F.CFG_TILE_STAT_STATE n) = 5 ∧
      SMap.find? t.cfg.loads n = some (Reload.mk slot gen none false 0 0 false none (s.joined n) (0, 0) [] [] [] [] []) ∧
      t.rd (F.CFG_TILE_STAT_IF_VER n) = 0 ∧ t.rd F.CFG_RELOAD_STAT_REFUSE_CODE = 0 ∧
      t.rd F.CFG_RELOAD_STAT_ACTIVE = t.cfg.loads.length % 2 ^ F.CFG_RELOAD_STAT_ACTIVE.width ∧ MemFrame s t ∧ t.mode = s.mode) ∧
  (∀ (s : State) (n slot p gen : Nat),
      s.hostReady = true → n < 64 → slot < 2 → p < 64 → gen < 65536 → reloadCode s [n] slot gen ≠ 0 →
      ∃ t, exec (.reloadRequest n slot false p gen) s = .next t ∧ t.rd F.CFG_RELOAD_STAT_REFUSE_CODE = reloadCode s [n] slot gen ∧
      t.rd F.CFG_RELOAD_STAT_TILE = n ∧ t.status E.CFG_RELOAD_REFUSED = true ∧
      RegFrame [F.CFG_RELOAD_TILE, F.CFG_RELOAD_SLOT, F.CFG_RELOAD_PARTNER_EN, F.CFG_RELOAD_PARTNER, F.CFG_RELOAD_GEN,
        F.CFG_RELOAD_STAT_TILE, F.CFG_RELOAD_STAT_REFUSE_CODE] s t ∧ t.calm s = s) ∧
  (∀ (s : State) (n : Nat) (r : Reload),
      s.works = true → n < 48 → SMap.find? s.cfg.loads n = some r → s.rd (F.CFG_TILE_STAT_STATE n) = 1 → r.drainLeft = 0 →
      s.quietOver n = true →
      ∃ t, exec (.drainEnd n) s = .next t ∧ t.rd (F.CFG_TILE_STAT_STATE n) = 2 ∧ SMap.find? t.cfg.loads n = some r ∧ MemFrame s t) ∧
  (∀ (s u : State) (n : Nat) (r : Reload) (x : Sect),
      s.works = true → n < 32 → SMap.find? s.cfg.loads n = some r → s.rd (F.CFG_TILE_STAT_STATE n) = 2 → r.read = false →
      tileSect n (s.slotImg r.slot).sects = some x → (s.slotImg r.slot).crc x.off x.len = x.crc →
      u = imageRead (s.slotBase r.slot + x.off) x.len s →
      ∃ t, exec (.sectionLoaded n) s = .next t ∧
      SMap.find? t.cfg.loads n = some
        { r with read := true, range := (x.ifMin, x.ifMax), defaults := Config.tileDefaults ((s.slotImg r.slot).bytes x.off x.len), tables := Config.sectionTables ((s.slotImg r.slot).bytes x.off x.len) }
        ∧ SMap.find? t.cfg.tiles n = some ((s.slotImg r.slot).desc x) ∧ RegFrame [F.CFG_IMG_STAT_BUSY r.slot] u t ∧
      { t.calm u with cfg := u.cfg } = u) ∧
  (∀ (s : State) (n v : Nat) (r : Reload),
      s.works = true → n < 48 → SMap.find? s.cfg.loads n = some r → r.read = true → r.negotiated = none →
      agree r.range (s0Range (tileType n)) = some v →
      ∃ t, exec (.tileNegotiation n) s = .next t ∧ SMap.find? t.cfg.loads n = some { r with negotiated := some v } ∧ t.regs = s.regs ∧
      { t with cfg := s.cfg } = s) ∧
  (∀ (s : State) (n : Nat) (r : Reload),
      s.works = true → n < 48 → SMap.find? s.cfg.loads n = some r → r.full = false → r.partner = none →
      (s.rd (F.CFG_TILE_STAT_STATE n) = 1 ∨ s.rd (F.CFG_TILE_STAT_STATE n) = 2) → 64 ≤ r.ticks →
      ∃ t, exec (.reloadTimeout n) s = .next t ∧ t.rd (F.CFG_TILE_STAT_STATE n) = 4 ∧ SMap.find? t.cfg.loads n = none ∧
      t.rd F.CFG_RELOAD_STAT_ABANDON_CODE = 1 ∧ t.rd F.CFG_RELOAD_STAT_TILE = n ∧ t.status E.CFG_RELOAD_ABANDONED = true ∧
      MemFrame s t) ∧
  (∀ (s : State) (n : Nat) (r : Reload),
      s.works = true → n < 48 → SMap.find? s.cfg.loads n = some r → r.read = true → r.negotiated = none → r.partner = none →
      agree r.range (s0Range (tileType n)) = none →
      ∃ t, exec (.tileNegotiation n) s = .next t ∧ t.rd (F.CFG_TILE_STAT_STATE n) = 4 ∧ t.rd (F.CFG_TILE_STAT_IF_VER n) = 0 ∧
      t.status E.CFG_TILE_ISOLATED = true ∧ SMap.find? t.cfg.loads n = none ∧ MemFrame s t) ∧
  (∀ (s : State) (n v : Nat) (r : Reload),
      n < 32 → v < 16 → r.slot < 2 → r.full = false → r.defaults = [] → SMap.rising s.cfg.loads = true →
      (joinTile n v r s).rd (F.CFG_TILE_STAT_STATE n) = 3 ∧ (joinTile n v r s).rd (F.CFG_TILE_STAT_IF_VER n) = v ∧
      (joinTile n v r s).rd (F.CFG_TILE_STAT_SLOT n) = r.slot ∧
      (joinTile n v r s).rd (F.CFG_TILE_STAT_LOADS n) = (s.rd (F.CFG_TILE_STAT_LOADS n) + 1) % 65536 ∧
      (joinTile n v r s).rd (F.CFG_GEN_CUR n) = r.gen % 65536 ∧ (joinTile n v r s).status E.CFG_RELOAD_DONE = true ∧
      SMap.find? (joinTile n v r s).cfg.loads n = none)

/-- Commits and linked sets (R91, R92, R94). The model's choices: the order of the codes, and PENDING of the members of an open set (log
  entry 28). -/
def Obligations.Commits : Prop :=
  (∀ (s : State) (g gen : Nat),
      s.hostReady = true → g < 52 → gen < 65536 → s.mode ≠ mHolding → s.on (F.CFG_GEN_FROZEN g) = false → s.locked g = false →
      aheadOf 16 gen (s.rd (F.CFG_GEN_CUR g)) = true → s.cfg.linked.length < 8 →
      ∃ t, exec (.commit g gen) s = .next t ∧ t.cfg.commits = s.cfg.commits ++ s.cfg.linked ++ [⟨g, gen⟩] ∧ t.cfg.linked = [] ∧
      t.rd (F.CFG_GEN_PENDING g) = 1 ∧ t.rd F.CFG_COMMIT_STAT_LINKED = 0 ∧ RegFrame [F.CFG_GEN_PENDING g, F.CFG_COMMIT_STAT_LINKED] s t ∧
      { t.calm s with cfg := s.cfg } = s) ∧
  (∀ (s : State) (g gen : Nat),
      s.hostReady = true → g < 52 → gen < 65536 → s.mode ≠ mHolding → s.on (F.CFG_GEN_FROZEN g) = false → s.locked g = false →
      aheadOf 16 gen (s.rd (F.CFG_GEN_CUR g)) = true → s.cfg.linked.length < 8 →
      ∃ t, exec (.commitLink g gen) s = .next t ∧ t.cfg.commits = s.cfg.commits ∧ t.cfg.linked = s.cfg.linked ++ [⟨g, gen⟩] ∧
      t.rd (F.CFG_GEN_PENDING g) = 1 ∧ t.rd F.CFG_COMMIT_STAT_LINKED = s.cfg.linked.length + 1 ∧
      RegFrame [F.CFG_GEN_PENDING g, F.CFG_COMMIT_STAT_LINKED] s t ∧ { t.calm s with cfg := s.cfg } = s) ∧
  (∀ (s : State) (g gen : Nat),
      s.hostReady = true → g < 64 → gen < 65536 → commitCode s g gen ≠ 0 →
      ∃ t, exec (.commit g gen) s = .next t ∧ t.rd F.CFG_COMMIT_STAT_CODE = commitCode s g gen ∧ t.rd F.CFG_COMMIT_STAT_GROUP = g ∧
      t.status E.CFG_COMMIT_REFUSED = true ∧ t.cfg.commits = s.cfg.commits ∧ t.cfg.linked = [] ∧ t.shadow = s.shadow) ∧
  (∀ (s : State) (g gen : Nat),
      s.hostReady = true → g < 64 → gen < 65536 → commitCode s g gen ≠ 0 →
      ∃ t, exec (.commitLink g gen) s = .next t ∧ t.rd F.CFG_COMMIT_STAT_CODE = commitCode s g gen ∧ t.rd F.CFG_COMMIT_STAT_GROUP = g ∧
      t.status E.CFG_COMMIT_REFUSED = true ∧ t.cfg.commits = s.cfg.commits ∧ t.cfg.linked = [] ∧ t.shadow = s.shadow)

/-- Bringing a tree port up and down (R35, R48, R49, R131, R132, R150, R151). The model's choices: the gap that only OPTICS_GROUP_RELEASE
  ends, downNext cleared by an enable, and loopback written outside PROVING (log entry 30). -/
def Obligations.PortBringUp : Prop :=
  (∀ (s : State) (n : Nat),
      s.hostReady = true → n < 32 → s.on (F.TPA_CTRL_ENABLE n) = false → s.mode ≠ mLean →
      ∃ t, exec (.portEnable n) s = .next t ∧ t.rd (F.TPA_CTRL_ENABLE n) = 1 ∧ (t.port n).downNext = false ∧
      RegFrame [F.TPA_CTRL_ENABLE n, F.PWR_STAGGER_STAT_QUEUED, F.PWR_STAGGER_STAT_QUEUED_MAX, F.PWR_STAGGER_STAT_DEFERRED] s t ∧
      { t.calm s with tpa := s.tpa, pwr := s.pwr } = s) ∧
  (∀ (s : State) (n : Nat),
      s.hostReady = true → n < 32 → s.on (F.TPA_CTRL_ENABLE n) = false → s.mode = mLean →
      (s.wr (F.TPA_CTRL_ENABLE n) 1).leanFits = false →
      ∃ t, exec (.portEnable n) s = .next t ∧ t.rd (F.TPA_CTRL_ENABLE n) = s.rd (F.TPA_CTRL_ENABLE n) ∧
      t.rd F.PWR_MODE_STAT_REFUSE_CODE = 2 ∧ t.rd F.PWR_MODE_STAT_REFUSED_TARGET = mLean ∧ t.status E.PWR_MODE_REFUSED = true ∧
      RegFrame [F.PWR_MODE_STAT_REFUSE_CODE, F.PWR_MODE_STAT_REFUSED_TARGET] s t ∧ t.calm s = s) ∧
  (∀ (s : State) (n : Nat),
      s.hostReady = true → n < 32 → s.on (F.TPA_CTRL_ENABLE n) = true →
      ∃ t, exec (.portDisable n) s = .next t ∧ t.rd (F.TPA_CTRL_ENABLE n) = 0 ∧ (t.port n).downNext = true ∧
      (t.pwr.queue = s.pwr.queue.filter fun b => b != .men n && b != .ben n) ∧
      RegOnly [F.TPA_CTRL_ENABLE n, F.PWR_STAGGER_STAT_QUEUED, F.PWR_STAGGER_STAT_QUEUED_MAX] s t ∧
      { t.still s with tpa := s.tpa, pwr := s.pwr } = s) ∧
  (∀ (s : State) (t0 : Nat) (l : List Nat),
      s.works = true → s.pwr.opticsAt = some t0 → t0 + 8 * max 2 (s.rd F.PWR_STAGGER_CFG_OPT_GAP_MS) ≤ s.ticks →
      l = (leadingMens (s.pwr.queue.filter s.stillWanted)).take (min s.optGroup (s.perTick - s.pwr.begun)) → (∀ p ∈ l, p < 32) →
      ∃ t, exec (.opticsGroupRelease) s = .next t ∧ (∀ p ∈ l, t.rd (F.TPA_STAT_MEN p) = 1 ∧ t.rd (F.TPA_STAT_PHASE p) = 1) ∧
      t.pwr.queue = (s.pwr.queue.filter s.stillWanted).drop l.length ∧ (t.pwr.opticsAt = if l.isEmpty then none else some s.ticks) ∧
      t.pwr.begun = s.pwr.begun + l.length ∧
      RegOnly (l.map F.TPA_STAT_MEN ++ l.map F.TPA_STAT_PHASE ++ [F.PWR_STAGGER_STAT_QUEUED, F.PWR_STAGGER_STAT_QUEUED_MAX]) s t ∧
      { t.still s with tpa := s.tpa, pwr := s.pwr } = s) ∧
  (∀ (s : State) (n : Nat),
      n < 32 → s.benMay n = true → s.on (F.TPA_STAT_BEN n) = false → s.pwr.queue.contains (.ben n) = false →
      ∃ t, exec (.benAssert n) s = .next t ∧ t.rd (F.TPA_STAT_BEN n) = 1 ∧ t.rd (F.TPA_STAT_PHASE n) = 2 ∧
      t.port n = { s.port n with lead := s.leadTicks n } ∧ RegOnly [F.TPA_STAT_BEN n, F.TPA_STAT_PHASE n] s t ∧
      { t.still s with tpa := s.tpa } = s) ∧
  (∀ (s : State) (n : Nat),
      s.works = true → n < 32 → s.rd (F.TPA_STAT_PHASE n) = 2 → (s.port n).lead = 0 →
      ∃ t, exec (.leadEnd n) s = .next t ∧ t.rd (F.TPA_STAT_PHASE n) = 3 ∧ t.tree n = { s.tree n with budget := s.discWinNs n } ∧
      RegOnly [F.TPA_STAT_PHASE n, F.RNG_WIN_BUDGET n] s t ∧ { t.still s with trees := s.trees } = s) ∧
  (∀ (s : State) (n v : Nat),
      s.hostReady = true → n < 32 → v < 4 →
      ∃ t, exec (.loopbackSet n v) s = .next t ∧ t.rd (F.TPA_CTRL_LOOPBACK n) = v ∧
      t.rd (F.TPA_STAT_LB_BLOCKED n) = bit (s.mode != mProving && v == 1) ∧ (t.looped n = true → t.on (F.TPA_STAT_BEN n) = false) ∧
      (v ≠ 1 → t.rd (F.TPA_STAT_BEN n) = s.rd (F.TPA_STAT_BEN n)) ∧
      RegOnly [F.TPA_CTRL_LOOPBACK n, F.TPA_STAT_LB_BLOCKED n, F.TPA_STAT_BEN n, F.TPA_STAT_PHASE n] s t ∧
      { t.still s with tpa := s.tpa } = s)

/-- Loss of signal, rogue light (R146) and module management (R148, R149) of a tree port. The model's choices: SD as the level last reported,
  status 3 before 4, and the bytes of a write taken at GO (log entry 30). -/
def Obligations.PortLightAndModule : Prop :=
  (∀ (s : State) (n : Nat),
      s.receives n = true → n < 32 → s.losFrames n ≤ (s.port n).losRun → s.on (F.TPA_STAT_LOS n) = false →
      ∃ t, exec (.treeLos n) s = .next t ∧ t.rd (F.TPA_STAT_LOS n) = 1 ∧ t.rd (F.TPA_STAT_SD n) = 0 ∧
      t.status (E.TPA_TREE_LOS n) = true ∧ RegFrame [F.TPA_STAT_LOS n, F.TPA_STAT_SD n] s t ∧ t.calm s = s) ∧
  (∀ (s : State) (n : Nat),
      s.receives n = true → n < 32 → s.on (F.TPA_STAT_LOS n) = true →
      ∃ t, exec (.treeLosClear n) s = .next t ∧ t.rd (F.TPA_STAT_LOS n) = 0 ∧ t.rd (F.TPA_STAT_SD n) = 1 ∧
      (t.port n = { s.port n with losRun := 0, winFrames := (s.port n).winFrames.map fun e => (e.1, true) }) ∧
      t.status (E.TPA_TREE_LOS_CLEAR n) = true ∧ RegFrame [F.TPA_STAT_LOS n, F.TPA_STAT_SD n] s t ∧ { t.calm s with tpa := s.tpa } = s) ∧
  (∀ (s : State) (n ofs tenths : Nat),
      s.receives n = true → n < 32 → ofs < 125000 → s.rogueTenths n < tenths →
      ∃ t, exec (.rogueLight n ⟨ofs, tenths⟩) s = .next t ∧ t.rd (F.TPA_ROGUE_COUNT n) = min (s.rd (F.TPA_ROGUE_COUNT n) + 1) 65535 ∧
      t.rd (F.TPA_STAT_SD n) = 1 ∧
      (s.rd (F.TPA_ROGUE_COUNT n) = 0 → t.rd (F.TPA_ROGUE_FRAME n) = s.ticks % 65536 ∧ t.rd (F.TPA_ROGUE_OFFSET_NS n) = ofs) ∧
      (s.rd (F.TPA_ROGUE_COUNT n) ≠ 0 → t.rd (F.TPA_ROGUE_FRAME n) = s.rd (F.TPA_ROGUE_FRAME n) ∧ t.rd (F.TPA_ROGUE_OFFSET_NS n) = s.rd
        (F.TPA_ROGUE_OFFSET_NS n)) ∧ RegFrame [F.TPA_ROGUE_COUNT n, F.TPA_ROGUE_FRAME n, F.TPA_ROGUE_OFFSET_NS n, F.TPA_STAT_SD n] s t ∧
      t.calm s = s) ∧
  (∀ (s : State) (n ofs tenths : Nat),
      n < 32 → tenths ≤ s.rogueTenths n →
      ∃ t, exec (.rogueLight n ⟨ofs, tenths⟩) s = .next t ∧ t = s) ∧
  (∀ (s : State) (n dev reg len khz : Nat),
      s.hostReady = true → n < 32 → dev < 128 → reg < 256 → len < 4 → s.on (F.TPA_STAT_MEN n) = true → (s.port n).modCmd = none →
      ∃ t, exec (.moduleRead n dev reg len khz) s = .next t ∧ t.rd (F.TPA_MOD_STAT_STATUS n) = 1 ∧
      (∃ c, (t.port n).modCmd = some c ∧ c.dev = dev ∧ c.read = true ∧ c.reg = reg ∧ c.len = len + 1 ∧ c.data = s.rd (F.TPA_MOD_DATA_DATA
        n)) ∧
      RegOnly [F.TPA_MOD_CMD_DEV_ADDR n, F.TPA_MOD_CMD_READ n, F.TPA_MOD_CMD_REG n, F.TPA_MOD_CMD_LEN n, F.TPA_MOD_CMD_BUS_KHZ n,
        F.TPA_MOD_STAT_STATUS n] s t ∧ { t.still s with tpa := s.tpa } = s) ∧
  (∀ (s : State) (n dev reg len khz : Nat),
      s.hostReady = true → n < 32 → s.on (F.TPA_STAT_MEN n) = false →
      ∃ t, exec (.moduleRead n dev reg len khz) s = .next t ∧ t.rd (F.TPA_MOD_STAT_STATUS n) = 3 ∧
      RegOnly [F.TPA_MOD_CMD_DEV_ADDR n, F.TPA_MOD_CMD_READ n, F.TPA_MOD_CMD_REG n, F.TPA_MOD_CMD_LEN n, F.TPA_MOD_CMD_BUS_KHZ n,
        F.TPA_MOD_STAT_STATUS n] s t ∧ t.still s = s) ∧
  (∀ (s : State) (n dev reg len khz : Nat),
      s.hostReady = true → n < 32 → s.on (F.TPA_STAT_MEN n) = true → (s.port n).modCmd.isSome = true →
      ∃ t, exec (.moduleRead n dev reg len khz) s = .next t ∧ t.rd (F.TPA_MOD_STAT_STATUS n) = 4 ∧
      RegOnly [F.TPA_MOD_CMD_DEV_ADDR n, F.TPA_MOD_CMD_READ n, F.TPA_MOD_CMD_REG n, F.TPA_MOD_CMD_LEN n, F.TPA_MOD_CMD_BUS_KHZ n,
        F.TPA_MOD_STAT_STATUS n] s t ∧ t.still s = s) ∧
  (∀ (s : State) (n dev reg len khz : Nat),
      s.hostReady = true → n < 32 → dev < 128 → reg < 256 → len < 4 → s.on (F.TPA_STAT_MEN n) = true → (s.port n).modCmd = none →
      ∃ t, exec (.moduleWrite n dev reg len khz) s = .next t ∧ t.rd (F.TPA_MOD_STAT_STATUS n) = 1 ∧
      (∃ c, (t.port n).modCmd = some c ∧ c.dev = dev ∧ c.read = false ∧ c.reg = reg ∧ c.len = len + 1 ∧ c.data = s.rd
        (F.TPA_MOD_DATA_DATA n)) ∧
      RegOnly [F.TPA_MOD_CMD_DEV_ADDR n, F.TPA_MOD_CMD_READ n, F.TPA_MOD_CMD_REG n, F.TPA_MOD_CMD_LEN n, F.TPA_MOD_CMD_BUS_KHZ n,
        F.TPA_MOD_STAT_STATUS n] s t ∧ { t.still s with tpa := s.tpa } = s) ∧
  (∀ (s : State) (n dev reg len khz : Nat),
      s.hostReady = true → n < 32 → s.on (F.TPA_STAT_MEN n) = false →
      ∃ t, exec (.moduleWrite n dev reg len khz) s = .next t ∧ t.rd (F.TPA_MOD_STAT_STATUS n) = 3 ∧
      RegOnly [F.TPA_MOD_CMD_DEV_ADDR n, F.TPA_MOD_CMD_READ n, F.TPA_MOD_CMD_REG n, F.TPA_MOD_CMD_LEN n, F.TPA_MOD_CMD_BUS_KHZ n,
        F.TPA_MOD_STAT_STATUS n] s t ∧ t.still s = s) ∧
  (∀ (s : State) (n dev reg len khz : Nat),
      s.hostReady = true → n < 32 → s.on (F.TPA_STAT_MEN n) = true → (s.port n).modCmd.isSome = true →
      ∃ t, exec (.moduleWrite n dev reg len khz) s = .next t ∧ t.rd (F.TPA_MOD_STAT_STATUS n) = 4 ∧
      RegOnly [F.TPA_MOD_CMD_DEV_ADDR n, F.TPA_MOD_CMD_READ n, F.TPA_MOD_CMD_REG n, F.TPA_MOD_CMD_LEN n, F.TPA_MOD_CMD_BUS_KHZ n,
        F.TPA_MOD_STAT_STATUS n] s t ∧ t.still s = s) ∧
  (∀ (s : State) (n data : Nat) (c : ModCmd),
      s.ticking = true → n < 32 → (s.port n).modCmd = some c → (∀ x ∈ s.masterCmds (n / 8), c.order ≤ x.2.order) →
      ∃ t, exec (.moduleTxnEnd n true data) s = .next t ∧ t.rd (F.TPA_MOD_STAT_STATUS n) = 2 ∧ (t.port n).modCmd = none ∧
      (c.read = true → t.rd (F.TPA_MOD_DATA_DATA n) = data % 2 ^ (8 * c.len) % 2 ^ 32) ∧
      (c.read = false → t.rd (F.TPA_MOD_DATA_DATA n) = s.rd (F.TPA_MOD_DATA_DATA n)) ∧ t.status (E.TPA_MOD_DONE n) = true ∧
      RegFrame [F.TPA_MOD_STAT_STATUS n, F.TPA_MOD_DATA_DATA n] s t ∧ { t.calm s with tpa := s.tpa } = s) ∧
  (∀ (s : State) (n data : Nat) (c : ModCmd),
      s.ticking = true → n < 32 → (s.port n).modCmd = some c → (∀ x ∈ s.masterCmds (n / 8), c.order ≤ x.2.order) →
      ∃ t, exec (.moduleTxnEnd n false data) s = .next t ∧ t.rd (F.TPA_MOD_STAT_STATUS n) = 5 ∧ (t.port n).modCmd = none ∧
      t.status (E.TPA_MOD_FAIL n) = true ∧ RegFrame [F.TPA_MOD_STAT_STATUS n] s t ∧ { t.calm s with tpa := s.tpa } = s) ∧
  (∀ (s : State) (n : Nat) (c : ModCmd),
      s.ticking = true → n < 32 → (s.port n).modCmd = some c → (∀ x ∈ s.masterCmds (n / 8), c.order ≤ x.2.order) →
      ∃ t, exec (.moduleStretchTimeout n) s = .next t ∧ t.rd (F.TPA_MOD_STAT_STATUS n) = 6 ∧ (t.port n).modCmd = none ∧
      t.status (E.TPA_MOD_FAIL n) = true ∧ RegFrame [F.TPA_MOD_STAT_STATUS n] s t ∧ { t.calm s with tpa := s.tpa } = s)

/-- Upstream bursts (R144, R145, R163, R164), window closes (R138, R146), code words (R143, R167) and messages (R153, R162, R168). The
  model's choices: the window that a message or code word belongs to, counts held until the window closes, a confirmed burst counted as
  locked and lit, and no effect outside every window (log entry 31); a frame over 9,728 bytes (log entry 62); frames of the datapath (log
  entry 42). -/
def Obligations.UpstreamReception : Prop :=
  (∀ (s : State) (n : Nat) (w : Win) (m : DelimMatch) (sel : Bool),
      s.receives n = true → n < 32 → s.curWin n = some w → w.kind ≠ 2 → w.confirmed = false → w.lost = false →
      s.on (F.OBS_INJ_STAT_ARMED n) = false → s.matchesIn n w [m] = [m] → m.raw = some w.term → w.term < 512 →
      ∃ t, exec (.upstreamBurst n [m] sel) s = .next t ∧
      t.rd (F.TPA_LAST_STAMP_STAMP n) = s.stampOf n w (s.arrival n w m.ofs) w.term % 2 ^ 64 ∧
      (t.tree n).wins.head?.map Win.confirmed = some true ∧ MemFrame s t) ∧
  (∀ (s : State) (n : Nat) (w : Win) (r : List Win) (sd lock cut : Bool),
      s.receives n = true → n < 32 → (s.tree n).wins = w :: r → w.closedBy s.ticks = true → s.rd (F.TPA_BURST_OK_LOCKED n) < 2 ^ 32 →
      ∃ t, exec (.burstWindowClose n sd lock cut) s = .next t ∧ (t.tree n).wins = r ∧ (t.tree n).closed = some w ∧
      t.rd (F.TPA_STAT_SD n) = bit ((sd && !w.unlit) || w.confirmed || w.accepted != 0) ∧
      t.rd (F.TPA_BURST_OK_LOCKED n) = (s.rd (F.TPA_BURST_OK_LOCKED n) + bit ((lock && !w.unlit) || w.confirmed || w.accepted != 0)) % 2
        ^ 32 ∧ MemFrame s t) ∧
  (∀ (s : State) (n corr bits bytes : Nat) (prev bad : Bool) (x : RxFrame) (w : Win),
      s.receives n = true → n < 32 → s.cwWin n prev = some w → w.confirmed = true → s.mode ≠ mStandby → x.len ≤ 9728 →
      s.rd (F.TPA_FEC_CW_UNCORR_CW n) < 2 ^ 32 → s.rd (F.TPA_FEC_CW_CORR_CW n) < 2 ^ 32 →
      ∃ t, exec (.codewordDecoded n prev corr bad bits bytes [] [x]) s = .next t ∧
      t.rd (F.TPA_FEC_CW_UNCORR_CW n) = (s.rd (F.TPA_FEC_CW_UNCORR_CW n) + bit bad) % 2 ^ 32 ∧
      (t.rd (F.TPA_FEC_CW_CORR_CW n) = (s.rd (F.TPA_FEC_CW_CORR_CW n) + if bad then 0 else bit (corr != 0)) % 2 ^ 32) ∧
      (∃ f, t.bpm.arriving.getLast? = some f ∧ f.2.up = true ∧ f.2.src = 16 + n ∧ f.2.len = x.len ∧ f.2.dst = x.dst ∧ f.2.smac = x.smac ∧
        f.2.term = w.term ∧ f.2.tport = x.tport) ∧ t.bpm.arriving.length = s.bpm.arriving.length + 1 ∧ MemFrame s t) ∧
  (∀ (s : State) (n term kind mic index : Nat) (body : List Nat) (w : Win),
      s.receives n = true → s.mode ≠ mStandby → n < 32 → term < 512 → s.msgWin n term kind = some (w, false) →
      mic ≠ s.upMic n term kind index body →
      ∃ t, exec (.upstreamMessage n term kind mic index body) s = .next t ∧
      ((t.tree n).wins.head?.map (fun x => SMap.getD x.held pmMicErr 0) = some (SMap.getD w.held pmMicErr 0 + 1)) ∧
      hasBit (t.term n term).defects 3 = true ∧
      RegFrame [F.FRM_DEFECT_LAST_FRAME n, F.FRM_DEFECT_LAST_TERMINAL n, F.FRM_DEFECT_LAST_DEFECT n, F.FRM_DEFECT_LAST_SET n,
        F.FRM_DEFECT_LAST_CHANGES n] s t ∧ { t.calm s with trees := s.trees, terms := s.terms, cph := s.cph } = s) ∧
  (∀ (s : State) (n term kind mic index : Nat) (body : List Nat) (w : Win),
      s.receives n = true → s.mode ≠ mStandby → n < 32 → term < 512 → s.msgWin n term kind = some (w, true) →
      mic ≠ s.upMic n term kind index body →
      ∃ t, exec (.upstreamMessage n term kind mic index body) s = .next t ∧
      (w.kind ≠ 2 → t.pm n pmMicErr = (s.pm n pmMicErr + 1) % 2 ^ 64) ∧ hasBit (t.term n term).defects 3 = true ∧
      RegFrame [F.FRM_DEFECT_LAST_FRAME n, F.FRM_DEFECT_LAST_TERMINAL n, F.FRM_DEFECT_LAST_DEFECT n, F.FRM_DEFECT_LAST_SET n,
        F.FRM_DEFECT_LAST_CHANGES n] s t ∧ { t.calm s with trees := s.trees, terms := s.terms, cph := s.cph } = s) ∧
  (∀ (s : State) (n term index : Nat) (body : List Nat) (w : Win),
      s.receives n = true → s.mode ≠ mStandby → n < 32 → term < 512 → s.msgWin n term 1 = some (w, false) → (s.tree n).rxq.length < 64 →
      ∃ t, exec (.upstreamMessage n term 1 (s.upMic n term 1 index body) index body) s = .next t ∧
      ((t.tree n).wins.head?.map (fun x => SMap.getD x.held pmPloamUs 0) = some (SMap.getD w.held pmPloamUs 0 + 1)) ∧
      (t.tree n).rxq = (s.tree n).rxq ++ [(term, body)] ∧ hasBit (t.term n term).defects 3 = false ∧ (t.term n term).registered = true ∧
      t.rd (F.FRM_MSG_RX_STAT_VALID n) = 1 ∧ t.status (E.FRM_MSG_RX n) = true ∧
      { t.calm s with trees := s.trees, terms := s.terms, cph := s.cph } = s) ∧
  (∀ (s : State) (n term kind mic index : Nat) (body : List Nat),
      s.receives n = true → n < 32 → s.msgWin n term kind = none →
      ∃ t, exec (.upstreamMessage n term kind mic index body) s = .next t ∧ t = s)

/-- Building and sending a downstream frame (R152, R154 to R157, R170, R204, R211). The model's choices: three blocks for each message check
  (log entry 46), payload that is not done misses the frame, and what is left of the frame is idle (log entry 43). -/
def Obligations.DownstreamFrame : Prop :=
  (∀ (s : State) (n : Nat) (l : List Msg),
      n < 32 → s.sending n = true → (s.tree n).selected = false →
      (l = (byOrigin (s.tree n).msgs).filter fun m => m.kind != 10 || s.nextServes n) →
      ∃ t, exec (.msgSelect n) s = .next t ∧ (t.tree n).selected = true ∧ (t.tree n).sel = l.take (s.msgMax n) ∧
      ((t.tree n).msgs = ((byOrigin (s.tree n).msgs).filter fun m => m.kind == 10 && !s.nextServes n) ++ l.drop (s.msgMax n)) ∧
      (t.cph = (askChecks ((l.take (s.msgMax n)).map fun m => some (n, m)) s).cph) ∧ RegOnly [F.FRM_MSG_TX_STAT_QUEUED n] s t ∧
      { t.still s with trees := s.trees, cph := s.cph } = s) ∧
  (∀ (s : State) (n : Nat),
      n < 32 → s.works = true → buildsMaps s.mode = true → s.carries n = true → (s.tree n).frozen = false → (s.tree n).late = false →
      ∃ t, exec (.mapFreeze n false) s = .next t ∧ (t.tree n).frozen = true ∧ (t.tree n).dynFresh = false ∧
      t.rd (F.GNT_MAP_STAT_PAGE n) = (1 - (s.tree n).active) % 2 ∧
      t.rd (F.GNT_MAP_STAT_REUSED n) = bit (!(s.tree n).dynFresh || (s.tree n).pageErr) ∧ MemFrame s t) ∧
  (∀ (s : State) (n : Nat),
      n < 32 → s.works = true → buildsMaps s.mode = true → s.carries n = true → (s.tree n).frozen = false → (s.tree n).late = false →
      ∃ t, exec (.mapFreeze n true) s = .next t ∧ (t.tree n).frozen = false ∧ (t.tree n).dynFresh = false ∧ (t.tree n).pageErr = true ∧
      t.status (E.GNT_PAGE_ERR n) = true ∧ RegFrame [F.GNT_REPORT_STAT_REPORTS n, F.GNT_REPORT_STAT_FOREIGN n] s t ∧
      { t.calm s with trees := s.trees } = s) ∧
  (∀ (s : State) (n : Nat),
      n < 32 → s.sending n = true → (s.tree n).frozen = false → (s.tree n).late = false →
      ∃ t, exec (.mapLate n) s = .next t ∧ (t.tree n).late = true ∧
      t.rd (F.FRM_DS_STAT_MAP_LATE n) = min (s.rd (F.FRM_DS_STAT_MAP_LATE n) + 1) 1023 ∧ t.status (E.FRM_MAP_LATE n) = true ∧
      RegFrame [F.FRM_DS_STAT_MAP_LATE n] s t ∧ { t.calm s with trees := s.trees } = s) ∧
  (∀ (s : State) (n idle : Nat) (short : Bool),
      n < 32 → s.sending n = true → (s.tree n).handed = false → ((s.tree n).frozen = true ∨ (s.tree n).late = true) →
      ∃ t, exec (.frameHandoff n idle short) s = .next t ∧ (t.tree n).handed = true ∧ (t.tree n).sel = [] ∧ (t.tree n).payload = 0 ∧
      (t.tree n).ready = [] ∧
      ((t.tree n).next = some ⟨(s.tree n).sel.map ((loadPayload n s).checked n), ((loadPayload n s).tree n).ready, ((loadPayload n
        s).tree n).payload, if short || s.falls n || (s.serving n && !s.halfOn n) then s.restOf n else min idle (s.restOf n), !(s.tree
        n).frozen || !(loadPayload n s).nextServes n, false⟩) ∧
      (short = false → s.falls n = false → (s.serving n = true → s.halfOn n = true) → t.regs = (loadPayload n s).regs) ∧
      (s.falls n = true → t.rd (F.FRM_DS_STAT_DS_UNDERRUN n) = min ((loadPayload n s).rd (F.FRM_DS_STAT_DS_UNDERRUN n) + 1) (2 ^
        (F.FRM_DS_STAT_DS_UNDERRUN n).width - 1)) ∧ RegFrame [F.FRM_DS_STAT_DS_UNDERRUN n] (loadPayload n s) t ∧
      { t.calm (loadPayload n s) with trees := s.trees, terms := s.terms } = { loadPayload n s with trees := s.trees, terms := s.terms })
        ∧
  (∀ (s : State) (n : Nat),
      s.sending n = true → (s.tree n).handed = false → ((s.tree n).frozen = true ∨ (s.tree n).late = true) →
      ((loadPayload n s).tree n).payload = (((loadPayload n s).tree n).ready.map SentFrame.len).sum ∧
      ((loadPayload n s).tree n).sel = (s.tree n).sel ∧
      SMap.getD (loadPayload n s).tmg.out n [] = (partOut (SMap.getD s.tmg.out n []) []).1) ∧
  (∀ (s : State) (n : Nat) (f : DsFrame),
      (s.tree n).onAir = some f → f.fill = false →
      (countFrame n s).pm n pmDsFrames = (s.pm n pmDsFrames + 1) % 2 ^ 64 ∧
      (countFrame n s).pm n pmDsIdle = (s.pm n pmDsIdle + f.idle) % 2 ^ 64 ∧
      (countFrame n s).pm n pmDsBytes = (s.pm n pmDsBytes + f.payload) % 2 ^ 64 ∧
      (countFrame n s).pm n pmPloamDs = (s.pm n pmPloamDs + f.msgs.length) % 2 ^ 64 ∧ { countFrame n s with trees := s.trees } = s)

/-- Host messages (R155, R162), PM records (R170, R171, R174) and the superframe ceiling (R159) of a tree. The model's choices:
  FRM_PM_STAT.DEFECTS at TREE 1 and the ceiling under alternate 5 (log entry 70), and the operands of the latch (log entry 8). -/
def Obligations.FrameHostSide : Prop :=
  (∀ (s : State) (n term : Nat),
      s.hostReady = true → n < 32 → s.joined n = true → term < 512 → (s.tree n).hostQueued < 64 →
      ∃ t, exec (.msgTxSubmit n term) s = .next t ∧
      ((t.tree n).msgs = (s.tree n).msgs ++ [⟨3, 11, term, 0, (List.range 10).flatMap fun i => leNats 4 (s.rd (F.FRM_MSG_TX_BYTES n
        i))⟩]) ∧ t.rd (F.FRM_MSG_TX_STAT_LAST_REFUSED n) = 0 ∧
      RegOnly [F.FRM_MSG_TX_CMD_TERMINAL n, F.FRM_MSG_TX_STAT_LAST_REFUSED n, F.FRM_MSG_TX_STAT_QUEUED n] s t ∧
      { t.still s with trees := s.trees } = s) ∧
  (∀ (s : State) (n term : Nat),
      s.hostReady = true → n < 32 → s.joined n = true → 64 ≤ (s.tree n).hostQueued →
      ∃ t, exec (.msgTxSubmit n term) s = .next t ∧ (t.tree n).msgs = (s.tree n).msgs ∧ t.rd (F.FRM_MSG_TX_STAT_LAST_REFUSED n) = 1 ∧
      t.pm n pmPloamDsDrop = (s.pm n pmPloamDsDrop + 1) % 2 ^ 64 ∧ t.status (E.FRM_MSG_TX_DROP n) = true ∧
      RegFrame [F.FRM_MSG_TX_CMD_TERMINAL n, F.FRM_MSG_TX_STAT_LAST_REFUSED n] s t ∧ { t.calm s with trees := s.trees } = s) ∧
  (∀ (s : State) (n : Nat),
      s.hostReady = true → n < 32 → s.joined n = true →
      ∃ t, exec (.msgRxPop n) s = .next t ∧ (t.tree n).rxq = (s.tree n).rxq.drop 1 ∧
      t.rd (F.FRM_MSG_RX_STAT_VALID n) = bit (!((s.tree n).rxq.drop 1).isEmpty) ∧
      t.rd (F.FRM_MSG_RX_STAT_PENDING n) = ((s.tree n).rxq.length - 1) % 128 ∧ { t.calm s with trees := s.trees } = s) ∧
  (∀ (s : State) (n term : Nat),
      s.hostReady = true → n < 32 → s.joined n = true → term < 512 →
      ∃ t, exec (.pmSelect n term true) s = .next t ∧
      (∀ i < 23, t.rd (F.FRM_PM_DATA_DATA n i) = SMap.getD (s.pmBank n).tree i 0 % 2 ^ 64) ∧
      RegFrame ([F.FRM_PM_SEL_TERMINAL n, F.FRM_PM_SEL_TREE n, F.FRM_PM_STAT_DEFECTS n] ++ (List.range 32).map (F.FRM_PM_DATA_DATA n)) s
        t ∧ t.calm s = s) ∧
  (∀ (s : State) (n term : Nat),
      s.hostReady = true → n < 32 → s.joined n = true → term < 512 →
      ∃ t, exec (.pmSelect n term false) s = .next t ∧ t.rd (F.FRM_PM_STAT_DEFECTS n) = (s.term n term).defects % 64 ∧
      (∀ i < 3, t.rd (F.FRM_PM_DATA_DATA n i) = ofLe (((((SMap.find? (s.pmBank n).terms term).getD TermPm.zero).bytes).drop (8 * i)).take
        8) % 2 ^ 64) ∧
      RegFrame ([F.FRM_PM_SEL_TERMINAL n, F.FRM_PM_SEL_TREE n, F.FRM_PM_STAT_DEFECTS n] ++ (List.range 32).map (F.FRM_PM_DATA_DATA n)) s
        t ∧ t.calm s = s) ∧
  (∀ (s : State) (n : Nat),
      s.ticking = true → n < 32 → (s.tree n).latching = true →
      ∃ t, exec (.pmLatched) s = .next t ∧ t.rd (F.FRM_PM_STAT_SECOND n) = (s.rd (F.FRM_PM_STAT_SECOND n) + 1) % 65536 ∧
      t.rd (F.FRM_PM_STAT_BANK n) = (1 - s.rd (F.FRM_PM_STAT_BANK n)) % 2 ∧ (t.tree n).latching = false ∧
      t.status E.FRM_PM_LATCHED = true ∧ { t.calm s with trees := s.trees, terms := s.terms, prt := s.prt, obs := s.obs } = s) ∧
  (∀ (s : State) (n : Nat),
      s.ticking = true → n < 32 → ceilingDue s n = true → s.cfg.scan = false →
      ∃ t, exec (.sfcCeilingWrite n) s = .next t ∧ (t.tree n).ceiling = (s.rd (F.FRM_SFC_SFC n) + 2 ^ 32) % 2 ^ 51 ∧
      SMap.find? t.store.ceilings n = some ((s.rd (F.FRM_SFC_SFC n) + 2 ^ 32) % 2 ^ 51) ∧ t.regs = s.regs ∧
      { t.calm s with trees := s.trees } = s)

/-- Host commands of activation (R181, R184, R185, R187, R196). The model's choice: an operand out of range is refused before the terminal's
  state is looked at, so code 2 comes before 3 and 1 (log entry 34). -/
def Obligations.RangingCommands : Prop :=
  (∀ (s : State) (n x : Nat),
      s.hostReady = true → n < 32 → s.joined n = true → x < s.maxTerms n → x < 512 → (s.tree n).cmd = none → s.tst n x = tsGuarded →
      s.tcause n x ≠ 2 →
      ∃ t, exec (.accept n x) s = .next t ∧ (∃ c, (t.tree n).cmd = some c ∧ c.op = 1 ∧ c.term = x) ∧ t.rd (F.RNG_CMD_STAT_CODE n) = 0 ∧
      t.rd (F.RNG_CMD_STAT_SOURCE n) = 0 ∧
      RegOnly [F.RNG_TERM_CMD_TERMINAL n, F.RNG_TERM_CMD_OP n, F.RNG_CMD_STAT_CODE n, F.RNG_CMD_STAT_SOURCE n] s t ∧
      { t.still s with trees := s.trees } = s) ∧
  (∀ (s : State) (n x : Nat),
      s.hostReady = true → n < 32 → s.joined n = true → x < s.maxTerms n → x < 512 → (s.tree n).cmd = none →
      (s.tst n x = tsService ∨ s.tst n x = tsGuarded ∨ s.tst n x = tsVerifying) →
      ∃ t, exec (.rerange n x) s = .next t ∧ (∃ c, (t.tree n).cmd = some c ∧ c.op = 2 ∧ c.term = x) ∧ t.rd (F.RNG_CMD_STAT_CODE n) = 0 ∧
      t.rd (F.RNG_CMD_STAT_SOURCE n) = 0 ∧
      RegOnly [F.RNG_TERM_CMD_TERMINAL n, F.RNG_TERM_CMD_OP n, F.RNG_CMD_STAT_CODE n, F.RNG_CMD_STAT_SOURCE n] s t ∧
      { t.still s with trees := s.trees } = s) ∧
  (∀ (s : State) (n x : Nat),
      s.hostReady = true → n < 32 → s.joined n = true → x < s.maxTerms n → x < 512 → (s.tree n).cmd = none → s.tst n x ≠ tsFree →
      ∃ t, exec (.release n x) s = .next t ∧ (∃ c, (t.tree n).cmd = some c ∧ c.op = 3 ∧ c.term = x) ∧ t.rd (F.RNG_CMD_STAT_CODE n) = 0 ∧
      t.rd (F.RNG_CMD_STAT_SOURCE n) = 0 ∧
      RegOnly [F.RNG_TERM_CMD_TERMINAL n, F.RNG_TERM_CMD_OP n, F.RNG_CMD_STAT_CODE n, F.RNG_CMD_STAT_SOURCE n] s t ∧
      { t.still s with trees := s.trees } = s) ∧
  (∀ (s : State) (n x : Nat),
      s.hostReady = true → n < 32 → s.joined n = true → x < s.maxTerms n → x < 512 → (s.tree n).cmd = none → s.tst n x = tsFailed →
      ∃ t, exec (.retry n x) s = .next t ∧ (∃ c, (t.tree n).cmd = some c ∧ c.op = 4 ∧ c.term = x) ∧ t.rd (F.RNG_CMD_STAT_CODE n) = 0 ∧
      t.rd (F.RNG_CMD_STAT_SOURCE n) = 0 ∧
      RegOnly [F.RNG_TERM_CMD_TERMINAL n, F.RNG_TERM_CMD_OP n, F.RNG_CMD_STAT_CODE n, F.RNG_CMD_STAT_SOURCE n] s t ∧
      { t.still s with trees := s.trees } = s) ∧
  (∀ (s : State) (n x sn : Nat) (est : Int) (r : List (Nat × Int)),
      s.hostReady = true → n < 32 → s.joined n = true → x < s.maxTerms n → x < 512 → (s.tree n).cmd = none →
      (s.tree n).pend = (sn, est) :: r → s.holder n sn = none → s.tst n x = tsFree →
      ∃ t, exec (.snAdmit n x) s = .next t ∧ (t.tree n).cmd = some ⟨5, x, sn⟩ ∧ t.rd (F.RNG_CMD_STAT_CODE n) = 0 ∧
      t.rd (F.RNG_CMD_STAT_SOURCE n) = 1 ∧
      RegOnly [F.RNG_SN_CMD_TERMINAL n, F.RNG_SN_CMD_OP n, F.RNG_CMD_STAT_CODE n, F.RNG_CMD_STAT_SOURCE n] s t ∧
      { t.still s with trees := s.trees } = s) ∧
  (∀ (s : State) (n : Nat),
      s.hostReady = true → n < 32 → s.joined n = true → (s.tree n).cmd = none → (s.tree n).pend ≠ [] →
      ∃ t, exec (.snDrop n) s = .next t ∧ (∃ c, (t.tree n).cmd = some c ∧ c.op = 6) ∧ t.rd (F.RNG_CMD_STAT_CODE n) = 0 ∧
      t.rd (F.RNG_CMD_STAT_SOURCE n) = 1 ∧
      RegOnly [F.RNG_SN_CMD_TERMINAL n, F.RNG_SN_CMD_OP n, F.RNG_CMD_STAT_CODE n, F.RNG_CMD_STAT_SOURCE n] s t ∧
      { t.still s with trees := s.trees } = s) ∧
  (∀ (s : State) (n x : Nat),
      s.hostReady = true → n < 32 → s.joined n = true → x < s.maxTerms n → x < 512 → (s.tree n).cmd = none →
      s.holder n (s.rd (F.RNG_SN_DATA_SERIAL n)) = none → s.tst n x = tsFree →
      ∃ t, exec (.snReserve n x) s = .next t ∧ (t.tree n).cmd = some ⟨7, x, s.rd (F.RNG_SN_DATA_SERIAL n)⟩ ∧
      t.rd (F.RNG_CMD_STAT_CODE n) = 0 ∧ t.rd (F.RNG_CMD_STAT_SOURCE n) = 1 ∧
      RegOnly [F.RNG_SN_CMD_TERMINAL n, F.RNG_SN_CMD_OP n, F.RNG_CMD_STAT_CODE n, F.RNG_CMD_STAT_SOURCE n] s t ∧
      { t.still s with trees := s.trees } = s) ∧
  (∀ (s : State) (n x : Nat),
      s.hostReady = true → n < 32 → s.joined n = true → x < 512 → s.maxTerms n ≤ x →
      ∃ t, exec (.accept n x) s = .next t ∧ t.rd (F.RNG_CMD_STAT_CODE n) = 2 ∧ (t.tree n).cmd = (s.tree n).cmd ∧
      RegOnly [F.RNG_TERM_CMD_TERMINAL n, F.RNG_TERM_CMD_OP n, F.RNG_CMD_STAT_CODE n, F.RNG_CMD_STAT_SOURCE n] s t) ∧
  (∀ (s : State) (n : Nat),
      s.hostReady = true → n < 32 → s.joined n = true →
      ∃ t, exec (.discoveryNow n) s = .next t ∧ t.tree n = { s.tree n with discWanted := true } ∧ t.regs = s.regs ∧
      { t with trees := s.trees } = s) ∧
  (∀ (s : State) (n : Nat),
      s.works = true → n < 32 → periodDue s n = true →
      ∃ t, exec (.discoveryPeriod n) s = .next t ∧ t.tree n = { s.tree n with discWanted := true } ∧ t.regs = s.regs ∧
      { t with trees := s.trees } = s) ∧
  (∀ (s : State) (n x : Nat),
      s.hostReady = true → n < 32 → s.joined n = true → x < 512 →
      ∃ t, exec (.accept n x) s = .next t ∧
      (t.rd (F.RNG_CMD_STAT_CODE n) = if s.maxTerms n ≤ x then 2 else if (s.tree n).cmd ≠ none then 3 else if s.tst n x = tsGuarded ∧
        s.tcause n x ≠ 2 then 0 else 1) ∧ t.rd (F.RNG_CMD_STAT_SOURCE n) = 0 ∧
      (t.rd (F.RNG_CMD_STAT_CODE n) ≠ 0 → (t.tree n).cmd = (s.tree n).cmd) ∧
      RegOnly [F.RNG_TERM_CMD_TERMINAL n, F.RNG_TERM_CMD_OP n, F.RNG_CMD_STAT_CODE n, F.RNG_CMD_STAT_SOURCE n] s t ∧
      { t.still s with trees := s.trees } = s) ∧
  (∀ (s : State) (n x : Nat),
      s.hostReady = true → n < 32 → s.joined n = true → x < 512 →
      ∃ t, exec (.rerange n x) s = .next t ∧
      (t.rd (F.RNG_CMD_STAT_CODE n) = if s.maxTerms n ≤ x then 2 else if (s.tree n).cmd ≠ none then 3 else if s.tst n x = tsService ∨
        s.tst n x = tsGuarded ∨ s.tst n x = tsVerifying then 0 else 1) ∧ t.rd (F.RNG_CMD_STAT_SOURCE n) = 0 ∧
      (t.rd (F.RNG_CMD_STAT_CODE n) ≠ 0 → (t.tree n).cmd = (s.tree n).cmd) ∧
      RegOnly [F.RNG_TERM_CMD_TERMINAL n, F.RNG_TERM_CMD_OP n, F.RNG_CMD_STAT_CODE n, F.RNG_CMD_STAT_SOURCE n] s t ∧
      { t.still s with trees := s.trees } = s) ∧
  (∀ (s : State) (n x : Nat),
      s.hostReady = true → n < 32 → s.joined n = true → x < 512 →
      ∃ t, exec (.release n x) s = .next t ∧
      (t.rd (F.RNG_CMD_STAT_CODE n) = if s.maxTerms n ≤ x then 2 else if (s.tree n).cmd ≠ none then 3 else if s.tst n x ≠ tsFree then 0
        else 1) ∧ t.rd (F.RNG_CMD_STAT_SOURCE n) = 0 ∧ (t.rd (F.RNG_CMD_STAT_CODE n) ≠ 0 → (t.tree n).cmd = (s.tree n).cmd) ∧
      RegOnly [F.RNG_TERM_CMD_TERMINAL n, F.RNG_TERM_CMD_OP n, F.RNG_CMD_STAT_CODE n, F.RNG_CMD_STAT_SOURCE n] s t ∧
      { t.still s with trees := s.trees } = s) ∧
  (∀ (s : State) (n x : Nat),
      s.hostReady = true → n < 32 → s.joined n = true → x < 512 →
      ∃ t, exec (.retry n x) s = .next t ∧
      (t.rd (F.RNG_CMD_STAT_CODE n) = if s.maxTerms n ≤ x then 2 else if (s.tree n).cmd ≠ none then 3 else if s.tst n x = tsFailed then 0
        else 1) ∧ t.rd (F.RNG_CMD_STAT_SOURCE n) = 0 ∧ (t.rd (F.RNG_CMD_STAT_CODE n) ≠ 0 → (t.tree n).cmd = (s.tree n).cmd) ∧
      RegOnly [F.RNG_TERM_CMD_TERMINAL n, F.RNG_TERM_CMD_OP n, F.RNG_CMD_STAT_CODE n, F.RNG_CMD_STAT_SOURCE n] s t ∧
      { t.still s with trees := s.trees } = s) ∧
  (∀ (s : State) (n x : Nat),
      s.hostReady = true → n < 32 → s.joined n = true → x < 512 →
      ∃ t, exec (.snAdmit n x) s = .next t ∧
      (t.rd (F.RNG_CMD_STAT_CODE n) = if s.maxTerms n ≤ x then 2 else if (s.tree n).cmd ≠ none then 3 else if (s.tree n).pend = [] then 4
        else if (s.holder n ((s.tree n).pend.headD (0, 0)).1).isSome = true then 5 else if s.tst n x ≠ tsFree then 6 else 0) ∧
      t.rd (F.RNG_CMD_STAT_SOURCE n) = 1 ∧ (t.rd (F.RNG_CMD_STAT_CODE n) ≠ 0 → (t.tree n).cmd = (s.tree n).cmd) ∧
      RegOnly [F.RNG_SN_CMD_TERMINAL n, F.RNG_SN_CMD_OP n, F.RNG_CMD_STAT_CODE n, F.RNG_CMD_STAT_SOURCE n] s t ∧
      { t.still s with trees := s.trees } = s) ∧
  (∀ (s : State) (n x : Nat),
      s.hostReady = true → n < 32 → s.joined n = true → x < 512 →
      ∃ t, exec (.snReserve n x) s = .next t ∧
      (t.rd (F.RNG_CMD_STAT_CODE n) = if s.maxTerms n ≤ x then 2 else if (s.tree n).cmd ≠ none then 3 else if (s.holder n (s.rd
        (F.RNG_SN_DATA_SERIAL n))).isSome = true then 5 else if s.tst n x ≠ tsFree then 6 else 0) ∧ t.rd (F.RNG_CMD_STAT_SOURCE n) = 1 ∧
      (t.rd (F.RNG_CMD_STAT_CODE n) ≠ 0 → (t.tree n).cmd = (s.tree n).cmd) ∧
      RegOnly [F.RNG_SN_CMD_TERMINAL n, F.RNG_SN_CMD_OP n, F.RNG_CMD_STAT_CODE n, F.RNG_CMD_STAT_SOURCE n] s t ∧
      { t.still s with trees := s.trees } = s) ∧
  (∀ (s : State) (n : Nat),
      s.hostReady = true → n < 32 → s.joined n = true →
      ∃ t, exec (.snDrop n) s = .next t ∧
      (t.rd (F.RNG_CMD_STAT_CODE n) = if (s.tree n).cmd ≠ none then 3 else if (s.tree n).pend = [] then 4 else 0) ∧
      t.rd (F.RNG_CMD_STAT_SOURCE n) = 1 ∧ (t.rd (F.RNG_CMD_STAT_CODE n) ≠ 0 → (t.tree n).cmd = (s.tree n).cmd) ∧
      RegOnly [F.RNG_SN_CMD_TERMINAL n, F.RNG_SN_CMD_OP n, F.RNG_CMD_STAT_CODE n, F.RNG_CMD_STAT_SOURCE n] s t ∧
      { t.still s with trees := s.trees } = s)

/-- What ranging does by itself (R180 to R183, R185, R186, R192, R200). The model's choices: a response is handled once its window has
  closed, and which windows may not hold others back (log entry 33); windows that count as without a response (log entry 34). -/
def Obligations.RangingEvents : Prop :=
  (∀ (s : State) (n sn win : Nat) (rtd : Int) (r : List (Nat × Int × Nat)),
      s.works = true → n < 32 → (s.tree n).resps = (sn, rtd, win) :: r → (s.tree n).discOpen win = false →
      (∀ q ∈ r, q.1 = sn → q.2.2 ≠ win) → s.holder n sn = none → s.on (F.RNG_DISC_CFG_AUTO_ASSIGN n) = false →
      (s.tree n).pend.length < 16 →
      ∃ t, exec (.discoveryResponse n) s = .next t ∧ (t.tree n).pend = (s.tree n).pend ++ [(sn, s.estOf n rtd)] ∧ (t.tree n).resps = r ∧
      t.rd (F.RNG_DISC_CNT_RESPONSES n) = min (s.rd (F.RNG_DISC_CNT_RESPONSES n) + 1) (2 ^ (F.RNG_DISC_CNT_RESPONSES n).width - 1) ∧
      t.status (E.RNG_SN_PENDING n) = true ∧
      RegFrame [F.RNG_DISC_CNT_RESPONSES n, F.RNG_SN_PEND_SERIAL n, F.RNG_SN_STAT_PENDING n, F.RNG_EVT_LAST_FRAME n,
        F.RNG_EVT_LAST_TERMINAL n, F.RNG_EVT_LAST_EVENT n, F.RNG_EVT_LAST_CAUSE n, F.RNG_EVT_LAST_STEP_RU n] s t ∧
      { t.calm s with trees := s.trees } = s) ∧
  (∀ (s : State) (n x : Nat),
      s.works = true → n < 32 → x < 512 → s.tst n x = tsRanging → 16 ≤ (s.term n x).rtTicks → s.mode ≠ mStandby →
      1 ≤ (s.term n x).rtSends → (s.term n x).rtSends < 3 →
      ∃ t, exec (.rangingTimeResend n x) s = .next t ∧ (t.tree n).msgs = (s.tree n).msgs ++ [⟨0, 3, x, (s.eqd n x : Nat), []⟩] ∧
      (t.term n x).rtSends = (s.term n x).rtSends + 1 ∧ (t.term n x).rtTicks = 0 ∧ t.regs = s.regs ∧
      { t with trees := s.trees, terms := s.terms } = s) ∧
  (∀ (s : State) (n x : Nat),
      s.works = true → n < 32 → x < 512 → s.tst n x = tsRanging → 16 ≤ (s.term n x).rtTicks → s.mode ≠ mStandby →
      3 ≤ (s.term n x).rtSends →
      ∃ t, exec (.rangingTimeResend n x) s = .next t ∧ t.tst n x = tsFailed ∧ t.status (E.RNG_RANGE_FAILED n) = true ∧
      (t.term n x).rtSends = 0 ∧ MemFrame s t) ∧
  (∀ (s : State) (n x : Nat),
      s.works = true → n < 32 → x < 512 → (s.term n x).corr ≠ none → 64 ≤ (s.term n x).corrBursts → (s.term n x).corrSends < 2 →
      (s.tst n x = tsGuarded → (s.term n x).accepting = true) → s.mode ≠ mStandby →
      ∃ t, exec (.correctionResend n x) s = .next t ∧ (t.tree n).msgs = (s.tree n).msgs ++ [⟨0, 3, x, (s.eqd n x : Nat), []⟩] ∧
      (t.term n x).corrSends = (s.term n x).corrSends + 1 ∧ (t.term n x).corrBursts = 0 ∧ t.regs = s.regs ∧
      { t with trees := s.trees, terms := s.terms } = s) ∧
  (∀ (s : State) (n x : Nat),
      s.mode = mStandby →
      ∃ t, exec (.correctionResend n x) s = .next t ∧ t = s) ∧
  (∀ (s : State) (n x : Nat),
      s.works = true → n < 32 → x < 512 → s.tst n x = tsVerifying → s.verifyFrames n ≤ (s.term n x).vFrames →
      ∃ t, exec (.verifyTimeout n x) s = .next t ∧ t.tst n x = tsReserved ∧ (t.eqd n x = if s.mode = mStandby then s.eqd n x else 0) ∧
      t.status (E.RNG_VERIFY_FAIL n) = true ∧ MemFrame s t) ∧
  (∀ (s : State) (n : Nat),
      n < 32 → s.mayQuiet n = true → (s.tree n).frozen = false → hasBit s.hub.mapFrozen n = false → (s.tree n).quiet = [] →
      s.nextQuiet n = some (0x1FF, s.discWinNs n) → s.discWinNs n ≤ (s.tree n).budget → (s.tree n).waiting = none →
      s.rd F.RNG_DEV_STAT_BEGUN + s.waitersReady < s.devWin →
      ∃ t, exec (.quietWindowBegin n) s = .next t ∧ (t.tree n).budget = (s.tree n).budget - s.discWinNs n ∧
      (t.tree n).discWanted = false ∧ (t.tree n).discHit = false ∧
      (((t.tree n).quiet.map fun q => (q.term, q.lenNs, q.frame)) = [(0x1FF, s.discWinNs n, s.ticks + 1)]) ∧
      t.rd (F.RNG_DISC_CNT_WINDOWS n) = min (s.rd (F.RNG_DISC_CNT_WINDOWS n) + 1) (2 ^ (F.RNG_DISC_CNT_WINDOWS n).width - 1) ∧
      RegFrame [F.RNG_DEV_STAT_BEGUN, F.RNG_WIN_BUDGET n, F.RNG_WIN_WAITING n, F.RNG_DEV_STAT_QUEUED, F.RNG_DISC_CNT_WINDOWS n] s t ∧
      { t.calm s with trees := s.trees } = s) ∧
  (∀ (s : State) (n x : Nat),
      s.mode = mStandby →
      ∃ t, exec (.rangingTimeResend n x) s = .next t ∧ t = s) ∧
  (∀ (s : State) (n x : Nat),
      s.works = true → n < 32 → x < 512 → (s.term n x).corr ≠ none → 64 ≤ (s.term n x).corrBursts → (s.term n x).corrSends < 2 →
      s.tst n x = tsGuarded → (s.term n x).accepting = false → s.mode ≠ mStandby →
      ∃ t, exec (.correctionResend n x) s = .next t ∧ (t.term n x).corrSends = (s.term n x).corrSends + 1 ∧ (t.term n x).corrBursts = 0 ∧
      t.trees = s.trees ∧ t.regs = s.regs ∧ { t with terms := s.terms } = s)

/-- What each ALU operation of a microword writes (R238, R239, R242). The model's choices: which cycle a row executes its word at (log entry
  36), and the order of an LD, the ALU slots and the control slot (log entry 37). -/
def Obligations.AluResults : Prop :=
  (∀ (s : State) (e c : Nat) (w : MWord) (x : AluSlot) (a b : Word),
      s.executes e c w = true → s.quietEng e = true → x ∈ [w.a, w.b] → x.op = 1 → a = BitVec.ofNat 32 (s.readG e c x.src1) →
      b = BitVec.ofNat 32 (s.readG e c x.src2) → 1 ≤ x.dst ∧ x.dst ≤ 61 → (¬ (w.memOp = 1 ∧ w.memReg = x.dst)) →
      (¬ (w.ctl = 3 ∧ x.dst = 60)) → (¬ (w.ctl = 6 ∧ x.dst = 61)) → (¬ (w.ctl = 4 ∧ (s.eng e).hook.isSome)) → w.ctl ≠ 11 → w.ctl ≠ 12 →
      ∃ t, exec (.opAdd e c) s = .next t ∧ SMap.getD (t.eng e).regs x.dst 0 = (a + b).toNat) ∧
  (∀ (s : State) (e c : Nat) (w : MWord) (x : AluSlot) (a b : Word),
      s.executes e c w = true → s.quietEng e = true → x ∈ [w.a, w.b] → x.op = 2 → a = BitVec.ofNat 32 (s.readG e c x.src1) →
      b = BitVec.ofNat 32 (s.readG e c x.src2) → 1 ≤ x.dst ∧ x.dst ≤ 61 → (¬ (w.memOp = 1 ∧ w.memReg = x.dst)) →
      (¬ (w.ctl = 3 ∧ x.dst = 60)) → (¬ (w.ctl = 6 ∧ x.dst = 61)) → (¬ (w.ctl = 4 ∧ (s.eng e).hook.isSome)) → w.ctl ≠ 11 → w.ctl ≠ 12 →
      ∃ t, exec (.opSub e c) s = .next t ∧ SMap.getD (t.eng e).regs x.dst 0 = (a - b).toNat) ∧
  (∀ (s : State) (e c : Nat) (w : MWord) (x : AluSlot) (a b : Word),
      s.executes e c w = true → s.quietEng e = true → x ∈ [w.a, w.b] → x.op = 3 → a = BitVec.ofNat 32 (s.readG e c x.src1) →
      b = BitVec.ofNat 32 (s.readG e c x.src2) → 1 ≤ x.dst ∧ x.dst ≤ 61 → (¬ (w.memOp = 1 ∧ w.memReg = x.dst)) →
      (¬ (w.ctl = 3 ∧ x.dst = 60)) → (¬ (w.ctl = 6 ∧ x.dst = 61)) → (¬ (w.ctl = 4 ∧ (s.eng e).hook.isSome)) → w.ctl ≠ 11 → w.ctl ≠ 12 →
      ∃ t, exec (.opAnd e c) s = .next t ∧ SMap.getD (t.eng e).regs x.dst 0 = (a &&& b).toNat) ∧
  (∀ (s : State) (e c : Nat) (w : MWord) (x : AluSlot) (a b : Word),
      s.executes e c w = true → s.quietEng e = true → x ∈ [w.a, w.b] → x.op = 4 → a = BitVec.ofNat 32 (s.readG e c x.src1) →
      b = BitVec.ofNat 32 (s.readG e c x.src2) → 1 ≤ x.dst ∧ x.dst ≤ 61 → (¬ (w.memOp = 1 ∧ w.memReg = x.dst)) →
      (¬ (w.ctl = 3 ∧ x.dst = 60)) → (¬ (w.ctl = 6 ∧ x.dst = 61)) → (¬ (w.ctl = 4 ∧ (s.eng e).hook.isSome)) → w.ctl ≠ 11 → w.ctl ≠ 12 →
      ∃ t, exec (.opOr e c) s = .next t ∧ SMap.getD (t.eng e).regs x.dst 0 = (a ||| b).toNat) ∧
  (∀ (s : State) (e c : Nat) (w : MWord) (x : AluSlot) (a b : Word),
      s.executes e c w = true → s.quietEng e = true → x ∈ [w.a, w.b] → x.op = 5 → a = BitVec.ofNat 32 (s.readG e c x.src1) →
      b = BitVec.ofNat 32 (s.readG e c x.src2) → 1 ≤ x.dst ∧ x.dst ≤ 61 → (¬ (w.memOp = 1 ∧ w.memReg = x.dst)) →
      (¬ (w.ctl = 3 ∧ x.dst = 60)) → (¬ (w.ctl = 6 ∧ x.dst = 61)) → (¬ (w.ctl = 4 ∧ (s.eng e).hook.isSome)) → w.ctl ≠ 11 → w.ctl ≠ 12 →
      ∃ t, exec (.opXor e c) s = .next t ∧ SMap.getD (t.eng e).regs x.dst 0 = (a ^^^ b).toNat) ∧
  (∀ (s : State) (e c : Nat) (w : MWord) (x : AluSlot) (a b : Word),
      s.executes e c w = true → s.quietEng e = true → x ∈ [w.a, w.b] → x.op = 6 → a = BitVec.ofNat 32 (s.readG e c x.src1) →
      b = BitVec.ofNat 32 (s.readG e c x.src2) → 1 ≤ x.dst ∧ x.dst ≤ 61 → (¬ (w.memOp = 1 ∧ w.memReg = x.dst)) →
      (¬ (w.ctl = 3 ∧ x.dst = 60)) → (¬ (w.ctl = 6 ∧ x.dst = 61)) → (¬ (w.ctl = 4 ∧ (s.eng e).hook.isSome)) → w.ctl ≠ 11 → w.ctl ≠ 12 →
      ∃ t, exec (.opShl e c) s = .next t ∧ SMap.getD (t.eng e).regs x.dst 0 = a.toNat * 2 ^ (b.toNat % 32) % 2 ^ 32) ∧
  (∀ (s : State) (e c : Nat) (w : MWord) (x : AluSlot) (a b : Word),
      s.executes e c w = true → s.quietEng e = true → x ∈ [w.a, w.b] → x.op = 7 → a = BitVec.ofNat 32 (s.readG e c x.src1) →
      b = BitVec.ofNat 32 (s.readG e c x.src2) → 1 ≤ x.dst ∧ x.dst ≤ 61 → (¬ (w.memOp = 1 ∧ w.memReg = x.dst)) →
      (¬ (w.ctl = 3 ∧ x.dst = 60)) → (¬ (w.ctl = 6 ∧ x.dst = 61)) → (¬ (w.ctl = 4 ∧ (s.eng e).hook.isSome)) → w.ctl ≠ 11 → w.ctl ≠ 12 →
      ∃ t, exec (.opShr e c) s = .next t ∧ SMap.getD (t.eng e).regs x.dst 0 = a.toNat / 2 ^ (b.toNat % 32)) ∧
  (∀ (s : State) (e c : Nat) (w : MWord) (x : AluSlot) (a b : Word),
      s.executes e c w = true → s.quietEng e = true → x ∈ [w.a, w.b] → x.op = 8 → a = BitVec.ofNat 32 (s.readG e c x.src1) →
      b = BitVec.ofNat 32 (s.readG e c x.src2) → 1 ≤ x.dst ∧ x.dst ≤ 61 → (¬ (w.memOp = 1 ∧ w.memReg = x.dst)) →
      (¬ (w.ctl = 3 ∧ x.dst = 60)) → (¬ (w.ctl = 6 ∧ x.dst = 61)) → (¬ (w.ctl = 4 ∧ (s.eng e).hook.isSome)) → w.ctl ≠ 11 → w.ctl ≠ 12 →
      ∃ t, exec (.opSar e c) s = .next t ∧ SMap.getD (t.eng e).regs x.dst 0 = (a.sshiftRight (b.toNat % 32)).toNat) ∧
  (∀ (s : State) (e c : Nat) (w : MWord) (x : AluSlot) (a b : Word),
      s.executes e c w = true → s.quietEng e = true → x ∈ [w.a, w.b] → x.op = 9 → a = BitVec.ofNat 32 (s.readG e c x.src1) →
      b = BitVec.ofNat 32 (s.readG e c x.src2) → 1 ≤ x.dst ∧ x.dst ≤ 61 → (¬ (w.memOp = 1 ∧ w.memReg = x.dst)) →
      (¬ (w.ctl = 3 ∧ x.dst = 60)) → (¬ (w.ctl = 6 ∧ x.dst = 61)) → (¬ (w.ctl = 4 ∧ (s.eng e).hook.isSome)) → w.ctl ≠ 11 → w.ctl ≠ 12 →
      ∃ t, exec (.opMin e c) s = .next t ∧ (SMap.getD (t.eng e).regs x.dst 0 = (if a.toInt < b.toInt then a else b).toNat)) ∧
  (∀ (s : State) (e c : Nat) (w : MWord) (x : AluSlot) (a b : Word),
      s.executes e c w = true → s.quietEng e = true → x ∈ [w.a, w.b] → x.op = 10 → a = BitVec.ofNat 32 (s.readG e c x.src1) →
      b = BitVec.ofNat 32 (s.readG e c x.src2) → 1 ≤ x.dst ∧ x.dst ≤ 61 → (¬ (w.memOp = 1 ∧ w.memReg = x.dst)) →
      (¬ (w.ctl = 3 ∧ x.dst = 60)) → (¬ (w.ctl = 6 ∧ x.dst = 61)) → (¬ (w.ctl = 4 ∧ (s.eng e).hook.isSome)) → w.ctl ≠ 11 → w.ctl ≠ 12 →
      ∃ t, exec (.opMax e c) s = .next t ∧ (SMap.getD (t.eng e).regs x.dst 0 = (if a.toInt < b.toInt then b else a).toNat)) ∧
  (∀ (s : State) (e c : Nat) (w : MWord) (x : AluSlot) (a b : Word),
      s.executes e c w = true → s.quietEng e = true → x ∈ [w.a, w.b] → x.op = 11 → a = BitVec.ofNat 32 (s.readG e c x.src1) →
      b = BitVec.ofNat 32 (s.readG e c x.src2) → 1 ≤ x.dst ∧ x.dst ≤ 61 → (¬ (w.memOp = 1 ∧ w.memReg = x.dst)) →
      (¬ (w.ctl = 3 ∧ x.dst = 60)) → (¬ (w.ctl = 6 ∧ x.dst = 61)) → (¬ (w.ctl = 4 ∧ (s.eng e).hook.isSome)) → w.ctl ≠ 11 → w.ctl ≠ 12 →
      ∃ t, exec (.opMinu e c) s = .next t ∧ SMap.getD (t.eng e).regs x.dst 0 = min a.toNat b.toNat) ∧
  (∀ (s : State) (e c : Nat) (w : MWord) (x : AluSlot) (a b : Word),
      s.executes e c w = true → s.quietEng e = true → x ∈ [w.a, w.b] → x.op = 12 → a = BitVec.ofNat 32 (s.readG e c x.src1) →
      b = BitVec.ofNat 32 (s.readG e c x.src2) → 1 ≤ x.dst ∧ x.dst ≤ 61 → (¬ (w.memOp = 1 ∧ w.memReg = x.dst)) →
      (¬ (w.ctl = 3 ∧ x.dst = 60)) → (¬ (w.ctl = 6 ∧ x.dst = 61)) → (¬ (w.ctl = 4 ∧ (s.eng e).hook.isSome)) → w.ctl ≠ 11 → w.ctl ≠ 12 →
      ∃ t, exec (.opMaxu e c) s = .next t ∧ SMap.getD (t.eng e).regs x.dst 0 = max a.toNat b.toNat) ∧
  (∀ (s : State) (e c : Nat) (w : MWord) (x : AluSlot) (a b : Word),
      s.executes e c w = true → s.quietEng e = true → x ∈ [w.a, w.b] → x.op = 13 → a = BitVec.ofNat 32 (s.readG e c x.src1) →
      b = BitVec.ofNat 32 (s.readG e c x.src2) → 1 ≤ x.dst ∧ x.dst ≤ 61 → (¬ (w.memOp = 1 ∧ w.memReg = x.dst)) →
      (¬ (w.ctl = 3 ∧ x.dst = 60)) → (¬ (w.ctl = 6 ∧ x.dst = 61)) → (¬ (w.ctl = 4 ∧ (s.eng e).hook.isSome)) → w.ctl ≠ 11 → w.ctl ≠ 12 →
      ∃ t, exec (.opMul e c) s = .next t ∧ SMap.getD (t.eng e).regs x.dst 0 = a.toNat * b.toNat % 2 ^ 32) ∧
  (∀ (s : State) (e c : Nat) (w : MWord) (x : AluSlot) (a b : Word),
      s.executes e c w = true → s.quietEng e = true → x ∈ [w.a, w.b] → x.op = 14 → a = BitVec.ofNat 32 (s.readG e c x.src1) →
      b = BitVec.ofNat 32 (s.readG e c x.src2) → 1 ≤ x.dst ∧ x.dst ≤ 61 → (¬ (w.memOp = 1 ∧ w.memReg = x.dst)) →
      (¬ (w.ctl = 3 ∧ x.dst = 60)) → (¬ (w.ctl = 6 ∧ x.dst = 61)) → (¬ (w.ctl = 4 ∧ (s.eng e).hook.isSome)) → w.ctl ≠ 11 → w.ctl ≠ 12 →
      ∃ t, exec (.opMulhu e c) s = .next t ∧ SMap.getD (t.eng e).regs x.dst 0 = a.toNat * b.toNat / 2 ^ 32) ∧
  (∀ (s : State) (e c : Nat) (w : MWord) (x : AluSlot) (a b : Word),
      s.executes e c w = true → s.quietEng e = true → x ∈ [w.a, w.b] → x.op = 16 → a = BitVec.ofNat 32 (s.readG e c x.src1) →
      b = BitVec.ofNat 32 (s.readG e c x.src2) → 1 ≤ x.dst ∧ x.dst ≤ 61 → (¬ (w.memOp = 1 ∧ w.memReg = x.dst)) →
      (¬ (w.ctl = 3 ∧ x.dst = 60)) → (¬ (w.ctl = 6 ∧ x.dst = 61)) → (¬ (w.ctl = 4 ∧ (s.eng e).hook.isSome)) → w.ctl ≠ 11 → w.ctl ≠ 12 →
      ∃ t, exec (.opAddi e c) s = .next t ∧
      SMap.getD (t.eng e).regs x.dst 0 = (a + (BitVec.ofNat 14 (x.src2 * 256 + x.imm)).signExtend 32).toNat) ∧
  (∀ (s : State) (e c : Nat) (w : MWord) (x : AluSlot) (a b : Word),
      s.executes e c w = true → s.quietEng e = true → x ∈ [w.a, w.b] → x.op = 17 → a = BitVec.ofNat 32 (s.readG e c x.src1) →
      b = BitVec.ofNat 32 (s.readG e c x.src2) → 1 ≤ x.dst ∧ x.dst ≤ 61 → (¬ (w.memOp = 1 ∧ w.memReg = x.dst)) →
      (¬ (w.ctl = 3 ∧ x.dst = 60)) → (¬ (w.ctl = 6 ∧ x.dst = 61)) → (¬ (w.ctl = 4 ∧ (s.eng e).hook.isSome)) → w.ctl ≠ 11 → w.ctl ≠ 12 →
      ∃ t, exec (.opMovi e c) s = .next t ∧
      SMap.getD (t.eng e).regs x.dst 0 = ((BitVec.ofNat 14 (x.src2 * 256 + x.imm)).signExtend 32).toNat) ∧
  (∀ (s : State) (e c : Nat) (w : MWord) (x : AluSlot) (a b : Word),
      s.executes e c w = true → s.quietEng e = true → x ∈ [w.a, w.b] → x.op = 18 → a = BitVec.ofNat 32 (s.readG e c x.src1) →
      b = BitVec.ofNat 32 (s.readG e c x.src2) → 1 ≤ x.dst ∧ x.dst ≤ 61 → (¬ (w.memOp = 1 ∧ w.memReg = x.dst)) →
      (¬ (w.ctl = 3 ∧ x.dst = 60)) → (¬ (w.ctl = 6 ∧ x.dst = 61)) → (¬ (w.ctl = 4 ∧ (s.eng e).hook.isSome)) → w.ctl ≠ 11 → w.ctl ≠ 12 →
      ∃ t, exec (.opShlor e c) s = .next t ∧
      SMap.getD (t.eng e).regs x.dst 0 = ((a <<< 14) ||| BitVec.ofNat 32 ((x.src2 * 256 + x.imm) % 2 ^ 14)).toNat) ∧
  (∀ (s : State) (e c : Nat) (w : MWord) (x : AluSlot) (a b : Word),
      s.executes e c w = true → s.quietEng e = true → x ∈ [w.a, w.b] → x.op = 15 → a = BitVec.ofNat 32 (s.readG e c x.src1) →
      b = BitVec.ofNat 32 (s.readG e c x.src2) →
      ∃ t, exec (.opCmp e c) s = .next t ∧
      ((t.eng e).flags = (if a = b then 8 else 0) + (if (a - b).msb then 4 else 0) + (if b.toNat ≤ a.toNat then 2 else 0) + if a.toInt -
        b.toInt ≠ (a - b).toInt then 1 else 0)) ∧
  (∀ (s : State) (e c : Nat) (w : MWord) (x : AluSlot) (r : Nat),
      s.executes e c w = true → s.quietEng e = true → w.memOp = 0 → w.asOp = 0 → w.ctl = 0 → w.a = x → x.op = 1 → w.b.op = 0 →
      ((x.dst = 0 ∨ x.dst = 62 ∨ x.dst = 63) ∨ r ≠ x.dst) →
      ∃ t, exec (.opAdd e c) s = .next t ∧ SMap.getD (t.eng e).regs r 0 = SMap.getD (s.eng e).regs r 0 ∧
      (t.eng e).pc = ((s.eng e).pc + 1) % 65536 ∧ (t.eng e).ready = s.cycle c + 1) ∧
  (∀ (s : State) (e c : Nat) (w : MWord) (i : Instr),
      s.executes e c w = true → s.quietEng e = true → w.memOp = 0 → w.asOp = 0 → w.ctl < 3 →
      i ∈ [.opAdd e c, .opSub e c, .opAnd e c, .opOr e c, .opXor e c, .opShl e c, .opShr e c, .opSar e c, .opMin e c, .opMax e c, .opMinu
        e c, .opMaxu e c, .opMul e c, .opMulhu e c, .opAddi e c, .opMovi e c, .opShlor e c, .opCmp e c] →
      ∃ t, exec (i) s = .next t ∧ EngFrame e s t ∧ ((t.eng e).flags = (s.eng e).flags ∨ w.a.op = 15 ∨ w.b.op = 15) ∧ MemFrame s t) ∧
  (∀ (s : State) (e c : Nat) (w : MWord) (i : Instr) (r : Nat),
      s.executes e c w = true → s.quietEng e = true → w.memOp = 0 → w.asOp = 0 → w.ctl < 3 →
      i ∈ [.opAdd e c, .opSub e c, .opAnd e c, .opOr e c, .opXor e c, .opShl e c, .opShr e c, .opSar e c, .opMin e c, .opMax e c, .opMinu
        e c, .opMaxu e c, .opMul e c, .opMulhu e c, .opAddi e c, .opMovi e c, .opShlor e c, .opCmp e c] →
      (∀ x ∈ [w.a, w.b], x.dst = r → x.op = 0 ∨ x.op = 15 ∨ r = 0 ∨ r = 62 ∨ r = 63) →
      ∃ t, exec (i) s = .next t ∧ SMap.getD (t.eng e).regs r 0 = SMap.getD (s.eng e).regs r 0 ∧ (t.eng e).ready = s.cycle c + 1)

/-- Where each control operation of a microword continues, and what it leaves (R238, R242, R245, R247, R248, R250, R255, R258, R260). The
  model's choices: which cycle a row executes its word at (log entry 36), the order of trap causes, the registers of SPAN_OPEN and where
  a skipped span goes on (log entry 37); a WAIT or BRANCH condition that the spec reserves is free (log entry 14). -/
def Obligations.ThymeControl : Prop :=
  (∀ (s : State) (e c : Nat) (w : MWord),
      s.executes e c w = true → s.quietEng e = true → w.ctl = 0 → w.asOp = 0 → w.memOp = 0 →
      ∃ t, exec (.opNext e c) s = .next t ∧ (t.eng e).pc = ((s.eng e).pc + 1) % 65536 ∧ (t.eng e).ready = s.cycle c + 1 ∧
      EngFrame e s t) ∧
  (∀ (s : State) (e c : Nat) (w : MWord),
      s.executes e c w = true → s.quietEng e = true → w.ctl = 0 →
      ∃ t, exec (.opNext e c) s = .next t ∧ (t.eng e).pc = ((s.eng e).pc + 1) % 65536 ∧ (t.eng e).ready = s.cycle c + 1) ∧
  (∀ (s : State) (e c : Nat) (w : MWord),
      s.executes e c w = true → s.quietEng e = true → w.ctl = 1 →
      ∃ t, exec (.opJump e c) s = .next t ∧ (t.eng e).pc = w.target ∧ (t.eng e).ready = s.cycle c + 1) ∧
  (∀ (s : State) (e c f : Nat) (w : MWord) (b : Bool),
      s.executes e c w = true → s.quietEng e = true → w.ctl = 2 → f = (s.eng e).flags → w.cond ≤ 8 →
      b = [true, hasBit f 3, !hasBit f 3, hasBit f 2 != hasBit f 0, hasBit f 2 == hasBit f 0, !hasBit f 1, hasBit f 1, (s.eng e).insCode
        == 0, (s.eng e).insCode != 0].getD w.cond false →
      ∃ t, exec (.opBranch e c) s = .next t ∧ ((t.eng e).pc = if b then w.target else ((s.eng e).pc + 1) % 65536) ∧
      (t.eng e).ready = s.cycle c + 1) ∧
  (∀ (s : State) (e c : Nat) (w : MWord),
      s.executes e c w = true → s.quietEng e = true → w.ctl = 3 →
      ∃ t, exec (.opCall e c) s = .next t ∧ (t.eng e).pc = w.target ∧ SMap.getD (t.eng e).regs 60 0 = ((s.eng e).pc + 1) % 65536 ∧
      (t.eng e).ready = s.cycle c + 1) ∧
  (∀ (s : State) (e c : Nat) (w : MWord),
      s.executes e c w = true → s.quietEng e = true → w.ctl = 4 → (s.eng e).hook = none →
      ∃ t, exec (.opReturn e c) s = .next t ∧ (t.eng e).pc = SMap.getD (s.eng e).regs 60 0 % 65536 ∧ (t.eng e).ready = s.cycle c + 1) ∧
  (∀ (s : State) (e c : Nat) (w : MWord) (h : HookCall),
      s.executes e c w = true → s.quietEng e = true → w.ctl = 4 → w.memOp = 0 → w.asOp = 0 → (s.eng e).hook = some h → h.depth = 0 →
      ∃ t, exec (.opReturn e c) s = .next t ∧ (t.eng e).hook = none ∧ (t.eng e).pc = h.back ∧ (t.eng e).ready = s.cycle c + 1 ∧
      EngFrame e s t) ∧
  (∀ (s : State) (e c : Nat) (w : MWord),
      s.executes e c w = true → s.quietEng e = true → w.ctl = 5 →
      ∃ t, exec (.opWait e c) s = .next t ∧ (t.eng e).pc = ((s.eng e).pc + 1) % 65536 ∧ (t.eng e).ready = s.cycle c + 1) ∧
  (∀ (s : State) (e c : Nat) (w : MWord),
      s.wordAt e = w → s.canRun e c = true → s.overrun e c = false → s.trapCode e c w = none → s.stalls e c w = false → w.ctl = 5 →
      w.cond ≠ 3 → s.waitHolds e c w = false →
      exec (.opWait e c) s = .next s) ∧
  (∀ (s : State) (e c : Nat) (w : MWord),
      s.executes e c w = true → s.quietEng e = true → w.ctl = 6 →
      ∃ t, exec (.opLoop e c) s = .next t ∧ SMap.getD (t.eng e).regs 61 0 = (s.readG e c 61 + 2 ^ 32 - 1) % 2 ^ 32 ∧
      ((t.eng e).pc = if (s.readG e c 61 + 2 ^ 32 - 1) % 2 ^ 32 = 0 then ((s.eng e).pc + 1) % 65536 else w.target) ∧
      (t.eng e).ready = s.cycle c + 1) ∧
  (∀ (s : State) (e c : Nat) (w : MWord),
      s.executes e c w = true → s.quietEng e = true → w.ctl = 7 →
      ∃ t, exec (.opSpanOpen e c) s = .next t ∧
      (((t.eng e).span.map fun p => (p.pc, p.start, p.shadow)) = some ((s.eng e).pc, s.cycle c, (s.eng e).regs)) ∧
      (t.eng e).pc = ((s.eng e).pc + 1) % 65536 ∧ (t.eng e).ready = s.cycle c + 1) ∧
  (∀ (s : State) (e c : Nat) (w : MWord) (p : AtomSpan) (n : Nat),
      s.executes e c w = true → s.quietEng e = true → w.ctl = 8 → w.memOp = 0 → w.asOp = 0 → (s.eng e).span = some p →
      s.engKey e = some n →
      ∃ t, exec (.opSpanClose e c) s = .next t ∧ (t.eng e).span = none ∧ (t.eng e).pc = ((s.eng e).pc + 1) % 65536 ∧
      ((t.eng e).scratch = p.staged.foldl (fun m x => match x with | .scratch a v => m.writeBytes a (leBytes 4 v) | _ => m) (s.eng
        e).scratch) ∧
      ((t.mecTree n).queue = if stagedIns p.staged = [] then (s.mecTree n).queue else placeIns (s.cycle c, e, stagedIns p.staged)
        (s.mecTree n).queue) ∧ { t.calm s with mec := s.mec, dram := s.dram, drc := s.drc, obs := s.obs } = s ∧
      ((p.staged.all fun x => match x with | .line _ _ => false | _ => true) = true → RegFrame [F.MEC_ENG_STAT_STATE e,
        F.MEC_ENG_STAT_SPAN e, F.MEC_ENG_STAT_OPEN e, F.MEC_ENG_STAT_PC e] s t ∧ t.dram = s.dram ∧ t.drc = s.drc ∧ t.obs = s.obs)) ∧
  (∀ (s : State) (e c : Nat) (w : MWord) (st : Start),
      s.executes e c w = true → s.quietEng e = true → w.ctl = 9 → (s.eng e).work = .recomp st →
      ∃ t, exec (.opDone e c) s = .next t ∧ (t.eng e).state = 0 ∧ (t.eng e).work = Work.none ∧
      ((t.mecTree (recKey st.tree st.join)).running = (s.mecTree (recKey st.tree st.join)).running.filter fun k => k != e) ∧
      ((t.mecTree (recKey st.tree st.join)).doneAt = if ((s.mecTree (recKey st.tree st.join)).running.filter fun k => k != e) = [] ∧
        (s.mecTree (recKey st.tree st.join)).running.contains e = true then some (s.cycle c) else (s.mecTree (recKey st.tree
        st.join)).doneAt) ∧ (t.eng e).pc = ((s.eng e).pc + 1) % 65536 ∧ (t.eng e).ready = s.cycle c + 1) ∧
  (∀ (s : State) (e c : Nat) (w : MWord) (t0 : SlowTask) (b st : Nat),
      s.executes e c w = true → s.quietEng e = true → w.ctl = 9 → w.memOp = 0 → w.asOp = 0 → (s.eng e).work = .task t0 b st →
      t0.sage = false → s.mec.results.length < 256 →
      ∃ t, exec (.opDone e c) s = .next t ∧ (t.eng e).state = 0 ∧ t.mec.results = s.mec.results ++ [⟨t0.tag, e, st, s.readG e c 32⟩] ∧
      t.status E.MEC_TASK_DONE = true) ∧
  (∀ (s : State) (e c : Nat) (w : MWord) (k a : Nat),
      s.executes e c w = true → s.quietEng e = true → w.ctl = 10 → (s.eng e).handler = some (k, a) → 3 ≤ k →
      (k = 3 → (s.eng e).caps < 4) →
      ∃ t, exec (.opHret e c) s = .next t ∧ (t.eng e).pc = a ∧ (t.eng e).handler = none ∧
      ((t.eng e).state = match (s.eng e).work with | .none => 0 | .recomp _ => 1 | .task _ _ _ => 2) ∧ (t.eng e).ready = s.cycle c + 1) ∧
  (∀ (s : State) (e c : Nat) (w : MWord) (a : Nat),
      s.executes e c w = true → s.quietEng e = true → w.ctl = 10 → (s.eng e).handler = some (3, a) → 4 ≤ (s.eng e).caps →
      s.rd (F.MEC_ENG_CNT_SPAN_ABORTS e) < 2 ^ (F.MEC_ENG_CNT_SPAN_ABORTS e).width - 1 →
      ∃ t, exec (.opHret e c) s = .next t ∧ (t.eng e).pc = Config.spanSkip a % 65536 ∧ (t.eng e).handler = none ∧ (t.eng e).caps = 0 ∧
      t.rd (F.MEC_ENG_CNT_SPAN_ABORTS e) = s.rd (F.MEC_ENG_CNT_SPAN_ABORTS e) + 1 ∧ (t.eng e).ready = s.cycle c + 1) ∧
  (∀ (s : State) (e c : Nat) (w : MWord) (a : Nat),
      s.executes e c w = true → s.quietEng e = true → w.ctl = 10 → w.asOp = 0 → w.memOp = 0 → (s.eng e).handler = some (0, a) →
      ∃ t, exec (.opHret e c) s = .next t ∧ (t.eng e).state = 4 ∧ (t.eng e).handler = none ∧ (t.eng e).work = Work.none ∧
      EngFrame e s t) ∧
  (∀ (s : State) (e c : Nat) (w : MWord),
      s.executes e c w = true → s.quietEng e = true → w.ctl = 11 → hasBit (s.rd F.MEC_OPEN_CFG_HOOK_EN) (w.target % 4) = true →
      ((s.allowance e (w.target % 4)).all (fun m => decide ((s.eng e).openUsed < m)) = true) →
      ∃ t, exec (.opHook e c) s = .next t ∧ (t.eng e).pc = 0xC000 + 4 * (w.target % 4) ∧
      (((t.eng e).hook.map fun h => (h.num, h.back, h.start)) = some (w.target % 4, ((s.eng e).pc + 1) % 65536, s.cycle c)) ∧
      (∀ r, 48 ≤ r → r ≤ 59 → SMap.getD (t.eng e).regs r 0 = 0) ∧ (t.eng e).ready = s.cycle c + 1) ∧
  (∀ (s : State) (e c : Nat) (w : MWord),
      s.executes e c w = true → s.quietEng e = true → w.ctl = 11 → w.memOp = 0 → w.asOp = 0 →
      hasBit (s.rd F.MEC_OPEN_CFG_HOOK_EN) (w.target % 4) = false →
      ∃ t, exec (.opHook e c) s = .next t ∧ (t.eng e).pc = ((s.eng e).pc + 1) % 65536 ∧ (t.eng e).hook = (s.eng e).hook ∧
      (t.eng e).ready = s.cycle c + 1 ∧ EngFrame e s t) ∧
  (∀ (s : State) (e c : Nat) (w : MWord) (st : Start) (r : List Start),
      s.executes e c w = true → s.quietEng e = true → w.ctl = 12 → w.memOp = 0 → w.asOp = 0 → (s.eng e).starts = st :: r →
      (s.eng e).hook = none →
      ∃ t, exec (.opIdle e c) s = .next t ∧ (t.eng e).state = 1 ∧ (t.eng e).work = Work.recomp st ∧ (t.eng e).starts = r ∧
      (([1, 2, 3, 4, 5, 6].map fun i => SMap.getD (t.eng e).regs i 0) = [st.tree % 2 ^ 32, st.rank % 2 ^ 32, st.k % 2 ^ 32, st.cadence %
        2 ^ 32, st.frame % 2 ^ 32, st.freeMu % 2 ^ 32]) ∧ (t.eng e).pc = ((s.eng e).pc + 1) % 65536 ∧ (t.eng e).ready = s.cycle c + 1 ∧
      EngFrame e s t) ∧
  (∀ (s : State) (e c : Nat) (w : MWord) (k : Nat),
      s.wordAt e = w → s.canRun e c = true → s.overrun e c = false → s.stalls e c w = false → s.trapCode e c w = some k → k < 16 →
      (s.eng e).hook = none → (s.eng e).handler = none →
      ∃ t, exec (.trap e c) s = .next t ∧ t.rd (F.MEC_TRAP_LAST_PC e) = (s.eng e).pc % 65536 ∧ t.rd (F.MEC_TRAP_LAST_CODE e) = k ∧
      t.status E.MEC_ENG_TRAP = true ∧ (t.eng e).handler = some (2, (s.eng e).pc) ∧ (t.eng e).pc = 0x30 ∧ (t.eng e).state = 3 ∧
      (t.eng e).span = none ∧
      RegFrame ([F.MEC_ENG_CNT_TRAPS e, F.MEC_TRAP_LAST_PC e, F.MEC_TRAP_LAST_CODE e, F.MEC_TRAP_LAST_OPEN e, F.MEC_TRAP_LAST_FRAME e,
        F.MEC_SPAN_LAST_SPAN_PC e, F.MEC_SPAN_LAST_CYCLES e, F.MEC_SPAN_LAST_DISCARDED e, F.MEC_SPAN_LAST_REASON e, F.MEC_SPAN_LAST_FRAME
        e, F.MEC_ENG_STAT_STATE e, F.MEC_ENG_STAT_SPAN e, F.MEC_ENG_STAT_OPEN e, F.MEC_ENG_STAT_PC e]) s t ∧
      { t.calm s with mec := s.mec } = s)

/-- Scratch, window lines and what a span stages (R238, R243, R244, R247). The model's choices: a fetched line is held until another LDL, STL
  stages its data at issue, and an STL outside a span writes at once (log entry 37); accesses of a window last until they are served (log
  entry 48). -/
def Obligations.ThymeMemory : Prop :=
  (∀ (s : State) (e c : Nat) (w : MWord) (a : Nat),
      s.executes e c w = true → s.quietEng e = true → w.ctl = 0 → w.asOp = 0 → w.memOp = 1 → 1 ≤ w.memReg ∧ w.memReg ≤ 61 →
      a = (s.readG e c w.memBase + 4 * w.memOfs) % 2 ^ 32 →
      ∃ t, exec (.opLd e c) s = .next t ∧
      (SMap.getD (t.eng e).regs w.memReg 0 = (((s.eng e).span.bind fun p => stagedAt a p.staged).getD ((s.eng e).scratch.le a 4)) % 2 ^
        32) ∧ (t.eng e).pc = ((s.eng e).pc + 1) % 65536 ∧ EngFrame e s t ∧ (t.eng e).scratch = (s.eng e).scratch ∧ MemFrame s t) ∧
  (∀ (s : State) (e c : Nat) (w : MWord) (a : Nat),
      s.executes e c w = true → s.quietEng e = true → w.asOp = 0 → w.ctl = 0 → w.memOp = 2 → (s.eng e).span = none →
      a = (s.readG e c w.memBase + 4 * w.memOfs) % 2 ^ 32 →
      ∃ t, exec (.opSt e c) s = .next t ∧ (t.eng e).scratch = (s.eng e).scratch.writeBytes a (leBytes 4 (s.readG e c w.memReg)) ∧
      EngFrame e s t ∧ MemFrame s t ∧ (t.eng e).pc = ((s.eng e).pc + 1) % 65536) ∧
  (∀ (s : State) (e c : Nat) (w : MWord) (a : Nat) (p : AtomSpan),
      s.executes e c w = true → s.quietEng e = true → w.asOp = 0 → w.ctl = 0 → w.memOp = 2 → (s.eng e).span = some p →
      a = (s.readG e c w.memBase + 4 * w.memOfs) % 2 ^ 32 →
      ∃ t, exec (.opSt e c) s = .next t ∧ (t.eng e).span = some { p with staged := p.staged ++ [.scratch a (s.readG e c w.memReg)] } ∧
      (t.eng e).scratch = (s.eng e).scratch ∧ EngFrame e s t ∧ MemFrame s t ∧ (t.eng e).pc = ((s.eng e).pc + 1) % 65536) ∧
  (∀ (s : State) (e c : Nat) (w : MWord) (k : Nat),
      s.executes e c w = true → s.quietEng e = true → w.asOp = 0 → w.ctl = 0 → w.memOp = 3 → k = s.winKeyOf e (s.readG e c w.memBase) →
      (s.eng e).hasLine k (s.readG e c w.memReg / 64) = false →
      ∃ t, exec (.opLdl e c) s = .next t ∧ (t.eng e).lines = (s.eng e).lines ++ [(k, some (s.readG e c w.memReg / 64))] ∧
      (t.eng e).scratch = (s.eng e).scratch ∧ EngFrame e s t ∧ MemFrame s t ∧ (t.eng e).pc = ((s.eng e).pc + 1) % 65536) ∧
  (∀ (s : State) (e c : Nat) (w : MWord),
      s.executes e c w = true → s.quietEng e = true → w.asOp = 0 → w.ctl = 0 → w.memOp = 3 →
      (s.eng e).hasLine (s.winKeyOf e (s.readG e c w.memBase)) (s.readG e c w.memReg / 64) = true →
      ∃ t, exec (.opLdl e c) s = .next t ∧ (t.eng e).lines = (s.eng e).lines ∧ (t.eng e).scratch = (s.eng e).scratch ∧ EngFrame e s t ∧
      (t.eng e).pc = ((s.eng e).pc + 1) % 65536) ∧
  (∀ (s : State) (e c : Nat) (w : MWord) (n win : Nat),
      s.executes e c w = true → s.quietEng e = true → w.asOp = 0 → w.ctl = 0 → w.memOp = 4 → (s.eng e).span = none →
      s.engTree e = some n → win = s.readG e c w.memBase → s.workAddr n win % 64 = 0 → s.workAddr n win + 64 ≤ 2 ^ 35 →
      s.stackCalm (s.workAddr n win) = true →
      ∃ t, exec (.opStl e c) s = .next t ∧ t.dram = s.dram.writeBytes (s.workAddr n win) ((s.eng e).lineBytes (s.readG e c w.memReg)) ∧
      (∀ a, (a < s.workAddr n win ∨ s.workAddr n win + 64 ≤ a) → t.dram.read a = s.dram.read a) ∧ t.flash = s.flash ∧
      t.hostMem = s.hostMem ∧ (t.eng e).scratch = (s.eng e).scratch ∧ (t.eng e).lines = (s.eng e).lines ++ [(s.winKeyOf e win, none)] ∧
      (t.eng e).pc = ((s.eng e).pc + 1) % 65536 ∧
      RegFrame ([F.MEC_ENG_STAT_STATE e, F.MEC_ENG_STAT_SPAN e, F.MEC_ENG_STAT_OPEN e, F.MEC_ENG_STAT_PC e] ++ rhFields) s t ∧
      { t.calm s with mec := s.mec, dram := s.dram, drc := s.drc } = s) ∧
  (∀ (s : State) (e c : Nat) (w : MWord) (p : AtomSpan),
      s.executes e c w = true → s.quietEng e = true → w.asOp = 0 → w.ctl = 0 → w.memOp = 4 → (s.eng e).span = some p →
      ∃ t, exec (.opStl e c) s = .next t ∧
      (t.eng e).span = some { p with staged := p.staged ++ [.line (s.readG e c w.memBase) ((s.eng e).lineBytes (s.readG e c w.memReg))] }
        ∧ EngFrame e s t ∧ MemFrame s t ∧ (t.eng e).pc = ((s.eng e).pc + 1) % 65536) ∧
  (∀ (s : State) (e i win line : Nat),
      s.works = true → (s.eng e).lines[i]? = some (win, some line) →
      ∃ t, exec (.lineLands e i) s = .next t ∧ (t.eng e).lines = (s.eng e).lines.eraseIdx i ∧
      (t.eng e).scratch = (s.eng e).scratch.writeBytes (line * 64) (winRead win s).1 ∧ SMap.find? (t.eng e).held line = some win ∧
      (t.eng e).regs = (s.eng e).regs ∧ EngFrame e (winRead win s).2 t ∧ MemFrame (winRead win s).2 t) ∧
  (∀ (s : State) (win : Nat),
      winNum (win % 2 ^ 32) ≠ 0 →
      winRead win s = (s.winBytes win, s)) ∧
  (∀ (s : State) (win a : Nat),
      winNum (win % 2 ^ 32) = 0 → a = s.workAddr (win / 2 ^ 32) (win % 2 ^ 32) → a % 64 = 0 → s.stackCalm a = true →
      (winRead win s).1 = (s.stored a 64).map (BitVec.ofNat 8) ∧ (winRead win s).2.dram = s.dram ∧ (winRead win s).2.mec = s.mec)

/-- What each assist starts, and its result (R239 to R241, R247). The model's choices: stalls before traps, and accumulator and barrier
  indices taken modulo their number (log entry 37). -/
def Obligations.ThymeAssists : Prop :=
  (∀ (s : State) (e c : Nat) (w : MWord) (n m g0 g1 g2 g3 : Nat),
      s.executes e c w = true → s.quietEng e = true → w.asOp = 1 → w.ctl = 0 → w.memOp = 0 → s.engTree e = some n →
      m = recKey n (s.eng e).joins → g0 = s.readG e c w.asReg → g1 = s.readG e c (w.asReg + 1) → g2 = s.readG e c (w.asReg + 2) →
      g3 = s.readG e c (w.asReg + 3) →
      ∃ t, exec (.opAllocRd e c) s = .next t ∧
      (t.eng e).assists = (s.eng e).assists ++ [⟨s.cycle c + 6, w.asReg, [(s.allocSeen n (s.eng e).joins g0).word0 % 2 ^ 32, (s.allocSeen
        n (s.eng e).joins g0).word0 / 2 ^ 32 % 2 ^ 32, (s.allocSeen n (s.eng e).joins g0).word1 % 2 ^ 32, (s.allocSeen n (s.eng e).joins
        g0).word1 / 2 ^ 32 % 2 ^ 32], (s.eng e).hook.isSome, (s.eng e).span.isSome, none⟩] ∧ (t.eng e).pc = ((s.eng e).pc + 1) % 65536 ∧
      (t.eng e).scratch = (s.eng e).scratch ∧ EngFrame e s t ∧ MemFrame s t) ∧
  (∀ (s : State) (e c : Nat) (w : MWord) (n m g0 g1 g2 g3 : Nat),
      s.executes e c w = true → s.quietEng e = true → w.asOp = 2 → w.ctl = 0 → w.memOp = 0 → s.engTree e = some n →
      m = recKey n (s.eng e).joins → g0 = s.readG e c w.asReg → g1 = s.readG e c (w.asReg + 1) → g2 = s.readG e c (w.asReg + 2) →
      g3 = s.readG e c (w.asReg + 3) →
      ∃ t, exec (.opRpt e c) s = .next t ∧
      ((t.eng e).assists = (s.eng e).assists ++ [⟨s.cycle c + 4, w.asReg, [if (g0 + g1 * 2 ^ 32).testBit 56 then (g0 + g1 * 2 ^ 32) / 2 ^
        16 % 2 ^ 24 else 0, ((BitVec.ofNat 16 s.ticks - BitVec.ofNat 16 ((g0 + g1 * 2 ^ 32) / 2 ^ 40)).signExtend 32).toNat], (s.eng
        e).hook.isSome, (s.eng e).span.isSome, none⟩]) ∧ (t.eng e).pc = ((s.eng e).pc + 1) % 65536 ∧
      (t.eng e).scratch = (s.eng e).scratch ∧ EngFrame e s t ∧ MemFrame s t) ∧
  (∀ (s : State) (e c : Nat) (w : MWord) (n m g0 g1 g2 g3 : Nat),
      s.executes e c w = true → s.quietEng e = true → w.asOp = 3 → w.ctl = 0 → w.memOp = 0 → s.engTree e = some n →
      m = recKey n (s.eng e).joins → g0 = s.readG e c w.asReg → g1 = s.readG e c (w.asReg + 1) → g2 = s.readG e c (w.asReg + 2) →
      g3 = s.readG e c (w.asReg + 3) →
      ∃ t, exec (.opWsa e c) s = .next t ∧
      (t.eng e).assists = (s.eng e).assists ++ [⟨s.cycle c + 6, w.asReg, [min (g1) (g0 * g2 / 65536), g1 - min (g1) (g0 * g2 / 65536)],
        (s.eng e).hook.isSome, (s.eng e).span.isSome, none⟩] ∧ (t.eng e).pc = ((s.eng e).pc + 1) % 65536 ∧
      (t.eng e).scratch = (s.eng e).scratch ∧ EngFrame e s t ∧ MemFrame s t) ∧
  (∀ (s : State) (e c : Nat) (w : MWord) (n m g0 g1 g2 g3 : Nat),
      s.executes e c w = true → s.quietEng e = true → w.asOp = 4 → w.ctl = 0 → w.memOp = 0 → s.engTree e = some n →
      m = recKey n (s.eng e).joins → g0 = s.readG e c w.asReg → g1 = s.readG e c (w.asReg + 1) → g2 = s.readG e c (w.asReg + 2) →
      g3 = s.readG e c (w.asReg + 3) →
      ∃ t, exec (.opSize e c) s = .next t ∧
      (t.eng e).assists = (s.eng e).assists ++ [⟨s.cycle c + 4, w.asReg, [Config.sizeOf (s.pRate n (g1 % 4)) (s.pFec n (g1 % 4)) (g0) %
        65536, Config.burstMu (s.pRate n (g1 % 4)) (s.pFec n (g1 % 4)) [(Config.sizeOf (s.pRate n (g1 % 4)) (s.pFec n (g1 % 4)) (g0) %
        65536, g2 % 4)] % 2 ^ 32], (s.eng e).hook.isSome, (s.eng e).span.isSome, none⟩] ∧ (t.eng e).pc = ((s.eng e).pc + 1) % 65536 ∧
      (t.eng e).scratch = (s.eng e).scratch ∧ EngFrame e s t ∧ MemFrame s t) ∧
  (∀ (s : State) (e c : Nat) (w : MWord) (n m g0 g1 g2 g3 : Nat),
      s.executes e c w = true → s.quietEng e = true → w.asOp = 7 → w.ctl = 0 → w.memOp = 0 → s.engTree e = some n →
      m = recKey n (s.eng e).joins → g0 = s.readG e c w.asReg → g1 = s.readG e c (w.asReg + 1) → g2 = s.readG e c (w.asReg + 2) →
      g3 = s.readG e c (w.asReg + 3) →
      ∃ t, exec (.opAccRd e c) s = .next t ∧
      (t.eng e).assists = (s.eng e).assists ++ [⟨s.cycle c + 4, w.asReg, [SMap.getD (s.mecTree m).acc (g0 % 16) 0 % 2 ^ 32, SMap.getD
        (s.mecTree m).acc (g0 % 16) 0 / 2 ^ 32 % 2 ^ 32], (s.eng e).hook.isSome, (s.eng e).span.isSome, none⟩] ∧
      (t.eng e).pc = ((s.eng e).pc + 1) % 65536 ∧ (t.eng e).scratch = (s.eng e).scratch ∧ EngFrame e s t ∧ MemFrame s t) ∧
  (∀ (s : State) (e c : Nat) (w : MWord) (n m g0 g1 g2 g3 : Nat),
      s.executes e c w = true → s.quietEng e = true → w.asOp = 9 → w.ctl = 0 → w.memOp = 0 → s.engTree e = some n →
      m = recKey n (s.eng e).joins → g0 = s.readG e c w.asReg → g1 = s.readG e c (w.asReg + 1) → g2 = s.readG e c (w.asReg + 2) →
      g3 = s.readG e c (w.asReg + 3) →
      ∃ t, exec (.opDiv e c) s = .next t ∧
      ((t.eng e).assists = (s.eng e).assists ++ [⟨s.cycle c + 20, w.asReg, [if g2 = 0 then 0 else min 0xFFFFFFFF ((g0 + g1 * 2 ^ 32) /
        g2)], (s.eng e).hook.isSome, (s.eng e).span.isSome, none⟩]) ∧ (t.eng e).pc = ((s.eng e).pc + 1) % 65536 ∧
      (t.eng e).scratch = (s.eng e).scratch ∧ EngFrame e s t ∧ MemFrame s t) ∧
  (∀ (s : State) (e c : Nat) (w : MWord) (n m g0 g1 g2 g3 : Nat),
      s.executes e c w = true → s.quietEng e = true → w.asOp = 5 → w.ctl = 0 → w.memOp = 0 → s.engTree e = some n →
      m = recKey n (s.eng e).joins → g0 = s.readG e c w.asReg → g1 = s.readG e c (w.asReg + 1) → g2 = s.readG e c (w.asReg + 2) →
      g3 = s.readG e c (w.asReg + 3) → (s.eng e).span = none →
      ∃ t, exec (.opIns e c) s = .next t ∧
      (t.mecTree m).queue = placeIns (s.cycle c, e, [(g0 + g1 * 2 ^ 32, g2 + g3 * 2 ^ 32)]) (s.mecTree m).queue ∧
      (t.eng e).pc = ((s.eng e).pc + 1) % 65536 ∧ { t.calm s with mec := s.mec } = s ∧
      RegFrame [F.MEC_ENG_STAT_STATE e, F.MEC_ENG_STAT_SPAN e, F.MEC_ENG_STAT_OPEN e, F.MEC_ENG_STAT_PC e] s t) ∧
  (∀ (s : State) (e c : Nat) (w : MWord) (n m g0 g1 g2 g3 : Nat) (p : AtomSpan),
      s.executes e c w = true → s.quietEng e = true → w.asOp = 5 → w.ctl = 0 → w.memOp = 0 → s.engTree e = some n →
      m = recKey n (s.eng e).joins → g0 = s.readG e c w.asReg → g1 = s.readG e c (w.asReg + 1) → g2 = s.readG e c (w.asReg + 2) →
      g3 = s.readG e c (w.asReg + 3) → (s.eng e).span = some p →
      ∃ t, exec (.opIns e c) s = .next t ∧
      (t.eng e).span = some { p with staged := p.staged ++ [.ins (g0 + g1 * 2 ^ 32) (g2 + g3 * 2 ^ 32)] } ∧ EngFrame e s t ∧
      (t.eng e).pc = ((s.eng e).pc + 1) % 65536) ∧
  (∀ (s : State) (e c : Nat) (w : MWord) (n m g0 g1 g2 g3 : Nat),
      s.executes e c w = true → s.quietEng e = true → w.asOp = 6 → w.ctl = 0 → w.memOp = 0 → s.engTree e = some n →
      m = recKey n (s.eng e).joins → g0 = s.readG e c w.asReg → g1 = s.readG e c (w.asReg + 1) → g2 = s.readG e c (w.asReg + 2) →
      g3 = s.readG e c (w.asReg + 3) → (s.eng e).span = none →
      ∃ t, exec (.opAcc e c) s = .next t ∧
      SMap.getD (t.mecTree m).acc (g0 % 16) 0 = (((SMap.getD (s.mecTree m).acc (g0 % 16) 0 : Nat) + (BitVec.ofNat 32 (g1)).toInt) % (2 ^
        64 : Int)).toNat ∧ (∀ i, i ≠ g0 % 16 → SMap.getD (t.mecTree m).acc i 0 = SMap.getD (s.mecTree m).acc i 0) ∧
      (t.eng e).pc = ((s.eng e).pc + 1) % 65536 ∧ { t.calm s with mec := s.mec } = s ∧
      RegFrame [F.MEC_ENG_STAT_STATE e, F.MEC_ENG_STAT_SPAN e, F.MEC_ENG_STAT_OPEN e, F.MEC_ENG_STAT_PC e] s t) ∧
  (∀ (s : State) (e c : Nat) (w : MWord) (n m g0 g1 g2 g3 : Nat),
      s.executes e c w = true → s.quietEng e = true → w.asOp = 8 → w.ctl = 0 → w.memOp = 0 → s.engTree e = some n →
      m = recKey n (s.eng e).joins → g0 = s.readG e c w.asReg → g1 = s.readG e c (w.asReg + 1) → g2 = s.readG e c (w.asReg + 2) →
      g3 = s.readG e c (w.asReg + 3) →
      ∃ t, exec (.opBar e c) s = .next t ∧ (t.eng e).bar = g0 % 4 ∧ hasBit (SMap.getD (t.mecTree m).bars (g0 % 4) 0) e = true ∧
      (t.eng e).pc = ((s.eng e).pc + 1) % 65536 ∧ { t.calm s with mec := s.mec } = s ∧
      RegFrame [F.MEC_ENG_STAT_STATE e, F.MEC_ENG_STAT_SPAN e, F.MEC_ENG_STAT_OPEN e, F.MEC_ENG_STAT_PC e] s t) ∧
  (∀ (s : State) (e c v r : Nat) (p : Pending),
      s.works = true → c < 187500 → ((s.eng e).assists.find? (fun p => decide (p.due ≤ s.cycle c)) = some p) → p.values = [v] →
      p.reg = r → 1 ≤ r ∧ r ≤ 61 →
      ∃ t, exec (.assistResult e c) s = .next t ∧
      (SMap.getD (t.eng e).regs r 0 = (match p.bound with | none => v | some (k, args) => boundOf k args r v) % 2 ^ 32) ∧
      (∀ i, i ≠ r → SMap.getD (t.eng e).regs i 0 = SMap.getD (s.eng e).regs i 0) ∧ (t.eng e).assists = (s.eng e).assists.erase p ∧
      EngFrame e s t ∧ MemFrame s t)

/-- Limits, stops and starts of an engine (R245, R249, R251, R261, R266, R267). The model's choices: which engines STOP and ABORT reach and
  in what order (log entry 37), an IDLE engine takes a start that was queued for it, and the limit of a task (log entry 38). -/
def Obligations.EngineLimitsAndControl : Prop :=
  (∀ (s : State) (e c : Nat) (p : AtomSpan),
      s.canRun e c = true → (s.eng e).span = some p → p.start + 512 ≤ s.cycle c → s.quietEng e = true → (s.eng e).handler = none →
      s.stalls e c (s.wordAt e) = false →
      ∃ t, exec (.spanCap e c) s = .next t ∧ (t.eng e).span = none ∧ (t.eng e).regs = p.shadow ∧ (t.eng e).handler = some (3, p.pc) ∧
      (t.eng e).pc = 0x40 ∧ (t.eng e).state = 3 ∧ t.rd (F.MEC_SPAN_LAST_SPAN_PC e) = p.pc % 65536 ∧ t.rd (F.MEC_SPAN_LAST_REASON e) = 3 ∧
      (s.hub.secRaised.contains E.MEC_SPAN_CAP_ABORT.id = false → t.status E.MEC_SPAN_CAP_ABORT = true) ∧
      (t.eng e).caps = (s.eng e).caps + 1 ∧
      RegFrame [F.MEC_ENG_CNT_SPAN_ABORTS e, F.MEC_ENG_CNT_OPEN_OVER e, F.MEC_SPAN_LAST_SPAN_PC e, F.MEC_SPAN_LAST_CYCLES e,
        F.MEC_SPAN_LAST_DISCARDED e, F.MEC_SPAN_LAST_REASON e, F.MEC_SPAN_LAST_FRAME e, F.MEC_ENG_STAT_STATE e, F.MEC_ENG_STAT_SPAN e,
        F.MEC_ENG_STAT_OPEN e, F.MEC_ENG_STAT_PC e] s t ∧ { t.calm s with mec := s.mec } = s ∧ MemFrame s t) ∧
  (∀ (s : State) (e c : Nat) (h : HookCall),
      s.canRun e c = true → s.quietEng e = true → (s.eng e).hook = some h → h.start + max 16 (s.rd F.MEC_OPEN_CFG_HOOK_MAX) < s.cycle c →
      ∃ t, exec (.hookTimeout e c) s = .next t ∧ (t.eng e).hook = none ∧ (t.eng e).pc = h.back ∧ t.rd (F.MEC_TRAP_LAST_CODE e) = 8 ∧
      t.rd (F.MEC_TRAP_LAST_OPEN e) = 1 ∧ (s.hub.secRaised.contains E.MEC_OPEN_TRAP.id = false → t.status E.MEC_OPEN_TRAP = true) ∧
      RegFrame [F.MEC_ENG_CNT_TRAPS e, F.MEC_TRAP_LAST_PC e, F.MEC_TRAP_LAST_CODE e, F.MEC_TRAP_LAST_OPEN e, F.MEC_TRAP_LAST_FRAME e,
        F.MEC_ENG_CNT_OPEN_OVER e, F.MEC_ENG_STAT_STATE e, F.MEC_ENG_STAT_SPAN e, F.MEC_ENG_STAT_OPEN e, F.MEC_ENG_STAT_PC e] s t ∧
      { t.calm s with mec := s.mec } = s) ∧
  (∀ (s : State) (e c b st : Nat) (k : SlowTask),
      s.canRun e c = true → (s.eng e).work = .task k b st → b + 2048 < s.cycle c → (s.eng e).handler = none →
      ∃ t, exec (.taskTimeout e c) s = .next t ∧ t.rd (F.MEC_TRAP_LAST_CODE e) = 9 ∧ (t.eng e).handler = some (2, (s.eng e).pc) ∧
      (t.eng e).pc = 0x30 ∧ (t.eng e).hook = none ∧ t.status E.MEC_ENG_TRAP = true ∧
      RegFrame [F.MEC_ENG_CNT_TRAPS e, F.MEC_TRAP_LAST_PC e, F.MEC_TRAP_LAST_CODE e, F.MEC_TRAP_LAST_OPEN e, F.MEC_TRAP_LAST_FRAME e,
        F.MEC_SPAN_LAST_SPAN_PC e, F.MEC_SPAN_LAST_CYCLES e, F.MEC_SPAN_LAST_DISCARDED e, F.MEC_SPAN_LAST_REASON e, F.MEC_SPAN_LAST_FRAME
        e, F.MEC_ENG_STAT_STATE e, F.MEC_ENG_STAT_SPAN e, F.MEC_ENG_STAT_OPEN e, F.MEC_ENG_STAT_PC e] s t ∧
      { t.calm s with mec := s.mec } = s) ∧
  (∀ (s : State) (e c : Nat),
      s.hostReady = true → e < 64 → (s.eng e).state ≠ 4 → (s.eng e).pend = 0 → s.stalls e c (s.wordAt e) = false →
      ∃ t, exec (.engineStop e c) s = .next t ∧ t.rd (F.MEC_ENG_CTRL_STOP e) = 1 ∧ (t.eng e).handler.map Prod.fst = some 0 ∧
      (t.eng e).pc = 0x10 ∧ (t.eng e).state = 3 ∧ (t.eng e).span = none ∧ (t.eng e).hook = none ∧
      RegFrame [F.MEC_ENG_CTRL_STOP e, F.MEC_ENG_CNT_OPEN_OVER e, F.MEC_SPAN_LAST_SPAN_PC e, F.MEC_SPAN_LAST_CYCLES e,
        F.MEC_SPAN_LAST_DISCARDED e, F.MEC_SPAN_LAST_REASON e, F.MEC_SPAN_LAST_FRAME e, F.MEC_ENG_STAT_STATE e, F.MEC_ENG_STAT_SPAN e,
        F.MEC_ENG_STAT_OPEN e, F.MEC_ENG_STAT_PC e] s t ∧ { t.calm s with mec := s.mec } = s ∧ MemFrame s t) ∧
  (∀ (s : State) (e c : Nat),
      s.hostReady = true → e < 64 → (s.eng e).state = 4 →
      ∃ t, exec (.engineStop e c) s = .next t ∧ t.rd (F.MEC_ENG_CTRL_STOP e) = 1 ∧ t.eng e = s.eng e ∧
      RegFrame [F.MEC_ENG_CTRL_STOP e] s t ∧ t.calm s = s) ∧
  (∀ (s : State) (e : Nat),
      s.hostReady = true → e < 64 → s.joined 47 = true → (s.eng e).state = 4 →
      ∃ t, exec (.engineStart e) s = .next t ∧ t.rd (F.MEC_ENG_CTRL_STOP e) = 0 ∧ (t.eng e).state = 0 ∧
      (t.eng e).pc = Config.idleLoop % 65536 ∧ (t.eng e).work = Work.none ∧ (t.eng e).regs = (s.eng e).regs ∧
      RegOnly [F.MEC_ENG_CTRL_STOP e, F.MEC_ENG_STAT_STATE e, F.MEC_ENG_STAT_SPAN e, F.MEC_ENG_STAT_OPEN e, F.MEC_ENG_STAT_PC e] s t ∧
      { t.still s with mec := s.mec } = s)

/-- Loading the open partition (R263, R264), and slow-path tasks (R266, R268). The model's choices: the order of a load's codes, ENGINE 64 to
  127 of a task and the word that takes a task (log entry 38); a microcode section loads the words that its length holds (log entry 61);
  the reads by requester 9 (log entry 48). -/
def Obligations.OpenPartitionAndTasks : Prop :=
  (∀ (s : State),
      s.hostReady = true → s.rd F.MEC_OPEN_STAT_STATE = 0 → s.joined 47 = true → s.mode ≠ mAsleep → s.mode ≠ mStarting →
      s.mode ≠ mHolding →
      ∃ t, exec (.openLoadShadow) s = .next t ∧ t.rd F.MEC_OPEN_STAT_STATE = 1 ∧ t.rd F.MEC_OPEN_LOAD_SRC = 0 ∧
      RegFrame [F.MEC_OPEN_STAT_STATE, F.MEC_OPEN_LOAD_SRC, F.MEC_OPEN_LOAD_SLOT] s t ∧ t.calm s = s) ∧
  (∀ (s : State),
      s.hostReady = true → s.rd F.MEC_OPEN_STAT_STATE ≠ 0 →
      ∃ t, exec (.openLoadShadow) s = .next t ∧ t.rd F.MEC_OPEN_STAT_ERR = 10 ∧ t.rd F.MEC_OPEN_STAT_STATE = s.rd F.MEC_OPEN_STAT_STATE ∧
      t.status E.MEC_OPEN_REFUSED = true ∧
      RegFrame [F.MEC_OPEN_STAT_ERR, F.MEC_OPEN_STAT_WORD, F.MEC_OPEN_LOAD_SRC, F.MEC_OPEN_LOAD_SLOT] s t ∧ t.calm s = s) ∧
  (∀ (s u : State) (k : Nat),
      s.hostReady = true → k < 2 → s.rd F.MEC_OPEN_STAT_STATE = 0 → s.joined 47 = true → s.mode ≠ mAsleep → s.mode ≠ mStarting →
      s.mode ≠ mHolding → s.on (F.CFG_IMG_STAT_VERIFIED k) = true → (ofType 6 (s.slotImg k).sects) ≠ [] →
      (tileSect 47 (s.slotImg k).sects) = none → ((s.slotImg k).section 6).length ≤ 262144 →
      u = imageRead (s.slotBase k + (((ofType 6 (s.slotImg k).sects).head?.map Sect.off).getD 0)) ((s.slotImg k).section 6).length s →
      ∃ t, exec (.openLoadSlot k) s = .next t ∧ t.rd F.MEC_OPEN_STAT_STATE = 1 ∧
      t.openBank (1 - s.bank) = wordsOf 0xC000 ((s.slotImg k).section 6) ∧ t.openBank s.bank = s.openBank s.bank ∧
      RegFrame [F.MEC_OPEN_STAT_STATE, F.MEC_OPEN_LOAD_SRC, F.MEC_OPEN_LOAD_SLOT] u t ∧ { t.calm u with mec := u.mec } = u) ∧
  (∀ (s : State) (k : Nat),
      s.hostReady = true → k < 2 → s.rd F.MEC_OPEN_STAT_STATE = 0 → s.joined 47 = true → s.mode ≠ mAsleep → s.mode ≠ mStarting →
      s.mode ≠ mHolding → s.on (F.CFG_IMG_STAT_VERIFIED k) = false →
      ∃ t, exec (.openLoadSlot k) s = .next t ∧ t.rd F.MEC_OPEN_STAT_ERR = 1 ∧ t.rd F.MEC_OPEN_STAT_STATE = 0 ∧
      t.status E.MEC_OPEN_REFUSED = true ∧ t.mec = s.mec ∧
      RegFrame [F.MEC_OPEN_STAT_ERR, F.MEC_OPEN_STAT_WORD, F.MEC_OPEN_LOAD_SRC, F.MEC_OPEN_LOAD_SLOT] s t) ∧
  (∀ (s : State),
      s.works = true → s.rd F.MEC_OPEN_STAT_STATE = 1 → ((s.openBank (1 - s.bank)).all (fun x => openCheck x.2 == 0) = true) →
      ∃ t, exec (.openCheckEnd) s = .next t ∧ t.rd F.MEC_OPEN_STAT_STATE = 2 ∧ t.rd F.MEC_OPEN_STAT_ERR = 0 ∧
      RegFrame [F.MEC_OPEN_STAT_STATE, F.MEC_OPEN_STAT_ERR, F.MEC_OPEN_STAT_WORD] s t ∧ t.calm s = s) ∧
  (∀ (s : State),
      s.works = true → s.rd F.MEC_OPEN_STAT_STATE = 2 → s.joined 47 = true → s.pwr.cadence % cadenceOf s.mode = 0 → s.atTick = true →
      (s.mec.engines.all (fun x => x.2.hook.isNone) = true) → s.bank < 2 →
      ∃ t, exec (.openLoaded) s = .next t ∧ t.bank = 1 - s.bank ∧ t.rd F.MEC_OPEN_STAT_STATE = 0 ∧
      t.rd F.MEC_OPEN_STAT_LOADS = (s.rd F.MEC_OPEN_STAT_LOADS + 1) % 256 ∧ t.status E.MEC_OPEN_LOADED = true ∧
      RegFrame [F.MEC_OPEN_STAT_STATE, F.MEC_OPEN_STAT_BANK, F.MEC_OPEN_STAT_LOADS] s t ∧ { t.calm s with mec := s.mec } = s) ∧
  (∀ (s : State) (y g a b : Nat),
      s.hostReady = true → y < 256 → g < 128 → a < 65536 → b < 2 ^ 32 → s.mec.tasks.length < 256 →
      ∃ t, exec (.taskPost y g a b) s = .next t ∧ t.mec = { s.mec with tasks := s.mec.tasks ++ [⟨y, g, a, b, false⟩] } ∧
      t.rd F.MEC_TASK_STAT_LAST_REFUSED = 0 ∧
      RegFrame [F.MEC_TASK_STAT_QUEUED, F.MEC_TASK_STAT_RESULTS, F.MEC_TASK_RESULT_TAG, F.MEC_TASK_RESULT_VALID,
        F.MEC_TASK_RESULT_ENGINE, F.MEC_TASK_RESULT_STATUS, F.MEC_TASK_RESULT_RESULT, F.MEC_TASK_STAT_LAST_REFUSED, F.MEC_TASK_POST_TYPE,
        F.MEC_TASK_POST_ENGINE, F.MEC_TASK_POST_TAG, F.MEC_TASK_POST_ARG] s t ∧ { t.calm s with mec := s.mec } = s) ∧
  (∀ (s : State) (y g a b : Nat),
      s.hostReady = true → 256 ≤ s.mec.tasks.length →
      ∃ t, exec (.taskPost y g a b) s = .next t ∧ t.mec = s.mec ∧ t.rd F.MEC_TASK_STAT_LAST_REFUSED = 1 ∧
      t.status E.MEC_TASK_DROP = true ∧
      RegFrame [F.MEC_TASK_STAT_QUEUED, F.MEC_TASK_STAT_RESULTS, F.MEC_TASK_RESULT_TAG, F.MEC_TASK_RESULT_VALID,
        F.MEC_TASK_RESULT_ENGINE, F.MEC_TASK_RESULT_STATUS, F.MEC_TASK_RESULT_RESULT, F.MEC_TASK_STAT_LAST_REFUSED, F.MEC_TASK_POST_TYPE,
        F.MEC_TASK_POST_ENGINE, F.MEC_TASK_POST_TAG, F.MEC_TASK_POST_ARG] s t ∧ t.calm s = s) ∧
  (∀ (s : State) (e c : Nat) (k : SlowTask),
      s.canRun e c = true → (s.eng e).state = 0 → (s.wordAt e).ctl = 12 → (s.eng e).starts = [] → (s.eng e).result = none →
      s.taskFor e = some k → (k.typ = 1 ∨ k.typ = 2 ∨ 128 ≤ k.typ) → ((s.cyclesToStart e c).all (fun d => decide (2048 ≤ d)) = true) →
      ∃ t, exec (.taskStart e c) s = .next t ∧ (t.eng e).state = 2 ∧ (t.eng e).work = Work.task k (s.cycle c) 0 ∧
      (([1, 2, 3].map fun i => SMap.getD (t.eng e).regs i 0) = [k.typ % 2 ^ 32, k.arg % 2 ^ 32, k.tag % 2 ^ 32]) ∧
      t.mec.tasks = s.mec.tasks.erase k ∧ (t.eng e).pc = ((s.eng e).pc + 1) % 65536 ∧ (t.eng e).ready = s.cycle c + 1 ∧
      RegFrame ([F.MEC_TASK_STAT_QUEUED, F.MEC_TASK_STAT_RESULTS, F.MEC_TASK_RESULT_TAG, F.MEC_TASK_RESULT_VALID,
        F.MEC_TASK_RESULT_ENGINE, F.MEC_TASK_RESULT_STATUS, F.MEC_TASK_RESULT_RESULT, F.MEC_ENG_STAT_STATE e, F.MEC_ENG_STAT_SPAN e,
        F.MEC_ENG_STAT_OPEN e, F.MEC_ENG_STAT_PC e]) s t ∧ { t.calm s with mec := s.mec } = s) ∧
  (∀ (s : State) (x : TaskResult) (r : List TaskResult),
      s.hostReady = true → s.mec.results = x :: r → (s.mec.engines.all (fun y => y.2.result.isNone) = true) →
      ∃ t, exec (.taskResultRead) s = .next t ∧ t.mec = { s.mec with results := r } ∧
      (t.rd F.MEC_TASK_RESULT_VALID = (if r = [] then 0 else 1)) ∧ t.rd F.MEC_TASK_STAT_RESULTS = r.length % 512 ∧
      RegFrame [F.MEC_TASK_STAT_QUEUED, F.MEC_TASK_STAT_RESULTS, F.MEC_TASK_RESULT_TAG, F.MEC_TASK_RESULT_VALID,
        F.MEC_TASK_RESULT_ENGINE, F.MEC_TASK_RESULT_STATUS, F.MEC_TASK_RESULT_RESULT] s t) ∧
  (∀ (s : State) (x : Nat × Nat),
      s.works = true → s.rd F.MEC_OPEN_STAT_STATE = 1 →
      (List.find? (fun (y : Nat × Nat) => openCheck y.2 != 0) (s.openBank (1 - s.bank)) = some x) → x.1 < 65536 →
      ∃ t, exec (.openCheckEnd) s = .next t ∧ t.rd F.MEC_OPEN_STAT_STATE = 0 ∧ t.rd F.MEC_OPEN_STAT_ERR = openCheck x.2 ∧
      t.rd F.MEC_OPEN_STAT_WORD = x.1 ∧ t.status E.MEC_OPEN_REFUSED = true ∧ t.mec = s.mec ∧
      RegFrame [F.MEC_OPEN_STAT_STATE, F.MEC_OPEN_STAT_ERR, F.MEC_OPEN_STAT_WORD] s t ∧ t.calm s = s) ∧
  (∀ (s : State) (k : Nat),
      s.hostReady = true → k < 2 → s.rd F.MEC_OPEN_STAT_STATE = 0 → s.joined 47 = true → s.mode ≠ mAsleep → s.mode ≠ mStarting →
      s.mode ≠ mHolding → s.on (F.CFG_IMG_STAT_VERIFIED k) = true → (ofType 6 (s.slotImg k).sects) = [] →
      ∃ t, exec (.openLoadSlot k) s = .next t ∧ t.rd F.MEC_OPEN_STAT_ERR = 1 ∧ t.rd F.MEC_OPEN_STAT_STATE = 0 ∧
      t.status E.MEC_OPEN_REFUSED = true ∧ t.mec = s.mec ∧
      RegFrame [F.MEC_OPEN_STAT_ERR, F.MEC_OPEN_STAT_WORD, F.MEC_OPEN_LOAD_SRC, F.MEC_OPEN_LOAD_SLOT] s t ∧ t.calm s = s)

/-- Recomputations, insertions and allocations of a tree (R205 to R207, R217 to R219, R222, R229, R233, R242, R255). The model's choices: the
  order of an insertion's codes, and what the reading of fixed grants counts (log entry 35); the recomputation at a join (log entry 37). -/
def Obligations.Recomputations : Prop :=
  (∀ (s : State) (n : Nat) (r : Recomp) (s1 : State) (es : List Nat),
      n < 32 → s.works = true → startRecomp n (closeReports n (s.ticks + 1) s) = some (r, s1) → es = s.enginesOf n → es ≠ [] →
      (∀ e ∈ es, (s.eng e).state ≠ 4) →
      ∃ t, exec (.recomputationStart n) s = .next t ∧
      t.mecTree (recKey n r.join) =
        { s.mecTree (recKey n r.join) with acc := [], bars := [], cursor := 0, running := es, engines := es, near := false, doneAt := none }
        ∧ (∀ e ∈ es, e < 64 → (t.eng e).starts.length = (s.eng e).starts.length + (es.filter fun k => k == e).length) ∧
      t.trees = s1.trees ∧ MemFrame s t) ∧
  (∀ (s : State) (n : Nat) (j : Bool),
      n < 32 → s.works = true → (s.mecTree (recKey n j)).near = false → (s.mecTree (recKey n j)).running ≠ [] →
      (((s.tree n).work j).any (fun r => r.deadline == s.ticks && !r.done) = true) → (s.mecTree (recKey n (!j))).running = [] →
      (s.mecTree (recKey n j)).engines = [] →
      ∃ t, exec (.deadlineNear n) s = .next t ∧ t.mecTree (recKey n j) = { s.mecTree (recKey n j) with near := true } ∧ t.regs = s.regs ∧
      { t.calm s with mec := s.mec } = s) ∧
  (∀ (s : State) (n : Nat) (j : Bool) (e : Nat),
      n < 32 → s.works = true → (s.mecTree (recKey n j)).near = false → (s.mecTree (recKey n j)).running ≠ [] →
      (((s.tree n).work j).any (fun r => r.deadline == s.ticks && !r.done) = true) → (s.mecTree (recKey n (!j))).running = [] →
      (s.mecTree (recKey n j)).engines = [e] → (s.eng e).state ≠ 4 → s.quietEng e = true → s.stalls e 165000 (s.wordAt e) = false →
      (s.eng e).handler = none → (s.eng e).span = none → (s.eng e).hook = none →
      ∃ t, exec (.deadlineNear n) s = .next t ∧ (t.mecTree (recKey n j)).near = true ∧ (t.eng e).handler = some (4, (s.eng e).pc) ∧
      (t.eng e).pc = 0x50 ∧ (t.eng e).regs = (s.eng e).regs ∧
      (s.hub.secRaised.contains E.MEC_DEADLINE_NEAR.id = false → t.status E.MEC_DEADLINE_NEAR = true) ∧
      RegFrame [F.MEC_ENG_CNT_NEAR e, F.MEC_ENG_STAT_STATE e, F.MEC_ENG_STAT_SPAN e, F.MEC_ENG_STAT_OPEN e, F.MEC_ENG_STAT_PC e] s t ∧
      { t.calm s with mec := s.mec } = s) ∧
  (∀ (s : State) (n d : Nat) (j : Bool) (r : Recomp),
      n < 32 → s.works = true → (s.tree n).work j = some r → r.done = false → (s.mecTree (recKey n j)).doneAt = some d →
      d ≤ r.deadline * 187500 + 176999 → (j = false → (s.mecTree (recKey n true)).doneAt = none) →
      ∃ t, exec (.treeDone n (d % 187500)) s = .next t ∧ ((t.tree n).work j).map Recomp.done = some true ∧
      (t.mecTree (recKey n j)).doneAt = none ∧ t.rd (F.MEC_TREE_STAT_DONE_CYCLE n) = d % 187500 ∧
      t.rd (F.MEC_TREE_STAT_LATE n) = bit (decide (r.deadline * 187500 + 165000 < d)) ∧ t.rd (F.MEC_TREE_STAT_OVERRAN n) = 0 ∧
      t.rd (F.MEC_TREE_STAT_EARLY n) = bit (decide (d < r.deadline * 187500)) ∧ MemFrame s t) ∧
  (∀ (s : State) (n c : Nat) (r : Recomp),
      n < 32 → s.works = true → (s.tree n).recomp = some r → (s.tree n).joinRec = none → r.deadline = s.ticks → r.done = true →
      hasBit s.hub.mapFrozen n = false →
      ∃ t, exec (.recomputationDeadline n) s = .next t ∧
      t.tree n = { s.tree n with recomp := none, dyn := r.ins, dynFresh := true, dynJoin := r.join } ∧ t.regs = s.regs ∧
      { t with trees := s.trees } = s) ∧
  (∀ (s : State) (n c : Nat) (r : Recomp),
      n < 32 → s.works = true → (s.tree n).recomp = some r → (s.tree n).joinRec = none → r.deadline = s.ticks → r.done = false →
      r.join = false → hasBit s.hub.mapFrozen n = false →
      ∃ t, exec (.recomputationDeadline n) s = .next t ∧ (t.tree n).recomp = none ∧ (t.tree n).dyn = (s.tree n).dyn ∧
      t.rd (F.MEC_TREE_STAT_OVERRAN n) = 1 ∧ (t.mecTree n).running = [] ∧ t.status (E.GNT_OVERRUN n) = true) ∧
  (∀ (s : State) (n c key e : Nat) (j : Bool) (g : List (Nat × Nat)) (r : List (Nat × Nat × List (Nat × Nat))),
      n < 32 → s.works = true → c < 187500 → j = s.nextGroup n → (s.mecTree (recKey n j)).queue = (key, e, g) :: r → key ≤ s.cycle c →
      s.quietEng e = true → (((s.tree n).work j).all (fun x => x.misses key) = true) → g ≠ [] →
      ∃ t, exec (.insertion n c) s = .next t ∧ (t.mecTree (recKey n j)).queue = r ∧ (t.eng e).insCode = 8 ∧ (t.eng e).insIndex = 0 ∧
      (t.tree n).work j = (s.tree n).work j ∧ MemFrame s t) ∧
  (∀ (s : State) (n c key e : Nat) (j : Bool) (g : List (Nat × Nat)) (r : List (Nat × Nat × List (Nat × Nat))) (x : Recomp) (i : Nat ×
    Nat),
      n < 32 → s.works = true → c < 187500 → j = s.nextGroup n → (s.mecTree (recKey n j)).queue = (key, e, g) :: r → key ≤ s.cycle c →
      s.quietEng e = true → (s.tree n).work j = some x → x.misses key = false → g = [i] → (insOfWords i).start ≠ 0xFFFFFF →
      ∃ t, exec (.insertion n c) s = .next t ∧ (t.mecTree (recKey n j)).queue = r ∧
      (t.eng e).insCode = (insertCode s n x (insOfWords i)).1 ∧
      (((t.tree n).work j).map Recomp.ins = some (if (insertCode s n x (insOfWords i)).1 = 0 then (insertCode s n x (insOfWords i)).2
        else x.ins)) ∧ MemFrame s t) ∧
  (∀ (s : State) (n i : Nat),
      s.hostReady = true → n < 32 → s.joined n = true → i < s.maxAllocs n →
      ∃ t, exec (.allocRead n i) s = .next t ∧ t.rd (F.GNT_ALLOC_STAT_CODE n) = 0 ∧
      t.rd (F.GNT_ALLOC_DATA_WORD n 0) = (s.alloc n i).word0 % 2 ^ 64 ∧ t.rd (F.GNT_ALLOC_DATA_WORD n 1) = (s.alloc n i).word1 % 2 ^ 64 ∧
      RegOnly [F.GNT_ALLOC_CMD_INDEX n, F.GNT_ALLOC_CMD_OP n, F.GNT_ALLOC_STAT_CODE n, F.GNT_ALLOC_DATA_WORD n 0, F.GNT_ALLOC_DATA_WORD n
        1] s t ∧ t.still s = s) ∧
  (∀ (s : State) (n i : Nat) (a : Alloc),
      s.hostReady = true → n < 32 → s.joined n = true →
      a = Alloc.ofWords Alloc.empty (s.rd (F.GNT_ALLOC_DATA_WORD n 0)) (s.rd (F.GNT_ALLOC_DATA_WORD n 1)) → i < s.maxAllocs n →
      a.term < s.maxTerms n → ((s.tree n).written.all (fun x => x.1 == i || !x.2.valid || x.2.allocId != a.allocId) = true) →
      ∃ t, exec (.allocWrite n i) s = .next t ∧ t.rd (F.GNT_ALLOC_STAT_CODE n) = 0 ∧
      (t.tree n).allocWr = (s.tree n).allocWr ++ [(i, s.rd (F.GNT_ALLOC_DATA_WORD n 0), s.rd (F.GNT_ALLOC_DATA_WORD n 1))] ∧
      MemFrame s t) ∧
  (∀ (s : State) (n i : Nat),
      s.hostReady = true → n < 32 → s.joined n = true → s.maxAllocs n ≤ i →
      ∃ t, exec (.allocWrite n i) s = .next t ∧ t.rd (F.GNT_ALLOC_STAT_CODE n) = 1 ∧
      RegFrame [F.GNT_ALLOC_CMD_INDEX n, F.GNT_ALLOC_CMD_OP n, F.GNT_ALLOC_STAT_CODE n] s t ∧ t.calm s = s) ∧
  (∀ (s : State) (n p : Nat),
      s.works = true → n < 32 → p < 4 → hasBit (s.rd (F.GNT_PROF_STAT_HELD n)) p = true → SMap.getD (s.tree n).hold p 0 ≤ s.ticks →
      ∃ t, exec (.profileHoldEnd n p) s = .next t ∧ hasBit (t.rd (F.GNT_PROF_STAT_HELD n)) p = false ∧
      (∀ k, k < 4 → k ≠ p → hasBit (t.rd (F.GNT_PROF_STAT_HELD n)) k = hasBit (s.rd (F.GNT_PROF_STAT_HELD n)) k) ∧ MemFrame s t)

/-- A frame received on an uplink port, and the port's link (R430, R432). The model's choices: the order FCS, runt, oversize, FEC, RX_BYTES
  with the FCS, and a frame sorted by its bytes (log entry 45); a count of the frames that are not forwarded (log entry 62). -/
def Obligations.UplinkReception : Prop :=
  (∀ (s : State) (u kind corr : Nat) (x : RxFrame) (b : List Nat) (sel : Bool),
      s.works = true → u < 16 → s.portUp u = true → s.on (F.OBS_INJ_STAT_ARMED (32 + u)) = false →
      (SMap.getD s.upl u UplPort.initial).held = [] → s.forwards = true → ((if b.isEmpty then kind else frameKind b) = 0) →
      64 ≤ x.len + 4 → x.len + 4 ≤ s.maxFrame u →
      ∃ t, exec (.uplinkRxFrame u kind x b false corr 0 sel) s = .next t ∧
      t.rd (F.UPL_CNT_COUNT u 0) = (s.rd (F.UPL_CNT_COUNT u 0) + 1) % 2 ^ 64 ∧
      t.rd (F.UPL_CNT_COUNT u 1) = (s.rd (F.UPL_CNT_COUNT u 1) + (x.len + 4)) % 2 ^ 64 ∧
      t.rd (F.UPL_CNT_COUNT u 12) = (s.rd (F.UPL_CNT_COUNT u 12) + corr) % 2 ^ 64 ∧
      (∃ f, t.bpm.arriving.getLast? = some f ∧ f.1 = s.ticks ∧ f.2.up = false ∧ f.2.src = u ∧ f.2.len = x.len ∧ f.2.dst = x.dst ∧
        f.2.smac = x.smac ∧ f.2.cells = []) ∧ t.bpm.arriving.length = s.bpm.arriving.length + 1 ∧
      t.bpm.arriving.take s.bpm.arriving.length = s.bpm.arriving ∧ MemFrame s t) ∧
  (∀ (s : State) (u kind corr : Nat) (x : RxFrame) (b : List Nat) (sel : Bool),
      s.works = true → u < 16 → s.portUp u = true → s.on (F.OBS_INJ_STAT_ARMED (32 + u)) = false →
      (SMap.getD s.upl u UplPort.initial).held = [] → s.mode = mStandby → ((if b.isEmpty then kind else frameKind b) = 0) →
      64 ≤ x.len + 4 → x.len + 4 ≤ s.maxFrame u →
      ∃ t, exec (.uplinkRxFrame u kind x b false corr 0 sel) s = .next t ∧
      t.rd (F.UPL_CNT_COUNT u 0) = (s.rd (F.UPL_CNT_COUNT u 0) + 1) % 2 ^ 64 ∧
      t.rd (F.UPL_CNT_COUNT u 1) = (s.rd (F.UPL_CNT_COUNT u 1) + (x.len + 4)) % 2 ^ 64 ∧ t.bpm = s.bpm ∧
      (SMap.getD t.upl u UplPort.initial).notForwarded = (SMap.getD s.upl u UplPort.initial).notForwarded + 1 ∧
      RegFrame [F.UPL_CNT_COUNT u 0, F.UPL_CNT_COUNT u 1, F.UPL_CNT_COUNT u 12, F.UPL_CNT_COUNT u 13] s t ∧ MemFrame s t) ∧
  (∀ (s : State) (u kind corr : Nat) (x : RxFrame) (b : List Nat) (sel : Bool),
      s.works = true → u < 16 → s.portUp u = true → s.on (F.OBS_INJ_STAT_ARMED (32 + u)) = false →
      (SMap.getD s.upl u UplPort.initial).held = [] →
      ∃ t, exec (.uplinkRxFrame u kind x b true corr 0 sel) s = .next t ∧
      t.rd (F.UPL_CNT_COUNT u 4) = (s.rd (F.UPL_CNT_COUNT u 4) + 1) % 2 ^ 64 ∧ t.bpm = s.bpm ∧ t.hrx = s.hrx ∧
      RegFrame [F.UPL_CNT_COUNT u 4, F.UPL_CNT_COUNT u 12, F.UPL_CNT_COUNT u 13] s t ∧ { t.calm s with upl := s.upl } = s) ∧
  (∀ (s : State) (u kind corr : Nat) (x : RxFrame) (b : List Nat) (sel : Bool),
      s.works = true → u < 16 → s.portUp u = true → s.on (F.OBS_INJ_STAT_ARMED (32 + u)) = false →
      (SMap.getD s.upl u UplPort.initial).held = [] → x.len + 4 < 64 →
      ∃ t, exec (.uplinkRxFrame u kind x b false corr 0 sel) s = .next t ∧
      t.rd (F.UPL_CNT_COUNT u 6) = (s.rd (F.UPL_CNT_COUNT u 6) + 1) % 2 ^ 64 ∧ t.bpm = s.bpm ∧ t.hrx = s.hrx ∧
      RegFrame [F.UPL_CNT_COUNT u 6, F.UPL_CNT_COUNT u 12, F.UPL_CNT_COUNT u 13] s t ∧ { t.calm s with upl := s.upl } = s) ∧
  (∀ (s : State) (u kind corr : Nat) (x : RxFrame) (b : List Nat) (sel : Bool),
      s.works = true → u < 16 → s.portUp u = true → s.on (F.OBS_INJ_STAT_ARMED (32 + u)) = false →
      (SMap.getD s.upl u UplPort.initial).held = [] → 64 ≤ x.len + 4 → s.maxFrame u < x.len + 4 →
      ∃ t, exec (.uplinkRxFrame u kind x b false corr 0 sel) s = .next t ∧
      t.rd (F.UPL_CNT_COUNT u 5) = (s.rd (F.UPL_CNT_COUNT u 5) + 1) % 2 ^ 64 ∧ t.bpm = s.bpm ∧ t.hrx = s.hrx ∧
      RegFrame [F.UPL_CNT_COUNT u 5, F.UPL_CNT_COUNT u 12, F.UPL_CNT_COUNT u 13] s t ∧ { t.calm s with upl := s.upl } = s) ∧
  (∀ (s : State) (u kind corr : Nat) (x : RxFrame) (b : List Nat) (sel : Bool),
      s.works = true → u < 16 → s.portUp u = true → s.on (F.OBS_INJ_STAT_ARMED (32 + u)) = false →
      (SMap.getD s.upl u UplPort.initial).held = [] → 64 ≤ x.len + 4 → x.len + 4 ≤ s.maxFrame u →
      ∃ t, exec (.uplinkRxFrame u kind x b false corr 1 sel) s = .next t ∧
      t.rd (F.UPL_CNT_COUNT u 7) = (s.rd (F.UPL_CNT_COUNT u 7) + 1) % 2 ^ 64 ∧ t.bpm = s.bpm ∧ t.hrx = s.hrx ∧
      RegFrame [F.UPL_CNT_COUNT u 7, F.UPL_CNT_COUNT u 12, F.UPL_CNT_COUNT u 13] s t ∧ { t.calm s with upl := s.upl } = s) ∧
  (∀ (s : State) (u : Nat),
      s.works = true → u < 16 → s.on (F.UPL_PORT_STAT_LINK u) = true →
      ∃ t, exec (.linkDown u) s = .next t ∧ t.rd (F.UPL_PORT_STAT_LINK u) = 0 ∧
      t.rd (F.UPL_PORT_STAT_LINK_DOWNS u) = min (s.rd (F.UPL_PORT_STAT_LINK_DOWNS u) + 1) 65535 ∧ t.status (E.UPL_LINK_DOWN u) = true ∧
      RegFrame [F.UPL_PORT_STAT_LINK u, F.UPL_PORT_STAT_LINK_DOWNS u] s t ∧ t.calm s = s) ∧
  (∀ (s : State) (u : Nat),
      s.works = true → u < 16 → s.rd (F.UPL_PORT_STAT_WIDTH u) ≠ 0 → s.on (F.UPL_PORT_STAT_LINK u) = false →
      s.joined (s.uplinkGroup u) = true → (s.rd (F.UPL_PORT_STAT_WIDTH u) = 3 → s.joined (s.uplinkGroup u + 1) = true) →
      hasBit s.cfg.disabled (32 + u) = false →
      ∃ t, exec (.linkUp u) s = .next t ∧ t.rd (F.UPL_PORT_STAT_LINK u) = 1 ∧ t.status (E.UPL_LINK_UP u) = true ∧
      RegFrame [F.UPL_PORT_STAT_LINK u] s t ∧ t.calm s = s) ∧
  (∀ (s : State) (u kind corr : Nat) (x : RxFrame) (b : List Nat) (sel : Bool),
      s.works = true → u < 16 → s.portUp u = true → s.on (F.OBS_INJ_STAT_ARMED (32 + u)) = false →
      (SMap.getD s.upl u UplPort.initial).held = [] → frameKind b = 7 → b ≠ [] → 64 ≤ x.len + 4 → x.len + 4 ≤ s.maxFrame u →
      s.rd (F.TMG_PAUSE_STAT_XOFF_RX u) < 256 →
      ∃ t, exec (.uplinkRxFrame u kind x b false corr 0 sel) s = .next t ∧
      t.rd (F.UPL_CNT_COUNT u 0) = (s.rd (F.UPL_CNT_COUNT u 0) + 1) % 2 ^ 64 ∧
      t.rd (F.UPL_CNT_COUNT u 8) = (s.rd (F.UPL_CNT_COUNT u 8) + 1) % 2 ^ 64 ∧
      (∀ c < 8, hasBit (t.rd (F.TMG_PAUSE_STAT_XOFF_RX u)) c = if hasBit (pauseClasses b).1 c then !hasBit (pauseClasses b).2 c else
        hasBit (s.rd (F.TMG_PAUSE_STAT_XOFF_RX u)) c) ∧ t.bpm = s.bpm ∧
      RegFrame [F.UPL_CNT_COUNT u 0, F.UPL_CNT_COUNT u 1, F.UPL_CNT_COUNT u 8, F.UPL_CNT_COUNT u 12, F.UPL_CNT_COUNT u 13,
        F.TMG_PAUSE_STAT_XOFF_RX u] s t ∧ MemFrame s t) ∧
  (∀ (s : State) (u : Nat),
      s.on (F.UPL_PORT_STAT_LINK u) = false →
      ∃ t, exec (.linkDown u) s = .next t ∧ t = s) ∧
  (∀ (s : State) (u : Nat),
      s.on (F.UPL_PORT_STAT_LINK u) = true →
      ∃ t, exec (.linkUp u) s = .next t ∧ t = s)

/-- Pauses (R319, R320, R431) and sending (R310, R318) on an uplink port. The model's choices: the count, the source address and the
  condition of pause frames (log entry 45); the quantum and the pointer of the classes (log entry 43). -/
def Obligations.UplinkPausesAndSending : Prop :=
  (∀ (s : State) (u a z : Nat),
      s.works = true → u < 16 → s.portUp u = true → a < 256 → s.rd (F.TMG_PAUSE_STAT_XOFF_RX u) < 256 →
      ∃ t, exec (.pfcRx u a z) s = .next t ∧ t.rd (F.UPL_CNT_COUNT u 8) = (s.rd (F.UPL_CNT_COUNT u 8) + 1) % 2 ^ 64 ∧
      (∀ c < 8, hasBit (t.rd (F.TMG_PAUSE_STAT_XOFF_RX u)) c = if hasBit a c then !hasBit z c else hasBit (s.rd (F.TMG_PAUSE_STAT_XOFF_RX
        u)) c) ∧ RegOnly [F.UPL_CNT_COUNT u 8, F.TMG_PAUSE_STAT_XOFF_RX u] s t ∧ t.still s = s) ∧
  (∀ (s : State) (u c : Nat),
      s.works = true → u < 16 → c < 8 →
      ∃ t, exec (.pauseExpire u c) s = .next t ∧ hasBit (t.rd (F.TMG_PAUSE_STAT_XOFF_RX u)) c = false ∧
      (∀ k < 8, k ≠ c → hasBit (t.rd (F.TMG_PAUSE_STAT_XOFF_RX u)) k = hasBit (s.rd (F.TMG_PAUSE_STAT_XOFF_RX u)) k) ∧
      RegOnly [F.TMG_PAUSE_STAT_XOFF_RX u] s t ∧ t.still s = s) ∧
  (∀ (s : State) (u : Nat),
      s.works = true → u < 16 → s.portUp u = true → s.rd (F.TMG_PAUSE_STAT_XOFF_TX u) ≠ 0 →
      ∃ t, exec (.pauseRefresh u) s = .next t ∧ t.rd (F.UPL_CNT_COUNT u 2) = (s.rd (F.UPL_CNT_COUNT u 2) + 1) % 2 ^ 64 ∧
      t.rd (F.UPL_CNT_COUNT u 3) = (s.rd (F.UPL_CNT_COUNT u 3) + 64) % 2 ^ 64 ∧
      SMap.getD t.upl u UplPort.initial =
        { SMap.getD s.upl u UplPort.initial with pauseTx := (SMap.getD s.upl u UplPort.initial).pauseTx + 1, lastPause := s.pauseTimes u (s.rd (F.TMG_PAUSE_STAT_XOFF_TX u)), lastPauseFrame := pauseFrame u (s.pauseTimes u (s.rd (F.TMG_PAUSE_STAT_XOFF_TX u))) }
        ∧ (pauseFrame u (s.pauseTimes u (s.rd (F.TMG_PAUSE_STAT_XOFF_TX u)))).take 6 = [0x01, 0x80, 0xC2, 0, 0, 0x01] ∧
      RegOnly [F.UPL_CNT_COUNT u 2, F.UPL_CNT_COUNT u 3] s t ∧ { t.still s with upl := s.upl } = s) ∧
  (∀ (s : State) (u c id : Nat) (r : List (Nat × Nat)),
      s.forwards = true → u < 16 → s.portServed u = true →
      (((readyClasses s u).filter fun c => (s.classq (8 * u + c)).strict).getLast? = some c) →
      (s.classq (8 * u + c)).frames = (id, tagClass u c) :: r →
      ∃ t, exec (.uplinkTxSelect u) s = .next t ∧ (t.classq (8 * u + c)).frames = r ∧ (∀ k, k ≠ 8 * u + c → t.classq k = s.classq k) ∧
      t.bpm.owed = s.bpm.owed ++ [(id, tagClass u c)] ∧ t.rd (F.UPL_CNT_COUNT u 2) = (s.rd (F.UPL_CNT_COUNT u 2) + 1) % 2 ^ 64 ∧
      t.rd (F.UPL_CNT_COUNT u 3) = (s.rd (F.UPL_CNT_COUNT u 3) + (max 64 (headLen s (8 * u + c) + 4))) % 2 ^ 64 ∧
      RegFrame [F.UPL_CNT_COUNT u 2, F.UPL_CNT_COUNT u 3] s t ∧ MemFrame s t)

/-- The host path of an uplink port (R433). The model's choices: a host frame's header read from its slot (log entry 45), and the requester
  of the host path (log entry 48). -/
def Obligations.HostFrames : Prop :=
  (∀ (s : State),
      s.hostReady = true → 3 ≤ s.minor →
      ∃ t, exec (.hostRxPop) s = .next t ∧ t.hrx = s.hrx.drop 1 ∧ (t.rd F.UPL_HRX_DESC_VALID = (if s.hrx.length ≤ 1 then 0 else 1)) ∧
      RegOnly [F.UPL_HRX_DESC_VALID, F.UPL_HRX_DESC_PORT, F.UPL_HRX_DESC_KIND, F.UPL_HRX_DESC_SLOT, F.UPL_HRX_DESC_LEN,
        F.UPL_HRX_DESC_STAMP] s t ∧ { t.still s with hrx := s.hrx } = s) ∧
  (∀ (s : State) (k p len : Nat),
      s.hostReady = true → 3 ≤ s.minor → k < 64 → p < 16 → s.hostPath = true → 60 ≤ len ∧ len ≤ 2048 → s.portUp p = true →
      s.htx.length < 64 →
      ∃ t, exec (.hostTxPost k p len) s = .next t ∧ t.htx = s.htx ++ [⟨k, p, len⟩] ∧ t.rd F.UPL_HTX_STAT_CODE = 0 ∧
      t.rd F.UPL_HTX_STAT_PENDING = s.htx.length + 1 ∧
      RegOnly [F.UPL_HTX_CMD_SLOT, F.UPL_HTX_CMD_PORT, F.UPL_HTX_CMD_LEN, F.UPL_HTX_STAT_CODE, F.UPL_HTX_STAT_PENDING] s t ∧
      { t.still s with htx := s.htx } = s) ∧
  (∀ (s : State) (k p len : Nat),
      s.hostReady = true → 3 ≤ s.minor → p < 16 → s.hostPath = true → (len < 60 ∨ (2048 < len ∧ len < 4096)) →
      ∃ t, exec (.hostTxPost k p len) s = .next t ∧ t.rd F.UPL_HTX_STAT_CODE = 2 ∧
      RegOnly [F.UPL_HTX_CMD_SLOT, F.UPL_HTX_CMD_PORT, F.UPL_HTX_CMD_LEN, F.UPL_HTX_STAT_CODE] s t ∧ t.still s = s) ∧
  (∀ (s : State) (x : HtxPost) (r : List HtxPost) (u : State),
      s.works = true → s.htx = x :: r → x.port < 16 → s.portUp x.port = true → s.zeroing (s.txBase + 2048 * x.slot) x.len = false →
      u = (dramGet 11 (s.txBase + 2048 * x.slot) x.len s).2 →
      ∃ t, exec (.hostTxSend) s = .next t ∧ t.htx = r ∧ t.rd F.UPL_HTX_STAT_DONE = (s.rd F.UPL_HTX_STAT_DONE + 1) % 65536 ∧
      t.rd (F.UPL_CNT_COUNT x.port 2) = (s.rd (F.UPL_CNT_COUNT x.port 2) + 1) % 2 ^ 64 ∧
      RegFrame [F.UPL_HTX_STAT_PENDING, F.UPL_HTX_STAT_DONE, F.UPL_CNT_COUNT x.port 2, F.UPL_CNT_COUNT x.port 3] u t ∧
      { t.calm u with htx := s.htx, upl := s.upl } = u) ∧
  (∀ (s : State) (x : HtxPost) (r : List HtxPost),
      s.works = true → s.htx = x :: r → (s.portUp x.port = false ∨ s.zeroing (s.txBase + 2048 * x.slot) x.len = true) →
      ∃ t, exec (.hostTxSend) s = .next t ∧ t = s)

/-- Where a looked-up frame goes (R269 to R272, R277). The model's choices: what a hit does to a group address and to tags (log entry 39),
  what a destination miss counts (log entries 39, 62), and the lines of a cache and their write-back (log entry 65). -/
def Obligations.FrameLookup : Prop :=
  (∀ (s : State) (id : Nat) (r bl fl : List Nat) (f : Frame) (x u k key : Nat) (c : FlowCtx) (d : Nat) (e : BEntry),
      s.forwards = true → s.fwd.ingress = id :: r → s.frame id = some f → (s.partsOf f).all s.partOn = true →
      (∀ m < 16, s.on (F.OBS_MIRROR_EN m) = false) → f.up = true → 16 ≤ f.src →
      x = flowIndex (f.src - 16) f.tport (s.subOf (f.src - 16) f.tport f) → c = s.flowCtx x → c.valid = true → c.usEn = true →
      d = s.domain c.bd → domValid d = true → domLocal d = false → k = domPart d → u = domUplink d → s.lookup k c.bd f.smac = some key →
      s.entry? key = some e → e.owner = 512 * (f.src - 16) + c.terminal → c.policer = 0 →
      poolTakes (s.classq (8 * u + c.usClass)).pool f.cells.length s = true →
      ∃ t, exec (.frameLookup false bl fl) s = .next t ∧
      (t.classq (8 * u + c.usClass)).frames = (s.classq (8 * u + c.usClass)).frames ++ [(id, tagClass u c.usClass)] ∧
      (t.fwd.ingress = r.filter fun y => y != id) ∧ (t.flowCtx x).usFrames = (c.usFrames + 1) % 2 ^ 40 ∧ (t.flowCtx x).hit = true ∧
      t.tmg.queues = s.tmg.queues ∧ MemFrame s t) ∧
  (∀ (s : State) (id : Nat) (r bl fl : List Nat) (f : Frame) (bd x q k key : Nat) (c : FlowCtx) (d : Nat) (e : BEntry),
      s.forwards = true → s.fwd.ingress = id :: r → s.frame id = some f → (s.partsOf f).all s.partOn = true →
      (∀ m < 16, s.on (F.OBS_MIRROR_EN m) = false) → f.up = false → f.src < 16 → s.vlanDomain f = some bd → d = s.domain bd →
      domValid d = true → domUlLearn d = false → k = domPart d → s.lookup k bd f.dst = some key → s.entry? key = some e → e.dkind = 0 →
      x = flowIndex (e.flow / 2 ^ 18) (e.flow / 4) (s.subOf (e.flow / 2 ^ 18) (e.flow / 4 % 65536) f) → c = s.flowCtx x →
      c.valid = true → c.dsEn = true → q = c.queue → (s.tqueue q).valid = true →
      s.qBase (x / 2 ^ 18) ≤ q ∧ q < s.qBase (x / 2 ^ 18) + s.dsQueues (x / 2 ^ 18) → (s.tqueue q).term < s.maxTerms (x / 2 ^ 18) →
      poolTakes (s.tqueue q).pool f.cells.length s = true →
      ∃ t, exec (.frameLookup false bl fl) s = .next t ∧ (t.tqueue q).frames = (s.tqueue q).frames ++ [(id, x)] ∧
      (t.fwd.ingress = r.filter fun y => y != id) ∧ (t.flowCtx x).dsFrames = (c.dsFrames + 1) % 2 ^ 40 ∧ t.tmg.classes = s.tmg.classes ∧
      MemFrame s t) ∧
  (∀ (s : State) (id : Nat) (r bl fl : List Nat) (f : Frame),
      s.forwards = true → s.fwd.ingress = id :: r → s.frame id = some f → (s.partsOf f).all s.partOn = true → f.up = true →
      (s.flowCtx (flowIndex (f.src - 16) f.tport (s.subOf (f.src - 16) f.tport f))).valid = false →
      ∃ t, exec (.frameLookup false bl fl) s = .next t ∧ (t.fwd.ingress = r.filter fun y => y != id) ∧ t.frame id = none ∧
      t.rd F.FWD_DROP_STAT_NO_FLOW = min (s.rd F.FWD_DROP_STAT_NO_FLOW + 1) 65535 ∧ t.tmg = s.tmg ∧ MemFrame s t) ∧
  (∀ (s : State) (bl fl : List Nat),
      s.forwards = true → s.fwd.ingress ≠ [] → s.on F.FWD_HOLD_STAT_HOLDING = false →
      ∃ t, exec (.frameLookup true bl fl) s = .next t ∧ t.rd F.FWD_HOLD_STAT_HOLDING = 1 ∧ t.fwd = s.fwd ∧
      RegFrame [F.FWD_HOLD_STAT_HOLDING] s t ∧ t.calm s = s) ∧
  (∀ (s : State) (k : Nat),
      (SMap.getD (cacheLook false (some k) s).fwd.brCache (Config.cacheSet false k % s.cacheSets false) []).head? = some k ∧
      (SMap.getD (cacheLook false (some k) s).fwd.brCache (Config.cacheSet false k % s.cacheSets false) []).length ≤ 8 ∧
      (cacheLook false (some k) s).fwd.brLook = s.fwd.brLook + 1 ∧ (cacheLook false (some k) s).fwd.flCache = s.fwd.flCache) ∧
  (∀ (s : State) (k : Nat) (e : BEntry),
      s.entry? k = some e → SMap.find? s.fwd.brOld k = none →
      (State.lineHit k e s).entry? k = some { e with hit := true } ∧ SMap.find? (State.lineHit k e s).fwd.brOld k = some e)

/-- Learning (R282, R284), aging (R288 to R290), flushing (R291) and host writes (R293) of the bridge table. The model's choices: limits and
  host writes of the bridge table, and which lookup saves an entry (log entry 40); the order of a flush (log entry 41); the slot of the
  lookup is free (log entry 14). -/
def Obligations.LearningAndChurn : Prop :=
  (∀ (s : State) (k mac bd o fl ul dk key : Nat) (r : List LearnReq),
      s.works = true → k < 4 → s.inService (40 + k) = true → (s.part k).queue = .learn mac bd o fl ul dk :: r →
      s.lookup k bd mac = none → (ownersOf o).any s.atLimit = false →
      ((s.bucketKeys k (s.bucketOf k bd mac)).all (fun x => !((s.entry? x).map BEntry.bad).getD false) = true) →
      ((s.bucketKeys k (s.bucketOf k bd mac)).find? (fun x => (s.entry? x).isNone) = some key) →
      ∃ t, exec (.learnCommit k) s = .next t ∧
      t.entry? key = some
        { mac := mac, bd := bd, static := false, flow := fl, uplink := ul, dkind := dk, owner := o, hit := true, stale := false, flap := false, learnS := s.fwdSec, moveS := 0, moves := 0, bad := false }
        ∧ (∀ x, x ≠ key → t.entry? x = s.entry? x) ∧ (t.part k).queue = r ∧
      (∀ w ∈ ownersOf o, (t.owner w).count = (s.owner w).count + 1) ∧
      t.rd (F.FWD_LEARN_STAT_LEARNED k) = min (s.rd (F.FWD_LEARN_STAT_LEARNED k) + 1) 65535 ∧
      RegFrame [F.FWD_LEARN_STAT_LEARNED k, F.FWD_PART_STAT_QUEUED k] s t ∧ { t.calm s with fwd := s.fwd } = s) ∧
  (∀ (s : State) (k key x : Nat) (w : List Nat) (r : List LearnReq) (e : BEntry),
      s.works = true → k < 4 → s.inService (40 + k) = true → (s.part k).queue = .host 0 2 key w :: r →
      s.lookup k (slice key 48 14) (key % 2 ^ 48) = some x → s.entry? x = some e → hasBit (w.getD 0 0) 62 = true →
      hasBit (w.getD 0 0) 63 = true →
      ∃ t, exec (.learnCommit k) s = .next t ∧ t.entry? x = some (entryOf (key % 2 ^ 48) (slice key 48 14) w (some e) s.fwdSec) ∧
      (∀ y, y ≠ x → t.entry? y = s.entry? y) ∧ t.rd F.FWD_TBL_STAT_CODE = 0 ∧ t.rd F.FWD_TBL_STAT_BUSY = 0 ∧
      RegFrame [F.FWD_TBL_STAT_CODE, F.FWD_TBL_STAT_BUSY] s t ∧ { t.calm s with fwd := s.fwd } = s) ∧
  (∀ (s : State) (k key b : Nat) (e : BEntry),
      s.works = true → k < 4 → s.partOn k = true → (s.part k).bucketsDone = false → b = s.rd (F.FWD_CHURN_STAT_POS k) →
      key ∈ s.bucketKeys k b → s.entry? key = some e → e.bad = false → e.static = false → e.hit = true →
      (e.stale && s.fwd.saved.contains key) = false →
      ∃ t, exec (.churnVisit k false) s = .next t ∧
      (((t.entry? key).map fun x => (x.mac, x.bd, x.owner, x.hit, x.stale)) = some (e.mac, e.bd, e.owner, false, false)) ∧
      MemFrame s t) ∧
  (∀ (s : State) (k key b : Nat) (e : BEntry),
      s.works = true → k < 4 → s.partOn k = true → (s.part k).bucketsDone = false → b = s.rd (F.FWD_CHURN_STAT_POS k) →
      key ∈ s.bucketKeys k b → s.entry? key = some e → e.bad = false → e.static = false → e.hit = false → e.stale = false →
      ∃ t, exec (.churnVisit k false) s = .next t ∧
      (((t.entry? key).map fun x => (x.mac, x.bd, x.owner, x.hit, x.stale)) = some (e.mac, e.bd, e.owner, false, true)) ∧ MemFrame s t) ∧
  (∀ (s : State) (k key b : Nat) (e : BEntry),
      s.works = true → k < 4 → s.partOn k = true → (s.part k).bucketsDone = false → b = s.rd (F.FWD_CHURN_STAT_POS k) →
      key ∈ s.bucketKeys k b → s.entry? key = some e → e.bad = false → e.static = false → e.hit = false → e.stale = true →
      s.rd (F.FWD_PART_CFG_AGE_S k) ≠ 0 →
      ∃ t, exec (.churnVisit k false) s = .next t ∧ t.entry? key = none ∧ MemFrame s t) ∧
  (∀ (s : State) (k x : Nat),
      s.works = true → k < 4 → s.partOn k = true → (s.part k).flowsDone = false → x = 2 ^ 21 * k + (s.part k).churnFlow →
      (s.flowCtx x).valid = true → (s.flowCtx x).hit = true →
      ∃ t, exec (.churnVisit k true) s = .next t ∧ t.flowCtx x = { s.flowCtx x with hit := false, stale := false, idle := false } ∧
      (∀ y, y ≠ x → t.flowCtx y = s.flowCtx y) ∧ t.fwd.bridge = s.fwd.bridge ∧ MemFrame s t) ∧
  (∀ (s : State) (k o lo tk : Nat),
      s.works = true → k < 4 → s.partOn k = true → (s.part k).flush = some (o, lo, tk) →
      ∃ t, exec (.flushDone k) s = .next t ∧ (t.part k).flush = none ∧
      (∀ x ∈ t.fwd.bridge, 2 ^ 22 * k + lo * s.ways k ≤ x.1 → x.1 < 2 ^ 22 * k + s.buckets k * s.ways k → x.2.static = false → x.2.bad =
        false → (ownersOf x.2.owner).contains o = false) ∧ t.rd (F.FWD_PART_STAT_FLUSHING k) = 0 ∧ t.status (E.FWD_FLUSH_DONE k) = true ∧
      RegFrame [F.FWD_PART_STAT_FLUSHING k] s t ∧ { t.calm s with fwd := s.fwd } = s)

/-- Host access to the forwarding tables (R291 to R293, R297). The model's choices: table 0's key, GO ignored while BUSY, the order of the
  codes and what a read returns (log entry 41). -/
def Obligations.ForwardingTables : Prop :=
  (∀ (s : State) (tb key : Nat),
      s.hostReady = true → s.on F.FWD_TBL_STAT_BUSY = false → key < 2 ^ 64 →
      ((keyPart s tb 1 key).all (fun k => s.joined (40 + k)) = true) → keyOk s tb 1 key = true → 2 ≤ tb ∧ tb < 8 →
      ∃ t, exec (.tableRead tb key) s = .next t ∧ (∀ i < 8, t.rd (F.FWD_TBL_DATA_WORD i) = (s.tblRead tb key).getD i 0 % 2 ^ 64) ∧
      t.rd F.FWD_TBL_STAT_CODE = 0 ∧
      RegFrame ([F.FWD_TBL_CMD_TABLE, F.FWD_TBL_CMD_OP, F.FWD_TBL_CMD_CLR_CNT, F.FWD_TBL_CMD_WR_COUNT, F.FWD_TBL_KEY_KEY,
        F.FWD_TBL_STAT_CODE, F.FWD_TBL_STAT_BUSY] ++ (List.range 8).map F.FWD_TBL_DATA_WORD) s t ∧ t.calm s = s) ∧
  (∀ (s : State) (tb key : Nat),
      s.hostReady = true → s.on F.FWD_TBL_STAT_BUSY = false → key < 2 ^ 64 →
      ((keyPart s tb 2 key).all (fun k => s.joined (40 + k)) = true) → keyOk s tb 2 key = true → (tb = 3 ∨ tb = 4 ∨ tb = 5 ∨ tb = 7) →
      ∃ t, exec (.tableWrite tb key false false) s = .next t ∧
      t.fwd = { s.fwd with waiting := s.fwd.waiting ++ [(tb, key, smallWord tb (s.rd (F.FWD_TBL_DATA_WORD 0)))] } ∧
      t.rd F.FWD_TBL_STAT_CODE = 0 ∧
      RegFrame [F.FWD_TBL_CMD_TABLE, F.FWD_TBL_CMD_OP, F.FWD_TBL_CMD_CLR_CNT, F.FWD_TBL_CMD_WR_COUNT, F.FWD_TBL_KEY_KEY,
        F.FWD_TBL_STAT_CODE, F.FWD_TBL_STAT_BUSY] s t ∧ { t.calm s with fwd := s.fwd } = s) ∧
  (∀ (s : State) (k key : Nat),
      s.hostReady = true → s.on F.FWD_TBL_STAT_BUSY = false → key < 2 ^ 62 → k = domPart (s.domain (slice key 48 14)) →
      s.joined (40 + k) = true →
      ∃ t, exec (.tableRead 0 key) s = .next t ∧ (t.part k).queue = (s.part k).queue ++ [.host 0 1 key s.tblWords] ∧
      t.rd F.FWD_TBL_STAT_BUSY = 1 ∧
      RegFrame [F.FWD_TBL_CMD_TABLE, F.FWD_TBL_CMD_OP, F.FWD_TBL_CMD_CLR_CNT, F.FWD_TBL_CMD_WR_COUNT, F.FWD_TBL_KEY_KEY,
        F.FWD_TBL_STAT_BUSY] s t ∧ { t.calm s with fwd := s.fwd } = s) ∧
  (∀ (s : State) (k key : Nat),
      s.hostReady = true → s.on F.FWD_TBL_STAT_BUSY = false → key < 2 ^ 62 → k = domPart (s.domain (slice key 48 14)) →
      s.joined (40 + k) = true →
      ∃ t, exec (.tableWrite 0 key false false) s = .next t ∧ (t.part k).queue = (s.part k).queue ++ [.host 0 2 key s.tblWords] ∧
      t.rd F.FWD_TBL_STAT_BUSY = 1 ∧
      RegFrame [F.FWD_TBL_CMD_TABLE, F.FWD_TBL_CMD_OP, F.FWD_TBL_CMD_CLR_CNT, F.FWD_TBL_CMD_WR_COUNT, F.FWD_TBL_KEY_KEY,
        F.FWD_TBL_STAT_BUSY] s t ∧ { t.calm s with fwd := s.fwd } = s) ∧
  (∀ (s : State) (k key : Nat),
      s.hostReady = true → s.on F.FWD_TBL_STAT_BUSY = false → key < 2 ^ 62 → k = domPart (s.domain (slice key 48 14)) →
      s.joined (40 + k) = true →
      ∃ t, exec (.tableDelete 0 key) s = .next t ∧ (t.part k).queue = (s.part k).queue ++ [.host 0 3 key s.tblWords] ∧
      t.rd F.FWD_TBL_STAT_BUSY = 1 ∧
      RegFrame [F.FWD_TBL_CMD_TABLE, F.FWD_TBL_CMD_OP, F.FWD_TBL_CMD_CLR_CNT, F.FWD_TBL_CMD_WR_COUNT, F.FWD_TBL_KEY_KEY,
        F.FWD_TBL_STAT_BUSY] s t ∧ { t.calm s with fwd := s.fwd } = s) ∧
  (∀ (s : State) (k key : Nat),
      s.hostReady = true → s.on F.FWD_TBL_STAT_BUSY = false → key < 2 ^ 18 → keyOk s 0 4 key = true → k = slice key 16 2 →
      s.joined (40 + k) = true → (s.part k).flush = none →
      ∃ t, exec (.flushOwner 0 key) s = .next t ∧ (t.part k).flush = some (key % 2 ^ 15, 0, s.ticks) ∧
      t.rd (F.FWD_PART_STAT_FLUSHING k) = 1 ∧ t.rd F.FWD_TBL_STAT_CODE = 0 ∧
      RegFrame [F.FWD_TBL_CMD_TABLE, F.FWD_TBL_CMD_OP, F.FWD_TBL_CMD_CLR_CNT, F.FWD_TBL_CMD_WR_COUNT, F.FWD_TBL_KEY_KEY,
        F.FWD_TBL_STAT_CODE, F.FWD_TBL_STAT_BUSY, F.FWD_PART_STAT_FLUSHING k] s t ∧ { t.calm s with fwd := s.fwd } = s) ∧
  (∀ (s : State) (tb key : Nat),
      s.hostReady = true → s.on F.FWD_TBL_STAT_BUSY = false → 0 < tb ∧ tb < 8 →
      ∃ t, exec (.tableDelete tb key) s = .next t ∧ t.rd F.FWD_TBL_STAT_CODE = 6 ∧ t.fwd = s.fwd ∧
      RegFrame [F.FWD_TBL_CMD_TABLE, F.FWD_TBL_CMD_OP, F.FWD_TBL_CMD_CLR_CNT, F.FWD_TBL_CMD_WR_COUNT, F.FWD_TBL_KEY_KEY,
        F.FWD_TBL_STAT_CODE, F.FWD_TBL_STAT_BUSY] s t ∧ t.calm s = s) ∧
  (∀ (s : State) (tb key : Nat),
      s.hostReady = true → s.on F.FWD_TBL_STAT_BUSY = true →
      ∃ t, exec (.tableWrite tb key false false) s = .next t ∧ t.rd F.FWD_TBL_STAT_CODE = s.rd F.FWD_TBL_STAT_CODE ∧
      RegFrame [F.FWD_TBL_CMD_TABLE, F.FWD_TBL_CMD_OP, F.FWD_TBL_CMD_CLR_CNT, F.FWD_TBL_CMD_WR_COUNT, F.FWD_TBL_KEY_KEY] s t ∧
      t.calm s = s) ∧
  (∀ (s : State) (tb key : Nat),
      s.hostReady = true → s.on F.FWD_TBL_STAT_BUSY = true →
      ∃ t, exec (.tableRead tb key) s = .next t ∧ t.rd F.FWD_TBL_STAT_CODE = s.rd F.FWD_TBL_STAT_CODE ∧
      RegFrame [F.FWD_TBL_CMD_TABLE, F.FWD_TBL_CMD_OP, F.FWD_TBL_CMD_CLR_CNT, F.FWD_TBL_CMD_WR_COUNT, F.FWD_TBL_KEY_KEY] s t ∧
      t.calm s = s) ∧
  (∀ (s : State) (tb key : Nat),
      s.hostReady = true → s.on F.FWD_TBL_STAT_BUSY = true →
      ∃ t, exec (.tableDelete tb key) s = .next t ∧ t.rd F.FWD_TBL_STAT_CODE = s.rd F.FWD_TBL_STAT_CODE ∧
      RegFrame [F.FWD_TBL_CMD_TABLE, F.FWD_TBL_CMD_OP, F.FWD_TBL_CMD_CLR_CNT, F.FWD_TBL_CMD_WR_COUNT, F.FWD_TBL_KEY_KEY] s t ∧
      t.calm s = s) ∧
  (∀ (s : State) (tb key : Nat),
      s.hostReady = true → s.on F.FWD_TBL_STAT_BUSY = true →
      ∃ t, exec (.flushOwner tb key) s = .next t ∧ t.rd F.FWD_TBL_STAT_CODE = s.rd F.FWD_TBL_STAT_CODE ∧
      RegFrame [F.FWD_TBL_CMD_TABLE, F.FWD_TBL_CMD_OP, F.FWD_TBL_CMD_CLR_CNT, F.FWD_TBL_CMD_WR_COUNT, F.FWD_TBL_KEY_KEY] s t ∧
      t.calm s = s)

/-- Allocation (R300, R302 to R305) and free (R302, R309, R310) of cells. The model's choices: STOP upstream, the order of a free's checks,
  which cell is taken and which frames ask in one cycle (log entry 42), all free values (log entry 14). -/
def Obligations.CellsAndPools : Prop :=
  (∀ (s u : State) (f : Frame) (p k : Nat),
      s.forwards = true → nextAlloc s = some (f, u) → p = u.rd (F.BPM_ING_MAP_POOL f.src) → k = cellsFor f.len → f.up = false →
      poolTakes p k u = true → k ≤ (allocCells u).1 → u.freeCells < 2 ^ 26 →
      ∃ t, exec (.cellAlloc) s = .next t ∧ t.bpm.arriving = u.bpm.arriving ∧ t.freeCells = s.freeCells - k ∧
      t.fwd.ingress.length = s.fwd.ingress.length + 1 ∧
      (∃ id, t.fwd.ingress.getLast? = some id ∧ ((t.frame id).map fun g => (g.cells.length, g.pool, g.len)) = some (k, p, f.len)) ∧
      MemFrame s t) ∧
  (∀ (s u : State) (f : Frame) (p k : Nat),
      s.forwards = true → nextAlloc s = some (f, u) → p = u.rd (F.BPM_ING_MAP_POOL f.src) → k = cellsFor f.len →
      poolTakes p k u = false → p < 64 →
      ∃ t, exec (.cellAlloc) s = .next t ∧ t.bpm.arriving = u.bpm.arriving ∧ t.freeCells = s.freeCells ∧
      t.rd (F.BPM_POOL_STOP_DROP_FRAMES p) = (s.rd (F.BPM_POOL_STOP_DROP_FRAMES p) + 1) % 2 ^ 48 ∧
      (s.hub.secRaised.contains E.BPM_POOL_DROP.id = false → t.status E.BPM_POOL_DROP = true) ∧ t.fwd = s.fwd ∧ MemFrame s t) ∧
  (∀ (s u : State) (f : Frame) (p k : Nat),
      s.forwards = true → nextAlloc s = some (f, u) → p = u.rd (F.BPM_ING_MAP_POOL f.src) → k = cellsFor f.len → poolTakes p k u = true →
      (allocCells u).1 < k → p < 64 →
      ∃ t, exec (.cellAlloc) s = .next t ∧ t.bpm.arriving = u.bpm.arriving ∧ t.freeCells = s.freeCells ∧
      t.rd (F.BPM_POOL_EMPTY_DROP_FRAMES p) = (s.rd (F.BPM_POOL_EMPTY_DROP_FRAMES p) + 1) % 2 ^ 48 ∧ t.fwd = s.fwd ∧ MemFrame s t) ∧
  (∀ (s u : State) (f : Frame),
      nextAlloc s = some (f, u) →
      u.bpm = { s.bpm with arriving := u.bpm.arriving, turn := u.bpm.turn, first := u.bpm.first } ∧
      u.bpm.turn.length + u.bpm.arriving.length + 1 = s.bpm.turn.length + s.bpm.arriving.length ∧
      (s.bpm.turn ≠ [] → s.bpm.turn.head? = some f ∧ u.bpm.turn = s.bpm.turn.drop 1 ∧ u.bpm.arriving = s.bpm.arriving) ∧
      (s.bpm.turn = [] → (∃ c, (s.bpm.arriving.head?.map fun x => x.1) = some c ∧ (c, f) ∈ s.bpm.arriving ∧ (∀ g ∈ u.bpm.turn, (c, g) ∈
        s.bpm.arriving))) ∧ u.regs = s.regs) ∧
  (∀ (s : State) (c x : Nat) (m : CellMeta) (f : Frame),
      s.works = true → x < 2 ^ 24 → SMap.find? s.bpm.cells c = some m → freeAct c x (some m) = .free → s.frame c = some f →
      f.cells = [c] → s.freeCells + 1 < 2 ^ 26 → s.on F.BPM_FS_STAT_RING = false →
      ∃ t, exec (.cellFree c x) s = .next t ∧ SMap.find? t.bpm.cells c = none ∧
      (∀ k, k ≠ c → SMap.find? t.bpm.cells k = SMap.find? s.bpm.cells k) ∧ t.frame c = none ∧ t.freeCells = s.freeCells + 1 ∧
      MemFrame s t) ∧
  (∀ (s : State) (c x : Nat) (k : Nat),
      s.works = true → x < 2 ^ 24 → c < 2 ^ 25 → freeAct c x (SMap.find? s.bpm.cells c) = .refuse k → k < 8 →
      ∃ t, exec (.cellFree c x) s = .next t ∧ t.rd F.BPM_FREE_ERR_CELL = c ∧ t.rd F.BPM_FREE_ERR_CODE = k ∧
      t.rd F.BPM_FREE_ERR_REQUESTER = x ∧ t.status E.BPM_FREE_REFUSED = true ∧ t.freeCells = s.freeCells ∧ t.bpm.cells = s.bpm.cells ∧
      RegFrame [F.BPM_FREE_ERR_CELL, F.BPM_FREE_ERR_CODE, F.BPM_FREE_ERR_REQUESTER, F.BPM_FREE_ERR_CNT_REFUSED] s t) ∧
  (∀ (s : State) (p : Nat),
      s.hostReady = true → p = s.rd F.BPM_FS_CFG_HOST_POOL → poolTakes p 1 s = true → 0 < (allocCells s).1 → s.freeCells < 2 ^ 26 →
      ∃ t, exec (.hostCellAlloc) s = .next t ∧ t.freeCells = s.freeCells - 1 ∧
      (((SMap.find? t.bpm.cells t.hostIf.lastRead).map fun m => (m.owners, m.last, m.pool)) = some (1, tagHost, p)) ∧ MemFrame s t) ∧
  (∀ (s : State),
      s.hostReady = true → (poolTakes (s.rd F.BPM_FS_CFG_HOST_POOL) 1 s = false ∨ (allocCells s).1 = 0) →
      ∃ t, exec (.hostCellAlloc) s = .next t ∧ t.hostIf.lastRead = 2 ^ 25 ∧ t.freeCells = s.freeCells ∧ t.bpm.cells = s.bpm.cells ∧
      t.bpm.frames = s.bpm.frames ∧ MemFrame s t) ∧
  (∀ (s : State) (c : Nat) (m : CellMeta),
      s.hostReady = true → c < 33554432 → SMap.find? s.bpm.cells c = some m → m.owners = 1 → m.last = tagHost → m.lastPend = false →
      s.frame c = none → s.freeCells + 1 < 2 ^ 26 → s.on F.BPM_FS_STAT_RING = false →
      ∃ t, exec (.hostCellFree c) s = .next t ∧ SMap.find? t.bpm.cells c = none ∧
      (∀ k, k ≠ c → SMap.find? t.bpm.cells k = SMap.find? s.bpm.cells k) ∧ t.freeCells = s.freeCells + 1 ∧ MemFrame s t)

/-- Host access to TMG's tables (R90, R93, R317). The model's choices: the order of commits' codes (log entry 28), and when a write to TMG's
  tables is in force (log entry 7). -/
def Obligations.TrafficTables : Prop :=
  (∀ (s : State) (tb i : Nat),
      s.hostReady = true → tb < 5 → i < 2 ^ 20 → indexOk s tb i = true → (tb < 3 → s.joined (44 + s.halfOf tb i) = true) →
      ∃ t, exec (.tmgTableRead tb i) s = .next t ∧ (∀ k < 4, t.rd (F.TMG_TBL_DATA_WORD k) = (s.tmgWords tb i).getD k 0 % 2 ^ 64) ∧
      t.rd F.TMG_TBL_STAT_CODE = 0 ∧
      RegOnly ([F.TMG_TBL_CMD_TABLE, F.TMG_TBL_CMD_OP, F.TMG_TBL_KEY_INDEX, F.TMG_TBL_STAT_CODE] ++ (List.range 4).map
        F.TMG_TBL_DATA_WORD) s t ∧ t.still s = s) ∧
  (∀ (s : State) (tb i : Nat) (h : Nat) (l : List (Nat × Nat × List Nat)),
      s.hostReady = true → tb < 5 → i < 2 ^ 20 → indexOk s tb i = true → (tb < 3 → s.joined (44 + s.halfOf tb i) = true) → tb < 3 →
      h = s.halfOf tb i → (l = (SMap.getD s.tmg.shadow h []).filter (fun e => !(e.1 == tb && e.2.1 == i))) → s.locked (44 + h) = false →
      l.length < 4096 →
      ∃ t, exec (.tmgTableWrite tb i) s = .next t ∧
      (SMap.getD t.tmg.shadow h [] = l ++ [(tb, i, tmgMask tb ((List.range 4).map fun k => s.rd (F.TMG_TBL_DATA_WORD k)))]) ∧
      t.rd F.TMG_TBL_STAT_CODE = 0 ∧
      RegOnly [F.TMG_TBL_CMD_TABLE, F.TMG_TBL_CMD_OP, F.TMG_TBL_KEY_INDEX, F.TMG_TBL_STAT_CODE, F.TMG_TBL_STAT_PENDING] s t ∧
      { t.still s with tmg := s.tmg } = s) ∧
  (∀ (s : State) (tb i : Nat),
      s.hostReady = true → tb < 5 → i < 2 ^ 20 → indexOk s tb i = true → (tb < 3 → s.joined (44 + s.halfOf tb i) = true) → 3 ≤ tb →
      ∃ t, exec (.tmgTableWrite tb i) s = .next t ∧
      (t.tmg =
        { s.tmg with waiting := s.tmg.waiting ++ [(tb, i, tmgMask tb ((List.range 4).map fun k => s.rd (F.TMG_TBL_DATA_WORD k)))] }) ∧
      t.rd F.TMG_TBL_STAT_CODE = 0 ∧ RegOnly [F.TMG_TBL_CMD_TABLE, F.TMG_TBL_CMD_OP, F.TMG_TBL_KEY_INDEX, F.TMG_TBL_STAT_CODE] s t ∧
      { t.still s with tmg := s.tmg } = s) ∧
  (∀ (s : State) (tb i : Nat),
      s.hostReady = true → tb < 8 → i < 2 ^ 20 → (4 < tb ∨ indexOk s tb i = false) →
      ∃ t, exec (.tmgTableRead tb i) s = .next t ∧ (t.rd F.TMG_TBL_STAT_CODE = (if 4 < tb then 2 else 1)) ∧
      RegOnly [F.TMG_TBL_CMD_TABLE, F.TMG_TBL_CMD_OP, F.TMG_TBL_KEY_INDEX, F.TMG_TBL_STAT_CODE] s t ∧ t.still s = s) ∧
  (∀ (s : State) (tb i : Nat),
      s.hostReady = true → tb < 8 → i < 2 ^ 20 → (4 < tb ∨ indexOk s tb i = false) →
      ∃ t, exec (.tmgTableWrite tb i) s = .next t ∧ (t.rd F.TMG_TBL_STAT_CODE = (if 4 < tb then 2 else 1)) ∧
      RegOnly [F.TMG_TBL_CMD_TABLE, F.TMG_TBL_CMD_OP, F.TMG_TBL_KEY_INDEX, F.TMG_TBL_STAT_CODE] s t ∧ t.still s = s)

/-- Requests of the cipher array (R315, R327, R328, R332 to R335, R337, R340). The model's choices: the blocks of a check and of an unwrap
  (log entry 46), a prefetch's budget and what misses a frame (log entry 43), an import and a report whose keys are not there (log entry
  47), and accesses that last until they are served (log entry 48). -/
def Obligations.CipherRequests : Prop :=
  (∀ (s : State) (r : CipherReq),
      s.works = true → nextReq s = some r → checkReq s r = 0 → s.barred r = false → s.cph.running.length < s.lanes →
      ∃ t, exec (.cipherRequestStart) s = .next t ∧ t.cph = { s.cph with waiting := s.cph.waiting.erase r, running := t.cph.running } ∧
      t.cph.running.map CipherRun.req = s.cph.running.map CipherRun.req ++ [r] ∧
      t.cph.running.take s.cph.running.length = s.cph.running ∧
      (r.job = CipherJob.data → t.cph.running.getLast? = some ⟨r, if r.prio < 3 ∧ usesPrev (s.kslot r.slot) r.sfc = true then ((s.kslot
        r.slot).prev.map (·.1)).getD [] else (s.kslot r.slot).key.getD [], decide (r.prio < 3) && usesPrev (s.kslot r.slot) r.sfc,
        s.guarded, (s.kslot r.slot).gen, false⟩) ∧ ((∀ x, r.job ≠ CipherJob.check x) → t.trees = s.trees) ∧
      RegFrame [F.CPH_LANE_STAT_BUSY_PEAK] s t ∧ { t.calm s with cph := s.cph, trees := s.trees } = s) ∧
  (∀ (s : State) (r : CipherReq) (k : Nat),
      s.works = true → nextReq s = some r → checkReq s r = k → k ≠ 0 → r.prio = 5 →
      ∃ t, exec (.cipherRequestStart) s = .next t ∧
      t.cph = { s.cph with waiting := s.cph.waiting.erase r, results := s.cph.results ++ [⟨r.htag, k, 0⟩] } ∧
      t.status E.CPH_REQ_DONE = true ∧ (s.hub.secRaised.contains E.CPH_REQ_REFUSED.id = false → t.status E.CPH_REQ_REFUSED = true) ∧
      MemFrame s t) ∧
  (∀ (s : State) (i : Nat) (r : CipherRun),
      s.works = true → s.cph.running[i]? = some r → r.req.prio = 1 → r.ofKey (s.kslot r.req.slot) true = false →
      r.ofKey (s.kslot r.req.slot) false = true →
      ∃ t, exec (.cipherRequestDone i) s = .next t ∧ (t.kslot r.req.slot).useUs = (s.kslot r.req.slot).useUs + r.req.blocks ∧
      (t.kslot r.req.slot).useDs = (s.kslot r.req.slot).useDs ∧ t.cph.running = s.cph.running.eraseIdx i ∧
      t.fwd.ingress = s.fwd.ingress ++ [r.req.frame] ∧
      ((s.frame r.req.frame).isSome = true → (t.frame r.req.frame).map Frame.icb = some (some r.req.icb)) ∧ MemFrame s t) ∧
  (∀ (s : State) (i : Nat) (r : CipherRun),
      s.works = true → s.cph.running[i]? = some r → r.req.prio = 1 → r.ofKey (s.kslot r.req.slot) true = true →
      ∃ t, exec (.cipherRequestDone i) s = .next t ∧ (t.kslot r.req.slot).prevUs = (s.kslot r.req.slot).prevUs + r.req.blocks ∧
      (t.kslot r.req.slot).useUs = (s.kslot r.req.slot).useUs ∧ t.cph.running = s.cph.running.eraseIdx i ∧
      t.fwd.ingress = s.fwd.ingress ++ [r.req.frame] ∧ MemFrame s t) ∧
  (∀ (s u : State) (i : Nat) (r : CipherRun),
      s.works = true → s.cph.running[i]? = some r → r.req.prio = 5 → r.req.job = CipherJob.data → r.req.mode = 4 →
      r.req.decrypt = false → s.heldReq r.req = false →
      u = showLanes (countUse r { s with cph := { s.cph with running := s.cph.running.eraseIdx i } }) →
      r.ofKey (s.kslot r.req.slot) true = false → r.ofKey (s.kslot r.req.slot) false = true →
      ∃ t, exec (.cipherRequestDone i) s = .next t ∧
      t.cph.results = s.cph.results ++ [⟨r.req.htag, 0, blockNat (cmac r.key (dramGet 10 r.req.src r.req.len u).1)⟩] ∧
      (t.kslot r.req.slot).useDs = (s.kslot r.req.slot).useDs + r.req.blocks ∧ t.status E.CPH_REQ_DONE = true ∧
      MemFrame (dramGet 10 r.req.src r.req.len u).2 t) ∧
  (∀ (s u : State) (i : Nat) (r : CipherRun),
      s.works = true → s.cph.running[i]? = some r → r.req.prio = 5 → r.req.job = CipherJob.data → r.req.mode = 2 → r.req.decrypt = true →
      s.heldReq r.req = false → u = showLanes (countUse r { s with cph := { s.cph with running := s.cph.running.eraseIdx i } }) →
      ∃ t, exec (.cipherRequestDone i) s = .next t ∧
      t.dram = (dramPut 10 (bytesAt r.req.dst (cbcDec r.key (block16 r.req.iv) (dramGet 10 r.req.src r.req.len u).1)) (dramGet 10
        r.req.src r.req.len u).2).dram ∧ t.flash = s.flash ∧ t.hostMem = s.hostMem ∧
      t.cph.results = s.cph.results ++ [⟨r.req.htag, 0, r.req.iv⟩]) ∧
  (∀ (s : State) (i : Nat) (r : CipherRun),
      s.works = true → s.cph.running[i]? = some r → s.heldReq r.req = true →
      ∃ t, exec (.cipherRequestDone i) s = .next t ∧ t = s) ∧
  (∀ (s : State) (r a len : Nat),
      r < 14 → 0 < len → a % 64 + len ≤ 64 → s.stackCalm a = true → a < 2 ^ 35 →
      (dramGet r a len s).1 = s.stored a len ∧ (dramGet r a len s).2.dram = s.dram) ∧
  (∀ (s : State) (d : Bool) (a g len : Nat),
      s.hostReady = true → a < 256 → g < 65536 → len < 2 ^ 17 → ((s.cph.waiting.filter fun q => q.prio == 5).length < 16) →
      SMap.getD s.cph.seqs a 0 < 65536 →
      ∃ t, exec (.hreqCtr d a g len) s = .next t ∧
      ((t.cph.waiting.getLast?.map fun r => (r.prio, r.slot, r.mode, r.decrypt, r.htag, r.len)) = some (5, 36864 + a, 1, d, g, len)) ∧
      t.cph.waiting.length = s.cph.waiting.length + 1 ∧ SMap.getD t.cph.seqs a 0 = SMap.getD s.cph.seqs a 0 + 1 ∧
      RegOnly [F.CPH_HREQ_CMD_MODE, F.CPH_HREQ_CMD_DECRYPT, F.CPH_HREQ_CMD_SLOT, F.CPH_HREQ_CMD_TAG, F.CPH_HREQ_CMD_LEN] s t ∧
      { t.still s with cph := s.cph } = s) ∧
  (∀ (s : State) (d : Bool) (a g len : Nat),
      s.hostReady = true → a < 256 → g < 65536 → len < 2 ^ 17 → ((s.cph.waiting.filter fun q => q.prio == 5).length < 16) →
      SMap.getD s.cph.seqs a 0 < 65536 →
      ∃ t, exec (.hreqCbc d a g len) s = .next t ∧
      ((t.cph.waiting.getLast?.map fun r => (r.prio, r.slot, r.mode, r.decrypt, r.htag, r.len)) = some (5, 36864 + a, 2, d, g, len)) ∧
      t.cph.waiting.length = s.cph.waiting.length + 1 ∧ SMap.getD t.cph.seqs a 0 = SMap.getD s.cph.seqs a 0 + 1 ∧
      RegOnly [F.CPH_HREQ_CMD_MODE, F.CPH_HREQ_CMD_DECRYPT, F.CPH_HREQ_CMD_SLOT, F.CPH_HREQ_CMD_TAG, F.CPH_HREQ_CMD_LEN] s t ∧
      { t.still s with cph := s.cph } = s) ∧
  (∀ (s : State) (d : Bool) (a g len : Nat),
      s.hostReady = true → a < 256 → g < 65536 → len < 2 ^ 17 → ((s.cph.waiting.filter fun q => q.prio == 5).length < 16) →
      SMap.getD s.cph.seqs a 0 < 65536 →
      ∃ t, exec (.hreqCfb d a g len) s = .next t ∧
      ((t.cph.waiting.getLast?.map fun r => (r.prio, r.slot, r.mode, r.decrypt, r.htag, r.len)) = some (5, 36864 + a, 3, d, g, len)) ∧
      t.cph.waiting.length = s.cph.waiting.length + 1 ∧ SMap.getD t.cph.seqs a 0 = SMap.getD s.cph.seqs a 0 + 1 ∧
      RegOnly [F.CPH_HREQ_CMD_MODE, F.CPH_HREQ_CMD_DECRYPT, F.CPH_HREQ_CMD_SLOT, F.CPH_HREQ_CMD_TAG, F.CPH_HREQ_CMD_LEN] s t ∧
      { t.still s with cph := s.cph } = s) ∧
  (∀ (s : State) (d : Bool) (a g len : Nat),
      s.hostReady = true → a < 256 → g < 65536 → len < 2 ^ 17 → ((s.cph.waiting.filter fun q => q.prio == 5).length < 16) →
      SMap.getD s.cph.seqs a 0 < 65536 →
      ∃ t, exec (.hreqCmac d a g len) s = .next t ∧
      ((t.cph.waiting.getLast?.map fun r => (r.prio, r.slot, r.mode, r.decrypt, r.htag, r.len)) = some (5, 36864 + a, 4, d, g, len)) ∧
      t.cph.waiting.length = s.cph.waiting.length + 1 ∧ SMap.getD t.cph.seqs a 0 = SMap.getD s.cph.seqs a 0 + 1 ∧
      RegOnly [F.CPH_HREQ_CMD_MODE, F.CPH_HREQ_CMD_DECRYPT, F.CPH_HREQ_CMD_SLOT, F.CPH_HREQ_CMD_TAG, F.CPH_HREQ_CMD_LEN] s t ∧
      { t.still s with cph := s.cph } = s) ∧
  (∀ (s : State) (d : Bool) (a g len : Nat),
      s.hostReady = true → a < 256 → g < 65536 → len < 2 ^ 17 → (16 ≤ (s.cph.waiting.filter fun q => q.prio == 5).length) →
      ∃ t, exec (.hreqCbc d a g len) s = .next t ∧ t.cph = { s.cph with results := s.cph.results ++ [⟨g, 11, 0⟩] } ∧
      (s.hub.secRaised.contains E.CPH_REQ_REFUSED.id = false → t.status E.CPH_REQ_REFUSED = true) ∧ MemFrame s t) ∧
  (∀ (s : State) (x : HostResult) (r : List HostResult),
      s.hostReady = true → s.cph.results = x :: r →
      ∃ t, exec (.hreqResultRead) s = .next t ∧ t.cph = { s.cph with results := r } ∧
      t.hostIf.lastRead = x.tag + 2 ^ 16 + x.code * 2 ^ 17 ∧ t.rd (F.CPH_HREQ_OUT_OUT 0) = x.out % 2 ^ 64 ∧
      t.rd (F.CPH_HREQ_OUT_OUT 1) = x.out / 2 ^ 64 % 2 ^ 64 ∧
      RegOnly [F.CPH_HREQ_RESULT_TAG, F.CPH_HREQ_RESULT_VALID, F.CPH_HREQ_RESULT_CODE, F.CPH_HREQ_OUT_OUT 0, F.CPH_HREQ_OUT_OUT 1] s t ∧
      { t.still s with cph := s.cph, hostIf := s.hostIf } = s) ∧
  (∀ (s : State) (n b tm q id flow k : Nat) (tu qt : Nat × Nat) (r : List (Nat × Nat)) (f : Frame),
      n < 32 → s.serving n = true → s.halfOn n = true → (s.tree n).handed = false → 0 < b →
      eligible (s.ttree n).rate (s.ttree n).tokens = true →
      (roundRobin (SMap.getD (s.ttree n).turn 1 (0, 0)) (fun y => (s.tnode (512 * n + y)).weight) (readyTerms s n 1) = some (tm, tu)) →
      pickQueue s n tm = some (q, qt) → (s.tqueue q).frames = (id, flow) :: r → s.frame id = some f → b ≤ f.len →
      dsSlot s flow ((s.rd (F.FRM_SFC_SFC n) + 1) % 2 ^ 51) = some k → (∀ m < 16, s.on (F.OBS_MIRROR_EN m) = false) →
      ∃ t, exec (.payloadPrefetch n b) s = .next t ∧
      (if 0 < s.payloadRoom n then (t.tqueue q).frames = r ∧ (t.tqueue q).depth = (s.tqueue q).depth - f.cells.length ∧
        (t.cph.waiting.getLast?.map fun x => (x.prio, x.slot, x.frame, x.sfc)) = some (2, k, id, (s.rd (F.FRM_SFC_SFC n) + 1) % 2 ^ 51) ∧
        t.cph.waiting.length = s.cph.waiting.length + 1 else t.tmg = s.tmg ∧ t.cph.waiting = s.cph.waiting) ∧ MemFrame s t) ∧
  (∀ (s : State) (d : Bool) (a g len : Nat),
      s.hostReady = true → a < 256 → g < 65536 → len < 2 ^ 17 → (16 ≤ (s.cph.waiting.filter fun q => q.prio == 5).length) →
      ∃ t, exec (.hreqCtr d a g len) s = .next t ∧ t.cph = { s.cph with results := s.cph.results ++ [⟨g, 11, 0⟩] } ∧
      (s.hub.secRaised.contains E.CPH_REQ_REFUSED.id = false → t.status E.CPH_REQ_REFUSED = true) ∧ MemFrame s t) ∧
  (∀ (s : State) (d : Bool) (a g len : Nat),
      s.hostReady = true → a < 256 → g < 65536 → len < 2 ^ 17 → (16 ≤ (s.cph.waiting.filter fun q => q.prio == 5).length) →
      ∃ t, exec (.hreqCfb d a g len) s = .next t ∧ t.cph = { s.cph with results := s.cph.results ++ [⟨g, 11, 0⟩] } ∧
      (s.hub.secRaised.contains E.CPH_REQ_REFUSED.id = false → t.status E.CPH_REQ_REFUSED = true) ∧ MemFrame s t) ∧
  (∀ (s : State) (d : Bool) (a g len : Nat),
      s.hostReady = true → a < 256 → g < 65536 → len < 2 ^ 17 → (16 ≤ (s.cph.waiting.filter fun q => q.prio == 5).length) →
      ∃ t, exec (.hreqCmac d a g len) s = .next t ∧ t.cph = { s.cph with results := s.cph.results ++ [⟨g, 11, 0⟩] } ∧
      (s.hub.secRaised.contains E.CPH_REQ_REFUSED.id = false → t.status E.CPH_REQ_REFUSED = true) ∧ MemFrame s t) ∧
  (∀ (s : State) (r : CipherReq) (n : Nat) (m : Msg),
      s.works = true → nextReq s = some r → checkReq s r = 0 → s.cph.running.length < s.lanes → r.job = CipherJob.check (some (n, m)) →
      ∃ t, exec (.cipherRequestStart) s = .next t ∧ (t.tree n).mics = (s.tree n).mics ++ [(m, checkOf (s.messageKey n m) m)] ∧
      t.cph.running.map CipherRun.key = s.cph.running.map CipherRun.key ++ [(s.messageKey n m).getD []] ∧ (∀ k, t.kslot k = s.kslot k) ∧
      MemFrame s t) ∧
  (∀ (s : State) (r : CipherReq) (n x k : Nat) (f : List Nat) (w : Win),
      s.works = true → nextReq s = some r → checkReq s r = 0 → r.job = CipherJob.report n x k f w → (s.kterm (512 * n + x)).kek = none →
      n < 32 → x < 512 →
      ∃ t, exec (.cipherRequestStart) s = .next t ∧ t.cph.running = s.cph.running ∧ t.cph.waiting = s.cph.waiting.erase r ∧
      (∀ j, t.kslot j = s.kslot j) ∧ hasBit (t.term n x).defects 5 = true ∧ MemFrame s t) ∧
  (∀ (s : State) (r : CipherReq) (i : KeyImport),
      s.works = true → nextReq s = some r → checkReq s r = 0 → r.job = CipherJob.unwrap → s.cph.imp = some i →
      importCode s i (s.wrapKey r.slot) ≠ 0 →
      ∃ t, exec (.cipherRequestStart) s = .next t ∧ t.cph.running = s.cph.running ∧ t.cph.imp = none ∧
      t.rd F.CPH_IMPORT_STAT_CODE = importCode s i (s.wrapKey r.slot) % 16 ∧ t.rd F.CPH_IMPORT_STAT_BUSY = 0 ∧
      (∀ j, t.kslot j = s.kslot j) ∧ MemFrame s t)

/-- Importing (R338, R339), erasing (R340, R343, R344) and switching (R327, R341, R342) keys. The model's choices: the order of an import's
  codes, GO while BUSY, previous keys, EMPTY slots erased, when a binding is in force and a report judged twice (log entry 47). -/
def Obligations.KeyImportsAndSlots : Prop :=
  (∀ (s : State) (k w : Nat),
      s.hostReady = true → s.on F.CPH_IMPORT_STAT_BUSY = false → k < 65536 → w < 256 →
      ∃ t, exec (.importSession k w) s = .next t ∧
      t.cph = { s.cph with imp := some ⟨1, k, w, false⟩, demand := s.cph.demand + 12, waiting := t.cph.waiting } ∧
      ((t.cph.waiting.getLast?.map fun r => (r.prio, r.slot, r.blocks, r.job)) = some (4, 36864 + w, 12, CipherJob.unwrap)) ∧
      t.cph.waiting.dropLast = s.cph.waiting ∧ t.rd F.CPH_IMPORT_STAT_BUSY = 1 ∧
      RegOnly [F.CPH_IMPORT_CMD_SLOT, F.CPH_IMPORT_CMD_TYPE, F.CPH_IMPORT_CMD_WRAP, F.CPH_IMPORT_CMD_KIND, F.CPH_IMPORT_STAT_BUSY] s t ∧
      { t.still s with cph := s.cph } = s) ∧
  (∀ (s : State) (k w : Nat),
      s.hostReady = true → s.on F.CPH_IMPORT_STAT_BUSY = false → k < 65536 → w < 256 →
      ∃ t, exec (.importData k w) s = .next t ∧
      t.cph = { s.cph with imp := some ⟨2, k, w, false⟩, demand := s.cph.demand + 12, waiting := t.cph.waiting } ∧
      ((t.cph.waiting.getLast?.map fun r => (r.prio, r.slot, r.blocks, r.job)) = some (4, 36864 + w, 12, CipherJob.unwrap)) ∧
      t.cph.waiting.dropLast = s.cph.waiting ∧ t.rd F.CPH_IMPORT_STAT_BUSY = 1 ∧
      RegOnly [F.CPH_IMPORT_CMD_SLOT, F.CPH_IMPORT_CMD_TYPE, F.CPH_IMPORT_CMD_WRAP, F.CPH_IMPORT_CMD_KIND, F.CPH_IMPORT_STAT_BUSY] s t ∧
      { t.still s with cph := s.cph } = s) ∧
  (∀ (s : State) (k w : Nat),
      s.hostReady = true → s.on F.CPH_IMPORT_STAT_BUSY = false → k < 65536 → w < 256 →
      ∃ t, exec (.importGroup k w) s = .next t ∧
      t.cph = { s.cph with imp := some ⟨3, k, w, false⟩, demand := s.cph.demand + 12, waiting := t.cph.waiting } ∧
      ((t.cph.waiting.getLast?.map fun r => (r.prio, r.slot, r.blocks, r.job)) = some (4, 36864 + w, 12, CipherJob.unwrap)) ∧
      t.cph.waiting.dropLast = s.cph.waiting ∧ t.rd F.CPH_IMPORT_STAT_BUSY = 1 ∧
      RegOnly [F.CPH_IMPORT_CMD_SLOT, F.CPH_IMPORT_CMD_TYPE, F.CPH_IMPORT_CMD_WRAP, F.CPH_IMPORT_CMD_KIND, F.CPH_IMPORT_STAT_BUSY] s t ∧
      { t.still s with cph := s.cph } = s) ∧
  (∀ (s : State) (k w : Nat) (d : Bool),
      s.hostReady = true → s.on F.CPH_IMPORT_STAT_BUSY = false → k < 65536 → w < 256 →
      ∃ t, exec (.importAuth k w d) s = .next t ∧
      t.cph = { s.cph with imp := some ⟨4, k, w, d⟩, demand := s.cph.demand + 12, waiting := t.cph.waiting } ∧
      ((t.cph.waiting.getLast?.map fun r => (r.prio, r.slot, r.blocks, r.job)) = some (4, 36864 + w, 12, CipherJob.unwrap)) ∧
      t.cph.waiting.dropLast = s.cph.waiting ∧ t.rd F.CPH_IMPORT_STAT_BUSY = 1 ∧
      RegOnly [F.CPH_IMPORT_CMD_SLOT, F.CPH_IMPORT_CMD_TYPE, F.CPH_IMPORT_CMD_WRAP, F.CPH_IMPORT_CMD_KIND, F.CPH_IMPORT_STAT_BUSY] s t ∧
      { t.still s with cph := s.cph } = s) ∧
  (∀ (s u : State) (j : Nat) (r : CipherRun) (i : KeyImport) (o : Nat × List Nat),
      s.works = true → (s.cph.running.findIdx? (fun r => r.req.job == CipherJob.unwrap) = some j) → s.cph.running[j]? = some r →
      r.req.prio = 4 → s.cph.imp = some i → (i.typ = 2 ∨ i.typ = 3) →
      u = showLanes (countUse r { s with cph := { s.cph with running := s.cph.running.eraseIdx j } }) → o = importOutcome u i r.key →
      ∃ t, exec (.importEnd) s = .next t ∧ t.rd F.CPH_IMPORT_STAT_CODE = o.1 % 16 ∧ t.rd F.CPH_IMPORT_STAT_BUSY = 0 ∧ t.cph.imp = none ∧
      ((t.kslot i.slot).staged = if o.1 = 0 then some o.2 else (u.kslot i.slot).staged) ∧ (t.kslot i.slot).key = (s.kslot i.slot).key ∧
      (∀ k, k ≠ i.slot → t.kslot k = u.kslot k) ∧ (∀ j < 3, t.rd (F.CPH_IMPORT_BLOB_BLOB j) = 0) ∧ MemFrame s t) ∧
  (∀ (s : State),
      s.works = true → (s.cph.running.findIdx? (fun r => r.req.job == CipherJob.unwrap) = none) →
      ∃ t, exec (.importEnd) s = .next t ∧ t = s) ∧
  (∀ (s : State) (i n x k : Nat) (f : List Nat) (r : CipherRun) (w : Win),
      s.works = true → s.cph.running[i]? = some r → r.req.prio = 3 → r.req.job = CipherJob.report n x k f w →
      (s.kslot (slotTerm n x k)).state ≠ 3 → (s.kslot (slotTerm n x k)).staged = none →
      ∃ t, exec (.cipherRequestDone i) s = .next t ∧ (t.kslot (slotTerm n x k)).staged = some (aesDec r.key f) ∧
      (t.kslot (slotTerm n x k)).key = (s.kslot (slotTerm n x k)).key ∧ (∀ j, j ≠ slotTerm n x k → t.kslot j = s.kslot j) ∧
      t.cph.running = s.cph.running.eraseIdx i ∧ MemFrame s t) ∧
  (∀ (s : State) (k : Nat) (b : Bool),
      s.hostReady = true → (k < 36864 ∨ (36867 < k ∧ k < 37120)) →
      ∃ t, exec (.slotErase k b) s = .next t ∧ (t.kslot k).state = 3 ∧ (t.kslot k).staged = none ∧ (t.kslot k).key = (s.kslot k).key ∧
      (∀ j, j ≠ k → t.kslot j = s.kslot j) ∧ RegOnly [F.CPH_SLOT_CMD_SLOT, F.CPH_SLOT_CMD_ERASE_SESSION] s t ∧
      { t.still s with cph := s.cph } = s) ∧
  (∀ (s : State) (k : Nat) (b : Bool),
      s.hostReady = true → 36864 ≤ k ∧ k < 36868 →
      ∃ t, exec (.slotErase k b) s = .next t ∧ t.cph = s.cph ∧ RegOnly [F.CPH_SLOT_CMD_SLOT, F.CPH_SLOT_CMD_ERASE_SESSION] s t ∧
      t.still s = s) ∧
  (∀ (s : State) (k : Nat),
      s.works = true → (s.kslot k).state = 3 → ((s.cph.running.any fun r => r.req.slot == k) = false) →
      ∃ t, exec (.slotZeroized k) s = .next t ∧
      t.kslot k =
        { KeySlot.initial with gen := (s.kslot k).gen, useDs := (s.kslot k).useDs, useUs := (s.kslot k).useUs, raised := (s.kslot k).raised }
        ∧ (∀ j, j ≠ k → t.kslot j = s.kslot j) ∧ t.status E.CPH_SLOT_ZEROIZED = true ∧ RegFrame [] s t ∧
      { t.calm s with cph := s.cph } = s) ∧
  (∀ (s : State) (k b c : Nat) (y : List Nat),
      s.works = true → (s.kslot k).prev = some (y, b, c) → c + 16 ≤ s.ticks →
      ∃ t, exec (.prevKeyZeroize k) s = .next t ∧ t.kslot k = { s.kslot k with prev := none } ∧ (∀ j, j ≠ k → t.kslot j = s.kslot j) ∧
      t.regs = s.regs ∧ { t with cph := s.cph } = s) ∧
  (∀ (s : State) (x i : Nat),
      s.hostReady = true → x < 16384 → i < 2 →
      ∃ t, exec (.keyControlSend x i) s = .next t ∧
      (t.tree (x / 512)).msgs = (s.tree (x / 512)).msgs ++ [⟨1, 5, x % 512, (i : Int), []⟩] ∧
      t.kterm x = { s.kterm x with rekey := some i } ∧ RegOnly [F.CPH_TERM_CMD_TERM, F.CPH_TERM_CMD_OP, F.CPH_TERM_CMD_INDEX] s t ∧
      { t.still s with cph := s.cph, trees := s.trees } = s) ∧
  (∀ (s : State) (x i : Nat),
      s.hostReady = true → x < 16384 → i < 2 →
      ∃ t, exec (.dsIndexSwitch x i) s = .next t ∧
      (t.kterm x = if hasBit s.cph.cut (x / 512) = true then { s.kterm x with later := some i } else { s.kterm x with switch := some i })
        ∧ RegOnly [F.CPH_TERM_CMD_TERM, F.CPH_TERM_CMD_OP, F.CPH_TERM_CMD_INDEX] s t ∧ { t.still s with cph := s.cph } = s) ∧
  (∀ (s : State) (b w : Nat),
      s.hostReady = true → b < 2048 → w < 2 ^ 24 →
      ((s.armed (F.CPH_BIND_VALID 0) 4 2048).all (fun o => o == b || bindTree (s.bindWord o) != bindTree w || bindTport (s.bindWord o) !=
        bindTport w) = true ∨ w % 2 = 0) →
      ∃ t, exec (.bindWrite b w) s = .next t ∧ t.bindWord b = w ∧
      t.cph = { s.cph with bindWr := s.cph.bindWr ++ [(b, w, hasBit s.cph.cut (bindTree w))] } ∧
      RegOnly [F.CPH_BIND_VALID b, F.CPH_BIND_CLEAR b, F.CPH_BIND_TREE b, F.CPH_BIND_TPORT b, F.CPH_BIND_DS_INDEX b] s t ∧
      { t.still s with cph := s.cph } = s) ∧
  (∀ (s : State) (i n x k : Nat) (f : List Nat) (r : CipherRun) (w : Win),
      s.works = true → s.cph.running[i]? = some r → r.req.prio = 3 → r.req.job = CipherJob.report n x k f w →
      ((s.kslot (slotTerm n x k)).state = 3 ∨ (s.kslot (slotTerm n x k)).staged ≠ none) → n < 32 → x < 512 →
      ∃ t, exec (.cipherRequestDone i) s = .next t ∧ (∀ j, t.kslot j = s.kslot j) ∧ hasBit (t.term n x).defects 5 = true ∧
      t.cph.running = s.cph.running.eraseIdx i ∧ MemFrame s t)

/-- Requests and schedulers of device DRAM (R349, R350, R352 to R355, R360, R368, R374). The model's choices: HELD, ties, ECC outcome as an
  operand, accesses that last until they are served, one word for each PATROL_SCRUB and when a pass begins (log entry 48); DRAM that
  nothing has written reads 0 (log entry 3). -/
def Obligations.DramScheduling : Prop :=
  (∀ (s : State) (r a p : Nat) (d : Option (List Nat)),
      s.stacks = true → r < 14 → r ≠ 11 → a < 2 ^ 35 → s.releasedSeg (segOf a) = false → p = a / 256 % 32 →
      s.rd (F.DRC_PC_STAT_STATE p) = 0 →
      ∃ t, exec (.dramRequest r a d) s = .next t ∧ (t.pc p).queue.length = (s.pc p).queue.length + 1 ∧
      ((t.pc p).queue.getLast? = some
        { id := s.drc.nextId, requester := r, addr := a, data := d.map fun b => b.take (64 - a % 64), cls := s.drcClass r, arrived := s.ticks, age := max 10 (s.rd F.DRC_AGE_CFG_AGE_NS), held := s.unzeroedSeg (segOf a) })
        ∧ (∀ k, k ≠ p → t.pc k = s.pc k) ∧ t.regs = s.regs ∧ { t with drc := s.drc } = s) ∧
  (∀ (s : State) (r a : Nat),
      s.stacks = true → r < 14 → r ≠ 11 → a < 2 ^ 35 → s.releasedSeg (segOf a) = true →
      ∃ t, exec (.dramRequest r a none) s = .next t ∧ t.drc.returned = some (r, List.replicate 64 255, 255) ∧
      (s.hub.secRaised.contains E.DRC_SEG_FAULT.id = false → t.status E.DRC_SEG_FAULT = true) ∧ t.rd F.DRC_ECC_LAST_KIND = 1 ∧
      t.rd F.DRC_ECC_LAST_REQUESTER = r ∧
      RegFrame [F.DRC_ECC_STAT_SEG_FAULT (pcOf a), F.DRC_ECC_LAST_ADDR, F.DRC_ECC_LAST_REQUESTER, F.DRC_ECC_LAST_KIND,
        F.DRC_ECC_LAST_FRAME] s t ∧ { t.calm s with drc := s.drc } = s) ∧
  (∀ (s : State) (p : Nat) (nr : List Nat) (q : DramReq) (b : List Nat),
      s.stacks = true → p < 32 → s.rd (F.DRC_PC_STAT_STATE p) = 0 → s.nextServed p nr false = some q → q.data = some b →
      ∃ t, exec (.dramRequestServed p nr false 0 []) s = .next t ∧
      (t.dram = s.dram.writeBytes q.addr (b.map fun x => BitVec.ofNat 8 x)) ∧
      (∀ a, (a < q.addr ∨ q.addr + b.length ≤ a) → t.dram.read a = s.dram.read a) ∧
      ((t.pc p).queue = (s.pc p).queue.filter fun x => x.id != q.id) ∧
      (s.hostIf.baseWait = none → t.regs = s.regs ∧ t.hostIf = s.hostIf) ∧
      { t with regs := s.regs, drc := s.drc, dram := s.dram, hostIf := s.hostIf } = s) ∧
  (∀ (s : State) (p : Nat) (nr : List Nat) (q : DramReq),
      s.stacks = true → p < 32 → s.rd (F.DRC_PC_STAT_STATE p) = 0 → s.nextServed p nr false = some q → q.data = none →
      ∃ t, exec (.dramRequestServed p nr false 0 []) s = .next t ∧
      t.drc.returned = some (q.requester, s.stored (q.addr / 64 * 64) 64, 0) ∧
      ((t.pc p).queue = (s.pc p).queue.filter fun x => x.id != q.id) ∧
      (s.hostIf.baseWait = none → t.rd F.HIF_BAR2_CFG_BASE = s.rd F.HIF_BAR2_CFG_BASE ∧ t.hostIf = s.hostIf) ∧
      (RegFrame (F.HIF_BAR2_CFG_BASE :: (List.range 32).flatMap fun h => (List.range 64).map (F.OBS_HIST_BIN_COUNT h)) s t) ∧
      { t.calm s with drc := s.drc, obs := s.obs, hostIf := s.hostIf } = s ∧ MemFrame s t) ∧
  (∀ (s : State) (p id : Nat),
      s.stacks = true → ((s.pc p).queue.any (fun q => q.id == id && decide (2 ≤ q.cls)) = true) →
      ∃ t, exec (.agePromote p id) s = .next t ∧
      ((t.pc p).queue = (s.pc p).queue.map fun q => if q.id = id then { q with cls := 1 } else q) ∧ t.regs = s.regs ∧
      { t with drc := s.drc } = s) ∧
  (∀ (s : State) (r v : Nat),
      s.works = true → r < 2 → hasBit (s.rd F.DRC_PANIC_STAT_PANIC) r = false → v < s.rd (F.DRC_PANIC_CFG_PANIC_LVL r) →
      ∃ t, exec (.panic r v) s = .next t ∧ hasBit (t.rd F.DRC_PANIC_STAT_PANIC) r = true ∧
      hasBit (t.rd F.DRC_PANIC_STAT_PANIC) (1 - r) = hasBit (s.rd F.DRC_PANIC_STAT_PANIC) (1 - r) ∧
      (s.hub.secRaised.contains E.DRC_PANIC.id = false → t.status E.DRC_PANIC = true) ∧ RegFrame [F.DRC_PANIC_STAT_PANIC] s t ∧
      t.drc = { s.drc with panicked := true } ∧ { t.calm s with drc := s.drc } = s) ∧
  (∀ (s : State),
      s.stacks = true → s.ticks % s.rhWindow = 0 →
      ∃ t, exec (.rhWindowEnd) s = .next t ∧ t.rd F.DRC_RH_STAT_THROTTLED = 0 ∧
      (∀ p, (t.pc p).queue = (s.pc p).queue ∧ (t.pc p).rowActs = [] ∧ (t.pc p).reqActs = [] ∧ (t.pc p).throttled = []) ∧
      RegOnly [F.DRC_RH_STAT_THROTTLED] s t ∧ { t.still s with drc := s.drc } = s) ∧
  (∀ (s : State) (a : Nat),
      s.rd F.DRC_PATROL_CFG_PATROL_H ≠ 0 → (s.drc.patrol ≠ 0 ∨ s.passDue = true) → s.patrolFrom s.drc.patrol = some a → a < 2 ^ 35 →
      s.stackCalm a = true →
      ∃ t, exec (.patrolScrub 0) s = .next t ∧ t.drc.patrol = (a + 8) % 2 ^ 35 ∧
      (t.drc.patrolAt = if s.drc.patrol = 0 then some s.ticks else s.drc.patrolAt) ∧ t.drc.nextId = s.drc.nextId + 1 ∧
      t.drc.patrolCe = s.drc.patrolCe ∧ t.drc.patrolUe = s.drc.patrolUe ∧
      (s.hostIf.baseWait = none → t.rd F.HIF_BAR2_CFG_BASE = s.rd F.HIF_BAR2_CFG_BASE ∧ t.hostIf = s.hostIf) ∧
      (RegFrame (F.HIF_BAR2_CFG_BASE :: rhFields ++ ((List.range 32).flatMap fun h => (List.range 64).map (F.OBS_HIST_BIN_COUNT h))) s t)
        ∧ { t.calm s with drc := s.drc, obs := s.obs, hostIf := s.hostIf } = s ∧ MemFrame s t) ∧
  (∀ (s : State) (r a : Nat) (b : List Nat),
      r < 14 → a < 2 ^ 35 → s.stackCalm a = true →
      (access r a (some b) 0 s).dram = s.dram.writeBytes a ((b.take (64 - a % 64)).map fun x => BitVec.ofNat 8 x)) ∧
  (∀ (s : State) (r a : Nat),
      r < 14 → a < 2 ^ 35 → s.stackCalm a = true →
      (access r a none 0 s).burst = s.stored (a / 64 * 64) 64 ∧ (access r a none 0 s).dram = s.dram) ∧
  (∀ (s : State),
      s.drc.patrol = 0 → s.passDue = false →
      ∃ t, exec (.patrolScrub 0) s = .next t ∧ t = s) ∧
  (∀ (s : State) (off a p : Nat),
      s.reach .pcie = true → s.hostIf.pcieMem = .none → s.stacks = true →
      a = min 56 (s.hostIf.baseWait.getD (s.rd F.HIF_BAR2_CFG_BASE)) * 0x20000000 + off % 2 ^ 32 → a < 2 ^ 35 →
      s.releasedSeg (segOf a) = false → p = a / 256 % 32 → s.rd (F.DRC_PC_STAT_STATE p) = 0 →
      ∃ t, exec (.dramRequest 11 off none) s = .next t ∧ (t.pc p).queue.length = (s.pc p).queue.length + 1 ∧
      (((t.pc p).queue.getLast?.map fun q => (q.id, q.requester, q.addr, q.data)) = some (s.drc.nextId, 11, a, none)) ∧
      (∀ k, k ≠ p → t.pc k = s.pc k) ∧ MemFrame s t)

/-- Refresh (R356, R357), self-refresh (R362, R364) and segments (R361) of device DRAM. The model's choices: which bank is refreshed,
  postponing, one pseudo-channel for each SELF_REFRESH_ENTRY, and when SEGMENT_ZEROED may work (log entry 48). -/
def Obligations.DramRefreshAndSegments : Prop :=
  (∀ (s : State) (p k : Nat) (y : List Nat),
      s.noRefresh p = false → (s.pc p).idleBank y = some k → k < 16 →
      ∃ t, exec (.refreshDue p y) s = .next t ∧
      ((t.pc p).round = if withBit (s.pc p).round k = 65535 then 0 else withBit (s.pc p).round k) ∧ (t.pc p).queue = (s.pc p).queue ∧
      t.regs = s.regs ∧ { t with drc := s.drc } = s) ∧
  (∀ (s : State) (p : Nat) (y : List Nat),
      s.noRefresh p = false → (s.pc p).idleBank y = none → s.rd (F.DRC_PC_STAT_OWED p) < s.postponeMax →
      ∃ t, exec (.refreshDue p y) s = .next t ∧ t.rd (F.DRC_PC_STAT_OWED p) = s.rd (F.DRC_PC_STAT_OWED p) + 1 ∧
      t.rd (F.DRC_REF_STAT_POSTPONED p) = min (s.rd (F.DRC_REF_STAT_POSTPONED p) + 1) 65535 ∧
      RegFrame [F.DRC_PC_STAT_OWED p, F.DRC_REF_STAT_POSTPONED p] s t ∧ t.calm s = s) ∧
  (∀ (s : State) (p : Nat) (y : List Nat),
      s.noRefresh p = false → (s.pc p).idleBank y = none → s.postponeMax ≤ s.rd (F.DRC_PC_STAT_OWED p) →
      ∃ t, exec (.refreshDue p y) s = .next t ∧ t.rd (F.DRC_REF_STAT_FORCED p) = min (s.rd (F.DRC_REF_STAT_FORCED p) + 1) 65535 ∧
      (s.hub.secRaised.contains E.DRC_REF_FORCED.id = false → t.status E.DRC_REF_FORCED = true) ∧ (t.pc p).queue = (s.pc p).queue ∧
      RegFrame [F.DRC_REF_STAT_FORCED p] s t ∧ { t.calm s with drc := s.drc } = s) ∧
  (∀ (s : State) (p k : Nat) (y : List Nat),
      s.noRefresh p = false → s.rd (F.DRC_PC_STAT_OWED p) ≠ 0 → (s.pc p).idleBank y = some k →
      ∃ t, exec (.refreshRepay p y) s = .next t ∧ t.rd (F.DRC_PC_STAT_OWED p) = (s.rd (F.DRC_PC_STAT_OWED p) - 1) % 2 ^ 4 ∧
      ((t.pc p).round = if withBit (s.pc p).round k = 65535 then 0 else withBit (s.pc p).round k) ∧ RegOnly [F.DRC_PC_STAT_OWED p] s t ∧
      { t.still s with drc := s.drc } = s) ∧
  (∀ (s : State) (p : Nat),
      s.stacks = true → p < 32 → s.rd (F.DRC_PC_STAT_STATE p) = 0 → (s.mode = mLean ∨ s.mode = mStandby) →
      s.rd F.DRC_SR_CFG_SR_IDLE ≠ 0 → (s.pc p).queue = [] → s.rd (F.DRC_PC_STAT_OWED p) = 0 → s.drc.unzeroed = 0 →
      ∃ t, exec (.selfRefreshEntry p) s = .next t ∧ t.rd (F.DRC_PC_STAT_STATE p) = 1 ∧ RegOnly [F.DRC_PC_STAT_STATE p] s t ∧
      t.still s = s) ∧
  (∀ (s : State) (p : Nat),
      s.stacks = true → p < 32 → s.rd (F.DRC_PC_STAT_STATE p) = 1 → (s.mode = mLean ∨ s.mode = mStandby) →
      ∃ t, exec (.selfRefreshEntry p) s = .next t ∧ t.rd (F.DRC_PC_STAT_STATE p) = 2 ∧ (t.pc p).resident = false ∧
      RegOnly [F.DRC_PC_STAT_STATE p, F.DRC_SR_STAT_ENTRIES p] s t ∧ { t.still s with drc := s.drc } = s) ∧
  (∀ (s : State) (p : Nat),
      s.stacks = true → p < 32 → s.rd (F.DRC_PC_STAT_STATE p) = 2 → s.mode ≠ mHolding → (s.pc p).resident = true → (s.pc p).queue ≠ [] →
      ∃ t, exec (.selfRefreshExit p) s = .next t ∧ t.rd (F.DRC_PC_STAT_STATE p) = 3 ∧ (t.pc p).queue = (s.pc p).queue ∧
      RegOnly [F.DRC_PC_STAT_STATE p] s t ∧ { t.still s with drc := s.drc } = s) ∧
  (∀ (s : State) (p : Nat),
      s.stacks = true → p < 32 → s.rd (F.DRC_PC_STAT_STATE p) = 3 →
      ∃ t, exec (.selfRefreshExit p) s = .next t ∧ t.rd (F.DRC_PC_STAT_STATE p) = 0 ∧
      ((t.pc p).queue = (s.pc p).queue.map fun q => { q with held := s.unzeroedSeg (segOf q.addr) }) ∧
      RegOnly [F.DRC_PC_STAT_STATE p] s t ∧ { t.still s with drc := s.drc } = s) ∧
  (∀ (s : State) (g : Nat),
      s.stacks = true → g < 64 → s.unzeroedSeg g = true → (∀ k < g, s.unzeroedSeg k = false) → s.busierThan 7 = false →
      ∃ t, exec (.segmentZeroed) s = .next t ∧ t.unzeroedSeg g = false ∧ t.releasedSeg g = false ∧
      (∀ a, t.dram.read a = if segOf a = g then 0 else s.dram.read a) ∧ t.flash = s.flash ∧ t.hostMem = s.hostMem ∧
      (∀ p < 32, t.rd (F.DRC_PC_STAT_STATE p) = 0) ∧
      RegOnly (F.DRC_SEG_STAT_RELEASED :: ((List.range 32).map F.DRC_PC_STAT_STATE ++ (List.range 32).map F.DRC_SR_STAT_ENTRIES)) s t) ∧
  (∀ (s : State),
      s.busierThan 7 = true →
      ∃ t, exec (.segmentZeroed) s = .next t ∧ t = s)

/-- Time sources and the servo (R380, R381, R383 to R385). The model's choices: the value of FREQ and its limits (log entry 49), instants as
  operands, when offsets are judged and a Delay_Resp that waits for a Follow_Up (log entry 50). -/
def Obligations.TimeSources : Prop :=
  (∀ (s : State) (u a : Nat) (o : Option Int) (c : Int),
      s.ptpRole u 1 = true →
      ∃ t, exec (.ptpSyncRx u s.ptpDomain o a c) s = .next t ∧
      t.ptp u = { s.ptp u with t1 := o, t2 := s.todStamp a, cs := c, haveSync := true, resp := none } ∧
      (∀ v, v ≠ u → t.ptp v = s.ptp v) ∧ t.regs = s.regs ∧ { t.calm s with tsu := s.tsu } = s) ∧
  (∀ (s : State) (u : Nat) (a c : Int),
      s.ptpRole u 1 = true → (s.ptp u).haveSync = true → (s.ptp u).t1 = none → (s.ptp u).resp = none →
      ∃ t, exec (.ptpFollowUpRx u ⟨s.ptpDomain, a⟩ c) s = .next t ∧ t.ptp u = { s.ptp u with t1 := some a, cs := (s.ptp u).cs + c } ∧
      t.regs = s.regs ∧ { t.calm s with tsu := s.tsu } = s) ∧
  (∀ (s : State) (u a : Nat),
      s.ptpRole u 1 = true →
      ∃ t, exec (.ptpDelayReqTx u a) s = .next t ∧
      t.ptp u =
        { s.ptp u with t3 := s.todStamp a, haveReq := true, reqTx := (s.ptp u).reqTx + 1, lastReq := some (s.ptpDst u, s.todStamp a) } ∧
      t.regs = s.regs ∧ { t.calm s with tsu := s.tsu } = s) ∧
  (∀ (s : State) (u : Nat) (t1 a c o : Int),
      s.ptpRole u 1 = true → (s.ptp u).t1 = some t1 → (s.ptp u).haveSync = true → (s.ptp u).haveReq = true →
      o = (((s.ptp u).t2 - t1 - (s.ptp u).cs) - (a - (s.ptp u).t3 - c)) * 1000 / 131072 - (BitVec.ofNat 32 (s.rd (F.TSU_PORT_CFG_ASYM_PS
        u))).toInt → -2147483648000 ≤ o ∧ o < 2147483648000 →
      ∃ t, exec (.ptpDelayRespRx u ⟨s.ptpDomain, a⟩ c) s = .next t ∧ t.rd (F.TSU_PORT_STAT_OFFSET_NS u) = ((o / 1000) % 2 ^ 32).toNat ∧
      (t.tsu.meas = if s.fromPtp = true ∧ u = s.ptpPort then s.tsu.meas ++ [o] else s.tsu.meas) ∧ (t.ptp u).haveReq = false ∧
      RegOnly [F.TSU_PORT_STAT_OFFSET_NS u, F.TSU_PORT_STAT_MPD_NS u] s t ∧ { t.still s with tsu := s.tsu } = s) ∧
  (∀ (s : State) (u a : Nat),
      s.ptpRole u 2 = true →
      ∃ t, exec (.ptpDelayReqRx u ⟨s.ptpDomain, a⟩) s = .next t ∧
      t.ptp u = { s.ptp u with respTx := (s.ptp u).respTx + 1, lastResp := some (s.ptpDst u, s.todStamp a) } ∧ t.regs = s.regs ∧
      { t.calm s with tsu := s.tsu } = s) ∧
  (∀ (s : State) (u k : Nat),
      s.ptpRole u 2 = true → s.syncHere = some k → (s.ptp u).syncAt ≠ some k →
      ∃ t, exec (.ptpSyncTx u) s = .next t ∧
      t.ptp u =
        { s.ptp u with syncTx := (s.ptp u).syncTx + 1, syncAt := some k, lastSync := some (s.ptpDst u, ((k * 62500000 * 65536 + Config.syncLag s.fresh : Nat) : Int)) }
        ∧ t.regs = s.regs ∧ { t.calm s with tsu := s.tsu } = s) ∧
  (∀ (s : State) (u : Nat),
      (s.syncHere = none ∨ s.syncHere = (s.ptp u).syncAt) →
      ∃ t, exec (.ptpSyncTx u) s = .next t ∧ t = s) ∧
  (∀ (s : State),
      s.works = true → s.fromPtp = true → s.on F.TSU_STAT_PHASE_OK = true → (s.rd F.TSU_STAT_STATE = 1 ∨ s.rd F.TSU_STAT_STATE = 2) →
      ∃ t, exec (.ptpSourceLost) s = .next t ∧ t.rd F.TSU_STAT_PHASE_OK = 0 ∧ t.status E.TSU_SRC_LOST = true ∧
      t.rd F.TSU_STAT_STATE = 3 ∧ (t.ptp s.ptpPort).haveSync = false ∧ t.status E.TSU_HOLDOVER = true ∧
      RegFrame [F.TSU_STAT_PHASE_OK, F.TSU_STAT_FREQ_OK, F.TSU_STAT_STATE, F.TSU_FREQ_FREQ] s t ∧ { t.calm s with tsu := s.tsu } = s) ∧
  (∀ (s : State),
      s.works = true → s.srcMode = 3 → s.on F.TSU_STAT_PHASE_OK = true → (s.rd F.TSU_STAT_STATE = 1 ∨ s.rd F.TSU_STAT_STATE = 2) →
      ∃ t, exec (.ppsSourceLost) s = .next t ∧ t.rd F.TSU_STAT_PHASE_OK = 0 ∧ t.status E.TSU_SRC_LOST = true ∧
      t.rd F.TSU_STAT_STATE = 3 ∧ t.rd F.TSU_STAT_FREQ_OK = 0 ∧ t.tsu.ppsSec = none ∧
      RegFrame [F.TSU_STAT_PHASE_OK, F.TSU_STAT_FREQ_OK, F.TSU_STAT_STATE, F.TSU_FREQ_FREQ] s t ∧ { t.calm s with tsu := s.tsu } = s) ∧
  (∀ (s : State),
      s.works = true → s.srcMode = 2 → s.on F.TSU_STAT_FREQ_OK = true → (s.rd F.TSU_STAT_STATE = 1 ∨ s.rd F.TSU_STAT_STATE = 2) →
      ∃ t, exec (.synceLost) s = .next t ∧ t.rd F.TSU_STAT_FREQ_OK = 0 ∧ t.status E.TSU_SRC_LOST = true ∧ t.rd F.TSU_STAT_STATE = 3 ∧
      RegFrame [F.TSU_STAT_PHASE_OK, F.TSU_STAT_FREQ_OK, F.TSU_STAT_STATE, F.TSU_FREQ_FREQ] s t ∧ { t.calm s with tsu := s.tsu } = s) ∧
  (∀ (s : State),
      s.works = true → s.srcMode = 2 → s.on F.TSU_STAT_FREQ_OK = false →
      s.on (F.UPL_PORT_STAT_LINK (s.rd F.TSU_CTRL_SYNCE_PORT)) = true → s.rd F.TSU_STAT_STATE = 3 →
      ∃ t, exec (.synceRestored) s = .next t ∧ t.rd F.TSU_STAT_FREQ_OK = 1 ∧ t.rd F.TSU_STAT_STATE = 1 ∧
      RegFrame [F.TSU_STAT_FREQ_OK, F.TSU_STAT_STATE] s t ∧ { t.calm s with tsu := s.tsu } = s) ∧
  (∀ (s : State) (u : Nat) (a c : Int),
      s.ptpRole u 1 = true → (s.ptp u).t1 = none → (s.ptp u).haveSync = true → (s.ptp u).haveReq = true →
      ∃ t, exec (.ptpDelayRespRx u ⟨s.ptpDomain, a⟩ c) s = .next t ∧
      t.ptp u = { s.ptp u with haveReq := false, resp := some ((s.ptp u).t3, a, c) } ∧ (∀ v, v ≠ u → t.ptp v = s.ptp v) ∧
      t.regs = s.regs ∧ { t.calm s with tsu := s.tsu } = s) ∧
  (∀ (s : State) (u : Nat) (a c t3 t4 d o : Int),
      s.ptpRole u 1 = true → (s.ptp u).t1 = none → (s.ptp u).haveSync = true → (s.ptp u).resp = some (t3, t4, d) →
      o = (((s.ptp u).t2 - a - ((s.ptp u).cs + c)) - (t4 - t3 - d)) * 1000 / 131072 - (BitVec.ofNat 32 (s.rd (F.TSU_PORT_CFG_ASYM_PS
        u))).toInt → -2147483648000 ≤ o ∧ o < 2147483648000 →
      ∃ t, exec (.ptpFollowUpRx u ⟨s.ptpDomain, a⟩ c) s = .next t ∧ t.rd (F.TSU_PORT_STAT_OFFSET_NS u) = ((o / 1000) % 2 ^ 32).toNat ∧
      (t.tsu.meas = if s.fromPtp = true ∧ u = s.ptpPort then s.tsu.meas ++ [o] else s.tsu.meas) ∧ (t.ptp u).resp = none ∧
      (t.ptp u).t1 = some a ∧ RegOnly [F.TSU_PORT_STAT_OFFSET_NS u, F.TSU_PORT_STAT_MPD_NS u] s t ∧ { t.still s with tsu := s.tsu } = s)

/-- The jump rule (R386 to R388), 1PPS (R390, R396), the serial port (R397) and time of day (R392, R394). The model's choices: the servo's
  values (log entry 49), the threshold of 1PPS, the clearing of a pending run and what decisions correct (log entry 50), FRAC and RTD in
  the formula (log entry 51), and marks of seconds and serial messages (log entry 52). -/
def Obligations.JumpRuleAndTimeOfDay : Prop :=
  (∀ (s : State) (o : Int) (r : List Int),
      s.works = true → s.tsu.meas = o :: r → s.tsu.awaitStep = false → s.tsu.awaitOfs = false → s.on F.TSU_STAT_PENDING = false →
      (o - s.tsu.pred).natAbs ≤ s.jumpPs → (s.rd F.TSU_STAT_STATE = 1 ∨ s.rd F.TSU_STAT_STATE = 2) →
      (s.lastFreqs.all (fun v => decide (-1200000 ≤ v) && decide (v ≤ 1200000)) = true) →
      ∃ t, exec (.phaseMeasurement) s = .next t ∧ t.tsu.meas = r ∧ t.tsu.outliers = [] ∧
      t.rd F.TSU_STAT_OUTLIERS = s.rd F.TSU_STAT_OUTLIERS ∧ -1200000 ≤ (BitVec.ofNat 32 (t.rd F.TSU_FREQ_FREQ)).toInt ∧
      (BitVec.ofNat 32 (t.rd F.TSU_FREQ_FREQ)).toInt ≤ 1200000 ∧
      ((s.lastFreqs.all fun a => s.lastFreqs.all fun b => decide ((a - b).natAbs ≤ 20000)) = true → ∀ v ∈ s.lastFreqs, ((BitVec.ofNat 32
        (t.rd F.TSU_FREQ_FREQ)).toInt - v).natAbs ≤ 10000) ∧ t.rd F.TSU_STAT_PHASE_OK = 1 ∧ { t.calm s with tsu := s.tsu } = s) ∧
  (∀ (s : State) (o : Int) (r : List Int),
      s.works = true → s.tsu.meas = o :: r → s.tsu.awaitStep = false → s.tsu.awaitOfs = false → s.on F.TSU_STAT_PENDING = false →
      s.jumpPs < (o - s.tsu.pred).natAbs → s.agreeing ((s.tsu.outliers.drop (s.tsu.outliers.length - 14)) ++ [o]) = none →
      ∃ t, exec (.phaseMeasurement) s = .next t ∧ t.tsu.meas = r ∧
      t.tsu.outliers = (s.tsu.outliers.drop (s.tsu.outliers.length - 14)) ++ [o] ∧
      t.rd F.TSU_STAT_OUTLIERS = min (s.rd F.TSU_STAT_OUTLIERS + 1) 65535 ∧ t.rd F.TSU_FREQ_FREQ = s.rd F.TSU_FREQ_FREQ ∧
      t.rd F.TSU_STAT_PENDING = s.rd F.TSU_STAT_PENDING ∧
      (s.hub.secRaised.contains E.TSU_PHASE_OUTLIER.id = false → t.status E.TSU_PHASE_OUTLIER = true) ∧
      { t.calm s with tsu := s.tsu } = s) ∧
  (∀ (s : State) (o : Int) (r : List Int) (l : List Int),
      s.works = true → s.tsu.meas = o :: r → s.tsu.awaitStep = false → s.tsu.awaitOfs = false → s.on F.TSU_STAT_PENDING = false →
      s.jumpPs < (o - s.tsu.pred).natAbs → s.agreeing ((s.tsu.outliers.drop (s.tsu.outliers.length - 14)) ++ [o]) = some l →
      ∃ t, exec (.phaseMeasurement) s = .next t ∧ t.tsu.meas = r ∧ t.rd F.TSU_STAT_PENDING = 1 ∧ t.rd F.TSU_JUMP_STAT_PENDING = 1 ∧
      t.tsu.step = (l.foldl (· + ·) 0) / (l.length : Int) - s.tsu.pred ∧ t.status E.TSU_JUMP_PENDING = true ∧
      t.rd F.TSU_FREQ_FREQ = s.rd F.TSU_FREQ_FREQ ∧ { t.calm s with tsu := s.tsu } = s) ∧
  (∀ (s : State),
      s.hostReady = true → s.on F.TSU_STAT_PENDING = true →
      ∃ t, exec (.jumpAccept) s = .next t ∧ t.tsu = { s.tsu with accept := true } ∧ RegOnly [F.TSU_JUMP_CMD_OP] s t ∧
      { t.still s with tsu := s.tsu } = s) ∧
  (∀ (s : State) (u : Nat),
      s.hostReady = true → s.on F.TSU_STAT_PENDING = true → u = s.rd F.TSU_JUMP_STAT_PORT → u < 16 →
      ∃ t, exec (.jumpRebase) s = .next t ∧ t.tsu.rebase = true ∧ t.tsu.accept = false ∧
      t.rdShadow (F.TSU_PORT_CFG_ASYM_PS u) = (((BitVec.ofNat 32 (s.rdShadow (F.TSU_PORT_CFG_ASYM_PS u))).toInt + s.tsu.step) % (2 ^ 32 :
        Int)).toNat ∧ t.rd (F.TSU_PORT_CFG_ASYM_PS u) = s.rd (F.TSU_PORT_CFG_ASYM_PS u)) ∧
  (∀ (s : State),
      s.hostReady = true → s.on F.TSU_STAT_PENDING = true →
      ∃ t, exec (.jumpReject) s = .next t ∧ t.rd F.TSU_STAT_PENDING = 0 ∧ t.rd F.TSU_JUMP_STAT_PENDING = 0 ∧
      t.rd F.TSU_JUMP_STAT_CAUSE = 0 ∧ t.tsu = { s.tsu with outliers := [], backRun := 0, accept := false, rebase := false } ∧
      t.status E.TSU_JUMP_CLEARED = true ∧
      RegFrame [F.TSU_JUMP_CMD_OP, F.TSU_STAT_PENDING, F.TSU_JUMP_STAT_PENDING, F.TSU_JUMP_STAT_CAUSE] s t ∧
      { t.calm s with tsu := s.tsu } = s) ∧
  (∀ (s : State) (a d : Nat),
      s.works = true → s.srcMode ≠ 3 →
      ∃ t, exec (.ppsInEdge a d) s = .next t ∧ t.rd F.TSU_PPS_IN_STAMP32 = (s.todStamp a / 65536 % (2 ^ 32 : Int)).toNat ∧
      t.rd F.TSU_PPS_IN_FRAC = (s.todStamp a % 65536).toNat ∧ t.rd F.TSU_PPS_IN_USED = 0 ∧ t.tsu.ppsHave = true ∧
      RegFrame [F.TSU_PPS_IN_STAMP32, F.TSU_PPS_IN_FRAC, F.TSU_PPS_IN_USED] s t ∧ { t.calm s with tsu := s.tsu } = s) ∧
  (∀ (s : State) (c : Nat),
      s.works = true → s.rd F.TSU_PPS_CFG_PPS_WIDTH_MS ≠ 0 → s.secondHere = some c → s.tsu.isMarked c = false →
      ∃ t, exec (.ppsOut) s = .next t ∧
      t.tsu =
        { s.tsu with marked := markSecond c s.tsu.marked, ppsOut := s.tsu.ppsOut + 1, ppsUntil := some (s.ticks + 8 * s.rd F.TSU_PPS_CFG_PPS_WIDTH_MS) }
        ∧ t.regs = s.regs ∧ { t.calm s with tsu := s.tsu } = s) ∧
  (∀ (s : State) (c : Nat),
      s.works = true → s.rd F.TSU_PPS_CFG_PPS_WIDTH_MS ≠ 0 → s.secondHere = some c → s.tsu.isMarked c = true →
      ∃ t, exec (.ppsOut) s = .next t ∧ t = s) ∧
  (∀ (s : State),
      s.works = true → s.on F.TSU_PPS_CFG_SER_OUT_EN = true → s.tsu.marked ≠ [] →
      ∃ t, exec (.serTodTx) s = .next t ∧ t.tsu = { s.tsu with serSent := serMessage s s.nextEdge } ∧ t.tsu.serSent.length = 16 ∧
      t.tsu.serSent.take 2 = [0xC3, 1] ∧ t.regs = s.regs ∧ { t.calm s with tsu := s.tsu } = s) ∧
  (∀ (s : State) (b : List Nat) (c : Nat),
      s.works = true → b.length = 16 → b.take 2 = [0xC3, 1] → crc8 (b.extract 0 15) = b.getD 15 0 → c = ofLe (b.extract 2 8) →
      (s.tsu.ppsSec.all (fun p => c == p + 1) = true) →
      ∃ t, exec (.serTodRx b) s = .next t ∧ t.tsu = { s.tsu with serNamed := some (c, s.ticks) } ∧ t.regs = s.regs ∧
      { t.calm s with tsu := s.tsu } = s) ∧
  (∀ (s : State) (b : List Nat),
      s.works = true → b.length = 16 → b.take 2 = [0xC3, 1] → crc8 (b.extract 0 15) ≠ b.getD 15 0 →
      ∃ t, exec (.serTodRx b) s = .next t ∧ t.tsu = { s.tsu with serNamed := none } ∧
      (s.hub.secRaised.contains E.TSU_SER_TOD_ERR.id = false → t.status E.TSU_SER_TOD_ERR = true) ∧ RegFrame [] s t ∧
      { t.calm s with tsu := s.tsu } = s) ∧
  (∀ (s : State) (n a v : Nat),
      s.hostReady = true → n < 32 → 8 ≤ a ∧ a ≤ 8000 → v = (s.todTerm n 0x1FF a).toNat →
      ∃ t, exec (.todRequest n 0x1FF a) s = .next t ∧ t.rd F.TSU_TOD_RES0_VALID = 1 ∧ t.rd F.TSU_TOD_RES0_CODE = 0 ∧
      t.rd F.TSU_TOD_RES0_SFC = (s.rd (F.FRM_SFC_SFC n) + a) % 2 ^ 51 ∧ t.rd F.TSU_TOD_RES1_SECONDS = v / 65536 / 1000000000 % 2 ^ 48 ∧
      t.rd F.TSU_TOD_RES2_NS = v / 65536 % 1000000000 ∧ t.rd F.TSU_TOD_RES2_FRAC = v % 65536 ∧
      t.tsu = { s.tsu with todReq := some (n, 0x1FF, s.ticks + a) } ∧
      RegOnly [F.TSU_TOD_REQ_TREE, F.TSU_TOD_REQ_TERMINAL, F.TSU_TOD_REQ_AHEAD, F.TSU_TOD_RES0_VALID, F.TSU_TOD_RES0_STALE,
        F.TSU_TOD_RES0_CODE, F.TSU_TOD_RES0_SFC, F.TSU_TOD_RES0_UNLOCKED, F.TSU_TOD_RES1_SECONDS, F.TSU_TOD_RES2_NS, F.TSU_TOD_RES2_FRAC]
        s t ∧ { t.still s with tsu := s.tsu } = s) ∧
  (∀ (s : State) (n x a : Nat),
      s.hostReady = true → n < 32 → x < 512 → (a < 8 ∨ (8000 < a ∧ a < 8192)) →
      ∃ t, exec (.todRequest n x a) s = .next t ∧ t.rd F.TSU_TOD_RES0_VALID = 0 ∧ t.rd F.TSU_TOD_RES0_CODE = 1 ∧
      RegOnly [F.TSU_TOD_REQ_TREE, F.TSU_TOD_REQ_TERMINAL, F.TSU_TOD_REQ_AHEAD, F.TSU_TOD_RES0_VALID, F.TSU_TOD_RES0_STALE,
        F.TSU_TOD_RES0_CODE] s t ∧ { t.still s with tsu := s.tsu } = s) ∧
  (∀ (s : State) (v : Nat),
      s.hostReady = true → v = (s.todFine + ((s.offsetNs * 2 ^ 40 + Config.instant (s.fresh + 1) % 2 ^ 40 : Nat) : Int)).toNat / 2 ^ 24 →
      ∃ t, exec (.timeSnapRead) s = .next t ∧ t.rd F.TSU_TIME_SNAP0_SECONDS = v / 65536 / 1000000000 % 2 ^ 48 ∧
      t.rd F.TSU_TIME_SNAP1_NS = v / 65536 % 1000000000 ∧ t.rd F.TSU_TIME_SNAP1_FRAC = v % 65536 ∧
      t.hostIf.lastRead = v / 65536 / 1000000000 % 2 ^ 48 ∧
      RegOnly [F.TSU_TIME_SNAP0_SECONDS, F.TSU_TIME_SNAP1_NS, F.TSU_TIME_SNAP1_FRAC] s t ∧ { t.still s with hostIf := s.hostIf } = s)

/-- Heartbeats (R401, R402, R404), the OXL link (R97, R99) and the mirror (R413, R415, R421). The model's choices: PATH_LOST adds 8 missed
  beats, which records a standby takes, and the numbers of the paths (log entry 54); MIRROR after a dropped page (log entry 63); the
  transmit queue (log entry 67). -/
def Obligations.HeartbeatsAndMirror : Prop :=
  (∀ (s : State) (i : Nat),
      s.beats i = true → i < 2 → s.on (F.OBS_INJ_STAT_ARMED (48 + i)) = false → (s.link (48 + i)).held = [] →
      ∃ t, exec (.heartbeatTx i false) s = .next t ∧ (t.prt.path i).sent = s.beat i false ∧
      (t.prt.path i).seqTx = ((s.prt.path i).seqTx + 1) % 65536 ∧ t.prt.path (1 - i) = s.prt.path (1 - i) ∧ t.regs = s.regs) ∧
  (∀ (s : State) (b : List Nat) (m r : Nat),
      s.beats 1 = true → s.beatValid b = true → s.on F.PRT_STAT_PATH_B = true → b.getD 1 0 % 2 = 0 → r = ofLe (b.extract 2 4) / 4096 →
      r ≠ 1 → (s.role ≠ 1 ∨ s.rd F.PRT_STAT_PEER_ROLE = r) →
      ∃ t, exec (.heartbeatRx 1 b true m) s = .next t ∧ t.rd F.PRT_STAT_PEER_ROLE = r % 4 ∧
      t.rd F.PRT_HB_STAT_MISSED_B = min (s.rd F.PRT_HB_STAT_MISSED_B + m) 65535 ∧
      RegFrame [F.PRT_STAT_PEER_ROLE, F.PRT_HB_STAT_MISSED_B] s t ∧ t.calm s = s) ∧
  (∀ (s : State) (i m : Nat) (b : List Nat) (y : Bool),
      s.beats i = true → i < 2 → s.beatValid b = false →
      ∃ t, exec (.heartbeatRx i b y m) s = .next t ∧ (t.prt.path i).good = 0 ∧ t.regs = s.regs ∧ { t with prt := s.prt } = s) ∧
  (∀ (s : State),
      s.ticking = true → s.mode ≠ mHolding → s.on F.PRT_STAT_PATH_B = true → s.on F.PRT_STAT_PATH_A = true →
      ∃ t, exec (.pathLost 1) s = .next t ∧ t.rd F.PRT_STAT_PATH_B = 0 ∧
      t.rd F.PRT_HB_STAT_LOST_B = min (s.rd F.PRT_HB_STAT_LOST_B + 1) 65535 ∧ t.status E.PRT_PATH_B_LOST = true ∧
      RegFrame [F.PRT_STAT_PATH_B, F.PRT_HB_STAT_LOST_B, F.PRT_HB_STAT_MISSED_B] s t ∧ { t.calm s with prt := s.prt } = s) ∧
  (∀ (s : State),
      s.ticking = true → s.mode ≠ mHolding → s.on F.PRT_STAT_PATH_B = true → s.on F.PRT_STAT_PATH_A = false →
      s.on F.PRT_STAT_FENCED = false →
      ∃ t, exec (.pathLost 1) s = .next t ∧ t.rd F.PRT_STAT_PATH_B = 0 ∧ t.rd F.PRT_STAT_REQ_OPEN = 1 ∧ hasBit t.prt.reasons 0 = true ∧
      t.status E.PRT_PEER_LOST = true ∧
      RegFrame ([F.PRT_STAT_PATH_B, F.PRT_HB_STAT_LOST_B, F.PRT_HB_STAT_MISSED_B, F.PRT_STAT_REQ_OPEN, F.PRT_STAT_SPLIT,
        F.PRT_KAP_TX_STAT_PENDING] ++ (List.range 16).map F.PRT_KAP_TX_BYTES) s t ∧ { t.calm s with prt := s.prt } = s) ∧
  (∀ (s : State) (a b c d v k : Nat),
      s.works = true → v = min (s.rd (F.CFG_VER_MAX 2)) b → max (s.rd (F.CFG_VER_MIN 2)) a ≤ v → k = min (s.rd (F.CFG_VER_MAX 4)) d →
      max (s.rd (F.CFG_VER_MIN 4)) c ≤ k →
      ∃ t, exec (.oxlLinkTrained a b c d) s = .next t ∧ t.rd (F.CFG_VER_AGREED 2) = v % 256 ∧ t.rd (F.CFG_VER_AGREED 4) = k % 256 ∧
      t.rd (F.CFG_VER_NONE 2) = 0 ∧ t.rd (F.CFG_VER_NONE 4) = 0 ∧ t.prt.oxl = v ∧
      (t.prt.unprot = if v = 1 ∨ k = 1 then s.f50Trees else 0) ∧
      RegFrame [F.CFG_VER_AGREED 2, F.CFG_VER_NONE 2, F.CFG_VER_AGREED 4, F.CFG_VER_NONE 4, F.PRT_STAT_MIRROR] s t ∧
      { t.calm s with prt := s.prt } = s) ∧
  (∀ (s : State) (a b c d : Nat),
      s.works = true → min (s.rd (F.CFG_VER_MAX 2)) b < max (s.rd (F.CFG_VER_MIN 2)) a →
      ∃ t, exec (.oxlLinkTrained a b c d) s = .next t ∧ t.rd (F.CFG_VER_AGREED 2) = 0 ∧ t.rd (F.CFG_VER_NONE 2) = 1 ∧
      t.rd (F.CFG_VER_AGREED 4) = 0 ∧ t.prt.unprot = 0xFFFFFFFF ∧ t.prt.pages = [] ∧ t.status E.CFG_VER_NONE = true ∧
      RegFrame [F.CFG_VER_AGREED 2, F.CFG_VER_NONE 2, F.CFG_VER_AGREED 4] s t ∧ { t.calm s with prt := s.prt } = s) ∧
  (∀ (s : State),
      s.works = true → s.prt.bulk = true → s.on F.PRT_STAT_PATH_A = true → s.rd F.PRT_STAT_MIRROR = 1 →
      ∃ t, exec (.bulkCopyDone) s = .next t ∧ t.rd F.PRT_STAT_MIRROR = 2 ∧ t.rd F.PRT_MIRROR_STAT_LAG = 0 ∧
      t.prt = { s.prt with bulk := false } ∧ t.status E.PRT_MIRROR_CURRENT = true ∧
      RegFrame [F.PRT_STAT_MIRROR, F.PRT_MIRROR_STAT_LAG] s t ∧ { t.calm s with prt := s.prt } = s) ∧
  (∀ (s : State) (g n i a b : Nat),
      s.works = true → s.role = 2 → s.on F.PRT_STAT_PATH_A = true → s.prt.oxl ≠ 0 → s.rd (F.CFG_VER_AGREED 4) ≠ 0 → n < 32 → i < 4096 →
      hasBit s.prt.unprot n = false →
      ∃ t, exec (.mirrorRecordRx g (.alloc n i a b)) s = .next t ∧ t.alloc n i = Alloc.ofWords (s.alloc n i) a b ∧
      (∀ j, j ≠ i → t.alloc n j = s.alloc n j) ∧ t.rd F.PRT_MIRROR_STAT_MG = g % 2 ^ 32 ∧ RegFrame [F.PRT_MIRROR_STAT_MG] s t ∧
      { t.calm s with trees := s.trees } = s) ∧
  (∀ (s : State),
      s.works = true → s.revertive = true → s.holdoffS ≤ s.rd F.PRT_STAT_HOLDOFF → s.prt.revertAsked = false →
      s.on F.PRT_STAT_FENCED = false →
      ∃ t, exec (.revertRequest) s = .next t ∧ t.prt.revertAsked = true ∧ t.rd F.PRT_STAT_REQ_OPEN = 1 ∧ hasBit t.prt.reasons 4 = true ∧
      RegFrame ([F.PRT_STAT_REQ_OPEN, F.PRT_STAT_SPLIT, F.PRT_KAP_TX_STAT_PENDING] ++ (List.range 16).map F.PRT_KAP_TX_BYTES) s t ∧
      { t.calm s with prt := s.prt } = s) ∧
  (∀ (s : State),
      s.ticking = true → s.mode ≠ mHolding → s.on F.PRT_STAT_PATH_A = true → s.on F.PRT_STAT_PATH_B = true →
      ∃ t, exec (.pathLost 0) s = .next t ∧ t.rd F.PRT_STAT_PATH_A = 0 ∧
      t.rd F.PRT_HB_STAT_LOST_A = min (s.rd F.PRT_HB_STAT_LOST_A + 1) 65535 ∧
      (t.rd F.PRT_STAT_MIRROR = if s.rd F.PRT_STAT_MIRROR = 0 then 0 else 3) ∧ (s.rd F.PRT_STAT_MIRROR ≠ 0 → t.prt.bulk = false) ∧
      t.prt.pathA.good = 0 ∧ t.status E.PRT_PATH_A_LOST = true ∧
      RegFrame [F.PRT_STAT_PATH_A, F.PRT_HB_STAT_LOST_A, F.PRT_HB_STAT_MISSED_A, F.PRT_STAT_MIRROR] s t ∧
      { t.calm s with prt := s.prt } = s) ∧
  (∀ (s : State),
      s.ticking = true → s.mode ≠ mHolding → s.on F.PRT_STAT_PATH_A = true → s.on F.PRT_STAT_PATH_B = false →
      s.on F.PRT_STAT_FENCED = false →
      ∃ t, exec (.pathLost 0) s = .next t ∧ t.rd F.PRT_STAT_PATH_A = 0 ∧
      (t.rd F.PRT_STAT_MIRROR = if s.rd F.PRT_STAT_MIRROR = 0 then 0 else 3) ∧ t.rd F.PRT_STAT_REQ_OPEN = 1 ∧
      hasBit t.prt.reasons 0 = true ∧ t.status E.PRT_PEER_LOST = true ∧
      RegFrame ([F.PRT_STAT_PATH_A, F.PRT_HB_STAT_LOST_A, F.PRT_HB_STAT_MISSED_A, F.PRT_STAT_MIRROR, F.PRT_STAT_REQ_OPEN,
        F.PRT_STAT_SPLIT, F.PRT_KAP_TX_STAT_PENDING] ++ (List.range 16).map F.PRT_KAP_TX_BYTES) s t ∧
      { t.calm s with prt := s.prt } = s) ∧
  (∀ (s : State) (b : List Nat) (m r : Nat),
      s.beats 0 = true → s.beatValid b = true → s.on F.PRT_STAT_PATH_A = true → b.getD 1 0 % 2 = 0 → r = ofLe (b.extract 2 4) / 4096 →
      r ≠ 1 → (s.role ≠ 1 ∨ s.rd F.PRT_STAT_PEER_ROLE = r) →
      ∃ t, exec (.heartbeatRx 0 b true m) s = .next t ∧ t.rd F.PRT_STAT_PEER_ROLE = r % 4 ∧
      t.rd F.PRT_HB_STAT_MISSED_A = min (s.rd F.PRT_HB_STAT_MISSED_A + m) 65535 ∧
      RegFrame [F.PRT_STAT_PEER_ROLE, F.PRT_HB_STAT_MISSED_A] s t ∧ t.calm s = s) ∧
  (∀ (s : State) (b : List Nat) (m r : Nat),
      s.beats 0 = true → s.beatValid b = true → s.on F.PRT_STAT_PATH_A = true → b.getD 1 0 % 2 = 0 → r = ofLe (b.extract 2 4) / 4096 →
      r ≠ 1 → s.role = 1 → s.rd F.PRT_STAT_PEER_ROLE ≠ r → s.domClass ≠ 0 → s.on F.PRT_STAT_FENCED = false →
      ∃ t, exec (.heartbeatRx 0 b true m) s = .next t ∧ t.rd F.PRT_STAT_PEER_ROLE = r % 4 ∧
      (t.rd F.PRT_STAT_MIRROR = if r = 2 then (if s.rd F.PRT_STAT_MIRROR = 2 then 2 else 1) else 0) ∧
      (t.prt.bulk = if r = 2 then (s.prt.bulk || s.rd F.PRT_STAT_MIRROR != 2) else false) ∧
      RegFrame [F.PRT_STAT_PEER_ROLE, F.PRT_HB_STAT_MISSED_A, F.PRT_STAT_MIRROR] s t ∧ { t.calm s with prt := s.prt } = s)

/-- Requests (R405, R406) and verdicts (R409 to R411). The model's choices: a verdict whose mode cannot be entered at its tick is refused
  with code 7, ARB_MODE only with CLASS 1, and the transmit queue of KAP (log entry 67); VERDICT_APPLIED as the instant of a due verdict
  (log entry 7); mirrored terminals in ranging (log entry 53). -/
def Obligations.Verdicts : Prop :=
  (∀ (s : State),
      s.hostReady = true → s.on F.PRT_STAT_REQ_OPEN = false →
      ∃ t, exec (.verdictRequestHost) s = .next t ∧ t.rd F.PRT_STAT_REQ_OPEN = 1 ∧ t.prt.reasons = 4 ∧
      t.prt.reqSeq = (s.prt.reqSeq + 1) % 2 ^ 32 ∧ { t.calm s with prt := s.prt } = s) ∧
  (∀ (s : State),
      s.hostReady = true → s.on F.PRT_STAT_REQ_OPEN = true →
      ∃ t, exec (.verdictRequestHost) s = .next t ∧ t.prt.reasons = withBit s.prt.reasons 2 ∧ t.prt.reqSeq = s.prt.reqSeq ∧
      { t.calm s with prt := s.prt } = s) ∧
  (∀ (s : State) (m : List Nat),
      s.hostReady = true → s.on F.PRT_CFG_ARB_MODE = false → m = s.kapRx → kapAt m 16 1 = 1 → (kapAgree m s).kapCheck m = 0 →
      ∃ t, exec (.promote) s = .next t ∧
      t.prt.verdict = some
        { code := 1, mode := kapAt m 19 1, epoch := kapAt m 12 4, apply := kapAt m 20 6, applyTick := kapAt m 26 2, seq := kapAt m 8 4, replaces := kapAt m 36 2, unprot := kapAt m 32 4, pin := false, due := false }
        ∧ t.rd F.PRT_KAP_RX_STAT_WAITING = 1 ∧ t.rd F.PRT_KAP_RX_STAT_CODE = 0 ∧ t.rd F.PRT_STAT_REQ_OPEN = 0 ∧
      t.prt.txq.any KapMsg.ack = true ∧ { t.calm s with prt := s.prt } = s) ∧
  (∀ (s : State) (m : List Nat),
      s.hostReady = true → s.on F.PRT_CFG_ARB_MODE = false → m = s.kapRx → kapAt m 16 1 = 2 → (kapAgree m s).kapCheck m = 0 →
      ∃ t, exec (.demote) s = .next t ∧
      t.prt.verdict = some
        { code := 2, mode := kapAt m 19 1, epoch := kapAt m 12 4, apply := kapAt m 20 6, applyTick := kapAt m 26 2, seq := kapAt m 8 4, replaces := kapAt m 36 2, unprot := kapAt m 32 4, pin := false, due := false }
        ∧ t.rd F.PRT_KAP_RX_STAT_WAITING = 1 ∧ t.rd F.PRT_KAP_RX_STAT_CODE = 0 ∧ t.rd F.PRT_STAT_REQ_OPEN = 0 ∧
      t.prt.txq.any KapMsg.ack = true ∧ { t.calm s with prt := s.prt } = s) ∧
  (∀ (s : State) (m : List Nat),
      s.hostReady = true → s.on F.PRT_CFG_ARB_MODE = false → m = s.kapRx → kapAt m 16 1 = 3 → (kapAgree m s).kapCheck m = 0 →
      ∃ t, exec (.verdictHold) s = .next t ∧
      t.prt.verdict = some
        { code := 3, mode := kapAt m 19 1, epoch := kapAt m 12 4, apply := kapAt m 20 6, applyTick := kapAt m 26 2, seq := kapAt m 8 4, replaces := kapAt m 36 2, unprot := kapAt m 32 4, pin := false, due := false }
        ∧ t.rd F.PRT_KAP_RX_STAT_WAITING = 1 ∧ t.rd F.PRT_KAP_RX_STAT_CODE = 0 ∧ t.rd F.PRT_STAT_REQ_OPEN = 0 ∧
      t.prt.txq.any KapMsg.ack = true ∧ { t.calm s with prt := s.prt } = s) ∧
  (∀ (s : State) (m : List Nat),
      s.hostReady = true → s.on F.PRT_CFG_ARB_MODE = false → m = s.kapRx → kapAt m 16 1 = 4 → (kapAgree m s).kapCheck m = 0 →
      ∃ t, exec (.fence) s = .next t ∧
      t.prt.verdict = some
        { code := 4, mode := kapAt m 19 1, epoch := kapAt m 12 4, apply := kapAt m 20 6, applyTick := kapAt m 26 2, seq := kapAt m 8 4, replaces := kapAt m 36 2, unprot := kapAt m 32 4, pin := false, due := false }
        ∧ t.rd F.PRT_KAP_RX_STAT_WAITING = 1 ∧ t.rd F.PRT_KAP_RX_STAT_CODE = 0 ∧ t.rd F.PRT_STAT_REQ_OPEN = 0 ∧
      t.prt.txq.any KapMsg.ack = true ∧ { t.calm s with prt := s.prt } = s) ∧
  (∀ (s : State) (m : List Nat) (c : Nat),
      s.hostReady = true → s.on F.PRT_CFG_ARB_MODE = false → m = s.kapRx → kapAt m 16 1 = 1 → (kapAgree m s).kapCheck m = c → c ≠ 0 →
      ∃ t, exec (.promote) s = .next t ∧ t.rd F.PRT_KAP_RX_STAT_CODE = c % 16 ∧ t.prt.verdict = s.prt.verdict ∧
      t.rd F.PRT_STAT_REQ_OPEN = s.rd F.PRT_STAT_REQ_OPEN ∧ t.status E.PRT_VERDICT_REFUSED = true ∧ { t.calm s with prt := s.prt } = s) ∧
  (∀ (s : State),
      s.ticking = true → s.mode ≠ mHolding → s.on F.PRT_STAT_REQ_OPEN = true → s.verdictMs * 8 ≤ s.prt.reqTicks + 1 →
      s.on F.PRT_STAT_PATH_A = true →
      ∃ t, exec (.verdictTimeout) s = .next t ∧ t.prt.reqTicks = 0 ∧ t.rd F.PRT_STAT_REQ_OPEN = 1 ∧
      t.status E.PRT_VERDICT_TIMEOUT = true ∧ { t.calm s with prt := s.prt } = s) ∧
  (∀ (s : State) (v : Verdict),
      s.prt.verdict = some v → v.due = true → s.ticking = true → s.mode ≠ mHolding → s.pwr.suppress = false → v.pin = false →
      s.hub.after = [] → v.code = 3 →
      ∃ t, exec (.verdictApplied) s = .next t ∧ t.prt.verdict = none ∧ t.rd F.PRT_KAP_RX_STAT_WAITING = 0 ∧
      t.rd F.PRT_KAP_RX_STAT_EPOCH = v.epoch % 2 ^ 32 ∧ t.status E.PRT_VERDICT_APPLIED = true ∧
      t.rd F.PRT_STAT_ROLE = s.rd F.PRT_STAT_ROLE ∧ t.mode = s.mode ∧ RegFrame [F.PRT_KAP_RX_STAT_WAITING, F.PRT_KAP_RX_STAT_EPOCH] s t ∧
      { t.calm s with prt := s.prt } = s) ∧
  (∀ (s : State) (v : Verdict),
      s.prt.verdict = some v → v.due = true → s.ticking = true → s.mode ≠ mHolding → s.pwr.suppress = false → v.pin = false →
      s.hub.after = [] → v.code = 1 → s.role ≠ 1 → s.mode = mStarting → s.verdictFits v = true →
      ∃ t, exec (.verdictApplied) s = .next t ∧ t.prt.verdict = none ∧ t.rd F.PRT_KAP_RX_STAT_WAITING = 0 ∧
      t.rd F.PRT_KAP_RX_STAT_EPOCH = v.epoch % 2 ^ 32 ∧ t.status E.PRT_VERDICT_APPLIED = true ∧ t.rd F.PRT_STAT_ROLE = 1 ∧
      t.rd F.PRT_STAT_FENCED = 0 ∧ t.mode = s.mode ∧ t.prt.startMode = some (s.promoteMode v.mode) ∧
      (s.role = 0 → { t.calm s with prt := s.prt, pwr := s.pwr } = s) ∧ (s.role = 2 → t.rd F.PRT_STAT_MIRROR = 0 ∧ t.prt.bulk = false) ∧
      (s.role = 2 → (∀ n < 32, (s.tree n).sfcOn = true → t.rd (F.FRM_SFC_SFC n) = (s.rd (F.FRM_SFC_SFC n) + 8000) % 2 ^ 51))) ∧
  (∀ (s : State) (v : Verdict),
      s.prt.verdict = some v → v.due = true → s.ticking = true → s.mode ≠ mHolding → s.pwr.suppress = false → v.pin = false →
      s.hub.after = [] → v.code = 2 → s.role = 1 → isService s.mode = true → s.verdictFits v = true →
      ∃ t, exec (.verdictApplied) s = .next t ∧ t.prt.verdict = none ∧ t.rd F.PRT_KAP_RX_STAT_WAITING = 0 ∧
      t.rd F.PRT_KAP_RX_STAT_EPOCH = v.epoch % 2 ^ 32 ∧ t.status E.PRT_VERDICT_APPLIED = true ∧ t.rd F.PRT_STAT_ROLE = 2 ∧
      t.mode = mStandby ∧ t.rd F.PRT_STAT_MIRROR = 1 ∧ t.prt.bulk = true) ∧
  (∀ (s : State) (v : Verdict),
      s.prt.verdict = some v → v.due = true → s.ticking = true → s.mode ≠ mHolding → s.pwr.suppress = false → v.pin = false →
      s.hub.after = [] → v.code = 4 → s.mode ≠ mStarting → s.verdictFits v = true →
      ∃ t, exec (.verdictApplied) s = .next t ∧ t.prt.verdict = none ∧ t.rd F.PRT_KAP_RX_STAT_WAITING = 0 ∧
      t.rd F.PRT_KAP_RX_STAT_EPOCH = v.epoch % 2 ^ 32 ∧ t.status E.PRT_VERDICT_APPLIED = true ∧ t.rd F.PRT_STAT_ROLE = 0 ∧
      t.rd F.PRT_STAT_FENCED = 1 ∧ t.rd F.PRT_STAT_MIRROR = 0) ∧
  (∀ (s : State) (v : Verdict),
      s.prt.verdict = some v → v.due = true → s.ticking = true → s.mode ≠ mHolding → s.pwr.suppress = false → v.pin = false →
      s.hub.after = [] → s.verdictFits v = false →
      ∃ t, exec (.verdictApplied) s = .next t ∧ t.prt.verdict = none ∧ t.rd F.PRT_KAP_RX_STAT_WAITING = 0 ∧
      t.rd F.PRT_KAP_RX_STAT_CODE = 7 ∧ t.status E.PRT_VERDICT_REFUSED = true ∧ t.rd F.PRT_STAT_ROLE = s.rd F.PRT_STAT_ROLE ∧
      t.mode = s.mode ∧ RegFrame [F.PRT_KAP_RX_STAT_WAITING, F.PRT_KAP_RX_STAT_CODE] s t ∧ { t.calm s with prt := s.prt } = s) ∧
  (∀ (s u : State) (v : Verdict),
      s.prt.verdict = some v → v.due = true → s.ticking = true → u = verdictApplied s → u.mode ≠ mHolding → u.pwr.suppress = false →
      ∃ t, exec (.verdictApplied) s = .next t ∧ (t = actFirings u.hub.after (u.modHub fun h => { h with after := [] }))) ∧
  (∀ (s : State) (y : Bool),
      s.ticking = true → s.pinArb = true → s.mode ≠ mHolding → s.role = 1 →
      ∃ t, exec (.arbGntVerdict y) s = .next t ∧
      (t.prt.verdict = some ⟨if y then 3 else 2, 0, s.rd F.PRT_KAP_RX_STAT_EPOCH, 0, 0, 0, 0xFFF, 0, true, false⟩) ∧
      t.rd F.PRT_KAP_RX_STAT_WAITING = 1 ∧ t.rd F.PRT_STAT_REQ_OPEN = 0 ∧ t.prt.arbGnt = some y ∧
      RegFrame [F.PRT_KAP_RX_STAT_WAITING, F.PRT_STAT_REQ_OPEN, F.PRT_STAT_SPLIT] s t ∧ { t.calm s with prt := s.prt } = s) ∧
  (∀ (s : State),
      s.hostReady = true →
      ∃ t, exec (.kapTxPop) s = .next t ∧ t.prt = { s.prt with txq := s.prt.txq.drop 1 } ∧
      t.rd F.PRT_KAP_TX_STAT_PENDING = (s.prt.txq.length - 1) % 8 ∧
      RegFrame (F.PRT_KAP_TX_STAT_PENDING :: (List.range 16).map F.PRT_KAP_TX_BYTES) s t ∧ { t.calm s with prt := s.prt } = s) ∧
  (∀ (s : State) (v : Verdict) (m : Nat),
      s.prt.verdict = some v → v.due = true → s.ticking = true → s.mode ≠ mHolding → s.pwr.suppress = false → v.pin = false →
      s.hub.after = [] → v.code = 1 → s.role = 2 → s.mode = mStandby → m = s.promoteMode v.mode → isService m = true →
      s.verdictFits v = true →
      ∃ t, exec (.verdictApplied) s = .next t ∧ t.prt.verdict = none ∧ t.rd F.PRT_KAP_RX_STAT_WAITING = 0 ∧
      t.rd F.PRT_KAP_RX_STAT_EPOCH = v.epoch % 2 ^ 32 ∧ t.status E.PRT_VERDICT_APPLIED = true ∧ t.rd F.PRT_STAT_ROLE = 1 ∧
      t.rd F.PRT_STAT_FENCED = 0 ∧ t.mode = m ∧ (s.on F.PRT_STAT_PATH_A = false → t.rd F.PRT_STAT_MIRROR = 0 ∧ t.prt.bulk = false) ∧
      (∀ n < 32, (s.tree n).sfcOn = true → t.rd (F.FRM_SFC_SFC n) = (s.rd (F.FRM_SFC_SFC n) + 8000) % 2 ^ 51) ∧
      (∀ n < 32, ((s.domClass == 2 && v.replaces != s.rd F.PRT_ID_PEER_ID) || hasBit (v.unprot ||| s.prt.unprot) n) = true → (∀ x ∈
        s.termsOf n, t.tst n x = tsFree)) ∧
      (∀ n < 32, ((s.domClass == 2 && v.replaces != s.rd F.PRT_ID_PEER_ID) || hasBit (v.unprot ||| s.prt.unprot) n) = false → (∀ x ∈
        s.termsOf n, (s.tst n x = tsService ∨ s.tst n x = tsGuarded ∨ s.tst n x = tsVerifying) → t.tst n x = tsVerifying)) ∧
      MemFrame s t) ∧
  (∀ (s : State) (m : List Nat) (c : Nat),
      s.hostReady = true → s.on F.PRT_CFG_ARB_MODE = false → m = s.kapRx → kapAt m 16 1 = 2 → (kapAgree m s).kapCheck m = c → c ≠ 0 →
      ∃ t, exec (.demote) s = .next t ∧ t.rd F.PRT_KAP_RX_STAT_CODE = c % 16 ∧ t.prt.verdict = s.prt.verdict ∧
      t.rd F.PRT_STAT_REQ_OPEN = s.rd F.PRT_STAT_REQ_OPEN ∧ t.status E.PRT_VERDICT_REFUSED = true ∧ { t.calm s with prt := s.prt } = s) ∧
  (∀ (s : State) (m : List Nat) (c : Nat),
      s.hostReady = true → s.on F.PRT_CFG_ARB_MODE = false → m = s.kapRx → kapAt m 16 1 = 3 → (kapAgree m s).kapCheck m = c → c ≠ 0 →
      ∃ t, exec (.verdictHold) s = .next t ∧ t.rd F.PRT_KAP_RX_STAT_CODE = c % 16 ∧ t.prt.verdict = s.prt.verdict ∧
      t.rd F.PRT_STAT_REQ_OPEN = s.rd F.PRT_STAT_REQ_OPEN ∧ t.status E.PRT_VERDICT_REFUSED = true ∧ { t.calm s with prt := s.prt } = s) ∧
  (∀ (s : State) (m : List Nat) (c : Nat),
      s.hostReady = true → s.on F.PRT_CFG_ARB_MODE = false → m = s.kapRx → kapAt m 16 1 = 4 → (kapAgree m s).kapCheck m = c → c ≠ 0 →
      ∃ t, exec (.fence) s = .next t ∧ t.rd F.PRT_KAP_RX_STAT_CODE = c % 16 ∧ t.prt.verdict = s.prt.verdict ∧
      t.rd F.PRT_STAT_REQ_OPEN = s.rd F.PRT_STAT_REQ_OPEN ∧ t.status E.PRT_VERDICT_REFUSED = true ∧ { t.calm s with prt := s.prt } = s) ∧
  (∀ (s : State),
      s.ticking = true → s.pinArb = true → s.mode ≠ mHolding → s.role ≠ 1 →
      (s.floorMet s.promoteTo = true ∧ (s.promoteTo = mLean → s.leanFits = true)) →
      ∃ t, exec (.arbGntVerdict true) s = .next t ∧
      t.prt.verdict = some ⟨1, 0, s.rd F.PRT_KAP_RX_STAT_EPOCH, 0, 0, 0, 0xFFF, 0, true, false⟩ ∧ t.rd F.PRT_KAP_RX_STAT_WAITING = 1 ∧
      t.rd F.PRT_STAT_REQ_OPEN = 0 ∧ t.prt.arbGnt = some true ∧
      RegFrame [F.PRT_KAP_RX_STAT_WAITING, F.PRT_STAT_REQ_OPEN, F.PRT_STAT_SPLIT] s t ∧ { t.calm s with prt := s.prt } = s) ∧
  (∀ (s : State),
      s.ticking = true → s.pinArb = true → s.mode ≠ mHolding → s.role ≠ 1 →
      ∃ t, exec (.arbGntVerdict false) s = .next t ∧
      t.prt.verdict = some ⟨3, 0, s.rd F.PRT_KAP_RX_STAT_EPOCH, 0, 0, 0, 0xFFF, 0, true, false⟩ ∧ t.rd F.PRT_KAP_RX_STAT_WAITING = 1 ∧
      t.rd F.PRT_STAT_REQ_OPEN = 0 ∧ t.prt.arbGnt = some false ∧
      RegFrame [F.PRT_KAP_RX_STAT_WAITING, F.PRT_STAT_REQ_OPEN, F.PRT_STAT_SPLIT] s t ∧ { t.calm s with prt := s.prt } = s) ∧
  (∀ (s : State),
      s.ticking = true → s.pinArb = true → s.mode ≠ mHolding → s.role ≠ 1 → s.floorMet s.promoteTo = false →
      ∃ t, exec (.arbGntVerdict true) s = .next t ∧ t.prt.verdict = s.prt.verdict ∧ t.rd F.PRT_KAP_RX_STAT_CODE = 7 ∧
      t.status E.PRT_VERDICT_REFUSED = true ∧ t.prt = { s.prt with arbGnt := some true } ∧ RegFrame [F.PRT_KAP_RX_STAT_CODE] s t ∧
      { t.calm s with prt := s.prt } = s)

/-- The PCIe link (R434, R435, R493), the record ring (R442 to R444), the API minor (R438) and thawing (R449). The model's choices: MSI-X
  counts and the configuration space that no command writes (log entry 58), the OVERFLOW record (log entry 66), and a vector's entry (log
  entry 17). -/
def Obligations.HostLinkAndRing : Prop :=
  (∀ (s : State),
      s.awake = true → s.hostIf.endpoint = true → s.hostIf.pcieLive = true → s.cfg.run = none →
      ∃ t, exec (.perst) s = .next t ∧ t.hostIf.pcieLive = false ∧ t.hostIf.linkDownDue = true ∧ t.rd F.HIF_PCIE_STAT_BUS_MASTER = 0 ∧
      t.rd F.HIF_PCIE_STAT_LINK_DOWNS = min (s.rd F.HIF_PCIE_STAT_LINK_DOWNS + 1) 65535 ∧ t.hub = { s.hub with msix := [] } ∧
      t.hostIf.aer = 0 ∧ RegOnly [F.HIF_PCIE_STAT_BUS_MASTER, F.HIF_PCIE_STAT_LINK_DOWNS] s t ∧
      { t.calm s with hostIf := s.hostIf } = s ∧ MemFrame s t) ∧
  (∀ (s : State),
      s.awake = true → s.hostIf.pcieLive = true →
      ∃ t, exec (.pcieLinkDown) s = .next t ∧ t.hostIf.pcieLive = false ∧ t.hostIf.linkDownDue = true ∧
      t.rd F.HIF_PCIE_STAT_LINK_DOWNS = min (s.rd F.HIF_PCIE_STAT_LINK_DOWNS + 1) 65535 ∧ t.hub = s.hub ∧
      RegOnly [F.HIF_PCIE_STAT_LINK_DOWNS] s t ∧ { t.still s with hostIf := s.hostIf } = s ∧ MemFrame s t) ∧
  (∀ (s : State),
      s.works = true → s.hostIf.endpoint = true → s.hostIf.pcieLive = false →
      ∃ t, exec (.pcieLinkUp) s = .next t ∧ t.hostIf = { s.hostIf with pcieLive := true, linkDownDue := false } ∧
      (s.hostIf.linkDownDue = true → t.status E.HIF_PCIE_LINK_DOWN = true) ∧
      RegFrame [F.HIF_PCIE_STAT_WIDTH, F.HIF_PCIE_STAT_SPEED] s t ∧ { t.calm s with hostIf := s.hostIf } = s ∧ MemFrame s t) ∧
  (∀ (s : State),
      s.reach .pcie = true →
      ∃ t, exec (.busMasterEnable) s = .next t ∧ t.rd F.HIF_PCIE_STAT_BUS_MASTER = 1 ∧ t.hub = s.hub ∧
      RegOnly [F.HIF_PCIE_STAT_BUS_MASTER] s t ∧ t.still s = s ∧ MemFrame s t) ∧
  (∀ (s : State) (b : Nat),
      s.hostReady = true → b < 64 → s.bar2Busy = false →
      ∃ t, exec (.bar2BaseWrite b) s = .next t ∧ t.rd F.HIF_BAR2_CFG_BASE = b ∧ t.hostIf = { s.hostIf with baseWait := none } ∧
      t.hub = s.hub ∧ RegOnly [F.HIF_BAR2_CFG_BASE] s t ∧ { t.still s with hostIf := s.hostIf } = s ∧ MemFrame s t) ∧
  (∀ (s : State) (m : Nat),
      s.hostReady = true → m < 256 →
      ∃ t, exec (.apiMinorSelect m) s = .next t ∧ t.rd F.HIF_API_VER_SEL_MINOR = m ∧ t.minor = min m 4 ∧ t.hub = s.hub ∧
      RegOnly [F.HIF_API_VER_SEL_MINOR] s t ∧ t.still s = s ∧ MemFrame s t) ∧
  (∀ (s : State) (w : Nat),
      s.hostReady = true → w < 2 ^ 64 →
      ∃ t, exec (.evtRingWrite w) s = .next t ∧ t.rd F.HIF_EVT_RING_SIZE_LOG2 = w % 16 ∧ t.rd F.HIF_EVT_RING_BASE = w / 4096 ∧
      t.rd F.HIF_EVT_PI_PI = 0 ∧ t.rd F.HIF_EVT_CI_CI = 0 ∧ t.hub = { (heldNow s).hub with ringFull := false } ∧
      RegOnly [F.HIF_EVT_RING_SIZE_LOG2, F.HIF_EVT_RING_BASE, F.HIF_EVT_PI_PI, F.HIF_EVT_CI_CI] s t ∧ t.calm s = s ∧ MemFrame s t) ∧
  (∀ (s : State) (v : Nat),
      s.hostReady = true → v < 2 ^ 32 →
      ∃ t, exec (.evtCiWrite v) s = .next t ∧ t.rd F.HIF_EVT_CI_CI = v ∧
      t.hub = { (heldNow s).hub with ringFull := s.hub.ringFull && t.ringFull } ∧ RegOnly [F.HIF_EVT_CI_CI] s t ∧ t.calm s = s ∧
      MemFrame s t) ∧
  (∀ (s : State) (m : Nat),
      s.hostReady = true → m < 2 ^ 32 →
      ∃ t, exec (.freezeEnd m) s = .next t ∧
      (∀ n, n < 32 → hasBit (t.rd F.HIF_RFX_FROZEN_FROZEN) n = (hasBit (s.rd F.HIF_RFX_FROZEN_FROZEN) n && !hasBit m n)) ∧
      (∀ n, n < 32 → hasBit t.hub.unfreeze n = (hasBit s.hub.unfreeze n || (hasBit (s.rd F.HIF_RFX_FROZEN_FROZEN) n && hasBit m n))) ∧
      t.hub = { s.hub with unfreeze := t.hub.unfreeze } ∧ RegOnly [F.HIF_RFX_FROZEN_FROZEN] s t ∧ t.calm s = s ∧ MemFrame s t) ∧
  (∀ (s : State) (i : Nat),
      s.ticking = true → s.ringFull = false →
      ∃ t, exec (.recordDue i) s = .next t ∧
      (t.hub = { s.hub with recs := s.hub.recs.map fun r => if r.src == i && s.coalesced r then { r with due := true } else r }) ∧
      t.regs = s.regs ∧ t.calm s = s ∧ MemFrame s t) ∧
  (∀ (s : State) (r : PRec),
      s.ticking = true → (s.hub.recs.find? (fun x => x.due) = some r) → s.hostIf.pcieLive = true →
      s.on F.HIF_PCIE_STAT_BUS_MASTER = true → s.ringSize ≠ 0 → s.ringFull = false → (s.wrap F.HIF_EVT_PI_PI 1).ringFull = false →
      ∃ t, exec (.recordWrite) s = .next t ∧ (t.hub.recs = dropFirst (fun x => x.src == r.src) s.hub.recs) ∧
      t.hub.seq = (s.hub.seq + 1) % 2 ^ 24 ∧ t.rd F.HIF_EVT_PI_PI = (s.rd F.HIF_EVT_PI_PI + 1) % 2 ^ 32 ∧
      t.hostMem = s.hostMem.writeBytes (s.rd F.HIF_EVT_RING_BASE * 4096 + s.rd F.HIF_EVT_PI_PI % s.ringSize * 16) ((r.bytes ((s.hub.seq +
        1) % 2 ^ 24) s.minor).map (BitVec.ofNat 8)) ∧ (r.bytes ((s.hub.seq + 1) % 2 ^ 24) s.minor).length = 16 ∧
      RegFrame [F.HIF_EVT_PI_PI] s t ∧ { t.calm s with hostMem := s.hostMem } = s) ∧
  (∀ (s : State) (r : PRec),
      s.ticking = true → (s.hub.recs.find? (fun x => x.due) = some r) → s.hostIf.pcieLive = true →
      s.on F.HIF_PCIE_STAT_BUS_MASTER = true → s.ringSize ≠ 0 → s.ringFull = false → (s.wrap F.HIF_EVT_PI_PI 1).ringFull = true →
      s.hub.ringFull = false →
      ∃ t, exec (.recordWrite) s = .next t ∧ t.status E.HIF_RING_FULL = true ∧ t.hub.seq = (s.hub.seq + 1) % 2 ^ 24 ∧
      t.rd F.HIF_EVT_PI_PI = (s.rd F.HIF_EVT_PI_PI + 1) % 2 ^ 32 ∧
      t.hostMem = s.hostMem.writeBytes (s.rd F.HIF_EVT_RING_BASE * 4096 + s.rd F.HIF_EVT_PI_PI % s.ringSize * 16) ((r.bytes ((s.hub.seq +
        1) % 2 ^ 24) s.minor).map (BitVec.ofNat 8)) ∧ (r.bytes ((s.hub.seq + 1) % 2 ^ 24) s.minor).length = 16 ∧
      RegFrame [F.HIF_EVT_PI_PI] s t ∧ { t.calm s with hostMem := s.hostMem } = s) ∧
  (∀ (s : State) (r : PRec),
      s.ticking = true → (s.hub.recs.find? (fun x => x.due) = some r) →
      (s.hostIf.pcieLive = false ∨ s.on F.HIF_PCIE_STAT_BUS_MASTER = false ∨ s.ringSize = 0) →
      ∃ t, exec (.recordWrite) s = .next t ∧ t = s) ∧
  (∀ (s : State) (b : Nat),
      s.hostReady = true → b < 64 → s.bar2Busy = true →
      ∃ t, exec (.bar2BaseWrite b) s = .next t ∧ t.hostIf = { s.hostIf with baseWait := some b } ∧ t.regs = s.regs ∧ t.hub = s.hub ∧
      { t.calm s with hostIf := s.hostIf } = s ∧ MemFrame s t)

/-- Event occurrences (R441) and the flash pass-through (R438, R439); what a command does inside the flash is an operand (NOTES.md). The
  model's choice: what the flash answers and changes are operands of SPI_DONE (log entry 57). -/
def Obligations.EventsAndPassThrough : Prop :=
  (∀ (s : State) (i : Nat) (e : Ev),
      s.ticking = true → E.ofId i = some e →
      ∃ t, exec (.eventOccurrence i) s = .next t ∧ hasBit (t.rd (F.HIF_EVT_STAT_STAT (i / 32))) (i % 32) = true ∧ RegFrame [] s t ∧
      t.calm s = s ∧ MemFrame s t) ∧
  (∀ (s : State) (o ab du n : Nat) (q : Bool),
      s.hostReady = true → o < 256 → ab < 4 → du < 16 → n < 512 → 4 ≤ s.rd F.HIF_API_VER_SEL_MINOR → s.hostIf.spiBusy = false →
      s.cfg.run = none →
      ∃ t, exec (.spiRead o ab du n q) s = .next t ∧ t.rd F.HIF_SPI_CMD_OPCODE = o ∧ t.rd F.HIF_SPI_CMD_ADDR_BYTES = ab ∧
      t.rd F.HIF_SPI_CMD_DUMMY = du ∧ t.rd F.HIF_SPI_CMD_LEN = n ∧ t.rd F.HIF_SPI_CMD_READ = 1 ∧ t.rd F.HIF_SPI_CMD_QUAD = bit q ∧
      t.rd F.HIF_SPI_STAT_BUSY = 1 ∧ t.rd F.HIF_SPI_STAT_REFUSED = 0 ∧ t.hostIf = { s.hostIf with spiBusy := true } ∧ t.hub = s.hub ∧
      RegOnly [F.HIF_SPI_CMD_OPCODE, F.HIF_SPI_CMD_ADDR_BYTES, F.HIF_SPI_CMD_DUMMY, F.HIF_SPI_CMD_LEN, F.HIF_SPI_CMD_READ,
        F.HIF_SPI_CMD_QUAD, F.HIF_SPI_STAT_REFUSED, F.HIF_SPI_STAT_BUSY] s t ∧ { t.still s with hostIf := s.hostIf } = s ∧
      MemFrame s t) ∧
  (∀ (s : State) (o ab du n : Nat) (q : Bool),
      s.hostReady = true → o < 256 → ab < 4 → du < 16 → n < 512 → 4 ≤ s.rd F.HIF_API_VER_SEL_MINOR → s.hostIf.spiBusy = true →
      ∃ t, exec (.spiRead o ab du n q) s = .next t ∧ t.rd F.HIF_SPI_STAT_REFUSED = 1 ∧
      t.rd F.HIF_SPI_STAT_BUSY = s.rd F.HIF_SPI_STAT_BUSY ∧ t.hub = s.hub ∧
      RegOnly [F.HIF_SPI_CMD_OPCODE, F.HIF_SPI_CMD_ADDR_BYTES, F.HIF_SPI_CMD_DUMMY, F.HIF_SPI_CMD_LEN, F.HIF_SPI_CMD_READ,
        F.HIF_SPI_CMD_QUAD, F.HIF_SPI_STAT_REFUSED] s t ∧ t.still s = s ∧ MemFrame s t) ∧
  (∀ (s : State) (o ab du n : Nat) (q : Bool),
      s.hostReady = true → s.rd F.HIF_API_VER_SEL_MINOR < 4 →
      ∃ t, exec (.spiRead o ab du n q) s = .next t ∧ t.rd F.HIF_SPI_STAT_REFUSED = 1 ∧ t.hub = s.hub ∧
      RegOnly [F.HIF_SPI_STAT_REFUSED] s t ∧ t.still s = s ∧ MemFrame s t) ∧
  (∀ (s : State) (o ab du n : Nat) (q : Bool),
      s.hostReady = true → o < 256 → ab < 4 → du < 16 → n < 512 → 4 ≤ s.rd F.HIF_API_VER_SEL_MINOR → s.hostIf.spiBusy = false →
      s.cfg.run = none →
      ∃ t, exec (.spiWrite o ab du n q) s = .next t ∧ t.rd F.HIF_SPI_CMD_OPCODE = o ∧ t.rd F.HIF_SPI_CMD_ADDR_BYTES = ab ∧
      t.rd F.HIF_SPI_CMD_DUMMY = du ∧ t.rd F.HIF_SPI_CMD_LEN = n ∧ t.rd F.HIF_SPI_CMD_READ = 0 ∧ t.rd F.HIF_SPI_CMD_QUAD = bit q ∧
      t.rd F.HIF_SPI_STAT_BUSY = 1 ∧ t.rd F.HIF_SPI_STAT_REFUSED = 0 ∧ t.hostIf = { s.hostIf with spiBusy := true } ∧ t.hub = s.hub ∧
      RegOnly [F.HIF_SPI_CMD_OPCODE, F.HIF_SPI_CMD_ADDR_BYTES, F.HIF_SPI_CMD_DUMMY, F.HIF_SPI_CMD_LEN, F.HIF_SPI_CMD_READ,
        F.HIF_SPI_CMD_QUAD, F.HIF_SPI_STAT_REFUSED, F.HIF_SPI_STAT_BUSY] s t ∧ { t.still s with hostIf := s.hostIf } = s ∧
      MemFrame s t) ∧
  (∀ (s : State) (o ab du n : Nat) (q : Bool),
      s.hostReady = true → o < 256 → ab < 4 → du < 16 → n < 512 → 4 ≤ s.rd F.HIF_API_VER_SEL_MINOR → s.hostIf.spiBusy = true →
      ∃ t, exec (.spiWrite o ab du n q) s = .next t ∧ t.rd F.HIF_SPI_STAT_REFUSED = 1 ∧
      t.rd F.HIF_SPI_STAT_BUSY = s.rd F.HIF_SPI_STAT_BUSY ∧ t.hub = s.hub ∧
      RegOnly [F.HIF_SPI_CMD_OPCODE, F.HIF_SPI_CMD_ADDR_BYTES, F.HIF_SPI_CMD_DUMMY, F.HIF_SPI_CMD_LEN, F.HIF_SPI_CMD_READ,
        F.HIF_SPI_CMD_QUAD, F.HIF_SPI_STAT_REFUSED] s t ∧ t.still s = s ∧ MemFrame s t) ∧
  (∀ (s : State) (o ab du n : Nat) (q : Bool),
      s.hostReady = true → s.rd F.HIF_API_VER_SEL_MINOR < 4 →
      ∃ t, exec (.spiWrite o ab du n q) s = .next t ∧ t.rd F.HIF_SPI_STAT_REFUSED = 1 ∧ t.hub = s.hub ∧
      RegOnly [F.HIF_SPI_STAT_REFUSED] s t ∧ t.still s = s ∧ MemFrame s t) ∧
  (∀ (s : State) (d : List Nat) (i : Nat),
      s.ticking = true → s.hostIf.spiBusy = true → s.on F.HIF_SPI_CMD_READ = true → i < 64 → 4 * i + 4 ≤ s.rd F.HIF_SPI_CMD_LEN →
      4 * i + 4 ≤ d.length → (∀ x ∈ d, x < 256) →
      ∃ t, exec (.spiDone d []) s = .next t ∧
      t.rd (F.HIF_SPI_DATA_DATA i) = d.getD (4 * i) 0 + 256 * d.getD (4 * i + 1) 0 + 65536 * d.getD (4 * i + 2) 0 + 16777216 * d.getD (4
        * i + 3) 0 ∧ t.rd F.HIF_SPI_STAT_BUSY = 0 ∧ t.status E.HIF_SPI_DONE = true ∧ t.hostIf = { s.hostIf with spiBusy := false } ∧
      { t.calm s with hostIf := s.hostIf } = s ∧ MemFrame s t) ∧
  (∀ (s : State) (d : List Nat) (a v : Nat),
      s.ticking = true → s.hostIf.spiBusy = true → s.on F.HIF_SPI_CMD_READ = false → a < 2 ^ 28 → v < 256 →
      ∃ t, exec (.spiDone d [(a, v)]) s = .next t ∧ t.rd F.HIF_SPI_STAT_BUSY = 0 ∧ t.status E.HIF_SPI_DONE = true ∧
      t.flash = s.flash.write a (BitVec.ofNat 8 v) ∧ t.hostIf = { s.hostIf with spiBusy := false } ∧ RegFrame [F.HIF_SPI_STAT_BUSY] s t ∧
      { t.calm s with hostIf := s.hostIf, flash := s.flash } = s)

/-- Counters (R454, R455), snapshots (R457), SKIM (R459), histograms (R461) and views (R463, R464). The model's choices: SKIM records wait
  while the queue is full, a counter write comes before its cycle's increments, and view writes count per access (log entry 56). -/
def Obligations.CountersAndSkim : Prop :=
  (∀ (s : State) (i w : Nat),
      s.hostReady = true → i < 512 → w < 2 ^ 50 → s.rd (F.OBS_CNT_SEL_KIND i) = 0 → obsChainedOdd s i = false →
      ∃ t, exec (.counterWrite i w 0) s = .next t ∧ t.rd (F.OBS_CNT_COUNT i) = w % 2 ^ 48 ∧
      (t.rd (F.OBS_CNT_OVF i) = if w / 2 ^ 48 % 2 = 1 then 0 else s.rd (F.OBS_CNT_OVF i)) ∧
      (t.rd (F.OBS_CNT_CARRY_LOST i) = if w / 2 ^ 49 % 2 = 1 then 0 else s.rd (F.OBS_CNT_CARRY_LOST i)) ∧ t.hub = s.hub ∧
      RegOnly [F.OBS_CNT_COUNT i, F.OBS_CNT_OVF i, F.OBS_CNT_CARRY_LOST i] s t ∧ t.still s = s ∧ MemFrame s t) ∧
  (∀ (s : State) (i : Nat),
      s.hostReady = true → i < 512 → i % 2 = 0 → s.on (F.OBS_CNT_SEL_CHAIN i) = true →
      ∃ t, exec (.chainedCounterRead i) s = .next t ∧
      t.hostIf =
        { s.hostIf with lastRead := s.rd (F.OBS_CNT_COUNT i) + 2 ^ 48 * s.rd (F.OBS_CNT_OVF i) + 2 ^ 49 * s.rd (F.OBS_CNT_CARRY_LOST i) }
        ∧ t.rd F.OBS_CNT_HI_COUNT = s.rd (F.OBS_CNT_COUNT (i + 1)) ∧ t.hub = s.hub ∧ RegOnly [F.OBS_CNT_HI_COUNT] s t ∧
      { t.still s with hostIf := s.hostIf } = s ∧ MemFrame s t) ∧
  (∀ (s : State) (i : Nat),
      s.hostReady = true → i < 512 → (i % 2 = 1 ∨ s.on (F.OBS_CNT_SEL_CHAIN i) = false) →
      ∃ t, exec (.chainedCounterRead i) s = .next t ∧
      t.hostIf =
        { s.hostIf with lastRead := s.rd (F.OBS_CNT_COUNT i) + 2 ^ 48 * s.rd (F.OBS_CNT_OVF i) + 2 ^ 49 * s.rd (F.OBS_CNT_CARRY_LOST i) }
        ∧ t.regs = s.regs ∧ t.hub = s.hub ∧ { t.calm s with hostIf := s.hostIf } = s ∧ MemFrame s t) ∧
  (∀ (s : State),
      s.hostReady = true →
      ∃ t, exec (.snapshot) s = .next t ∧ t.obs = { s.obs with snapWanted := true } ∧ t.regs = s.regs ∧ t.hub = s.hub ∧
      { t.calm s with obs := s.obs } = s ∧ MemFrame s t) ∧
  (∀ (s : State) (h : Nat),
      s.hostReady = true → h < 32 →
      ∃ t, exec (.histClear h) s = .next t ∧ t.obs = { s.obs with histClear := s.obs.histClear ++ [h] } ∧ t.regs = s.regs ∧
      t.hub = s.hub ∧ { t.calm s with obs := s.obs } = s ∧ MemFrame s t) ∧
  (∀ (s : State) (r : SkimRec) (l : List SkimRec),
      s.works = true → s.obs.finished = r :: l → s.obs.skim.length < 512 →
      ∃ t, exec (.skimRecord) s = .next t ∧ t.obs.skim = s.obs.skim ++ [{ r with seq := (s.obs.skimSeq + 1) % 2 ^ 24 }] ∧
      t.obs.finished = l ∧ t.obs.skimSeq = (s.obs.skimSeq + 1) % 2 ^ 24 ∧ t.rd F.OBS_SKIM_STAT_RECORDS = s.obs.skim.length + 1 ∧
      RegFrame [F.OBS_SKIM_STAT_RECORDS, F.OBS_SKIM_REC_BYTES 0, F.OBS_SKIM_REC_BYTES 1, F.OBS_SKIM_REC_BYTES 2, F.OBS_SKIM_REC_BYTES 3,
        F.OBS_SKIM_REC_BYTES 4, F.OBS_SKIM_REC_BYTES 5, F.OBS_SKIM_REC_BYTES 6, F.OBS_SKIM_REC_BYTES 7] s t ∧
      { t.calm s with obs := s.obs } = s ∧ MemFrame s t) ∧
  (∀ (s : State),
      s.works = true → (512 ≤ s.obs.skim.length ∨ s.obs.finished = []) →
      ∃ t, exec (.skimRecord) s = .next t ∧ t = s) ∧
  (∀ (s : State),
      s.hostReady = true → s.obs.skim.length ≤ 512 →
      ∃ t, exec (.skimPop) s = .next t ∧ t.obs = { s.obs with skim := s.obs.skim.drop 1, skimFull := false } ∧
      t.rd F.OBS_SKIM_STAT_RECORDS = s.obs.skim.length - 1 ∧ t.hub = s.hub ∧
      RegFrame [F.OBS_SKIM_STAT_RECORDS, F.OBS_SKIM_REC_BYTES 0, F.OBS_SKIM_REC_BYTES 1, F.OBS_SKIM_REC_BYTES 2, F.OBS_SKIM_REC_BYTES 3,
        F.OBS_SKIM_REC_BYTES 4, F.OBS_SKIM_REC_BYTES 5, F.OBS_SKIM_REC_BYTES 6, F.OBS_SKIM_REC_BYTES 7] s t ∧
      { t.calm s with obs := s.obs } = s ∧ MemFrame s t) ∧
  (∀ (s : State) (v k w : Nat),
      s.hostReady = true → v < 16 → k < 512 → w < 2 ^ 64 →
      ∃ t, exec (.viewBind v k w) s = .next t ∧ t.rd (F.OBS_VIEW_BIND_KIND v k) = w % 8 ∧
      t.rd (F.OBS_VIEW_BIND_ARG v k) = w / 2 ^ 32 % 2 ^ 26 ∧
      t.rd (F.OBS_VIEW_BIND_BAD v k) = bit (w % 8 == 4 && viewForbidden (w / 2 ^ 32 % 2 ^ 26)) ∧ t.hub = s.hub ∧
      RegFrame [F.OBS_VIEW_BIND_KIND v k, F.OBS_VIEW_BIND_ARG v k, F.OBS_VIEW_BIND_BAD v k] s t ∧ t.calm s = s ∧ MemFrame s t) ∧
  (∀ (s : State) (v : Nat),
      s.hostReady = true → v < 16 →
      ∃ t, exec (.viewWrite v) s = .next t ∧ t.rd (F.OBS_VIEW_CFG_WRITES v) = min (s.rd (F.OBS_VIEW_CFG_WRITES v) + 1) 65535 ∧
      (s.hub.secRaised.contains E.OBS_VIEW_WRITE.id = false → t.status E.OBS_VIEW_WRITE = true) ∧
      RegFrame [F.OBS_VIEW_CFG_WRITES v] s t ∧ t.calm s = s ∧ MemFrame s t)

/-- The unlock, arming and expiry of fault injection (R466 to R468). One first key is pending for all links (the model's choice, NOTES.md).
  The model's choices: one first key for all links, what a key out of sequence does, and a locked link's word (log entry 55). -/
def Obligations.InjectionUnlockAndArming : Prop :=
  (∀ (s : State) (l : Nat),
      s.hostReady = true → l < 51 → s.mode ≠ mHolding → s.mode ≠ mAsleep → s.obs.injKey = none →
      ∃ t, exec (.injUnlockKey l 0x4B17) s = .next t ∧ t.obs = { s.obs with injKey := some (l, s.nowNs) } ∧
      t.rd (F.OBS_INJ_STAT_UNLOCKED l) = s.rd (F.OBS_INJ_STAT_UNLOCKED l) ∧ t.hub = s.hub ∧
      RegOnly [F.OBS_INJ_UNLOCK_LINK, F.OBS_INJ_UNLOCK_KEY] s t ∧ { t.still s with obs := s.obs } = s ∧ MemFrame s t) ∧
  (∀ (s : State) (l : Nat) (n : Nat),
      s.hostReady = true → l < 51 → s.mode ≠ mHolding → s.mode ≠ mAsleep → s.obs.injKey = some (l, n) → s.nowNs ≤ n + 1000000 →
      ∃ t, exec (.injUnlockKey l 0xB4E8) s = .next t ∧ t.rd (F.OBS_INJ_STAT_UNLOCKED l) = 1 ∧ t.rd (F.OBS_INJ_STAT_SECONDS l) = 60 ∧
      (t.link l).ends = s.ticks + 480000 ∧ t.obs.injKey = none ∧ (∀ j, j ≠ l → t.link j = s.link j) ∧ t.hub = s.hub ∧
      RegOnly [F.OBS_INJ_UNLOCK_LINK, F.OBS_INJ_UNLOCK_KEY, F.OBS_INJ_STAT_UNLOCKED l, F.OBS_INJ_STAT_SECONDS l] s t ∧
      { t.still s with obs := s.obs } = s ∧ MemFrame s t) ∧
  (∀ (s : State) (l : Nat) (k : Nat),
      s.hostReady = true → l < 64 → k < 2 ^ 16 → (if s.obs.injKey = none then k ≠ 0x4B17 else k ≠ 0xB4E8) →
      ∃ t, exec (.injUnlockKey l k) s = .next t ∧ t.obs = { s.obs with injKey := none } ∧
      t.rd (F.OBS_INJ_STAT_UNLOCKED l) = s.rd (F.OBS_INJ_STAT_UNLOCKED l) ∧ t.status E.OBS_INJ_REFUSED = true ∧
      RegFrame [F.OBS_INJ_UNLOCK_LINK, F.OBS_INJ_UNLOCK_KEY] s t ∧ { t.calm s with obs := s.obs } = s ∧ MemFrame s t) ∧
  (∀ (s : State) (l w : Nat),
      s.hostReady = true → l < 51 → w < 2 ^ 64 → s.on (F.OBS_INJ_STAT_UNLOCKED l) = true →
      ∃ t, exec (.injCfgWrite l w) s = .next t ∧ t.rd (F.OBS_INJ_CFG_ACTION l) = w % 4 ∧
      (t.rd (F.OBS_INJ_STAT_ARMED l) = if w % 4 = 0 then 0 else 1) ∧ t.hub = s.hub ∧ (t.link l) = { s.link l with items := 0 } ∧
      RegOnly [F.OBS_INJ_CFG_ACTION l, F.OBS_INJ_CFG_SEL_LOG2 l, F.OBS_INJ_CFG_TERM l, F.OBS_INJ_CFG_SHIFT l, F.OBS_INJ_CFG_DEPTH l,
        F.OBS_INJ_CFG_RATE_M l, F.OBS_INJ_CFG_RATE_E l, F.OBS_INJ_CFG_COUNT l, F.OBS_INJ_STAT_ARMED l] s t ∧
      { t.still s with obs := s.obs } = s ∧ MemFrame s t) ∧
  (∀ (s : State) (l w : Nat),
      s.hostReady = true → l < 51 → w < 2 ^ 64 → s.on (F.OBS_INJ_STAT_UNLOCKED l) = false →
      ∃ t, exec (.injCfgWrite l w) s = .next t ∧ t.rd (F.OBS_INJ_CFG_ACTION l) = w % 4 ∧
      t.rd (F.OBS_INJ_STAT_ARMED l) = s.rd (F.OBS_INJ_STAT_ARMED l) ∧ t.hub = s.hub ∧
      RegOnly [F.OBS_INJ_CFG_ACTION l, F.OBS_INJ_CFG_SEL_LOG2 l, F.OBS_INJ_CFG_TERM l, F.OBS_INJ_CFG_SHIFT l, F.OBS_INJ_CFG_DEPTH l,
        F.OBS_INJ_CFG_RATE_M l, F.OBS_INJ_CFG_RATE_E l, F.OBS_INJ_CFG_COUNT l] s t ∧ t.still s = s ∧ MemFrame s t) ∧
  (∀ (s : State) (l : Nat),
      s.ticking = true → l < 51 → (s.link l).ends ≠ 0 → (s.link l).ends ≤ s.ticks + 1 → s.mode ≠ mProving →
      ∃ t, exec (.injExpired l) s = .next t ∧ t.link l = { s.link l with ends := 0, expiring := true } ∧
      t.status E.OBS_INJ_EXPIRED = true ∧ RegFrame [] s t ∧ { t.calm s with obs := s.obs } = s ∧ MemFrame s t) ∧
  (∀ (s : State) (l : Nat),
      s.ticking = true → l < 51 → (s.link l).ends ≠ 0 → (s.link l).ends ≤ s.ticks + 1 → s.mode = mProving →
      ∃ t, exec (.injExpired l) s = .next t ∧ t.link l = { s.link l with ends := 0 } ∧ t.regs = s.regs ∧ t.hub = s.hub ∧
      { t.calm s with obs := s.obs } = s ∧ MemFrame s t)

/-- R65, whole: the three cases in which a write to PWR_SAG_CFG is ignored, and what an ignored write does. -/
def Obligations.ThresholdWritesIgnored : Prop :=
  (∀ (s : State) (warn sag : Nat),
      s.hostReady = true → warn < 65536 → sag < 65536 → ((warn < 4400 ∨ 16000 < warn) ∨ (sag < 4200 ∨ 15000 < sag) ∨ warn < sag + 200) →
      ∃ t, exec (.sagCfgWrite (warn + 65536 * sag)) s = .next t ∧ t.rd F.PWR_SAG_CFG_V_WARN_MV = s.rd F.PWR_SAG_CFG_V_WARN_MV ∧
      t.rd F.PWR_SAG_CFG_V_SAG_MV = s.rd F.PWR_SAG_CFG_V_SAG_MV ∧ t.rd F.PWR_MODE_STAT_REFUSE_CODE = 4 ∧
      t.status E.PWR_MODE_REFUSED = true ∧ RegFrame [F.PWR_MODE_STAT_REFUSE_CODE] s t ∧ t.calm s = s ∧ MemFrame s t) ∧
  (∀ (s : State) (warn sag : Nat),
      s.hostReady = true → warn < 65536 → sag < 65536 → s.mode = mHolding →
      ∃ t, exec (.sagCfgWrite (warn + 65536 * sag)) s = .next t ∧ t.rd F.PWR_SAG_CFG_V_WARN_MV = s.rd F.PWR_SAG_CFG_V_WARN_MV ∧
      t.rd F.PWR_SAG_CFG_V_SAG_MV = s.rd F.PWR_SAG_CFG_V_SAG_MV ∧ t.rd F.PWR_MODE_STAT_REFUSE_CODE = 4 ∧
      t.status E.PWR_MODE_REFUSED = true ∧ RegFrame [F.PWR_MODE_STAT_REFUSE_CODE] s t ∧ t.calm s = s ∧ MemFrame s t) ∧
  (∀ (s : State) (warn sag : Nat),
      s.hostReady = true → warn < 65536 → sag < 65536 →
      (¬ ((warn < 4400 ∨ 16000 < warn) ∨ (sag < 4200 ∨ 15000 < sag) ∨ warn < sag + 200)) → s.mode ≠ mHolding →
      ∃ t, exec (.sagCfgWrite (warn + 65536 * sag)) s = .next t ∧ t.rd F.PWR_SAG_CFG_V_WARN_MV = warn ∧
      t.rd F.PWR_SAG_CFG_V_SAG_MV = sag ∧ t.hub = s.hub ∧ RegOnly [F.PWR_SAG_CFG_V_WARN_MV, F.PWR_SAG_CFG_V_SAG_MV] s t ∧ t.calm s = s ∧
      MemFrame s t)

/-- R66, whole. More than 1 ms has passed where the operand `late` says so, or where the model's clock does. More than 1 ms has passed by the
  model's own instants, which are free inside a frame (log entries 4, 25). -/
def Obligations.SaveDisarming : Prop :=
  (∀ (s : State) (a late : Bool),
      s.hostReady = true →
      ∃ t, exec (.saveDisarmKey 0x9E3A late a) s = .next t ∧ t.rd F.PWR_SAVE_ARM_ARMED = s.rd F.PWR_SAVE_ARM_ARMED ∧
      t.pwr = { s.pwr with disarmKey := true, disarmAt := s.nowNs } ∧ t.rd F.PWR_SAVE_ARM_AUTO_RESUME = bit a ∧ t.hub = s.hub ∧
      RegOnly [F.PWR_SAVE_ARM_AUTO_RESUME] s t ∧ { t.calm s with pwr := s.pwr } = s) ∧
  (∀ (s : State) (a : Bool),
      s.hostReady = true → s.pwr.disarmKey = true → s.nowNs ≤ s.pwr.disarmAt + 1000000 → s.on F.PWR_SAVE_ARM_ARMED = true →
      ∃ t, exec (.saveDisarmKey 0x61C5 false a) s = .next t ∧ t.rd F.PWR_SAVE_ARM_ARMED = 0 ∧ t.status E.PWR_SAVE_DISARMED = true ∧
      t.pwr = { s.pwr with disarmKey := false } ∧ t.rd F.PWR_SAVE_ARM_AUTO_RESUME = bit a ∧
      RegFrame [F.PWR_SAVE_ARM_ARMED, F.PWR_SAVE_ARM_AUTO_RESUME] s t ∧ { t.calm s with pwr := s.pwr } = s) ∧
  (∀ (s : State) (k : Nat) (a late : Bool),
      s.hostReady = true → k < 65536 → k ≠ 0x9E3A →
      (k ≠ 0x61C5 ∨ late = true ∨ s.pwr.disarmKey = false ∨ s.pwr.disarmAt + 1000000 < s.nowNs) →
      ∃ t, exec (.saveDisarmKey k late a) s = .next t ∧ t.rd F.PWR_SAVE_ARM_ARMED = s.rd F.PWR_SAVE_ARM_ARMED ∧
      t.pwr = { s.pwr with disarmKey := false } ∧ t.rd F.PWR_SAVE_ARM_AUTO_RESUME = bit a ∧ t.hub = s.hub ∧
      RegOnly [F.PWR_SAVE_ARM_AUTO_RESUME] s t ∧ { t.calm s with pwr := s.pwr } = s)

/-- R69, whole.  ERR 12 is the code of every command refused under R69. -/
def Obligations.SlotCommandsRefused : Prop :=
  (∀ (s : State) (k : Nat),
      s.hostReady = true → k < 2 → s.slotRead k = true →
      ∃ t, exec (.imgVerify k) s = .next t ∧ t.rd (F.CFG_IMG_STAT_ERR k) = 12 ∧ t.status E.CFG_IMG_REJECTED = true ∧
      t.rd (F.CFG_IMG_STAT_VERIFIED k) = s.rd (F.CFG_IMG_STAT_VERIFIED k) ∧ t.slot k = s.slot k ∧
      RegFrame [F.CFG_IMG_CMD_SLOT, F.CFG_IMG_CMD_OP, F.CFG_IMG_STAT_ERR k] s t ∧ t.calm s = s) ∧
  (∀ (s : State) (k : Nat),
      s.hostReady = true → k < 2 → s.slotRead k = true →
      ∃ t, exec (.imgInvalidate k) s = .next t ∧ t.rd (F.CFG_IMG_STAT_ERR k) = 12 ∧ t.status E.CFG_IMG_REJECTED = true ∧
      t.rd (F.CFG_IMG_STAT_VERIFIED k) = s.rd (F.CFG_IMG_STAT_VERIFIED k) ∧ t.slot k = s.slot k ∧
      RegFrame [F.CFG_IMG_CMD_SLOT, F.CFG_IMG_CMD_OP, F.CFG_IMG_STAT_ERR k] s t ∧ t.calm s = s) ∧
  (∀ (s : State) (k : Nat),
      s.hostReady = true → k < 2 → s.cfg.running.isSome = true → s.cfg.runSlot = k →
      ∃ t, exec (.imgInvalidate k) s = .next t ∧ t.rd (F.CFG_IMG_STAT_ERR k) = 12 ∧ t.status E.CFG_IMG_REJECTED = true ∧
      t.rd (F.CFG_IMG_STAT_VERIFIED k) = s.rd (F.CFG_IMG_STAT_VERIFIED k) ∧ t.slot k = s.slot k ∧
      RegFrame [F.CFG_IMG_CMD_SLOT, F.CFG_IMG_CMD_OP, F.CFG_IMG_STAT_ERR k] s t ∧ t.calm s = s)

/-- R497 by State's reading of it (R36, R131, R132, R403, R435). The pins as values of the state are the model's choice (log entry 58). -/
def Obligations.PinsFollowTheMode : Prop :=
  (∀ (s : State) (n : Nat),
      s.awake = true → s.hostIf.endpoint = true → s.scanHolds = false → s.mode = mStandby →
      s.benPin n = .low ∧ s.treeLanes = .idle ∧ s.linkLanes = .live ∧ s.hbLane = .live) ∧
  (∀ (s : State) (n : Nat),
      s.awake = true → s.scanHolds = false → s.mode = mAsleep →
      s.benPin n = .highZ ∧ s.menPin n = .highZ ∧ s.arbReqPin = .highZ ∧ s.evtPin = .highZ ∧ s.treeLanes = .off ∧ s.linkLanes = .off ∧
      s.hbLane = .off ∧ s.i2cTarget = .live ∧ s.pcieLanes = .off) ∧
  (∀ (s : State) (n : Nat),
      s.awake = true → s.hostIf.endpoint = true → s.scanHolds = false → s.mode = mHolding →
      s.arbReqPin = .low ∧ s.hbLane = .off ∧ s.menPin n = levelOf (s.on (F.TPA_STAT_MEN n)) ∧
      (s.pwr.quiesced = true → s.benPin n = .low) ∧ (s.pwr.quiesced = true → s.treeLanes = .off) ∧
      (s.pwr.quiesced = true → s.linkLanes = .off) ∧ (s.pwr.quiesced = true → s.pcieLanes = .off))

/-- TICK in every mode in which ticks run (R12, R16, R31, R43, R61, R91): a next state, and what it holds, under conditions on the state and
  the measured supply alone. What a tick does as a whole and in which order is the model's choice (log entry 7), a promoting verdict
  apart (log entry 26); the next instant of a unit that stepped (log entry 51), DRAM that nothing has written (log entry 3), and what a
  start brings up (log entries 19, 20). -/
def Obligations.TickCompletes : Prop :=
  (∀ (s : State) (u : Supply),
      s.ticking = true → s.works = true → s.pwr.leaving = SaveThen.resume → s.pwr.modeReq = none → s.cfg.commits = [] →
      ∃ t, exec (.tick u) s = .next t ∧ t.ticks = s.ticks + 1 ∧ t.flash = s.flash ∧ t.hostMem = s.hostMem ∧ t.mode = s.mode ∧
      t.tsu.sec = s.nextUnit / 1000000000 % 2 ^ 48 ∧ t.tsu.ns = s.nextUnit % 1000000000 ∧ t.rd F.PWR_VIN_VIN_MV = u.vinMv % 65536 ∧
      t.rd F.PWR_HOLD_HOLD_MV = u.holdMv % 65536 ∧ t.rd F.PWR_PIN_PIN_10MW = u.pin10mw % 2 ^ F.PWR_PIN_PIN_10MW.width) ∧
  (∀ (s : State) (u : Supply) (m : Nat),
      s.ticking = true → s.works = true → s.pwr.leaving = SaveThen.resume → s.cfg.commits = [] → s.prt.verdict = none →
      s.pwr.modeReq = some ⟨m, none⟩ → isService s.mode = true → isService m = true → m ≠ s.mode →
      (s.wr F.PWR_VIN_VIN_MV u.vinMv).floorMet m = true → (m = mLean → s.leanFits = true) → s.waitsStagger m = false →
      ∃ t, exec (.tick u) s = .next t ∧ t.ticks = s.ticks + 1 ∧ t.flash = s.flash ∧ t.hostMem = s.hostMem ∧ t.mode = m ∧
      t.rd F.PWR_MODE_PREV = s.mode ∧ t.rd F.PWR_MODE_CHANGES = (s.rd F.PWR_MODE_CHANGES + 1) % 2 ^ F.PWR_MODE_CHANGES.width) ∧
  (∀ (s : State) (u : Supply),
      s.ticking = true → s.works = true → s.pwr.leaving = SaveThen.resume → s.cfg.commits = [] → s.prt.verdict = none →
      s.pwr.modeReq = some ⟨mAsleep, none⟩ → s.pwr.save = none →
      ∃ t, exec (.tick u) s = .next t ∧ t.ticks = s.ticks + 1 ∧ t.flash = s.flash ∧ t.hostMem = s.hostMem ∧ t.mode = s.mode ∧
      t.on F.PWR_SAVE_STAT_BUSY = true ∧
      (∃ r, t.pwr.save = some r ∧ r.brownout = false ∧ r.cause = 4 ∧ r.after = SaveThen.sleep ∧ r.staging = true)) ∧
  (∀ (s : State) (u : Supply),
      s.ticking = true → s.works = true → s.pwr.leaving = SaveThen.resume → s.cfg.commits = [] → s.prt.verdict = none →
      s.pwr.modeReq = some ⟨mStarting, none⟩ → s.pwr.save = none →
      ∃ t, exec (.tick u) s = .next t ∧ t.ticks = s.ticks + 1 ∧ t.flash = s.flash ∧ t.hostMem = s.hostMem ∧ t.mode = s.mode ∧
      t.on F.PWR_SAVE_STAT_BUSY = true ∧
      (∃ r, t.pwr.save = some r ∧ r.brownout = false ∧ r.cause = 5 ∧ r.after = SaveThen.restart ∧ r.staging = true)) ∧
  (∀ (s : State) (u : Supply) (g gen : Nat),
      s.ticking = true → s.works = true → s.pwr.leaving = SaveThen.resume → s.cfg.loads = [] → s.cfg.commits = [⟨g, gen⟩] → g < 52 →
      gen < 65536 →
      ∃ t, exec (.tick u) s = .next t ∧ t.ticks = s.ticks + 1 ∧ t.rd (F.CFG_GEN_CUR g) = gen ∧ t.rd (F.CFG_GEN_PENDING g) = 0 ∧
      t.cfg.commits = []) ∧
  (∀ (s : State) (u : Supply) (gen g : Nat),
      s.ticking = true → s.works = true → s.pwr.leaving = SaveThen.resume → SMap.rising s.shadow = true → s.cfg.loads = [] →
      s.cfg.commits = [⟨48, gen⟩] → g < 48 →
      ∃ t, exec (.tick u) s = .next t ∧ t.rd (F.HIF_EVT_EN_EN g) = s.rdShadow (F.HIF_EVT_EN_EN g)) ∧
  (∀ (s : State) (u : Supply),
      s.ticking = true → s.prt.verdict = none → s.pwr.leaving = SaveThen.sleep → s.pwr.resetWaits = false →
      ∃ t, exec (.tick u) s = .next t ∧ t.ticks = s.ticks + 1 ∧ t.flash = s.flash ∧ t.hostMem = s.hostMem ∧ t.mode = mAsleep ∧
      t.dram = [] ∧ t.pwr.leaving = SaveThen.resume ∧ t.pwr.save = none ∧ t.pwr.fromHolding = false) ∧
  (∀ (s : State) (u : Supply),
      s.ticking = true → s.prt.verdict = none → s.pwr.leaving = SaveThen.restart →
      (s.wr F.PWR_VIN_VIN_MV u.vinMv).floorMet mStarting = true →
      ∃ t, exec (.tick u) s = .next t ∧ t.mode = mStarting ∧ t.rd F.CFG_BOOT_STAT_CAUSE = 4 ∧ t.rd F.CFG_BOOT_STAT_STEP = 1 ∧
      t.cfg.run = some (RunStep.mk 1 false 1 false) ∧ t.ticks = 0 ∧ t.flash = s.flash ∧ t.hostMem = s.hostMem) ∧
  (∀ (s : State) (u : Supply),
      s.ticking = true → s.mode = mHolding → s.pwr.leaving = SaveThen.resume →
      ∃ t, exec (.tick u) s = .next t ∧ t.ticks = s.ticks + 1 ∧ t.flash = s.flash ∧ t.hostMem = s.hostMem ∧ t.mode = mHolding ∧
      t.dram = s.dram ∧ t.tsu.sec = s.nextUnit / 1000000000 % 2 ^ 48 ∧ t.tsu.ns = s.nextUnit % 1000000000 ∧
      t.rd F.PWR_VIN_VIN_MV = u.vinMv % 65536 ∧ t.rd F.PWR_HOLD_HOLD_MV = u.holdMv % 65536)

/-- ONE_SECOND_BOUNDARY in every mode in which ticks run (R17): a next state, and what it holds, under conditions on the state alone. The
  model's choices: what the boundary does (log entries 1, 7), once in a tick whose nanoseconds are 0 (log entry 52), the steering of FREQ
  (log entry 49), SAGE's tasks (log entry 54), and the AUTO snapshot (log entry 56). -/
def Obligations.SecondBoundaryCompletes : Prop :=
  (∀ (s : State) (r : SageIn),
      s.ticking = true → s.tsu.ns = 0 → s.tsu.stepped = false → s.ticks ≠ 0 → s.secondAt ≠ s.ticks → s.works = true →
      ∃ t, exec (.oneSecondBoundary r) s = .next t ∧ t.secondAt = s.ticks ∧ t.ticks = s.ticks ∧ t.tsu = (tsuSecond s).tsu ∧
      MemFrame s t ∧ t.mode = s.mode ∧ (t.tpa.all (fun e => e.2.lockFails == 0) = true) ∧
      (if (s.obs.snapWanted || s.on F.OBS_SNAP_CMD_AUTO) = true then t.rd F.OBS_SNAP_CMD_SEQ = (s.rd F.OBS_SNAP_CMD_SEQ + 1) % 65536 else
        t.rd F.OBS_SNAP_CMD_SEQ = s.rd F.OBS_SNAP_CMD_SEQ)) ∧
  (∀ (s : State) (r : SageIn),
      s.ticking = true → s.tsu.ns = 0 → s.tsu.stepped = false → s.ticks ≠ 0 → s.secondAt ≠ s.ticks → s.works = false →
      ∃ t, exec (.oneSecondBoundary r) s = .next t ∧ t.secondAt = s.ticks ∧ t.ticks = s.ticks ∧ t.tsu = (tsuSecond s).tsu ∧
      MemFrame s t ∧ RegFrame [F.TSU_FREQ_FREQ] s t ∧
      (s.synceRuns = false → s.tsu.holdAt = none → t.regs = s.regs ∧ t.hub = { s.hub with secRaised := [] } ∧ t.tsu = s.tsu) ∧
      t.pwr = s.pwr ∧ t.prt = s.prt) ∧
  (∀ (s : State) (r : SageIn),
      s.ticking = true → (s.tsu.ns ≠ 0 ∨ s.tsu.stepped = true ∨ s.ticks = 0 ∨ s.secondAt = s.ticks) →
      ∃ t, exec (.oneSecondBoundary r) s = .next t ∧ t = s) ∧
  (∀ (s : State) (r : SageIn),
      s.ticking = false →
      ∃ t, exec (.oneSecondBoundary r) s = .next t ∧ t = s)

/-- Steps 2 to 14 of the boot (R101, R102, R104, R107, R108, R110 to R112), the rails (R490) and SCAN_N (R494), training (R370), the first
  generations (R78) and service enable (R40). The model's choices: which steps the model judges, what their operands are, and DETAIL at
  steps 2 and 13 (log entry 20); TRIES, RETRY_MAX and AFTER_ALT out of their range (log entry 21); isolated tiles from 32 up (log entry
  66); a policy's entries by position, and traffic while a mode is awaited (log entry 70); what a start brings up (log entries 3, 19). -/
def Obligations.BootPath : Prop :=
  (∀ (s : State) (a mk : Nat),
      s.works = true → s.cfg.run = some ⟨2, false, a, false⟩ → s.cfg.scan = false →
      ∃ t, exec (.bootStepEnd true 0 mk) s = .next t ∧ t.cfg.run = some (RunStep.mk 3 false 1 false) ∧ t.rd F.CFG_BOOT_STAT_STEP = 3 ∧
      t.rd (F.CFG_BOOT_STEP_OUTCOME 2) = 1 ∧ t.rd (F.CFG_BOOT_STEP_OUTCOME 3) = 7 ∧ t.rd F.PWR_HOLD_CHG_ON = 1 ∧
      t.hostIf = { s.hostIf with endpoint := true } ∧ t.pwr = { s.pwr with rails := railOrder } ∧
      RegFrame [F.CFG_BOOT_STAT_STEP, F.CFG_BOOT_STEP_OUTCOME 2, F.CFG_BOOT_STEP_OUTCOME 3, F.CFG_BOOT_STEP_ATTEMPTS 3,
        F.PWR_HOLD_CHG_ON] s t ∧ { t.calm s with cfg := s.cfg, pwr := s.pwr, hostIf := s.hostIf } = s) ∧
  (∀ (s : State) (a mk : Nat),
      s.works = true → s.cfg.run = some ⟨2, false, a, false⟩ → s.cfg.scan = true →
      ∃ t, exec (.bootStepEnd true 0 mk) s = .next t ∧ t.cfg.run = none ∧ t.rd (F.CFG_BOOT_STEP_OUTCOME 2) = 1 ∧
      t.rd F.PWR_HOLD_CHG_ON = 1 ∧ t.hostIf = { s.hostIf with endpoint := true } ∧ t.pwr = { s.pwr with rails := railOrder } ∧
      RegFrame [F.CFG_BOOT_STEP_OUTCOME 2, F.PWR_HOLD_CHG_ON] s t ∧
      { t.calm s with cfg := s.cfg, pwr := s.pwr, hostIf := s.hostIf } = s) ∧
  (∀ (s : State) (ok : Bool) (a d mk : Nat),
      s.works = true → s.cfg.run = some ⟨2, false, a, false⟩ → 1 ≤ d ∧ d ≤ 7 → a < 3 →
      ∃ t, exec (.bootStepEnd ok d mk) s = .next t ∧ t.cfg.run = some (RunStep.mk 2 false (a + 1) false) ∧
      t.rd (F.CFG_BOOT_STEP_OUTCOME 2) = 7 ∧
      t.rd (F.CFG_BOOT_STEP_ATTEMPTS 2) = min (s.rd (F.CFG_BOOT_STEP_ATTEMPTS 2) + 1) (2 ^ (F.CFG_BOOT_STEP_ATTEMPTS 2).width - 1) ∧
      t.status E.CFG_BOOT_STEP_FAILED = true ∧ t.rd F.CFG_BOOT_STAT_STEP = s.rd F.CFG_BOOT_STAT_STEP ∧
      t.pwr = { s.pwr with rails := railOrder.take (d - 1) } ∧ RegFrame [F.CFG_BOOT_STEP_OUTCOME 2, F.CFG_BOOT_STEP_ATTEMPTS 2] s t ∧
      { t.calm s with cfg := s.cfg, pwr := s.pwr } = s) ∧
  (∀ (s : State) (k a d mk : Nat),
      s.works = true → s.cfg.run = some ⟨k, false, a, false⟩ → k ∈ [3, 4, 5, 10, 11, 12, 13, 14] → a < clampTo 1 8 (s.entry k).tries →
      ∃ t, exec (.bootStepEnd false d mk) s = .next t ∧ t.cfg.run = some (RunStep.mk k false (a + 1) false) ∧
      t.rd (F.CFG_BOOT_STEP_OUTCOME k) = 7 ∧
      t.rd (F.CFG_BOOT_STEP_ATTEMPTS k) = min (s.rd (F.CFG_BOOT_STEP_ATTEMPTS k) + 1) (2 ^ (F.CFG_BOOT_STEP_ATTEMPTS k).width - 1) ∧
      t.status E.CFG_BOOT_STEP_FAILED = true ∧ t.rd F.CFG_BOOT_STAT_STEP = s.rd F.CFG_BOOT_STAT_STEP ∧ MemFrame s t) ∧
  (∀ (s : State) (k a : Nat),
      s.works = true → s.cfg.run = some ⟨k, false, a, false⟩ → k ∈ [3, 4, 5, 6, 7, 8, 9, 10, 11, 12, 13, 14] →
      a < clampTo 1 8 (s.entry k).tries →
      ∃ t, exec (.bootStepTimeout) s = .next t ∧ t.cfg.run = some (RunStep.mk k false (a + 1) false) ∧
      t.rd (F.CFG_BOOT_STEP_OUTCOME k) = 7 ∧
      t.rd (F.CFG_BOOT_STEP_ATTEMPTS k) = min (s.rd (F.CFG_BOOT_STEP_ATTEMPTS k) + 1) (2 ^ (F.CFG_BOOT_STEP_ATTEMPTS k).width - 1) ∧
      t.status E.CFG_BOOT_STEP_FAILED = true ∧ t.rd F.CFG_BOOT_STAT_STEP = s.rd F.CFG_BOOT_STAT_STEP) ∧
  (∀ (s : State) (k a d mk : Nat),
      s.works = true → s.cfg.run = some ⟨k, false, a, false⟩ → k ∈ [5, 10, 11, 12, 13, 14] → clampTo 1 8 (s.entry k).tries ≤ a →
      s.cfg.mem.length = 14 → min ((s.stepMem k).streak + 1) 255 ≤ (s.entry k).retryMax →
      ∃ t, exec (.bootStepEnd false d mk) s = .next t ∧ t.mode = mStarting ∧ t.rd F.CFG_BOOT_STAT_CAUSE = 7 ∧
      t.rd F.CFG_BOOT_STAT_STEP = 1 ∧ t.cfg.run = some (RunStep.mk 1 false 1 false) ∧ t.dram = [] ∧ t.flash = s.flash ∧
      t.hostMem = s.hostMem ∧ t.pending = s.pending) ∧
  (∀ (s : State) (k a d mk : Nat),
      s.works = true → s.cfg.run = some ⟨k, false, a, false⟩ → k ∈ [5, 10, 11, 12, 13, 14] → clampTo 1 8 (s.entry k).tries ≤ a →
      s.cfg.mem.length = 14 → (s.entry k).retryMax < min ((s.stepMem k).streak + 1) 255 → (s.entry k).escalates k = 3 →
      ∃ t, exec (.bootStepEnd false d mk) s = .next t ∧ t.cfg.run = none ∧ t.rd F.CFG_BOOT_STAT_HALTED = 1 ∧
      t.rd F.CFG_BOOT_STAT_HALT_STEP = k ∧ t.rd F.CFG_BOOT_STAT_HALT_OUTCOME = 4 ∧ t.rd (F.CFG_BOOT_STEP_ACTION k) = 3 ∧
      t.rd (F.CFG_BOOT_STEP_STREAK k) = min ((s.stepMem k).streak + 1) 255 ∧ t.status E.CFG_BOOT_HALTED = true ∧
      t.status E.CFG_BOOT_STEP_FAILED = true ∧ MemFrame s t) ∧
  (∀ (s : State) (k a d mk : Nat),
      s.works = true → s.cfg.run = some ⟨k, false, a, false⟩ → k ∈ [5, 10, 11, 12, 13, 14] → clampTo 1 8 (s.entry k).tries ≤ a →
      s.cfg.mem.length = 14 → (s.entry k).retryMax < min ((s.stepMem k).streak + 1) 255 → (k = 10 ∨ k = 13) →
      (s.entry k).escalates k = 2 → (s.stepMem k).altBad = false →
      ∃ t, exec (.bootStepEnd false d mk) s = .next t ∧ t.cfg.run = some (RunStep.mk k true 1 false) ∧
      t.rd (F.CFG_BOOT_STEP_ACTION k) = 2 ∧ t.rd (F.CFG_BOOT_STEP_OUTCOME k) = 7 ∧ t.status E.CFG_BOOT_ESCALATED = true ∧ MemFrame s t) ∧
  (∀ (s : State) (k a d mk : Nat),
      s.works = true → s.cfg.run = some ⟨k, false, a, false⟩ → k ∈ [5, 10, 11, 12, 13, 14] → clampTo 1 8 (s.entry k).tries ≤ a →
      s.cfg.mem.length = 14 → (s.entry k).retryMax < min ((s.stepMem k).streak + 1) 255 → (k = 11 ∨ k = 12 ∨ k = 13) →
      (s.entry k).escalates k = 1 → (s.entry (k + 1)).retryMax ≥ (s.stepMem (k + 1)).streak → (s.stepMem (k + 1)).force = false →
      ∃ t, exec (.bootStepEnd false d mk) s = .next t ∧ t.cfg.run = some (RunStep.mk (k + 1) false 1 false) ∧
      t.rd F.CFG_BOOT_STAT_STEP = k + 1 ∧ t.rd (F.CFG_BOOT_STEP_ACTION k) = 1 ∧ t.rd (F.CFG_BOOT_STEP_OUTCOME k) = 3 ∧
      t.status E.CFG_BOOT_ESCALATED = true) ∧
  (∀ (s : State) (a d mk : Nat) (b : Bool),
      s.works = true → s.cfg.run = some ⟨10, true, a, b⟩ → s.cfg.mem.length = 14 → (s.stepMem 11).streak ≤ (s.entry 11).retryMax →
      ∃ t, exec (.bootStepEnd true d mk) s = .next t ∧ t.rd (F.CFG_BOOT_STEP_OUTCOME 10) = 2 ∧ t.cfg.disabled = s.cfg.disabled ||| mk ∧
      t.rd F.CFG_BOOT_STAT_STEP = 11 ∧ (∀ n < 32, hasBit mk n = true → t.on (F.TPA_CTRL_ENABLE n) = false)) ∧
  (∀ (s : State) (ok : Bool) (a d mk : Nat),
      s.works = true → s.cfg.run = some ⟨6, false, a, false⟩ → s.cfg.mem.length = 14 → a < clampTo 1 8 (s.entry 6).tries →
      ∃ t, exec (.bootStepEnd ok d mk) s = .next t ∧ (verifyImage s.bootImg ≠ 0 → t.cfg.run = some (RunStep.mk 6 false (a + 1) false)) ∧
      (verifyImage s.bootImg ≠ 0 → t.status E.CFG_BOOT_STEP_FAILED = true) ∧
      (verifyImage s.bootImg = 0 → t.rd (F.CFG_BOOT_STEP_OUTCOME 6) = 1) ∧ (verifyImage s.bootImg = 0 → t.rd F.CFG_BOOT_STAT_STEP = 7) ∧
      (verifyImage s.bootImg = 0 → t.cfg.picked = some s.bootImg.metaOf) ∧
      (verifyImage s.bootImg = 0 → t.cfg.policy = Policy.ofBytes ((s.bootImg.section 9).map BitVec.toNat)) ∧ MemFrame s t) ∧
  (∀ (s : State) (ok : Bool) (a d mk : Nat),
      s.works = true → s.cfg.run = some ⟨7, false, a, false⟩ → a < clampTo 1 8 (s.entry 7).tries → mk % 2 ^ 32 ≠ 0 →
      ∃ t, exec (.bootStepEnd ok d mk) s = .next t ∧ t.cfg.run = some (RunStep.mk 7 false (a + 1) false) ∧
      t.rd (F.CFG_BOOT_STEP_OUTCOME 7) = 7 ∧
      t.rd (F.CFG_BOOT_STEP_ATTEMPTS 7) = min (s.rd (F.CFG_BOOT_STEP_ATTEMPTS 7) + 1) (2 ^ (F.CFG_BOOT_STEP_ATTEMPTS 7).width - 1) ∧
      t.status E.CFG_BOOT_STEP_FAILED = true ∧ t.rd F.CFG_BOOT_STAT_STEP = s.rd F.CFG_BOOT_STAT_STEP ∧
      (∃ f, f < 32 ∧ hasBit mk f = true ∧ (∀ j < f, hasBit mk j = false) ∧ t.rd F.DRC_TRAIN_INFO_FIRST_FAIL = f) ∧
      RegFrame [F.CFG_BOOT_STEP_OUTCOME 7, F.CFG_BOOT_STEP_ATTEMPTS 7, F.DRC_TRAIN_STAT_PASS, F.DRC_TRAIN_INFO_FIRST_FAIL] s t ∧
      { t.calm s with cfg := s.cfg } = s) ∧
  (∀ (s : State) (ok : Bool) (a d mk : Nat),
      s.works = true → s.cfg.run = some ⟨8, false, a, false⟩ → a < clampTo 1 8 (s.entry 8).tries →
      (ok = false ∨ verifyImage s.bootImg ≠ 0) →
      ∃ t, exec (.bootStepEnd ok d mk) s = .next t ∧ t.cfg.run = some (RunStep.mk 8 false (a + 1) false) ∧
      t.rd (F.CFG_BOOT_STEP_OUTCOME 8) = 7 ∧
      t.rd (F.CFG_BOOT_STEP_ATTEMPTS 8) = min (s.rd (F.CFG_BOOT_STEP_ATTEMPTS 8) + 1) (2 ^ (F.CFG_BOOT_STEP_ATTEMPTS 8).width - 1) ∧
      t.status E.CFG_BOOT_STEP_FAILED = true ∧ t.rd F.CFG_BOOT_STAT_STEP = s.rd F.CFG_BOOT_STAT_STEP ∧ t.partn = s.partn ∧
      MemFrame s t) ∧
  (∀ (s : State) (ok : Bool) (a d mk : Nat),
      s.works = true → s.cfg.run = some ⟨9, false, a, false⟩ → tilesSettled s = false →
      ∃ t, exec (.bootStepEnd ok d mk) s = .next t ∧ t = s) ∧
  (∀ (s : State) (ok : Bool) (a d mk : Nat) (l : List Nat),
      s.works = true → s.cfg.run = some ⟨9, false, a, false⟩ → tilesSettled s = true → s.joined 47 = true →
      (l = (List.range 48).filter fun n => s.rd (F.CFG_TILE_STAT_STATE n) == 4) → s.cfg.mem.length = 14 →
      ∃ t, exec (.bootStepEnd ok d mk) s = .next t ∧ (t.rd (F.CFG_BOOT_STEP_OUTCOME 9) = if l = [] then 1 else 8) ∧
      t.rd F.CFG_BOOT_STAT_STEP = 10 ∧ (∀ g < 52, t.rd (F.CFG_GEN_CUR g) = 1) ∧ t.rd (F.CFG_BOOT_STEP_STREAK 9) = 0) ∧
  (∀ (s : State) (ok : Bool) (a d mk : Nat),
      s.works = true → s.cfg.run = some ⟨9, false, a, false⟩ → tilesSettled s = true → s.joined 47 = false →
      a < clampTo 1 8 (s.entry 9).tries →
      ∃ t, exec (.bootStepEnd ok d mk) s = .next t ∧ t.cfg.run = some (RunStep.mk 9 false (a + 1) false) ∧
      t.rd (F.CFG_BOOT_STEP_OUTCOME 9) = 7 ∧
      t.rd (F.CFG_BOOT_STEP_ATTEMPTS 9) = min (s.rd (F.CFG_BOOT_STEP_ATTEMPTS 9) + 1) (2 ^ (F.CFG_BOOT_STEP_ATTEMPTS 9).width - 1) ∧
      t.status E.CFG_BOOT_STEP_FAILED = true ∧ t.rd F.CFG_BOOT_STAT_STEP = s.rd F.CFG_BOOT_STAT_STEP) ∧
  (∀ (s : State) (a d mk : Nat),
      s.works = true → s.cfg.run = some ⟨13, false, a, false⟩ → d ≠ 0 → warmCode5 s s.latestCopy = 0 → s.latestCopy.isSome = true →
      s.cfg.mem.length = 14 →
      ∃ t, exec (.bootStepEnd true d mk) s = .next t ∧ t.rd (F.CFG_BOOT_STEP_OUTCOME 13) = 1 ∧ t.rd F.CFG_WARM_STAT_WARM = 0 ∧
      t.rd F.CFG_WARM_STAT_DECLINE = 7 ∧ t.status E.CFG_WARM_DECLINED = true ∧ t.rd F.CFG_BOOT_STAT_STEP = 14) ∧
  (∀ (s : State) (a d mk c : Nat),
      s.works = true → s.cfg.run = some ⟨13, false, a, false⟩ → c = warmCode5 s s.latestCopy → c ≠ 0 → c < 16 → s.cfg.mem.length = 14 →
      ∃ t, exec (.bootStepEnd true d mk) s = .next t ∧ t.rd (F.CFG_BOOT_STEP_OUTCOME 13) = 1 ∧ t.rd F.CFG_WARM_STAT_WARM = 0 ∧
      t.rd F.CFG_WARM_STAT_DECLINE = c ∧ t.status E.CFG_WARM_DECLINED = true ∧ t.rd F.CFG_BOOT_STAT_STEP = 14 ∧ MemFrame s t) ∧
  (∀ (s : State) (a d mk : Nat),
      s.works = true → s.cfg.run = some ⟨14, false, a, false⟩ → roleKnown s = true → s.cfg.mem.length = 14 →
      ∃ t, exec (.bootStepEnd true d mk) s = .next t ∧ t.rd (F.CFG_BOOT_STEP_OUTCOME 14) = 1 ∧ t.rd F.CFG_BOOT_STAT_STEP = 15 ∧
      t.cfg.run = none ∧ t.pwr = { s.pwr with waiting := some s.namedMode } ∧ t.mode = s.mode ∧ t.shadow = [] ∧
      t.status E.CFG_BOOT_DONE = true ∧ MemFrame s t) ∧
  (∀ (s : State) (a d mk : Nat),
      s.works = true → s.cfg.run = some ⟨14, false, a, false⟩ → roleKnown s = false →
      ∃ t, exec (.bootStepEnd true d mk) s = .next t ∧ t = s)
end

