-- ==== Sys2Proof/Laws/Maps.lean ====
section
/-! SUPPORT. Laws/Maps.lean: reading after writing in sparse maps and memories, and that every operation keeps the canonical form. -/
namespace Sys2Proof.Machine

variable {α : Type}

@[simp] theorem SMap.find?_put_self (m : SMap α) (k : Nat) (v : α) : SMap.find? (SMap.put m k v) k = some v := by
  induction m with
  | nil => simp [SMap.put, SMap.find?]
  | cons e r ih =>
    obtain ⟨k', v'⟩ := e
    unfold SMap.put
    split
    · rename_i h; rw [SMap.find?, if_neg (by omega)]; exact ih
    · split <;> simp [SMap.find?]

theorem SMap.find?_put_ne (m : SMap α) {k j : Nat} (v : α) (h : j ≠ k) : SMap.find? (SMap.put m k v) j = SMap.find? m j := by
  induction m with
  | nil => simp [SMap.put, SMap.find?, Ne.symm h]
  | cons e r ih =>
    obtain ⟨k', v'⟩ := e
    unfold SMap.put
    split
    · simp [SMap.find?, ih]
    · split
      · next heq => subst heq; simp [SMap.find?, Ne.symm h]
      · simp [SMap.find?, Ne.symm h]

@[simp] theorem SMap.getD_put_self (m : SMap α) (k : Nat) (v d : α) : SMap.getD (SMap.put m k v) k d = v := by
  simp [SMap.getD]

theorem SMap.getD_put_ne (m : SMap α) {k j : Nat} (v d : α) (h : j ≠ k) :
    SMap.getD (SMap.put m k v) j d = SMap.getD m j d := by
  simp [SMap.getD, SMap.find?_put_ne m v h]

@[simp] theorem SMap.find?_del_self (m : SMap α) (k : Nat) : SMap.find? (SMap.del m k) k = none := by
  induction m with
  | nil => rfl
  | cons e r ih =>
    unfold SMap.del
    rw [List.filter_cons]
    split
    · next h => simp at h; rw [SMap.find?, if_neg h]; exact ih
    · exact ih

theorem SMap.find?_del_ne (m : SMap α) {k j : Nat} (h : j ≠ k) : SMap.find? (SMap.del m k) j = SMap.find? m j := by
  induction m with
  | nil => rfl
  | cons e r ih =>
    unfold SMap.del at ih ⊢
    rw [List.filter_cons]
    split
    · simp [SMap.find?, ih]
    · next hk => simp at hk; rw [ih]; simp [SMap.find?, hk, Ne.symm h]

/-- The keys of a rising map rise strictly from any entry to every later one. -/
theorem SMap.rising_iff (m : SMap α) : SMap.rising m = true ↔ m.Pairwise fun a b => a.1 < b.1 := by
  induction m with
  | nil => simp [SMap.rising]
  | cons a r ih =>
    cases r with
    | nil => simp [SMap.rising]
    | cons b r =>
      simp only [SMap.rising, Bool.and_eq_true, decide_eq_true_eq, ih, List.pairwise_cons]
      constructor
      · rintro ⟨h, hb, hr⟩
        refine ⟨?_, hb, hr⟩
        intro c hc
        rcases List.mem_cons.1 hc with rfl | hc
        · exact h
        · exact Nat.lt_trans h (hb c hc)
      · rintro ⟨h, hb, hr⟩
        exact ⟨h b (by simp), hb, hr⟩

theorem SMap.mem_put (m : SMap α) (k : Nat) (v : α) (e : Nat × α) (h : e ∈ SMap.put m k v) : e = (k, v) ∨ e ∈ m := by
  induction m with
  | nil => simpa [SMap.put] using h
  | cons f r ih =>
    obtain ⟨k', v'⟩ := f
    unfold SMap.put at h
    split at h
    · rcases List.mem_cons.1 h with h | h
      · exact .inr (by simp [h])
      · rcases ih h with h | h
        · exact .inl h
        · exact .inr (by simp [h])
    · split at h
      · rcases List.mem_cons.1 h with h | h
        · exact .inl h
        · exact .inr (by simp [h])
      · rcases List.mem_cons.1 h with h | h
        · exact .inl h
        · exact .inr h

theorem SMap.rising_put {m : SMap α} (h : SMap.rising m = true) (k : Nat) (v : α) : SMap.rising (SMap.put m k v) = true := by
  rw [SMap.rising_iff] at h ⊢
  induction m with
  | nil => simp [SMap.put]
  | cons e r ih =>
    obtain ⟨k', v'⟩ := e
    rw [List.pairwise_cons] at h
    unfold SMap.put
    split
    · next hk =>
      rw [List.pairwise_cons]
      refine ⟨fun e he => ?_, ih h.2⟩
      rcases SMap.mem_put _ _ _ _ he with rfl | he
      · exact hk
      · exact h.1 e he
    · next hk =>
      split
      · next heq => subst heq; exact List.pairwise_cons.2 h
      · next hne =>
        rw [List.pairwise_cons]
        refine ⟨fun e he => ?_, List.pairwise_cons.2 h⟩
        rcases List.mem_cons.1 he with rfl | he
        · show k < k'; omega
        · have := h.1 e he; show k < e.1; simp only at this; omega

theorem SMap.rising_filter {m : SMap α} (h : SMap.rising m = true) (p : Nat × α → Bool) : SMap.rising (m.filter p) = true := by
  rw [SMap.rising_iff] at h ⊢
  exact h.sublist List.filter_sublist

theorem SMap.rising_del {m : SMap α} (h : SMap.rising m = true) (k : Nat) : SMap.rising (SMap.del m k) = true :=
  SMap.rising_filter h _

theorem SMap.rising_nil : SMap.rising ([] : SMap α) = true := rfl

theorem SMap.rising_foldl {β : Type} {l : List β} {f : SMap α → β → SMap α} {m : SMap α}
    (hf : ∀ (a : SMap α) x, SMap.rising a = true → SMap.rising (f a x) = true) (h : SMap.rising m = true) :
    SMap.rising (l.foldl f m) = true := by
  induction l generalizing m with
  | nil => exact h
  | cons x r ih => exact ih (hf m x h)

/-! Memories. -/

theorem Memory.read_write_self (m : Memory) (a : Nat) (b : Byte) : Memory.read (Memory.write m a b) a = b := by
  unfold Memory.write
  split
  · next h => simp [Memory.read, SMap.getD, h]
  · simp [Memory.read]

theorem Memory.read_write_ne (m : Memory) {a c : Nat} (b : Byte) (h : c ≠ a) : Memory.read (Memory.write m a b) c = Memory.read m c := by
  unfold Memory.write
  split
  · simp [Memory.read, SMap.getD, SMap.find?_del_ne m h]
  · exact SMap.getD_put_ne m b 0 h

theorem Memory.wf_write {m : Memory} (h : Memory.wf m = true) (a : Nat) (b : Byte) : Memory.wf (Memory.write m a b) = true := by
  simp only [Memory.wf, Bool.and_eq_true, List.all_eq_true, bne_iff_ne] at h ⊢
  unfold Memory.write
  split
  · exact ⟨SMap.rising_del h.1 a, fun e he => h.2 e (List.mem_filter.1 he).1⟩
  · next hb =>
    refine ⟨SMap.rising_put h.1 a b, fun e he => ?_⟩
    rcases SMap.mem_put _ _ _ _ he with rfl | he
    · exact hb
    · exact h.2 e he

theorem Memory.wf_filter {m : Memory} (h : Memory.wf m = true) (p : Nat × Byte → Bool) : Memory.wf (m.filter p) = true := by
  simp only [Memory.wf, Bool.and_eq_true, List.all_eq_true, bne_iff_ne] at h ⊢
  exact ⟨SMap.rising_filter h.1 p, fun e he => h.2 e (List.mem_filter.1 he).1⟩

theorem Memory.wf_foldl {β : Type} {l : List β} {f : Memory → β → Memory} {m : Memory}
    (hf : ∀ (a : Memory) x, Memory.wf a = true → Memory.wf (f a x) = true) (h : Memory.wf m = true) : Memory.wf (l.foldl f m) = true := by
  induction l generalizing m with
  | nil => exact h
  | cons x r ih => exact ih (hf m x h)

theorem Memory.wf_writeBytes {m : Memory} (h : Memory.wf m = true) (a : Nat) (l : List Byte) :
    Memory.wf (Memory.writeBytes m a l) = true := by
  induction l generalizing m a with
  | nil => exact h
  | cons b r ih => exact ih (Memory.wf_write h a b) (a + 1)

/-- A run of bytes leaves every address outside it as it was. -/
theorem Memory.read_writeBytes_out (m : Memory) (a c : Nat) (l : List Byte) (h : c < a ∨ a + l.length ≤ c) :
    Memory.read (Memory.writeBytes m a l) c = Memory.read m c := by
  induction l generalizing m a with
  | nil => rfl
  | cons b r ih =>
    simp only [List.length_cons] at h
    rw [Memory.writeBytes, ih _ _ (by omega), Memory.read_write_ne _ _ (by omega)]

/-- A run of bytes is read back. -/
theorem Memory.read_writeBytes_in (m : Memory) (a i : Nat) (l : List Byte) (h : i < l.length) :
    Memory.read (Memory.writeBytes m a l) (a + i) = l[i] := by
  induction l generalizing m a i with
  | nil => simp at h
  | cons b r ih =>
    cases i with
    | zero => rw [Memory.writeBytes, Memory.read_writeBytes_out _ _ _ _ (by omega)]; simp [Memory.read_write_self]
    | succ i =>
      rw [Memory.writeBytes, show a + (i + 1) = (a + 1) + i by omega, ih _ _ _ (by simpa using h)]
      simp

end Sys2Proof.Machine
end

