-- ==== Sys2Proof/Laws/Base.lean ====
section
/-! SUPPORT. Laws/Base.lean: the relation that every operation of the machine keeps, and its closure under the ways in which operations
are put together. -/
namespace Sys2Proof.Machine

/-- From `b` to `s` the queue of waiting commands is unchanged and the canonical forms are kept. -/
structure Keeps (b s : State) : Prop where
  pending : s.pending = b.pending
  inv : b.Inv → s.Inv

theorem Keeps.refl (s : State) : Keeps s s := ⟨rfl, fun h => h⟩

theorem Keeps.dram {b s : State} (h : Keeps b s) (hb : b.Inv) : Memory.wf s.dram = true := (h.inv hb).dram
theorem Keeps.flash {b s : State} (h : Keeps b s) (hb : b.Inv) : Memory.wf s.flash = true := (h.inv hb).flash
theorem Keeps.hostMem {b s : State} (h : Keeps b s) (hb : b.Inv) : Memory.wf s.hostMem = true := (h.inv hb).hostMem
theorem Keeps.regs {b s : State} (h : Keeps b s) (hb : b.Inv) : SMap.rising s.regs = true := (h.inv hb).regs
theorem Keeps.shadow {b s : State} (h : Keeps b s) (hb : b.Inv) : SMap.rising s.shadow = true := (h.inv hb).shadow

/-- A state put together from parts. -/
theorem mk_keeps {b : State} {v_regs : SMap Nat} {v_shadow : SMap (Nat × Nat)} {v_pending : List Instr} {v_fresh : Nat} {v_ticks : Nat}
    {v_hostIf : HostIf} {v_hub : Hub} {v_hrx : List HrxDesc} {v_htx : List HtxPost} {v_pwr : Pwr} {v_cfg : Cfg} {v_store : Store} {v_tpa :
    SMap TpaPort} {v_prt : Prt} {v_tsu : Tsu} {v_drc : Drc} {v_obs : Obs} {v_dram : Memory} {v_flash : Memory} {v_hostMem : Memory} {v_partn
    : Partition} {v_trees : SMap Tree} {v_terms : SMap Term} {v_gview : SMap Nat} {v_mec : Mec} {v_fwd : Fwd} {v_tmg : Tmg} {v_bpm : Bpm}
    {v_upl : SMap UplPort} {v_cph : Cph} {v_capture : Option SaveSet} {v_secondAt : Nat}
    (hp : v_pending = b.pending) (hd : b.Inv → Memory.wf v_dram = true) (hf : b.Inv → Memory.wf v_flash = true)
    (hm : b.Inv → Memory.wf v_hostMem = true) (hr : b.Inv → SMap.rising v_regs = true) (hs : b.Inv → SMap.rising v_shadow = true) :
    Keeps b (State.mk v_regs v_shadow v_pending v_fresh v_ticks v_hostIf v_hub v_hrx v_htx v_pwr v_cfg v_store v_tpa v_prt v_tsu v_drc v_obs
    v_dram v_flash v_hostMem v_partn v_trees v_terms v_gview v_mec v_fwd v_tmg v_bpm v_upl v_cph v_capture v_secondAt) :=
  ⟨hp, fun h => ⟨hd h, hf h, hm h, hr h, hs h⟩⟩

theorem ite_keeps {c : Prop} [Decidable c] {b x y : State} (hx : Keeps b x) (hy : Keeps b y) : Keeps b (if c then x else y) := by
  split <;> assumption

theorem foldl_keeps {β : Type} {l : List β} {f : State → β → State} {b s : State} (hf : ∀ (a : State) x, Keeps b a → Keeps b (f a x))
    (h : Keeps b s) : Keeps b (l.foldl f s) := by
  induction l generalizing s with
  | nil => exact h
  | cons x r ih => exact ih (hf s x h)

theorem foldr_keeps {β : Type} {l : List β} {f : β → State → State} {b s : State} (hf : ∀ x (a : State), Keeps b a → Keeps b (f x a))
    (h : Keeps b s) : Keeps b (l.foldr f s) := by
  induction l with
  | nil => exact h
  | cons x r ih => exact hf x _ ih

theorem repeat_keeps {n : Nat} {f : State → State} {b s : State} (hf : ∀ a : State, Keeps b a → Keeps b (f a)) (h : Keeps b s) :
    Keeps b (n.repeat f s) := by
  induction n with
  | zero => exact h
  | succ n ih => exact hf _ ih

theorem foldl_fst_keeps {β γ : Type} {l : List β} {f : State × γ → β → State × γ} {b : State} {s : State × γ}
    (hf : ∀ (a : State × γ) x, Keeps b a.1 → Keeps b (f a x).1) (h : Keeps b s.1) : Keeps b (l.foldl f s).1 := by
  induction l generalizing s with
  | nil => exact h
  | cons x r ih => exact ih (hf s x h)

theorem foldl_snd_keeps {β γ : Type} {l : List β} {f : γ × State → β → γ × State} {b : State} {s : γ × State}
    (hf : ∀ (a : γ × State) x, Keeps b a.2 → Keeps b (f a x).2) (h : Keeps b s.2) : Keeps b (l.foldl f s).2 := by
  induction l generalizing s with
  | nil => exact h
  | cons x r ih => exact ih (hf s x h)

/-- The state that an operation answers, if it answers one, keeps what `b` has. -/
def OKeeps (b : State) (o : Option State) : Prop := ∀ t, o = some t → Keeps b t

theorem okeeps_some {b s : State} (h : Keeps b s) : OKeeps b (some s) := by
  intro t ht; cases ht; exact h

theorem okeeps_none {b : State} : OKeeps b none := by
  intro t ht; cases ht

theorem okeeps_ite {c : Prop} [Decidable c] {b : State} {x y : Option State} (hx : OKeeps b x) (hy : OKeeps b y) :
    OKeeps b (if c then x else y) := by
  split <;> assumption

theorem okeeps_get {b t : State} {o : Option State} (h : o = some t) (ho : OKeeps b o) : Keeps b t := ho t h

theorem fst_ite_keeps {γ : Type} {c : Prop} [Decidable c] {b : State} {x y : State × γ} (hx : Keeps b x.1) (hy : Keeps b y.1) :
    Keeps b (if c then x else y).1 := by
  split <;> assumption

theorem snd_ite_keeps {γ : Type} {c : Prop} [Decidable c] {b : State} {x y : γ × State} (hx : Keeps b x.2) (hy : Keeps b y.2) :
    Keeps b (if c then x else y).2 := by
  split <;> assumption

/-- The same of an operation that answers a value beside the state. -/
def OPKeeps {γ : Type} (b : State) (o : Option (γ × State)) : Prop := ∀ x t, o = some (x, t) → Keeps b t

theorem opkeeps_some {γ : Type} {b s : State} {x : γ} (h : Keeps b s) : OPKeeps b (some (x, s)) := by
  intro y t ht; cases ht; exact h

theorem opkeeps_none {γ : Type} {b : State} : OPKeeps b (none : Option (γ × State)) := by
  intro y t ht; cases ht

theorem opkeeps_ite {γ : Type} {c : Prop} [Decidable c] {b : State} {x y : Option (γ × State)} (hx : OPKeeps b x) (hy : OPKeeps b y) :
    OPKeeps b (if c then x else y) := by
  split <;> assumption

theorem opkeeps_get {γ : Type} {b t : State} {x : γ} {o : Option (γ × State)} (h : o = some (x, t)) (ho : OPKeeps b o) : Keeps b t :=
  ho x t h

theorem pair_fst_keeps {γ : Type} {b t : State} {x : γ} {p : State × γ} (h : p = (t, x)) (hp : Keeps b p.1) : Keeps b t := by
  subst h; exact hp

theorem pair_snd_keeps {γ : Type} {b t : State} {x : γ} {p : γ × State} (h : p = (x, t)) (hp : Keeps b p.2) : Keeps b t := by
  subst h; exact hp

end Sys2Proof.Machine
end

