-- ==== Sys2Proof/Laws/Regs.lean ====
section
/-! SUPPORT. Laws/Regs.lean: reading a register field after writing one, and what the other parts of the state are then. -/
namespace Sys2Proof.Machine

theorem rd_wr_key (s : State) {f g : Fld} (v : Nat) (h : g.key = f.key) (hr : g.rst = f.rst) : (s.wr f v).rd g = v % 2 ^ f.width := by
  unfold State.rd State.wr putFld
  dsimp only
  split
  · next hv => simp [SMap.getD, h, hr, hv]
  · simp [h]

@[simp] theorem rd_wr_self (s : State) (f : Fld) (v : Nat) : (s.wr f v).rd f = v % 2 ^ f.width := rd_wr_key s v rfl rfl

theorem rd_wr_ne (s : State) {f g : Fld} (v : Nat) (h : g.key ≠ f.key) : (s.wr f v).rd g = s.rd g := by
  unfold State.rd State.wr putFld
  dsimp only
  split
  · simp [SMap.getD, SMap.find?_del_ne s.regs h]
  · exact SMap.getD_put_ne s.regs _ _ h

theorem rd_congr {s t : State} (h : t.regs = s.regs) (f : Fld) : t.rd f = s.rd f := by unfold State.rd; rw [h]

/-! Frames. -/

theorem RegFrame.refl (l : List Fld) (s : State) : RegFrame l s s := fun _ _ _ => rfl

theorem RegFrame.of_regs {s t u : State} {l : List Fld} (h : RegFrame l s t) (e : u.regs = t.regs) : RegFrame l s u :=
  fun f h1 h2 => (rd_congr e f).trans (h f h1 h2)

theorem RegFrame.wr {s t : State} {l : List Fld} (h : RegFrame l s t) {f : Fld} (hf : f.key ∈ l.map Fld.key) (v : Nat) :
    RegFrame l s (t.wr f v) := by
  intro g h1 h2
  exact (rd_wr_ne t (f := f) (g := g) v (fun e => h1 (by rw [e]; exact hf))).trans (h g h1 h2)

theorem RegFrame.wr_evt {s t : State} {l : List Fld} (h : RegFrame l s t) {f : Fld} (hf : evtKey f.key = true) (v : Nat) :
    RegFrame l s (t.wr f v) := by
  intro g h1 h2
  exact (rd_wr_ne t (f := f) (g := g) v (fun e => by rw [e, hf] at h2; cases h2)).trans (h g h1 h2)

theorem RegFrame.trans {s t u : State} {l : List Fld} (h : RegFrame l s t) (g : RegFrame l t u) : RegFrame l s u :=
  fun f h1 h2 => (g f h1 h2).trans (h f h1 h2)

theorem RegFrame.mono {s t : State} {l m : List Fld} (h : RegFrame l s t) (hl : ∀ f ∈ l, f ∈ m) : RegFrame m s t := by
  intro f h1 h2
  refine h f (fun hm => h1 ?_) h2
  obtain ⟨x, hx, e⟩ := List.mem_map.1 hm
  exact List.mem_map.2 ⟨x, hl x hx, e⟩

end Sys2Proof.Machine
end

