-- ==== Sys2Proof/Laws/Raise.lean ====
section
/-! SUPPORT. Laws/Raise.lean: what raising an event can change: the fields of `evtKey`, the hub, the fault log and the count of free
values. -/
namespace Sys2Proof.Machine

/-- From `b` to `s` nothing but events has happened. -/
structure Evented (b s : State) : Prop where
  core : s.calm b = b
  regs : RegFrame [] b s

theorem Evented.refl (s : State) : Evented s s := ⟨rfl, RegFrame.refl _ _⟩

theorem evented_wr {b s : State} (f : Fld) (v : Nat) (hf : evtKey f.key = true) (h : Evented b s) : Evented b (s.wr f v) :=
  ⟨h.core, h.regs.wr_evt hf v⟩

theorem evented_hub {b s : State} (g : Hub → Hub) (h : Evented b s) : Evented b (s.modHub g) := ⟨h.core, h.regs⟩

theorem evented_sendMsix {b s : State} (v : Nat) (h : Evented b s) : Evented b (sendMsix v s) := ⟨h.core, h.regs⟩

theorem evented_draw {b s : State} (h : Evented b s) : Evented b s.draw := ⟨h.core, h.regs⟩

theorem evented_faultLog {b s : State} (id stamp : Nat) (h : Evented b s) : Evented b (faultLog id stamp s) := by
  unfold faultLog
  split
  · exact h
  · exact ⟨h.core, h.regs⟩

theorem evented_foldl {β γ : Type} {l : List β} {f : State × γ → β → State × γ} {b : State} {s : State × γ}
    (hf : ∀ (a : State × γ) x, x ∈ l → Evented b a.1 → Evented b (f a x).1) (h : Evented b s.1) : Evented b (l.foldl f s).1 := by
  induction l generalizing s with
  | nil => exact h
  | cons x r ih => exact ih (fun a y hy => hf a y (List.mem_cons_of_mem _ hy)) (hf s x (List.mem_cons_self ..) h)

theorem evtKey_stat {g : Nat} (h : g < 48) : evtKey (F.HIF_EVT_STAT_STAT g).key = true := by
  have h2 : (F.HIF_EVT_STAT_STAT g).key / 64 = 0x1000 + 4 * g := by simp only [Fld.key, F.HIF_EVT_STAT_STAT]; omega
  simp only [evtKey, h2, Bool.or_eq_true, Bool.and_eq_true, decide_eq_true_eq, beq_iff_eq]; omega

theorem evtKey_cnt {i : Nat} (h : i < 512) : evtKey (F.OBS_CNT_COUNT i).key = true := by
  have h2 : (F.OBS_CNT_COUNT i).key / 64 = 0x3F30008 + 16 * i := by simp only [Fld.key, F.OBS_CNT_COUNT]; omega
  simp only [evtKey, h2, Bool.or_eq_true, Bool.and_eq_true, decide_eq_true_eq, beq_iff_eq]; omega

theorem evtKey_ovf {i : Nat} (h : i < 512) : evtKey (F.OBS_CNT_OVF i).key = true := by
  have h2 : (F.OBS_CNT_OVF i).key / 64 = 0x3F30008 + 16 * i := by simp only [Fld.key, F.OBS_CNT_OVF]; omega
  simp only [evtKey, h2, Bool.or_eq_true, Bool.and_eq_true, decide_eq_true_eq, beq_iff_eq]; omega

theorem evtKey_fired {r : Nat} (h : r < 256) : evtKey (F.HIF_RFX_CNT_FIRED r).key = true := by
  have h2 : (F.HIF_RFX_CNT_FIRED r).key / 64 = 0x4800 + 4 * r := by simp only [Fld.key, F.HIF_RFX_CNT_FIRED]; omega
  simp only [evtKey, h2, Bool.or_eq_true, Bool.and_eq_true, decide_eq_true_eq, beq_iff_eq]; omega

theorem evtKey_spent {r : Nat} (h : r < 256) : evtKey (F.HIF_RFX_CNT_SPENT r).key = true := by
  have h2 : (F.HIF_RFX_CNT_SPENT r).key / 64 = 0x4800 + 4 * r := by simp only [Fld.key, F.HIF_RFX_CNT_SPENT]; omega
  simp only [evtKey, h2, Bool.or_eq_true, Bool.and_eq_true, decide_eq_true_eq, beq_iff_eq]; omega

theorem evtKey_last : evtKey F.HIF_RFX_STAT_LAST_FIRED.key = true := by decide

theorem evented_setStatus {b s : State} {id : Nat} (hid : id < 1536) (h : Evented b s) : Evented b (setStatus id s) :=
  evented_wr _ _ (evtKey_stat (by omega)) h

theorem evented_deliver {b s : State} (id : Nat) (l r : Bool) (st : Nat) (h : Evented b s) : Evented b (deliver id l r st s) := by
  unfold deliver
  split
  · split
    · exact evented_hub _ h
    · split
      · exact evented_sendMsix _ h
      · exact h
  · exact h

theorem evented_obsAdd {b s : State} {i : Nat} (n : Nat) (hi : i < 512) (h : Evented b s) : Evented b (obsAdd i n s).1 := by
  have h1 := evented_wr (F.OBS_CNT_COUNT i) (s.rd (F.OBS_CNT_COUNT i) + n) (evtKey_cnt hi) h
  unfold obsAdd
  extract_lets v s1 x s2
  split
  · exact h1
  · split
    · next hc =>
      have hj : i + 1 < 512 := by omega
      have h2 : Evented b s2 := evented_wr _ _ (evtKey_cnt hj) h1
      dsimp only
      split
      · exact h2
      · exact evented_wr _ _ (evtKey_ovf hj) h2
    · exact evented_wr _ _ (evtKey_ovf hi) h1

theorem mem_armed {s : State} {f : Fld} {stride n i : Nat} (h : i ∈ s.armed f stride n) : i < n := by
  unfold State.armed at h
  obtain ⟨e, _, he⟩ := List.mem_filterMap.1 h
  dsimp only at he
  split at he
  · next hc => cases he; exact hc.2.2.1
  · cases he

theorem evented_obsEvent {b s : State} (id : Nat) (h : Evented b s) : Evented b (obsEvent id s).1 := by
  unfold obsEvent
  refine evented_foldl (fun a i hi ha => ?_) h
  have h1 : i ∈ obsActive s := (List.mem_filter.1 hi).1
  exact evented_obsAdd 1 (mem_armed (List.mem_filter.1 h1).1) ha

theorem evented_occur {b s : State} {e : Ev} (r : Bool) (he : e.id < 1536) (h : Evented b s) : Evented b (occur e r s).1 := by
  unfold occur
  extract_lets st s1 s2 s3
  have h1 : Evented b s1 := evented_setStatus he (evented_draw h)
  have h2 : Evented b s2 := by
    show Evented b (if e.logged then faultLog e.id st s1 else s1)
    split
    · exact evented_faultLog _ _ h1
    · exact h1
  have h3 : Evented b s3 := by
    show Evented b (if s.cfg.routed then _ else _)
    split
    · exact evented_deliver _ _ _ _ h2
    · exact evented_hub _ h2
  exact evented_obsEvent _ h3

theorem mem_firingRules {s : State} {id r : Nat} (h : r ∈ firingRules s id) : r < 256 := by
  unfold firingRules at h
  split at h
  · cases h
  · exact mem_armed (List.mem_filter.1 h).1

theorem evented_bookFiring {b s : State} {r : Nat} (hr : r < 256) (h : Evented b s) : Evented b (bookFiring r s) := by
  unfold bookFiring
  extract_lets s1 s2
  have h1 : Evented b s1 := evented_wr _ _ evtKey_last (evented_wr _ _ (evtKey_fired hr) h)
  have h2 : Evented b s2 := by
    show Evented b (if s.on (F.HIF_RFX_RULE_ONESHOT r) then _ else _)
    split
    · exact evented_wr _ _ (evtKey_spent hr) h1
    · exact h1
  exact evented_hub _ h2

theorem evented_raiseN {b s : State} (n : Nat) {e : Ev} (he : e.id < 1536) (h : Evented b s) : Evented b (raiseN n e s) := by
  induction n generalizing s e with
  | zero => exact h
  | succ n ih =>
    unfold raiseN
    extract_lets rules o f
    have hf : Evented b f.1 := by
      refine evented_foldl (fun a r hr ha => ?_) (evented_occur _ he h)
      exact evented_occur _ (by decide) (evented_bookFiring (mem_firingRules hr) ha)
    split
    · exact ih (by decide) (evented_hub _ hf)
    · exact hf

theorem evented_raise {b s : State} {e : Ev} (he : e.id < 1536) (h : Evented b s) : Evented b (raise e s) := evented_raiseN 3 he h

theorem evented_raiseSec {b s : State} {e : Ev} (he : e.id < 1536) (h : Evented b s) : Evented b (raiseSec e s) := by
  unfold raiseSec
  split
  · exact h
  · exact evented_raise he (evented_hub _ h)

/-- A field outside `evtKey` reads after an event as before it. -/
theorem rd_raise (s : State) {e : Ev} (he : e.id < 1536) {f : Fld} (hf : evtKey f.key = false) : (raise e s).rd f = s.rd f :=
  (evented_raise he (Evented.refl s)).regs f (by simp) hf

theorem rd_raiseSec (s : State) {e : Ev} (he : e.id < 1536) {f : Fld} (hf : evtKey f.key = false) : (raiseSec e s).rd f = s.rd f :=
  (evented_raiseSec he (Evented.refl s)).regs f (by simp) hf

/-- An event leaves everything but registers, hub, store and the count of free values as it was. -/
theorem calm_raise (s : State) {e : Ev} (he : e.id < 1536) : (raise e s).calm s = s := (evented_raise he (Evented.refl s)).core

theorem calm_raiseSec (s : State) {e : Ev} (he : e.id < 1536) : (raiseSec e s).calm s = s := (evented_raiseSec he (Evented.refl s)).core

end Sys2Proof.Machine
end

