-- ==== Sys2Proof/Laws/State.lean ====
section
/-! SUPPORT. Laws/State.lean: what each update of the state leaves as it was, one lemma for each field. -/
namespace Sys2Proof.Machine

/-! wr -/

@[simp] theorem State.wr_shadow (s : State) (f : Fld) (v : Nat) : (s.wr f v).shadow = s.shadow := rfl
@[simp] theorem State.wr_pending (s : State) (f : Fld) (v : Nat) : (s.wr f v).pending = s.pending := rfl
@[simp] theorem State.wr_fresh (s : State) (f : Fld) (v : Nat) : (s.wr f v).fresh = s.fresh := rfl
@[simp] theorem State.wr_ticks (s : State) (f : Fld) (v : Nat) : (s.wr f v).ticks = s.ticks := rfl
@[simp] theorem State.wr_hostIf (s : State) (f : Fld) (v : Nat) : (s.wr f v).hostIf = s.hostIf := rfl
@[simp] theorem State.wr_hub (s : State) (f : Fld) (v : Nat) : (s.wr f v).hub = s.hub := rfl
@[simp] theorem State.wr_hrx (s : State) (f : Fld) (v : Nat) : (s.wr f v).hrx = s.hrx := rfl
@[simp] theorem State.wr_htx (s : State) (f : Fld) (v : Nat) : (s.wr f v).htx = s.htx := rfl
@[simp] theorem State.wr_pwr (s : State) (f : Fld) (v : Nat) : (s.wr f v).pwr = s.pwr := rfl
@[simp] theorem State.wr_cfg (s : State) (f : Fld) (v : Nat) : (s.wr f v).cfg = s.cfg := rfl
@[simp] theorem State.wr_store (s : State) (f : Fld) (v : Nat) : (s.wr f v).store = s.store := rfl
@[simp] theorem State.wr_tpa (s : State) (f : Fld) (v : Nat) : (s.wr f v).tpa = s.tpa := rfl
@[simp] theorem State.wr_prt (s : State) (f : Fld) (v : Nat) : (s.wr f v).prt = s.prt := rfl
@[simp] theorem State.wr_tsu (s : State) (f : Fld) (v : Nat) : (s.wr f v).tsu = s.tsu := rfl
@[simp] theorem State.wr_drc (s : State) (f : Fld) (v : Nat) : (s.wr f v).drc = s.drc := rfl
@[simp] theorem State.wr_obs (s : State) (f : Fld) (v : Nat) : (s.wr f v).obs = s.obs := rfl
@[simp] theorem State.wr_dram (s : State) (f : Fld) (v : Nat) : (s.wr f v).dram = s.dram := rfl
@[simp] theorem State.wr_flash (s : State) (f : Fld) (v : Nat) : (s.wr f v).flash = s.flash := rfl
@[simp] theorem State.wr_hostMem (s : State) (f : Fld) (v : Nat) : (s.wr f v).hostMem = s.hostMem := rfl
@[simp] theorem State.wr_partn (s : State) (f : Fld) (v : Nat) : (s.wr f v).partn = s.partn := rfl
@[simp] theorem State.wr_trees (s : State) (f : Fld) (v : Nat) : (s.wr f v).trees = s.trees := rfl
@[simp] theorem State.wr_terms (s : State) (f : Fld) (v : Nat) : (s.wr f v).terms = s.terms := rfl
@[simp] theorem State.wr_gview (s : State) (f : Fld) (v : Nat) : (s.wr f v).gview = s.gview := rfl
@[simp] theorem State.wr_mec (s : State) (f : Fld) (v : Nat) : (s.wr f v).mec = s.mec := rfl
@[simp] theorem State.wr_fwd (s : State) (f : Fld) (v : Nat) : (s.wr f v).fwd = s.fwd := rfl
@[simp] theorem State.wr_tmg (s : State) (f : Fld) (v : Nat) : (s.wr f v).tmg = s.tmg := rfl
@[simp] theorem State.wr_bpm (s : State) (f : Fld) (v : Nat) : (s.wr f v).bpm = s.bpm := rfl
@[simp] theorem State.wr_upl (s : State) (f : Fld) (v : Nat) : (s.wr f v).upl = s.upl := rfl
@[simp] theorem State.wr_cph (s : State) (f : Fld) (v : Nat) : (s.wr f v).cph = s.cph := rfl
@[simp] theorem State.wr_capture (s : State) (f : Fld) (v : Nat) : (s.wr f v).capture = s.capture := rfl
@[simp] theorem State.wr_secondAt (s : State) (f : Fld) (v : Nat) : (s.wr f v).secondAt = s.secondAt := rfl

/-! wrShadow -/

@[simp] theorem State.wrShadow_regs (s : State) (g : Nat) (f : Fld) (v : Nat) : (s.wrShadow g f v).regs = s.regs := rfl
@[simp] theorem State.wrShadow_pending (s : State) (g : Nat) (f : Fld) (v : Nat) : (s.wrShadow g f v).pending = s.pending := rfl
@[simp] theorem State.wrShadow_fresh (s : State) (g : Nat) (f : Fld) (v : Nat) : (s.wrShadow g f v).fresh = s.fresh := rfl
@[simp] theorem State.wrShadow_ticks (s : State) (g : Nat) (f : Fld) (v : Nat) : (s.wrShadow g f v).ticks = s.ticks := rfl
@[simp] theorem State.wrShadow_hostIf (s : State) (g : Nat) (f : Fld) (v : Nat) : (s.wrShadow g f v).hostIf = s.hostIf := rfl
@[simp] theorem State.wrShadow_hub (s : State) (g : Nat) (f : Fld) (v : Nat) : (s.wrShadow g f v).hub = s.hub := rfl
@[simp] theorem State.wrShadow_hrx (s : State) (g : Nat) (f : Fld) (v : Nat) : (s.wrShadow g f v).hrx = s.hrx := rfl
@[simp] theorem State.wrShadow_htx (s : State) (g : Nat) (f : Fld) (v : Nat) : (s.wrShadow g f v).htx = s.htx := rfl
@[simp] theorem State.wrShadow_pwr (s : State) (g : Nat) (f : Fld) (v : Nat) : (s.wrShadow g f v).pwr = s.pwr := rfl
@[simp] theorem State.wrShadow_cfg (s : State) (g : Nat) (f : Fld) (v : Nat) : (s.wrShadow g f v).cfg = s.cfg := rfl
@[simp] theorem State.wrShadow_store (s : State) (g : Nat) (f : Fld) (v : Nat) : (s.wrShadow g f v).store = s.store := rfl
@[simp] theorem State.wrShadow_tpa (s : State) (g : Nat) (f : Fld) (v : Nat) : (s.wrShadow g f v).tpa = s.tpa := rfl
@[simp] theorem State.wrShadow_prt (s : State) (g : Nat) (f : Fld) (v : Nat) : (s.wrShadow g f v).prt = s.prt := rfl
@[simp] theorem State.wrShadow_tsu (s : State) (g : Nat) (f : Fld) (v : Nat) : (s.wrShadow g f v).tsu = s.tsu := rfl
@[simp] theorem State.wrShadow_drc (s : State) (g : Nat) (f : Fld) (v : Nat) : (s.wrShadow g f v).drc = s.drc := rfl
@[simp] theorem State.wrShadow_obs (s : State) (g : Nat) (f : Fld) (v : Nat) : (s.wrShadow g f v).obs = s.obs := rfl
@[simp] theorem State.wrShadow_dram (s : State) (g : Nat) (f : Fld) (v : Nat) : (s.wrShadow g f v).dram = s.dram := rfl
@[simp] theorem State.wrShadow_flash (s : State) (g : Nat) (f : Fld) (v : Nat) : (s.wrShadow g f v).flash = s.flash := rfl
@[simp] theorem State.wrShadow_hostMem (s : State) (g : Nat) (f : Fld) (v : Nat) : (s.wrShadow g f v).hostMem = s.hostMem := rfl
@[simp] theorem State.wrShadow_partn (s : State) (g : Nat) (f : Fld) (v : Nat) : (s.wrShadow g f v).partn = s.partn := rfl
@[simp] theorem State.wrShadow_trees (s : State) (g : Nat) (f : Fld) (v : Nat) : (s.wrShadow g f v).trees = s.trees := rfl
@[simp] theorem State.wrShadow_terms (s : State) (g : Nat) (f : Fld) (v : Nat) : (s.wrShadow g f v).terms = s.terms := rfl
@[simp] theorem State.wrShadow_gview (s : State) (g : Nat) (f : Fld) (v : Nat) : (s.wrShadow g f v).gview = s.gview := rfl
@[simp] theorem State.wrShadow_mec (s : State) (g : Nat) (f : Fld) (v : Nat) : (s.wrShadow g f v).mec = s.mec := rfl
@[simp] theorem State.wrShadow_fwd (s : State) (g : Nat) (f : Fld) (v : Nat) : (s.wrShadow g f v).fwd = s.fwd := rfl
@[simp] theorem State.wrShadow_tmg (s : State) (g : Nat) (f : Fld) (v : Nat) : (s.wrShadow g f v).tmg = s.tmg := rfl
@[simp] theorem State.wrShadow_bpm (s : State) (g : Nat) (f : Fld) (v : Nat) : (s.wrShadow g f v).bpm = s.bpm := rfl
@[simp] theorem State.wrShadow_upl (s : State) (g : Nat) (f : Fld) (v : Nat) : (s.wrShadow g f v).upl = s.upl := rfl
@[simp] theorem State.wrShadow_cph (s : State) (g : Nat) (f : Fld) (v : Nat) : (s.wrShadow g f v).cph = s.cph := rfl
@[simp] theorem State.wrShadow_capture (s : State) (g : Nat) (f : Fld) (v : Nat) : (s.wrShadow g f v).capture = s.capture := rfl
@[simp] theorem State.wrShadow_secondAt (s : State) (g : Nat) (f : Fld) (v : Nat) : (s.wrShadow g f v).secondAt = s.secondAt := rfl
@[simp] theorem State.wrShadow_rd (s : State) (g : Nat) (f : Fld) (v : Nat) (x : Fld) : (s.wrShadow g f v).rd x = s.rd x := rfl

/-! draw -/

@[simp] theorem State.draw_regs (s : State) : (s.draw).regs = s.regs := rfl
@[simp] theorem State.draw_shadow (s : State) : (s.draw).shadow = s.shadow := rfl
@[simp] theorem State.draw_pending (s : State) : (s.draw).pending = s.pending := rfl
@[simp] theorem State.draw_fresh (s : State) : (s.draw).fresh = s.fresh + 1 := rfl
@[simp] theorem State.draw_ticks (s : State) : (s.draw).ticks = s.ticks := rfl
@[simp] theorem State.draw_hostIf (s : State) : (s.draw).hostIf = s.hostIf := rfl
@[simp] theorem State.draw_hub (s : State) : (s.draw).hub = s.hub := rfl
@[simp] theorem State.draw_hrx (s : State) : (s.draw).hrx = s.hrx := rfl
@[simp] theorem State.draw_htx (s : State) : (s.draw).htx = s.htx := rfl
@[simp] theorem State.draw_pwr (s : State) : (s.draw).pwr = s.pwr := rfl
@[simp] theorem State.draw_cfg (s : State) : (s.draw).cfg = s.cfg := rfl
@[simp] theorem State.draw_store (s : State) : (s.draw).store = s.store := rfl
@[simp] theorem State.draw_tpa (s : State) : (s.draw).tpa = s.tpa := rfl
@[simp] theorem State.draw_prt (s : State) : (s.draw).prt = s.prt := rfl
@[simp] theorem State.draw_tsu (s : State) : (s.draw).tsu = s.tsu := rfl
@[simp] theorem State.draw_drc (s : State) : (s.draw).drc = s.drc := rfl
@[simp] theorem State.draw_obs (s : State) : (s.draw).obs = s.obs := rfl
@[simp] theorem State.draw_dram (s : State) : (s.draw).dram = s.dram := rfl
@[simp] theorem State.draw_flash (s : State) : (s.draw).flash = s.flash := rfl
@[simp] theorem State.draw_hostMem (s : State) : (s.draw).hostMem = s.hostMem := rfl
@[simp] theorem State.draw_partn (s : State) : (s.draw).partn = s.partn := rfl
@[simp] theorem State.draw_trees (s : State) : (s.draw).trees = s.trees := rfl
@[simp] theorem State.draw_terms (s : State) : (s.draw).terms = s.terms := rfl
@[simp] theorem State.draw_gview (s : State) : (s.draw).gview = s.gview := rfl
@[simp] theorem State.draw_mec (s : State) : (s.draw).mec = s.mec := rfl
@[simp] theorem State.draw_fwd (s : State) : (s.draw).fwd = s.fwd := rfl
@[simp] theorem State.draw_tmg (s : State) : (s.draw).tmg = s.tmg := rfl
@[simp] theorem State.draw_bpm (s : State) : (s.draw).bpm = s.bpm := rfl
@[simp] theorem State.draw_upl (s : State) : (s.draw).upl = s.upl := rfl
@[simp] theorem State.draw_cph (s : State) : (s.draw).cph = s.cph := rfl
@[simp] theorem State.draw_capture (s : State) : (s.draw).capture = s.capture := rfl
@[simp] theorem State.draw_secondAt (s : State) : (s.draw).secondAt = s.secondAt := rfl
@[simp] theorem State.draw_rd (s : State) (x : Fld) : (s.draw).rd x = s.rd x := rfl

/-! modHub -/

@[simp] theorem State.modHub_regs (s : State) (g : Hub → Hub) : (s.modHub g).regs = s.regs := rfl
@[simp] theorem State.modHub_shadow (s : State) (g : Hub → Hub) : (s.modHub g).shadow = s.shadow := rfl
@[simp] theorem State.modHub_pending (s : State) (g : Hub → Hub) : (s.modHub g).pending = s.pending := rfl
@[simp] theorem State.modHub_fresh (s : State) (g : Hub → Hub) : (s.modHub g).fresh = s.fresh := rfl
@[simp] theorem State.modHub_ticks (s : State) (g : Hub → Hub) : (s.modHub g).ticks = s.ticks := rfl
@[simp] theorem State.modHub_hostIf (s : State) (g : Hub → Hub) : (s.modHub g).hostIf = s.hostIf := rfl
@[simp] theorem State.modHub_hub (s : State) (g : Hub → Hub) : (s.modHub g).hub = g s.hub := rfl
@[simp] theorem State.modHub_hrx (s : State) (g : Hub → Hub) : (s.modHub g).hrx = s.hrx := rfl
@[simp] theorem State.modHub_htx (s : State) (g : Hub → Hub) : (s.modHub g).htx = s.htx := rfl
@[simp] theorem State.modHub_pwr (s : State) (g : Hub → Hub) : (s.modHub g).pwr = s.pwr := rfl
@[simp] theorem State.modHub_cfg (s : State) (g : Hub → Hub) : (s.modHub g).cfg = s.cfg := rfl
@[simp] theorem State.modHub_store (s : State) (g : Hub → Hub) : (s.modHub g).store = s.store := rfl
@[simp] theorem State.modHub_tpa (s : State) (g : Hub → Hub) : (s.modHub g).tpa = s.tpa := rfl
@[simp] theorem State.modHub_prt (s : State) (g : Hub → Hub) : (s.modHub g).prt = s.prt := rfl
@[simp] theorem State.modHub_tsu (s : State) (g : Hub → Hub) : (s.modHub g).tsu = s.tsu := rfl
@[simp] theorem State.modHub_drc (s : State) (g : Hub → Hub) : (s.modHub g).drc = s.drc := rfl
@[simp] theorem State.modHub_obs (s : State) (g : Hub → Hub) : (s.modHub g).obs = s.obs := rfl
@[simp] theorem State.modHub_dram (s : State) (g : Hub → Hub) : (s.modHub g).dram = s.dram := rfl
@[simp] theorem State.modHub_flash (s : State) (g : Hub → Hub) : (s.modHub g).flash = s.flash := rfl
@[simp] theorem State.modHub_hostMem (s : State) (g : Hub → Hub) : (s.modHub g).hostMem = s.hostMem := rfl
@[simp] theorem State.modHub_partn (s : State) (g : Hub → Hub) : (s.modHub g).partn = s.partn := rfl
@[simp] theorem State.modHub_trees (s : State) (g : Hub → Hub) : (s.modHub g).trees = s.trees := rfl
@[simp] theorem State.modHub_terms (s : State) (g : Hub → Hub) : (s.modHub g).terms = s.terms := rfl
@[simp] theorem State.modHub_gview (s : State) (g : Hub → Hub) : (s.modHub g).gview = s.gview := rfl
@[simp] theorem State.modHub_mec (s : State) (g : Hub → Hub) : (s.modHub g).mec = s.mec := rfl
@[simp] theorem State.modHub_fwd (s : State) (g : Hub → Hub) : (s.modHub g).fwd = s.fwd := rfl
@[simp] theorem State.modHub_tmg (s : State) (g : Hub → Hub) : (s.modHub g).tmg = s.tmg := rfl
@[simp] theorem State.modHub_bpm (s : State) (g : Hub → Hub) : (s.modHub g).bpm = s.bpm := rfl
@[simp] theorem State.modHub_upl (s : State) (g : Hub → Hub) : (s.modHub g).upl = s.upl := rfl
@[simp] theorem State.modHub_cph (s : State) (g : Hub → Hub) : (s.modHub g).cph = s.cph := rfl
@[simp] theorem State.modHub_capture (s : State) (g : Hub → Hub) : (s.modHub g).capture = s.capture := rfl
@[simp] theorem State.modHub_secondAt (s : State) (g : Hub → Hub) : (s.modHub g).secondAt = s.secondAt := rfl
@[simp] theorem State.modHub_rd (s : State) (g : Hub → Hub) (x : Fld) : (s.modHub g).rd x = s.rd x := rfl

/-! modPwr -/

@[simp] theorem State.modPwr_regs (s : State) (g : Pwr → Pwr) : (s.modPwr g).regs = s.regs := rfl
@[simp] theorem State.modPwr_shadow (s : State) (g : Pwr → Pwr) : (s.modPwr g).shadow = s.shadow := rfl
@[simp] theorem State.modPwr_pending (s : State) (g : Pwr → Pwr) : (s.modPwr g).pending = s.pending := rfl
@[simp] theorem State.modPwr_fresh (s : State) (g : Pwr → Pwr) : (s.modPwr g).fresh = s.fresh := rfl
@[simp] theorem State.modPwr_ticks (s : State) (g : Pwr → Pwr) : (s.modPwr g).ticks = s.ticks := rfl
@[simp] theorem State.modPwr_hostIf (s : State) (g : Pwr → Pwr) : (s.modPwr g).hostIf = s.hostIf := rfl
@[simp] theorem State.modPwr_hub (s : State) (g : Pwr → Pwr) : (s.modPwr g).hub = s.hub := rfl
@[simp] theorem State.modPwr_hrx (s : State) (g : Pwr → Pwr) : (s.modPwr g).hrx = s.hrx := rfl
@[simp] theorem State.modPwr_htx (s : State) (g : Pwr → Pwr) : (s.modPwr g).htx = s.htx := rfl
@[simp] theorem State.modPwr_pwr (s : State) (g : Pwr → Pwr) : (s.modPwr g).pwr = g s.pwr := rfl
@[simp] theorem State.modPwr_cfg (s : State) (g : Pwr → Pwr) : (s.modPwr g).cfg = s.cfg := rfl
@[simp] theorem State.modPwr_store (s : State) (g : Pwr → Pwr) : (s.modPwr g).store = s.store := rfl
@[simp] theorem State.modPwr_tpa (s : State) (g : Pwr → Pwr) : (s.modPwr g).tpa = s.tpa := rfl
@[simp] theorem State.modPwr_prt (s : State) (g : Pwr → Pwr) : (s.modPwr g).prt = s.prt := rfl
@[simp] theorem State.modPwr_tsu (s : State) (g : Pwr → Pwr) : (s.modPwr g).tsu = s.tsu := rfl
@[simp] theorem State.modPwr_drc (s : State) (g : Pwr → Pwr) : (s.modPwr g).drc = s.drc := rfl
@[simp] theorem State.modPwr_obs (s : State) (g : Pwr → Pwr) : (s.modPwr g).obs = s.obs := rfl
@[simp] theorem State.modPwr_dram (s : State) (g : Pwr → Pwr) : (s.modPwr g).dram = s.dram := rfl
@[simp] theorem State.modPwr_flash (s : State) (g : Pwr → Pwr) : (s.modPwr g).flash = s.flash := rfl
@[simp] theorem State.modPwr_hostMem (s : State) (g : Pwr → Pwr) : (s.modPwr g).hostMem = s.hostMem := rfl
@[simp] theorem State.modPwr_partn (s : State) (g : Pwr → Pwr) : (s.modPwr g).partn = s.partn := rfl
@[simp] theorem State.modPwr_trees (s : State) (g : Pwr → Pwr) : (s.modPwr g).trees = s.trees := rfl
@[simp] theorem State.modPwr_terms (s : State) (g : Pwr → Pwr) : (s.modPwr g).terms = s.terms := rfl
@[simp] theorem State.modPwr_gview (s : State) (g : Pwr → Pwr) : (s.modPwr g).gview = s.gview := rfl
@[simp] theorem State.modPwr_mec (s : State) (g : Pwr → Pwr) : (s.modPwr g).mec = s.mec := rfl
@[simp] theorem State.modPwr_fwd (s : State) (g : Pwr → Pwr) : (s.modPwr g).fwd = s.fwd := rfl
@[simp] theorem State.modPwr_tmg (s : State) (g : Pwr → Pwr) : (s.modPwr g).tmg = s.tmg := rfl
@[simp] theorem State.modPwr_bpm (s : State) (g : Pwr → Pwr) : (s.modPwr g).bpm = s.bpm := rfl
@[simp] theorem State.modPwr_upl (s : State) (g : Pwr → Pwr) : (s.modPwr g).upl = s.upl := rfl
@[simp] theorem State.modPwr_cph (s : State) (g : Pwr → Pwr) : (s.modPwr g).cph = s.cph := rfl
@[simp] theorem State.modPwr_capture (s : State) (g : Pwr → Pwr) : (s.modPwr g).capture = s.capture := rfl
@[simp] theorem State.modPwr_secondAt (s : State) (g : Pwr → Pwr) : (s.modPwr g).secondAt = s.secondAt := rfl
@[simp] theorem State.modPwr_rd (s : State) (g : Pwr → Pwr) (x : Fld) : (s.modPwr g).rd x = s.rd x := rfl

/-! modCfg -/

@[simp] theorem State.modCfg_regs (s : State) (g : Cfg → Cfg) : (s.modCfg g).regs = s.regs := rfl
@[simp] theorem State.modCfg_shadow (s : State) (g : Cfg → Cfg) : (s.modCfg g).shadow = s.shadow := rfl
@[simp] theorem State.modCfg_pending (s : State) (g : Cfg → Cfg) : (s.modCfg g).pending = s.pending := rfl
@[simp] theorem State.modCfg_fresh (s : State) (g : Cfg → Cfg) : (s.modCfg g).fresh = s.fresh := rfl
@[simp] theorem State.modCfg_ticks (s : State) (g : Cfg → Cfg) : (s.modCfg g).ticks = s.ticks := rfl
@[simp] theorem State.modCfg_hostIf (s : State) (g : Cfg → Cfg) : (s.modCfg g).hostIf = s.hostIf := rfl
@[simp] theorem State.modCfg_hub (s : State) (g : Cfg → Cfg) : (s.modCfg g).hub = s.hub := rfl
@[simp] theorem State.modCfg_hrx (s : State) (g : Cfg → Cfg) : (s.modCfg g).hrx = s.hrx := rfl
@[simp] theorem State.modCfg_htx (s : State) (g : Cfg → Cfg) : (s.modCfg g).htx = s.htx := rfl
@[simp] theorem State.modCfg_pwr (s : State) (g : Cfg → Cfg) : (s.modCfg g).pwr = s.pwr := rfl
@[simp] theorem State.modCfg_cfg (s : State) (g : Cfg → Cfg) : (s.modCfg g).cfg = g s.cfg := rfl
@[simp] theorem State.modCfg_store (s : State) (g : Cfg → Cfg) : (s.modCfg g).store = s.store := rfl
@[simp] theorem State.modCfg_tpa (s : State) (g : Cfg → Cfg) : (s.modCfg g).tpa = s.tpa := rfl
@[simp] theorem State.modCfg_prt (s : State) (g : Cfg → Cfg) : (s.modCfg g).prt = s.prt := rfl
@[simp] theorem State.modCfg_tsu (s : State) (g : Cfg → Cfg) : (s.modCfg g).tsu = s.tsu := rfl
@[simp] theorem State.modCfg_drc (s : State) (g : Cfg → Cfg) : (s.modCfg g).drc = s.drc := rfl
@[simp] theorem State.modCfg_obs (s : State) (g : Cfg → Cfg) : (s.modCfg g).obs = s.obs := rfl
@[simp] theorem State.modCfg_dram (s : State) (g : Cfg → Cfg) : (s.modCfg g).dram = s.dram := rfl
@[simp] theorem State.modCfg_flash (s : State) (g : Cfg → Cfg) : (s.modCfg g).flash = s.flash := rfl
@[simp] theorem State.modCfg_hostMem (s : State) (g : Cfg → Cfg) : (s.modCfg g).hostMem = s.hostMem := rfl
@[simp] theorem State.modCfg_partn (s : State) (g : Cfg → Cfg) : (s.modCfg g).partn = s.partn := rfl
@[simp] theorem State.modCfg_trees (s : State) (g : Cfg → Cfg) : (s.modCfg g).trees = s.trees := rfl
@[simp] theorem State.modCfg_terms (s : State) (g : Cfg → Cfg) : (s.modCfg g).terms = s.terms := rfl
@[simp] theorem State.modCfg_gview (s : State) (g : Cfg → Cfg) : (s.modCfg g).gview = s.gview := rfl
@[simp] theorem State.modCfg_mec (s : State) (g : Cfg → Cfg) : (s.modCfg g).mec = s.mec := rfl
@[simp] theorem State.modCfg_fwd (s : State) (g : Cfg → Cfg) : (s.modCfg g).fwd = s.fwd := rfl
@[simp] theorem State.modCfg_tmg (s : State) (g : Cfg → Cfg) : (s.modCfg g).tmg = s.tmg := rfl
@[simp] theorem State.modCfg_bpm (s : State) (g : Cfg → Cfg) : (s.modCfg g).bpm = s.bpm := rfl
@[simp] theorem State.modCfg_upl (s : State) (g : Cfg → Cfg) : (s.modCfg g).upl = s.upl := rfl
@[simp] theorem State.modCfg_cph (s : State) (g : Cfg → Cfg) : (s.modCfg g).cph = s.cph := rfl
@[simp] theorem State.modCfg_capture (s : State) (g : Cfg → Cfg) : (s.modCfg g).capture = s.capture := rfl
@[simp] theorem State.modCfg_secondAt (s : State) (g : Cfg → Cfg) : (s.modCfg g).secondAt = s.secondAt := rfl
@[simp] theorem State.modCfg_rd (s : State) (g : Cfg → Cfg) (x : Fld) : (s.modCfg g).rd x = s.rd x := rfl

/-! modStore -/

@[simp] theorem State.modStore_regs (s : State) (g : Store → Store) : (s.modStore g).regs = s.regs := rfl
@[simp] theorem State.modStore_shadow (s : State) (g : Store → Store) : (s.modStore g).shadow = s.shadow := rfl
@[simp] theorem State.modStore_pending (s : State) (g : Store → Store) : (s.modStore g).pending = s.pending := rfl
@[simp] theorem State.modStore_fresh (s : State) (g : Store → Store) : (s.modStore g).fresh = s.fresh := rfl
@[simp] theorem State.modStore_ticks (s : State) (g : Store → Store) : (s.modStore g).ticks = s.ticks := rfl
@[simp] theorem State.modStore_hostIf (s : State) (g : Store → Store) : (s.modStore g).hostIf = s.hostIf := rfl
@[simp] theorem State.modStore_hub (s : State) (g : Store → Store) : (s.modStore g).hub = s.hub := rfl
@[simp] theorem State.modStore_hrx (s : State) (g : Store → Store) : (s.modStore g).hrx = s.hrx := rfl
@[simp] theorem State.modStore_htx (s : State) (g : Store → Store) : (s.modStore g).htx = s.htx := rfl
@[simp] theorem State.modStore_pwr (s : State) (g : Store → Store) : (s.modStore g).pwr = s.pwr := rfl
@[simp] theorem State.modStore_cfg (s : State) (g : Store → Store) : (s.modStore g).cfg = s.cfg := rfl
@[simp] theorem State.modStore_store (s : State) (g : Store → Store) : (s.modStore g).store = g s.store := rfl
@[simp] theorem State.modStore_tpa (s : State) (g : Store → Store) : (s.modStore g).tpa = s.tpa := rfl
@[simp] theorem State.modStore_prt (s : State) (g : Store → Store) : (s.modStore g).prt = s.prt := rfl
@[simp] theorem State.modStore_tsu (s : State) (g : Store → Store) : (s.modStore g).tsu = s.tsu := rfl
@[simp] theorem State.modStore_drc (s : State) (g : Store → Store) : (s.modStore g).drc = s.drc := rfl
@[simp] theorem State.modStore_obs (s : State) (g : Store → Store) : (s.modStore g).obs = s.obs := rfl
@[simp] theorem State.modStore_dram (s : State) (g : Store → Store) : (s.modStore g).dram = s.dram := rfl
@[simp] theorem State.modStore_flash (s : State) (g : Store → Store) : (s.modStore g).flash = s.flash := rfl
@[simp] theorem State.modStore_hostMem (s : State) (g : Store → Store) : (s.modStore g).hostMem = s.hostMem := rfl
@[simp] theorem State.modStore_partn (s : State) (g : Store → Store) : (s.modStore g).partn = s.partn := rfl
@[simp] theorem State.modStore_trees (s : State) (g : Store → Store) : (s.modStore g).trees = s.trees := rfl
@[simp] theorem State.modStore_terms (s : State) (g : Store → Store) : (s.modStore g).terms = s.terms := rfl
@[simp] theorem State.modStore_gview (s : State) (g : Store → Store) : (s.modStore g).gview = s.gview := rfl
@[simp] theorem State.modStore_mec (s : State) (g : Store → Store) : (s.modStore g).mec = s.mec := rfl
@[simp] theorem State.modStore_fwd (s : State) (g : Store → Store) : (s.modStore g).fwd = s.fwd := rfl
@[simp] theorem State.modStore_tmg (s : State) (g : Store → Store) : (s.modStore g).tmg = s.tmg := rfl
@[simp] theorem State.modStore_bpm (s : State) (g : Store → Store) : (s.modStore g).bpm = s.bpm := rfl
@[simp] theorem State.modStore_upl (s : State) (g : Store → Store) : (s.modStore g).upl = s.upl := rfl
@[simp] theorem State.modStore_cph (s : State) (g : Store → Store) : (s.modStore g).cph = s.cph := rfl
@[simp] theorem State.modStore_capture (s : State) (g : Store → Store) : (s.modStore g).capture = s.capture := rfl
@[simp] theorem State.modStore_secondAt (s : State) (g : Store → Store) : (s.modStore g).secondAt = s.secondAt := rfl
@[simp] theorem State.modStore_rd (s : State) (g : Store → Store) (x : Fld) : (s.modStore g).rd x = s.rd x := rfl

/-! modPrt -/

@[simp] theorem State.modPrt_regs (s : State) (g : Prt → Prt) : (s.modPrt g).regs = s.regs := rfl
@[simp] theorem State.modPrt_shadow (s : State) (g : Prt → Prt) : (s.modPrt g).shadow = s.shadow := rfl
@[simp] theorem State.modPrt_pending (s : State) (g : Prt → Prt) : (s.modPrt g).pending = s.pending := rfl
@[simp] theorem State.modPrt_fresh (s : State) (g : Prt → Prt) : (s.modPrt g).fresh = s.fresh := rfl
@[simp] theorem State.modPrt_ticks (s : State) (g : Prt → Prt) : (s.modPrt g).ticks = s.ticks := rfl
@[simp] theorem State.modPrt_hostIf (s : State) (g : Prt → Prt) : (s.modPrt g).hostIf = s.hostIf := rfl
@[simp] theorem State.modPrt_hub (s : State) (g : Prt → Prt) : (s.modPrt g).hub = s.hub := rfl
@[simp] theorem State.modPrt_hrx (s : State) (g : Prt → Prt) : (s.modPrt g).hrx = s.hrx := rfl
@[simp] theorem State.modPrt_htx (s : State) (g : Prt → Prt) : (s.modPrt g).htx = s.htx := rfl
@[simp] theorem State.modPrt_pwr (s : State) (g : Prt → Prt) : (s.modPrt g).pwr = s.pwr := rfl
@[simp] theorem State.modPrt_cfg (s : State) (g : Prt → Prt) : (s.modPrt g).cfg = s.cfg := rfl
@[simp] theorem State.modPrt_store (s : State) (g : Prt → Prt) : (s.modPrt g).store = s.store := rfl
@[simp] theorem State.modPrt_tpa (s : State) (g : Prt → Prt) : (s.modPrt g).tpa = s.tpa := rfl
@[simp] theorem State.modPrt_prt (s : State) (g : Prt → Prt) : (s.modPrt g).prt = g s.prt := rfl
@[simp] theorem State.modPrt_tsu (s : State) (g : Prt → Prt) : (s.modPrt g).tsu = s.tsu := rfl
@[simp] theorem State.modPrt_drc (s : State) (g : Prt → Prt) : (s.modPrt g).drc = s.drc := rfl
@[simp] theorem State.modPrt_obs (s : State) (g : Prt → Prt) : (s.modPrt g).obs = s.obs := rfl
@[simp] theorem State.modPrt_dram (s : State) (g : Prt → Prt) : (s.modPrt g).dram = s.dram := rfl
@[simp] theorem State.modPrt_flash (s : State) (g : Prt → Prt) : (s.modPrt g).flash = s.flash := rfl
@[simp] theorem State.modPrt_hostMem (s : State) (g : Prt → Prt) : (s.modPrt g).hostMem = s.hostMem := rfl
@[simp] theorem State.modPrt_partn (s : State) (g : Prt → Prt) : (s.modPrt g).partn = s.partn := rfl
@[simp] theorem State.modPrt_trees (s : State) (g : Prt → Prt) : (s.modPrt g).trees = s.trees := rfl
@[simp] theorem State.modPrt_terms (s : State) (g : Prt → Prt) : (s.modPrt g).terms = s.terms := rfl
@[simp] theorem State.modPrt_gview (s : State) (g : Prt → Prt) : (s.modPrt g).gview = s.gview := rfl
@[simp] theorem State.modPrt_mec (s : State) (g : Prt → Prt) : (s.modPrt g).mec = s.mec := rfl
@[simp] theorem State.modPrt_fwd (s : State) (g : Prt → Prt) : (s.modPrt g).fwd = s.fwd := rfl
@[simp] theorem State.modPrt_tmg (s : State) (g : Prt → Prt) : (s.modPrt g).tmg = s.tmg := rfl
@[simp] theorem State.modPrt_bpm (s : State) (g : Prt → Prt) : (s.modPrt g).bpm = s.bpm := rfl
@[simp] theorem State.modPrt_upl (s : State) (g : Prt → Prt) : (s.modPrt g).upl = s.upl := rfl
@[simp] theorem State.modPrt_cph (s : State) (g : Prt → Prt) : (s.modPrt g).cph = s.cph := rfl
@[simp] theorem State.modPrt_capture (s : State) (g : Prt → Prt) : (s.modPrt g).capture = s.capture := rfl
@[simp] theorem State.modPrt_secondAt (s : State) (g : Prt → Prt) : (s.modPrt g).secondAt = s.secondAt := rfl
@[simp] theorem State.modPrt_rd (s : State) (g : Prt → Prt) (x : Fld) : (s.modPrt g).rd x = s.rd x := rfl

/-! modTsu -/

@[simp] theorem State.modTsu_regs (s : State) (g : Tsu → Tsu) : (s.modTsu g).regs = s.regs := rfl
@[simp] theorem State.modTsu_shadow (s : State) (g : Tsu → Tsu) : (s.modTsu g).shadow = s.shadow := rfl
@[simp] theorem State.modTsu_pending (s : State) (g : Tsu → Tsu) : (s.modTsu g).pending = s.pending := rfl
@[simp] theorem State.modTsu_fresh (s : State) (g : Tsu → Tsu) : (s.modTsu g).fresh = s.fresh := rfl
@[simp] theorem State.modTsu_ticks (s : State) (g : Tsu → Tsu) : (s.modTsu g).ticks = s.ticks := rfl
@[simp] theorem State.modTsu_hostIf (s : State) (g : Tsu → Tsu) : (s.modTsu g).hostIf = s.hostIf := rfl
@[simp] theorem State.modTsu_hub (s : State) (g : Tsu → Tsu) : (s.modTsu g).hub = s.hub := rfl
@[simp] theorem State.modTsu_hrx (s : State) (g : Tsu → Tsu) : (s.modTsu g).hrx = s.hrx := rfl
@[simp] theorem State.modTsu_htx (s : State) (g : Tsu → Tsu) : (s.modTsu g).htx = s.htx := rfl
@[simp] theorem State.modTsu_pwr (s : State) (g : Tsu → Tsu) : (s.modTsu g).pwr = s.pwr := rfl
@[simp] theorem State.modTsu_cfg (s : State) (g : Tsu → Tsu) : (s.modTsu g).cfg = s.cfg := rfl
@[simp] theorem State.modTsu_store (s : State) (g : Tsu → Tsu) : (s.modTsu g).store = s.store := rfl
@[simp] theorem State.modTsu_tpa (s : State) (g : Tsu → Tsu) : (s.modTsu g).tpa = s.tpa := rfl
@[simp] theorem State.modTsu_prt (s : State) (g : Tsu → Tsu) : (s.modTsu g).prt = s.prt := rfl
@[simp] theorem State.modTsu_tsu (s : State) (g : Tsu → Tsu) : (s.modTsu g).tsu = g s.tsu := rfl
@[simp] theorem State.modTsu_drc (s : State) (g : Tsu → Tsu) : (s.modTsu g).drc = s.drc := rfl
@[simp] theorem State.modTsu_obs (s : State) (g : Tsu → Tsu) : (s.modTsu g).obs = s.obs := rfl
@[simp] theorem State.modTsu_dram (s : State) (g : Tsu → Tsu) : (s.modTsu g).dram = s.dram := rfl
@[simp] theorem State.modTsu_flash (s : State) (g : Tsu → Tsu) : (s.modTsu g).flash = s.flash := rfl
@[simp] theorem State.modTsu_hostMem (s : State) (g : Tsu → Tsu) : (s.modTsu g).hostMem = s.hostMem := rfl
@[simp] theorem State.modTsu_partn (s : State) (g : Tsu → Tsu) : (s.modTsu g).partn = s.partn := rfl
@[simp] theorem State.modTsu_trees (s : State) (g : Tsu → Tsu) : (s.modTsu g).trees = s.trees := rfl
@[simp] theorem State.modTsu_terms (s : State) (g : Tsu → Tsu) : (s.modTsu g).terms = s.terms := rfl
@[simp] theorem State.modTsu_gview (s : State) (g : Tsu → Tsu) : (s.modTsu g).gview = s.gview := rfl
@[simp] theorem State.modTsu_mec (s : State) (g : Tsu → Tsu) : (s.modTsu g).mec = s.mec := rfl
@[simp] theorem State.modTsu_fwd (s : State) (g : Tsu → Tsu) : (s.modTsu g).fwd = s.fwd := rfl
@[simp] theorem State.modTsu_tmg (s : State) (g : Tsu → Tsu) : (s.modTsu g).tmg = s.tmg := rfl
@[simp] theorem State.modTsu_bpm (s : State) (g : Tsu → Tsu) : (s.modTsu g).bpm = s.bpm := rfl
@[simp] theorem State.modTsu_upl (s : State) (g : Tsu → Tsu) : (s.modTsu g).upl = s.upl := rfl
@[simp] theorem State.modTsu_cph (s : State) (g : Tsu → Tsu) : (s.modTsu g).cph = s.cph := rfl
@[simp] theorem State.modTsu_capture (s : State) (g : Tsu → Tsu) : (s.modTsu g).capture = s.capture := rfl
@[simp] theorem State.modTsu_secondAt (s : State) (g : Tsu → Tsu) : (s.modTsu g).secondAt = s.secondAt := rfl
@[simp] theorem State.modTsu_rd (s : State) (g : Tsu → Tsu) (x : Fld) : (s.modTsu g).rd x = s.rd x := rfl

/-! modDrc -/

@[simp] theorem State.modDrc_regs (s : State) (g : Drc → Drc) : (s.modDrc g).regs = s.regs := rfl
@[simp] theorem State.modDrc_shadow (s : State) (g : Drc → Drc) : (s.modDrc g).shadow = s.shadow := rfl
@[simp] theorem State.modDrc_pending (s : State) (g : Drc → Drc) : (s.modDrc g).pending = s.pending := rfl
@[simp] theorem State.modDrc_fresh (s : State) (g : Drc → Drc) : (s.modDrc g).fresh = s.fresh := rfl
@[simp] theorem State.modDrc_ticks (s : State) (g : Drc → Drc) : (s.modDrc g).ticks = s.ticks := rfl
@[simp] theorem State.modDrc_hostIf (s : State) (g : Drc → Drc) : (s.modDrc g).hostIf = s.hostIf := rfl
@[simp] theorem State.modDrc_hub (s : State) (g : Drc → Drc) : (s.modDrc g).hub = s.hub := rfl
@[simp] theorem State.modDrc_hrx (s : State) (g : Drc → Drc) : (s.modDrc g).hrx = s.hrx := rfl
@[simp] theorem State.modDrc_htx (s : State) (g : Drc → Drc) : (s.modDrc g).htx = s.htx := rfl
@[simp] theorem State.modDrc_pwr (s : State) (g : Drc → Drc) : (s.modDrc g).pwr = s.pwr := rfl
@[simp] theorem State.modDrc_cfg (s : State) (g : Drc → Drc) : (s.modDrc g).cfg = s.cfg := rfl
@[simp] theorem State.modDrc_store (s : State) (g : Drc → Drc) : (s.modDrc g).store = s.store := rfl
@[simp] theorem State.modDrc_tpa (s : State) (g : Drc → Drc) : (s.modDrc g).tpa = s.tpa := rfl
@[simp] theorem State.modDrc_prt (s : State) (g : Drc → Drc) : (s.modDrc g).prt = s.prt := rfl
@[simp] theorem State.modDrc_tsu (s : State) (g : Drc → Drc) : (s.modDrc g).tsu = s.tsu := rfl
@[simp] theorem State.modDrc_drc (s : State) (g : Drc → Drc) : (s.modDrc g).drc = g s.drc := rfl
@[simp] theorem State.modDrc_obs (s : State) (g : Drc → Drc) : (s.modDrc g).obs = s.obs := rfl
@[simp] theorem State.modDrc_dram (s : State) (g : Drc → Drc) : (s.modDrc g).dram = s.dram := rfl
@[simp] theorem State.modDrc_flash (s : State) (g : Drc → Drc) : (s.modDrc g).flash = s.flash := rfl
@[simp] theorem State.modDrc_hostMem (s : State) (g : Drc → Drc) : (s.modDrc g).hostMem = s.hostMem := rfl
@[simp] theorem State.modDrc_partn (s : State) (g : Drc → Drc) : (s.modDrc g).partn = s.partn := rfl
@[simp] theorem State.modDrc_trees (s : State) (g : Drc → Drc) : (s.modDrc g).trees = s.trees := rfl
@[simp] theorem State.modDrc_terms (s : State) (g : Drc → Drc) : (s.modDrc g).terms = s.terms := rfl
@[simp] theorem State.modDrc_gview (s : State) (g : Drc → Drc) : (s.modDrc g).gview = s.gview := rfl
@[simp] theorem State.modDrc_mec (s : State) (g : Drc → Drc) : (s.modDrc g).mec = s.mec := rfl
@[simp] theorem State.modDrc_fwd (s : State) (g : Drc → Drc) : (s.modDrc g).fwd = s.fwd := rfl
@[simp] theorem State.modDrc_tmg (s : State) (g : Drc → Drc) : (s.modDrc g).tmg = s.tmg := rfl
@[simp] theorem State.modDrc_bpm (s : State) (g : Drc → Drc) : (s.modDrc g).bpm = s.bpm := rfl
@[simp] theorem State.modDrc_upl (s : State) (g : Drc → Drc) : (s.modDrc g).upl = s.upl := rfl
@[simp] theorem State.modDrc_cph (s : State) (g : Drc → Drc) : (s.modDrc g).cph = s.cph := rfl
@[simp] theorem State.modDrc_capture (s : State) (g : Drc → Drc) : (s.modDrc g).capture = s.capture := rfl
@[simp] theorem State.modDrc_secondAt (s : State) (g : Drc → Drc) : (s.modDrc g).secondAt = s.secondAt := rfl
@[simp] theorem State.modDrc_rd (s : State) (g : Drc → Drc) (x : Fld) : (s.modDrc g).rd x = s.rd x := rfl

/-! modObs -/

@[simp] theorem State.modObs_regs (s : State) (g : Obs → Obs) : (s.modObs g).regs = s.regs := rfl
@[simp] theorem State.modObs_shadow (s : State) (g : Obs → Obs) : (s.modObs g).shadow = s.shadow := rfl
@[simp] theorem State.modObs_pending (s : State) (g : Obs → Obs) : (s.modObs g).pending = s.pending := rfl
@[simp] theorem State.modObs_fresh (s : State) (g : Obs → Obs) : (s.modObs g).fresh = s.fresh := rfl
@[simp] theorem State.modObs_ticks (s : State) (g : Obs → Obs) : (s.modObs g).ticks = s.ticks := rfl
@[simp] theorem State.modObs_hostIf (s : State) (g : Obs → Obs) : (s.modObs g).hostIf = s.hostIf := rfl
@[simp] theorem State.modObs_hub (s : State) (g : Obs → Obs) : (s.modObs g).hub = s.hub := rfl
@[simp] theorem State.modObs_hrx (s : State) (g : Obs → Obs) : (s.modObs g).hrx = s.hrx := rfl
@[simp] theorem State.modObs_htx (s : State) (g : Obs → Obs) : (s.modObs g).htx = s.htx := rfl
@[simp] theorem State.modObs_pwr (s : State) (g : Obs → Obs) : (s.modObs g).pwr = s.pwr := rfl
@[simp] theorem State.modObs_cfg (s : State) (g : Obs → Obs) : (s.modObs g).cfg = s.cfg := rfl
@[simp] theorem State.modObs_store (s : State) (g : Obs → Obs) : (s.modObs g).store = s.store := rfl
@[simp] theorem State.modObs_tpa (s : State) (g : Obs → Obs) : (s.modObs g).tpa = s.tpa := rfl
@[simp] theorem State.modObs_prt (s : State) (g : Obs → Obs) : (s.modObs g).prt = s.prt := rfl
@[simp] theorem State.modObs_tsu (s : State) (g : Obs → Obs) : (s.modObs g).tsu = s.tsu := rfl
@[simp] theorem State.modObs_drc (s : State) (g : Obs → Obs) : (s.modObs g).drc = s.drc := rfl
@[simp] theorem State.modObs_obs (s : State) (g : Obs → Obs) : (s.modObs g).obs = g s.obs := rfl
@[simp] theorem State.modObs_dram (s : State) (g : Obs → Obs) : (s.modObs g).dram = s.dram := rfl
@[simp] theorem State.modObs_flash (s : State) (g : Obs → Obs) : (s.modObs g).flash = s.flash := rfl
@[simp] theorem State.modObs_hostMem (s : State) (g : Obs → Obs) : (s.modObs g).hostMem = s.hostMem := rfl
@[simp] theorem State.modObs_partn (s : State) (g : Obs → Obs) : (s.modObs g).partn = s.partn := rfl
@[simp] theorem State.modObs_trees (s : State) (g : Obs → Obs) : (s.modObs g).trees = s.trees := rfl
@[simp] theorem State.modObs_terms (s : State) (g : Obs → Obs) : (s.modObs g).terms = s.terms := rfl
@[simp] theorem State.modObs_gview (s : State) (g : Obs → Obs) : (s.modObs g).gview = s.gview := rfl
@[simp] theorem State.modObs_mec (s : State) (g : Obs → Obs) : (s.modObs g).mec = s.mec := rfl
@[simp] theorem State.modObs_fwd (s : State) (g : Obs → Obs) : (s.modObs g).fwd = s.fwd := rfl
@[simp] theorem State.modObs_tmg (s : State) (g : Obs → Obs) : (s.modObs g).tmg = s.tmg := rfl
@[simp] theorem State.modObs_bpm (s : State) (g : Obs → Obs) : (s.modObs g).bpm = s.bpm := rfl
@[simp] theorem State.modObs_upl (s : State) (g : Obs → Obs) : (s.modObs g).upl = s.upl := rfl
@[simp] theorem State.modObs_cph (s : State) (g : Obs → Obs) : (s.modObs g).cph = s.cph := rfl
@[simp] theorem State.modObs_capture (s : State) (g : Obs → Obs) : (s.modObs g).capture = s.capture := rfl
@[simp] theorem State.modObs_secondAt (s : State) (g : Obs → Obs) : (s.modObs g).secondAt = s.secondAt := rfl
@[simp] theorem State.modObs_rd (s : State) (g : Obs → Obs) (x : Fld) : (s.modObs g).rd x = s.rd x := rfl

/-! modHost -/

@[simp] theorem State.modHost_regs (s : State) (g : HostIf → HostIf) : (s.modHost g).regs = s.regs := rfl
@[simp] theorem State.modHost_shadow (s : State) (g : HostIf → HostIf) : (s.modHost g).shadow = s.shadow := rfl
@[simp] theorem State.modHost_pending (s : State) (g : HostIf → HostIf) : (s.modHost g).pending = s.pending := rfl
@[simp] theorem State.modHost_fresh (s : State) (g : HostIf → HostIf) : (s.modHost g).fresh = s.fresh := rfl
@[simp] theorem State.modHost_ticks (s : State) (g : HostIf → HostIf) : (s.modHost g).ticks = s.ticks := rfl
@[simp] theorem State.modHost_hostIf (s : State) (g : HostIf → HostIf) : (s.modHost g).hostIf = g s.hostIf := rfl
@[simp] theorem State.modHost_hub (s : State) (g : HostIf → HostIf) : (s.modHost g).hub = s.hub := rfl
@[simp] theorem State.modHost_hrx (s : State) (g : HostIf → HostIf) : (s.modHost g).hrx = s.hrx := rfl
@[simp] theorem State.modHost_htx (s : State) (g : HostIf → HostIf) : (s.modHost g).htx = s.htx := rfl
@[simp] theorem State.modHost_pwr (s : State) (g : HostIf → HostIf) : (s.modHost g).pwr = s.pwr := rfl
@[simp] theorem State.modHost_cfg (s : State) (g : HostIf → HostIf) : (s.modHost g).cfg = s.cfg := rfl
@[simp] theorem State.modHost_store (s : State) (g : HostIf → HostIf) : (s.modHost g).store = s.store := rfl
@[simp] theorem State.modHost_tpa (s : State) (g : HostIf → HostIf) : (s.modHost g).tpa = s.tpa := rfl
@[simp] theorem State.modHost_prt (s : State) (g : HostIf → HostIf) : (s.modHost g).prt = s.prt := rfl
@[simp] theorem State.modHost_tsu (s : State) (g : HostIf → HostIf) : (s.modHost g).tsu = s.tsu := rfl
@[simp] theorem State.modHost_drc (s : State) (g : HostIf → HostIf) : (s.modHost g).drc = s.drc := rfl
@[simp] theorem State.modHost_obs (s : State) (g : HostIf → HostIf) : (s.modHost g).obs = s.obs := rfl
@[simp] theorem State.modHost_dram (s : State) (g : HostIf → HostIf) : (s.modHost g).dram = s.dram := rfl
@[simp] theorem State.modHost_flash (s : State) (g : HostIf → HostIf) : (s.modHost g).flash = s.flash := rfl
@[simp] theorem State.modHost_hostMem (s : State) (g : HostIf → HostIf) : (s.modHost g).hostMem = s.hostMem := rfl
@[simp] theorem State.modHost_partn (s : State) (g : HostIf → HostIf) : (s.modHost g).partn = s.partn := rfl
@[simp] theorem State.modHost_trees (s : State) (g : HostIf → HostIf) : (s.modHost g).trees = s.trees := rfl
@[simp] theorem State.modHost_terms (s : State) (g : HostIf → HostIf) : (s.modHost g).terms = s.terms := rfl
@[simp] theorem State.modHost_gview (s : State) (g : HostIf → HostIf) : (s.modHost g).gview = s.gview := rfl
@[simp] theorem State.modHost_mec (s : State) (g : HostIf → HostIf) : (s.modHost g).mec = s.mec := rfl
@[simp] theorem State.modHost_fwd (s : State) (g : HostIf → HostIf) : (s.modHost g).fwd = s.fwd := rfl
@[simp] theorem State.modHost_tmg (s : State) (g : HostIf → HostIf) : (s.modHost g).tmg = s.tmg := rfl
@[simp] theorem State.modHost_bpm (s : State) (g : HostIf → HostIf) : (s.modHost g).bpm = s.bpm := rfl
@[simp] theorem State.modHost_upl (s : State) (g : HostIf → HostIf) : (s.modHost g).upl = s.upl := rfl
@[simp] theorem State.modHost_cph (s : State) (g : HostIf → HostIf) : (s.modHost g).cph = s.cph := rfl
@[simp] theorem State.modHost_capture (s : State) (g : HostIf → HostIf) : (s.modHost g).capture = s.capture := rfl
@[simp] theorem State.modHost_secondAt (s : State) (g : HostIf → HostIf) : (s.modHost g).secondAt = s.secondAt := rfl
@[simp] theorem State.modHost_rd (s : State) (g : HostIf → HostIf) (x : Fld) : (s.modHost g).rd x = s.rd x := rfl

/-! modPort -/

@[simp] theorem State.modPort_regs (s : State) (p : Nat) (g : TpaPort → TpaPort) : (s.modPort p g).regs = s.regs := rfl
@[simp] theorem State.modPort_shadow (s : State) (p : Nat) (g : TpaPort → TpaPort) : (s.modPort p g).shadow = s.shadow := rfl
@[simp] theorem State.modPort_pending (s : State) (p : Nat) (g : TpaPort → TpaPort) : (s.modPort p g).pending = s.pending := rfl
@[simp] theorem State.modPort_fresh (s : State) (p : Nat) (g : TpaPort → TpaPort) : (s.modPort p g).fresh = s.fresh := rfl
@[simp] theorem State.modPort_ticks (s : State) (p : Nat) (g : TpaPort → TpaPort) : (s.modPort p g).ticks = s.ticks := rfl
@[simp] theorem State.modPort_hostIf (s : State) (p : Nat) (g : TpaPort → TpaPort) : (s.modPort p g).hostIf = s.hostIf := rfl
@[simp] theorem State.modPort_hub (s : State) (p : Nat) (g : TpaPort → TpaPort) : (s.modPort p g).hub = s.hub := rfl
@[simp] theorem State.modPort_hrx (s : State) (p : Nat) (g : TpaPort → TpaPort) : (s.modPort p g).hrx = s.hrx := rfl
@[simp] theorem State.modPort_htx (s : State) (p : Nat) (g : TpaPort → TpaPort) : (s.modPort p g).htx = s.htx := rfl
@[simp] theorem State.modPort_pwr (s : State) (p : Nat) (g : TpaPort → TpaPort) : (s.modPort p g).pwr = s.pwr := rfl
@[simp] theorem State.modPort_cfg (s : State) (p : Nat) (g : TpaPort → TpaPort) : (s.modPort p g).cfg = s.cfg := rfl
@[simp] theorem State.modPort_store (s : State) (p : Nat) (g : TpaPort → TpaPort) : (s.modPort p g).store = s.store := rfl
@[simp] theorem State.modPort_prt (s : State) (p : Nat) (g : TpaPort → TpaPort) : (s.modPort p g).prt = s.prt := rfl
@[simp] theorem State.modPort_tsu (s : State) (p : Nat) (g : TpaPort → TpaPort) : (s.modPort p g).tsu = s.tsu := rfl
@[simp] theorem State.modPort_drc (s : State) (p : Nat) (g : TpaPort → TpaPort) : (s.modPort p g).drc = s.drc := rfl
@[simp] theorem State.modPort_obs (s : State) (p : Nat) (g : TpaPort → TpaPort) : (s.modPort p g).obs = s.obs := rfl
@[simp] theorem State.modPort_dram (s : State) (p : Nat) (g : TpaPort → TpaPort) : (s.modPort p g).dram = s.dram := rfl
@[simp] theorem State.modPort_flash (s : State) (p : Nat) (g : TpaPort → TpaPort) : (s.modPort p g).flash = s.flash := rfl
@[simp] theorem State.modPort_hostMem (s : State) (p : Nat) (g : TpaPort → TpaPort) : (s.modPort p g).hostMem = s.hostMem := rfl
@[simp] theorem State.modPort_partn (s : State) (p : Nat) (g : TpaPort → TpaPort) : (s.modPort p g).partn = s.partn := rfl
@[simp] theorem State.modPort_trees (s : State) (p : Nat) (g : TpaPort → TpaPort) : (s.modPort p g).trees = s.trees := rfl
@[simp] theorem State.modPort_terms (s : State) (p : Nat) (g : TpaPort → TpaPort) : (s.modPort p g).terms = s.terms := rfl
@[simp] theorem State.modPort_gview (s : State) (p : Nat) (g : TpaPort → TpaPort) : (s.modPort p g).gview = s.gview := rfl
@[simp] theorem State.modPort_mec (s : State) (p : Nat) (g : TpaPort → TpaPort) : (s.modPort p g).mec = s.mec := rfl
@[simp] theorem State.modPort_fwd (s : State) (p : Nat) (g : TpaPort → TpaPort) : (s.modPort p g).fwd = s.fwd := rfl
@[simp] theorem State.modPort_tmg (s : State) (p : Nat) (g : TpaPort → TpaPort) : (s.modPort p g).tmg = s.tmg := rfl
@[simp] theorem State.modPort_bpm (s : State) (p : Nat) (g : TpaPort → TpaPort) : (s.modPort p g).bpm = s.bpm := rfl
@[simp] theorem State.modPort_upl (s : State) (p : Nat) (g : TpaPort → TpaPort) : (s.modPort p g).upl = s.upl := rfl
@[simp] theorem State.modPort_cph (s : State) (p : Nat) (g : TpaPort → TpaPort) : (s.modPort p g).cph = s.cph := rfl
@[simp] theorem State.modPort_capture (s : State) (p : Nat) (g : TpaPort → TpaPort) : (s.modPort p g).capture = s.capture := rfl
@[simp] theorem State.modPort_secondAt (s : State) (p : Nat) (g : TpaPort → TpaPort) : (s.modPort p g).secondAt = s.secondAt := rfl
@[simp] theorem State.modPort_rd (s : State) (p : Nat) (g : TpaPort → TpaPort) (x : Fld) : (s.modPort p g).rd x = s.rd x := rfl

/-! modTree -/

@[simp] theorem State.modTree_regs (s : State) (n : Nat) (g : Tree → Tree) : (s.modTree n g).regs = s.regs := rfl
@[simp] theorem State.modTree_shadow (s : State) (n : Nat) (g : Tree → Tree) : (s.modTree n g).shadow = s.shadow := rfl
@[simp] theorem State.modTree_pending (s : State) (n : Nat) (g : Tree → Tree) : (s.modTree n g).pending = s.pending := rfl
@[simp] theorem State.modTree_fresh (s : State) (n : Nat) (g : Tree → Tree) : (s.modTree n g).fresh = s.fresh := rfl
@[simp] theorem State.modTree_ticks (s : State) (n : Nat) (g : Tree → Tree) : (s.modTree n g).ticks = s.ticks := rfl
@[simp] theorem State.modTree_hostIf (s : State) (n : Nat) (g : Tree → Tree) : (s.modTree n g).hostIf = s.hostIf := rfl
@[simp] theorem State.modTree_hub (s : State) (n : Nat) (g : Tree → Tree) : (s.modTree n g).hub = s.hub := rfl
@[simp] theorem State.modTree_hrx (s : State) (n : Nat) (g : Tree → Tree) : (s.modTree n g).hrx = s.hrx := rfl
@[simp] theorem State.modTree_htx (s : State) (n : Nat) (g : Tree → Tree) : (s.modTree n g).htx = s.htx := rfl
@[simp] theorem State.modTree_pwr (s : State) (n : Nat) (g : Tree → Tree) : (s.modTree n g).pwr = s.pwr := rfl
@[simp] theorem State.modTree_cfg (s : State) (n : Nat) (g : Tree → Tree) : (s.modTree n g).cfg = s.cfg := rfl
@[simp] theorem State.modTree_store (s : State) (n : Nat) (g : Tree → Tree) : (s.modTree n g).store = s.store := rfl
@[simp] theorem State.modTree_tpa (s : State) (n : Nat) (g : Tree → Tree) : (s.modTree n g).tpa = s.tpa := rfl
@[simp] theorem State.modTree_prt (s : State) (n : Nat) (g : Tree → Tree) : (s.modTree n g).prt = s.prt := rfl
@[simp] theorem State.modTree_tsu (s : State) (n : Nat) (g : Tree → Tree) : (s.modTree n g).tsu = s.tsu := rfl
@[simp] theorem State.modTree_drc (s : State) (n : Nat) (g : Tree → Tree) : (s.modTree n g).drc = s.drc := rfl
@[simp] theorem State.modTree_obs (s : State) (n : Nat) (g : Tree → Tree) : (s.modTree n g).obs = s.obs := rfl
@[simp] theorem State.modTree_dram (s : State) (n : Nat) (g : Tree → Tree) : (s.modTree n g).dram = s.dram := rfl
@[simp] theorem State.modTree_flash (s : State) (n : Nat) (g : Tree → Tree) : (s.modTree n g).flash = s.flash := rfl
@[simp] theorem State.modTree_hostMem (s : State) (n : Nat) (g : Tree → Tree) : (s.modTree n g).hostMem = s.hostMem := rfl
@[simp] theorem State.modTree_partn (s : State) (n : Nat) (g : Tree → Tree) : (s.modTree n g).partn = s.partn := rfl
@[simp] theorem State.modTree_terms (s : State) (n : Nat) (g : Tree → Tree) : (s.modTree n g).terms = s.terms := rfl
@[simp] theorem State.modTree_gview (s : State) (n : Nat) (g : Tree → Tree) : (s.modTree n g).gview = s.gview := rfl
@[simp] theorem State.modTree_mec (s : State) (n : Nat) (g : Tree → Tree) : (s.modTree n g).mec = s.mec := rfl
@[simp] theorem State.modTree_fwd (s : State) (n : Nat) (g : Tree → Tree) : (s.modTree n g).fwd = s.fwd := rfl
@[simp] theorem State.modTree_tmg (s : State) (n : Nat) (g : Tree → Tree) : (s.modTree n g).tmg = s.tmg := rfl
@[simp] theorem State.modTree_bpm (s : State) (n : Nat) (g : Tree → Tree) : (s.modTree n g).bpm = s.bpm := rfl
@[simp] theorem State.modTree_upl (s : State) (n : Nat) (g : Tree → Tree) : (s.modTree n g).upl = s.upl := rfl
@[simp] theorem State.modTree_cph (s : State) (n : Nat) (g : Tree → Tree) : (s.modTree n g).cph = s.cph := rfl
@[simp] theorem State.modTree_capture (s : State) (n : Nat) (g : Tree → Tree) : (s.modTree n g).capture = s.capture := rfl
@[simp] theorem State.modTree_secondAt (s : State) (n : Nat) (g : Tree → Tree) : (s.modTree n g).secondAt = s.secondAt := rfl
@[simp] theorem State.modTree_rd (s : State) (n : Nat) (g : Tree → Tree) (x : Fld) : (s.modTree n g).rd x = s.rd x := rfl

/-! modTerm -/

@[simp] theorem State.modTerm_regs (s : State) (n t : Nat) (g : Term → Term) : (s.modTerm n t g).regs = s.regs := rfl
@[simp] theorem State.modTerm_shadow (s : State) (n t : Nat) (g : Term → Term) : (s.modTerm n t g).shadow = s.shadow := rfl
@[simp] theorem State.modTerm_pending (s : State) (n t : Nat) (g : Term → Term) : (s.modTerm n t g).pending = s.pending := rfl
@[simp] theorem State.modTerm_fresh (s : State) (n t : Nat) (g : Term → Term) : (s.modTerm n t g).fresh = s.fresh := rfl
@[simp] theorem State.modTerm_ticks (s : State) (n t : Nat) (g : Term → Term) : (s.modTerm n t g).ticks = s.ticks := rfl
@[simp] theorem State.modTerm_hostIf (s : State) (n t : Nat) (g : Term → Term) : (s.modTerm n t g).hostIf = s.hostIf := rfl
@[simp] theorem State.modTerm_hub (s : State) (n t : Nat) (g : Term → Term) : (s.modTerm n t g).hub = s.hub := rfl
@[simp] theorem State.modTerm_hrx (s : State) (n t : Nat) (g : Term → Term) : (s.modTerm n t g).hrx = s.hrx := rfl
@[simp] theorem State.modTerm_htx (s : State) (n t : Nat) (g : Term → Term) : (s.modTerm n t g).htx = s.htx := rfl
@[simp] theorem State.modTerm_pwr (s : State) (n t : Nat) (g : Term → Term) : (s.modTerm n t g).pwr = s.pwr := rfl
@[simp] theorem State.modTerm_cfg (s : State) (n t : Nat) (g : Term → Term) : (s.modTerm n t g).cfg = s.cfg := rfl
@[simp] theorem State.modTerm_store (s : State) (n t : Nat) (g : Term → Term) : (s.modTerm n t g).store = s.store := rfl
@[simp] theorem State.modTerm_tpa (s : State) (n t : Nat) (g : Term → Term) : (s.modTerm n t g).tpa = s.tpa := rfl
@[simp] theorem State.modTerm_prt (s : State) (n t : Nat) (g : Term → Term) : (s.modTerm n t g).prt = s.prt := rfl
@[simp] theorem State.modTerm_tsu (s : State) (n t : Nat) (g : Term → Term) : (s.modTerm n t g).tsu = s.tsu := rfl
@[simp] theorem State.modTerm_drc (s : State) (n t : Nat) (g : Term → Term) : (s.modTerm n t g).drc = s.drc := rfl
@[simp] theorem State.modTerm_obs (s : State) (n t : Nat) (g : Term → Term) : (s.modTerm n t g).obs = s.obs := rfl
@[simp] theorem State.modTerm_dram (s : State) (n t : Nat) (g : Term → Term) : (s.modTerm n t g).dram = s.dram := rfl
@[simp] theorem State.modTerm_flash (s : State) (n t : Nat) (g : Term → Term) : (s.modTerm n t g).flash = s.flash := rfl
@[simp] theorem State.modTerm_hostMem (s : State) (n t : Nat) (g : Term → Term) : (s.modTerm n t g).hostMem = s.hostMem := rfl
@[simp] theorem State.modTerm_partn (s : State) (n t : Nat) (g : Term → Term) : (s.modTerm n t g).partn = s.partn := rfl
@[simp] theorem State.modTerm_trees (s : State) (n t : Nat) (g : Term → Term) : (s.modTerm n t g).trees = s.trees := rfl
@[simp] theorem State.modTerm_gview (s : State) (n t : Nat) (g : Term → Term) : (s.modTerm n t g).gview = s.gview := rfl
@[simp] theorem State.modTerm_mec (s : State) (n t : Nat) (g : Term → Term) : (s.modTerm n t g).mec = s.mec := rfl
@[simp] theorem State.modTerm_fwd (s : State) (n t : Nat) (g : Term → Term) : (s.modTerm n t g).fwd = s.fwd := rfl
@[simp] theorem State.modTerm_tmg (s : State) (n t : Nat) (g : Term → Term) : (s.modTerm n t g).tmg = s.tmg := rfl
@[simp] theorem State.modTerm_bpm (s : State) (n t : Nat) (g : Term → Term) : (s.modTerm n t g).bpm = s.bpm := rfl
@[simp] theorem State.modTerm_upl (s : State) (n t : Nat) (g : Term → Term) : (s.modTerm n t g).upl = s.upl := rfl
@[simp] theorem State.modTerm_cph (s : State) (n t : Nat) (g : Term → Term) : (s.modTerm n t g).cph = s.cph := rfl
@[simp] theorem State.modTerm_capture (s : State) (n t : Nat) (g : Term → Term) : (s.modTerm n t g).capture = s.capture := rfl
@[simp] theorem State.modTerm_secondAt (s : State) (n t : Nat) (g : Term → Term) : (s.modTerm n t g).secondAt = s.secondAt := rfl
@[simp] theorem State.modTerm_rd (s : State) (n t : Nat) (g : Term → Term) (x : Fld) : (s.modTerm n t g).rd x = s.rd x := rfl

/-! modMec -/

@[simp] theorem State.modMec_regs (s : State) (g : Mec → Mec) : (s.modMec g).regs = s.regs := rfl
@[simp] theorem State.modMec_shadow (s : State) (g : Mec → Mec) : (s.modMec g).shadow = s.shadow := rfl
@[simp] theorem State.modMec_pending (s : State) (g : Mec → Mec) : (s.modMec g).pending = s.pending := rfl
@[simp] theorem State.modMec_fresh (s : State) (g : Mec → Mec) : (s.modMec g).fresh = s.fresh := rfl
@[simp] theorem State.modMec_ticks (s : State) (g : Mec → Mec) : (s.modMec g).ticks = s.ticks := rfl
@[simp] theorem State.modMec_hostIf (s : State) (g : Mec → Mec) : (s.modMec g).hostIf = s.hostIf := rfl
@[simp] theorem State.modMec_hub (s : State) (g : Mec → Mec) : (s.modMec g).hub = s.hub := rfl
@[simp] theorem State.modMec_hrx (s : State) (g : Mec → Mec) : (s.modMec g).hrx = s.hrx := rfl
@[simp] theorem State.modMec_htx (s : State) (g : Mec → Mec) : (s.modMec g).htx = s.htx := rfl
@[simp] theorem State.modMec_pwr (s : State) (g : Mec → Mec) : (s.modMec g).pwr = s.pwr := rfl
@[simp] theorem State.modMec_cfg (s : State) (g : Mec → Mec) : (s.modMec g).cfg = s.cfg := rfl
@[simp] theorem State.modMec_store (s : State) (g : Mec → Mec) : (s.modMec g).store = s.store := rfl
@[simp] theorem State.modMec_tpa (s : State) (g : Mec → Mec) : (s.modMec g).tpa = s.tpa := rfl
@[simp] theorem State.modMec_prt (s : State) (g : Mec → Mec) : (s.modMec g).prt = s.prt := rfl
@[simp] theorem State.modMec_tsu (s : State) (g : Mec → Mec) : (s.modMec g).tsu = s.tsu := rfl
@[simp] theorem State.modMec_drc (s : State) (g : Mec → Mec) : (s.modMec g).drc = s.drc := rfl
@[simp] theorem State.modMec_obs (s : State) (g : Mec → Mec) : (s.modMec g).obs = s.obs := rfl
@[simp] theorem State.modMec_dram (s : State) (g : Mec → Mec) : (s.modMec g).dram = s.dram := rfl
@[simp] theorem State.modMec_flash (s : State) (g : Mec → Mec) : (s.modMec g).flash = s.flash := rfl
@[simp] theorem State.modMec_hostMem (s : State) (g : Mec → Mec) : (s.modMec g).hostMem = s.hostMem := rfl
@[simp] theorem State.modMec_partn (s : State) (g : Mec → Mec) : (s.modMec g).partn = s.partn := rfl
@[simp] theorem State.modMec_trees (s : State) (g : Mec → Mec) : (s.modMec g).trees = s.trees := rfl
@[simp] theorem State.modMec_terms (s : State) (g : Mec → Mec) : (s.modMec g).terms = s.terms := rfl
@[simp] theorem State.modMec_gview (s : State) (g : Mec → Mec) : (s.modMec g).gview = s.gview := rfl
@[simp] theorem State.modMec_mec (s : State) (g : Mec → Mec) : (s.modMec g).mec = g s.mec := rfl
@[simp] theorem State.modMec_fwd (s : State) (g : Mec → Mec) : (s.modMec g).fwd = s.fwd := rfl
@[simp] theorem State.modMec_tmg (s : State) (g : Mec → Mec) : (s.modMec g).tmg = s.tmg := rfl
@[simp] theorem State.modMec_bpm (s : State) (g : Mec → Mec) : (s.modMec g).bpm = s.bpm := rfl
@[simp] theorem State.modMec_upl (s : State) (g : Mec → Mec) : (s.modMec g).upl = s.upl := rfl
@[simp] theorem State.modMec_cph (s : State) (g : Mec → Mec) : (s.modMec g).cph = s.cph := rfl
@[simp] theorem State.modMec_capture (s : State) (g : Mec → Mec) : (s.modMec g).capture = s.capture := rfl
@[simp] theorem State.modMec_secondAt (s : State) (g : Mec → Mec) : (s.modMec g).secondAt = s.secondAt := rfl
@[simp] theorem State.modMec_rd (s : State) (g : Mec → Mec) (x : Fld) : (s.modMec g).rd x = s.rd x := rfl

/-! modBpm -/

@[simp] theorem State.modBpm_regs (s : State) (g : Bpm → Bpm) : (s.modBpm g).regs = s.regs := rfl
@[simp] theorem State.modBpm_shadow (s : State) (g : Bpm → Bpm) : (s.modBpm g).shadow = s.shadow := rfl
@[simp] theorem State.modBpm_pending (s : State) (g : Bpm → Bpm) : (s.modBpm g).pending = s.pending := rfl
@[simp] theorem State.modBpm_fresh (s : State) (g : Bpm → Bpm) : (s.modBpm g).fresh = s.fresh := rfl
@[simp] theorem State.modBpm_ticks (s : State) (g : Bpm → Bpm) : (s.modBpm g).ticks = s.ticks := rfl
@[simp] theorem State.modBpm_hostIf (s : State) (g : Bpm → Bpm) : (s.modBpm g).hostIf = s.hostIf := rfl
@[simp] theorem State.modBpm_hub (s : State) (g : Bpm → Bpm) : (s.modBpm g).hub = s.hub := rfl
@[simp] theorem State.modBpm_hrx (s : State) (g : Bpm → Bpm) : (s.modBpm g).hrx = s.hrx := rfl
@[simp] theorem State.modBpm_htx (s : State) (g : Bpm → Bpm) : (s.modBpm g).htx = s.htx := rfl
@[simp] theorem State.modBpm_pwr (s : State) (g : Bpm → Bpm) : (s.modBpm g).pwr = s.pwr := rfl
@[simp] theorem State.modBpm_cfg (s : State) (g : Bpm → Bpm) : (s.modBpm g).cfg = s.cfg := rfl
@[simp] theorem State.modBpm_store (s : State) (g : Bpm → Bpm) : (s.modBpm g).store = s.store := rfl
@[simp] theorem State.modBpm_tpa (s : State) (g : Bpm → Bpm) : (s.modBpm g).tpa = s.tpa := rfl
@[simp] theorem State.modBpm_prt (s : State) (g : Bpm → Bpm) : (s.modBpm g).prt = s.prt := rfl
@[simp] theorem State.modBpm_tsu (s : State) (g : Bpm → Bpm) : (s.modBpm g).tsu = s.tsu := rfl
@[simp] theorem State.modBpm_drc (s : State) (g : Bpm → Bpm) : (s.modBpm g).drc = s.drc := rfl
@[simp] theorem State.modBpm_obs (s : State) (g : Bpm → Bpm) : (s.modBpm g).obs = s.obs := rfl
@[simp] theorem State.modBpm_dram (s : State) (g : Bpm → Bpm) : (s.modBpm g).dram = s.dram := rfl
@[simp] theorem State.modBpm_flash (s : State) (g : Bpm → Bpm) : (s.modBpm g).flash = s.flash := rfl
@[simp] theorem State.modBpm_hostMem (s : State) (g : Bpm → Bpm) : (s.modBpm g).hostMem = s.hostMem := rfl
@[simp] theorem State.modBpm_partn (s : State) (g : Bpm → Bpm) : (s.modBpm g).partn = s.partn := rfl
@[simp] theorem State.modBpm_trees (s : State) (g : Bpm → Bpm) : (s.modBpm g).trees = s.trees := rfl
@[simp] theorem State.modBpm_terms (s : State) (g : Bpm → Bpm) : (s.modBpm g).terms = s.terms := rfl
@[simp] theorem State.modBpm_gview (s : State) (g : Bpm → Bpm) : (s.modBpm g).gview = s.gview := rfl
@[simp] theorem State.modBpm_mec (s : State) (g : Bpm → Bpm) : (s.modBpm g).mec = s.mec := rfl
@[simp] theorem State.modBpm_fwd (s : State) (g : Bpm → Bpm) : (s.modBpm g).fwd = s.fwd := rfl
@[simp] theorem State.modBpm_tmg (s : State) (g : Bpm → Bpm) : (s.modBpm g).tmg = s.tmg := rfl
@[simp] theorem State.modBpm_bpm (s : State) (g : Bpm → Bpm) : (s.modBpm g).bpm = g s.bpm := rfl
@[simp] theorem State.modBpm_upl (s : State) (g : Bpm → Bpm) : (s.modBpm g).upl = s.upl := rfl
@[simp] theorem State.modBpm_cph (s : State) (g : Bpm → Bpm) : (s.modBpm g).cph = s.cph := rfl
@[simp] theorem State.modBpm_capture (s : State) (g : Bpm → Bpm) : (s.modBpm g).capture = s.capture := rfl
@[simp] theorem State.modBpm_secondAt (s : State) (g : Bpm → Bpm) : (s.modBpm g).secondAt = s.secondAt := rfl
@[simp] theorem State.modBpm_rd (s : State) (g : Bpm → Bpm) (x : Fld) : (s.modBpm g).rd x = s.rd x := rfl

/-! modTmg -/

@[simp] theorem State.modTmg_regs (s : State) (g : Tmg → Tmg) : (s.modTmg g).regs = s.regs := rfl
@[simp] theorem State.modTmg_shadow (s : State) (g : Tmg → Tmg) : (s.modTmg g).shadow = s.shadow := rfl
@[simp] theorem State.modTmg_pending (s : State) (g : Tmg → Tmg) : (s.modTmg g).pending = s.pending := rfl
@[simp] theorem State.modTmg_fresh (s : State) (g : Tmg → Tmg) : (s.modTmg g).fresh = s.fresh := rfl
@[simp] theorem State.modTmg_ticks (s : State) (g : Tmg → Tmg) : (s.modTmg g).ticks = s.ticks := rfl
@[simp] theorem State.modTmg_hostIf (s : State) (g : Tmg → Tmg) : (s.modTmg g).hostIf = s.hostIf := rfl
@[simp] theorem State.modTmg_hub (s : State) (g : Tmg → Tmg) : (s.modTmg g).hub = s.hub := rfl
@[simp] theorem State.modTmg_hrx (s : State) (g : Tmg → Tmg) : (s.modTmg g).hrx = s.hrx := rfl
@[simp] theorem State.modTmg_htx (s : State) (g : Tmg → Tmg) : (s.modTmg g).htx = s.htx := rfl
@[simp] theorem State.modTmg_pwr (s : State) (g : Tmg → Tmg) : (s.modTmg g).pwr = s.pwr := rfl
@[simp] theorem State.modTmg_cfg (s : State) (g : Tmg → Tmg) : (s.modTmg g).cfg = s.cfg := rfl
@[simp] theorem State.modTmg_store (s : State) (g : Tmg → Tmg) : (s.modTmg g).store = s.store := rfl
@[simp] theorem State.modTmg_tpa (s : State) (g : Tmg → Tmg) : (s.modTmg g).tpa = s.tpa := rfl
@[simp] theorem State.modTmg_prt (s : State) (g : Tmg → Tmg) : (s.modTmg g).prt = s.prt := rfl
@[simp] theorem State.modTmg_tsu (s : State) (g : Tmg → Tmg) : (s.modTmg g).tsu = s.tsu := rfl
@[simp] theorem State.modTmg_drc (s : State) (g : Tmg → Tmg) : (s.modTmg g).drc = s.drc := rfl
@[simp] theorem State.modTmg_obs (s : State) (g : Tmg → Tmg) : (s.modTmg g).obs = s.obs := rfl
@[simp] theorem State.modTmg_dram (s : State) (g : Tmg → Tmg) : (s.modTmg g).dram = s.dram := rfl
@[simp] theorem State.modTmg_flash (s : State) (g : Tmg → Tmg) : (s.modTmg g).flash = s.flash := rfl
@[simp] theorem State.modTmg_hostMem (s : State) (g : Tmg → Tmg) : (s.modTmg g).hostMem = s.hostMem := rfl
@[simp] theorem State.modTmg_partn (s : State) (g : Tmg → Tmg) : (s.modTmg g).partn = s.partn := rfl
@[simp] theorem State.modTmg_trees (s : State) (g : Tmg → Tmg) : (s.modTmg g).trees = s.trees := rfl
@[simp] theorem State.modTmg_terms (s : State) (g : Tmg → Tmg) : (s.modTmg g).terms = s.terms := rfl
@[simp] theorem State.modTmg_gview (s : State) (g : Tmg → Tmg) : (s.modTmg g).gview = s.gview := rfl
@[simp] theorem State.modTmg_mec (s : State) (g : Tmg → Tmg) : (s.modTmg g).mec = s.mec := rfl
@[simp] theorem State.modTmg_fwd (s : State) (g : Tmg → Tmg) : (s.modTmg g).fwd = s.fwd := rfl
@[simp] theorem State.modTmg_tmg (s : State) (g : Tmg → Tmg) : (s.modTmg g).tmg = g s.tmg := rfl
@[simp] theorem State.modTmg_bpm (s : State) (g : Tmg → Tmg) : (s.modTmg g).bpm = s.bpm := rfl
@[simp] theorem State.modTmg_upl (s : State) (g : Tmg → Tmg) : (s.modTmg g).upl = s.upl := rfl
@[simp] theorem State.modTmg_cph (s : State) (g : Tmg → Tmg) : (s.modTmg g).cph = s.cph := rfl
@[simp] theorem State.modTmg_capture (s : State) (g : Tmg → Tmg) : (s.modTmg g).capture = s.capture := rfl
@[simp] theorem State.modTmg_secondAt (s : State) (g : Tmg → Tmg) : (s.modTmg g).secondAt = s.secondAt := rfl
@[simp] theorem State.modTmg_rd (s : State) (g : Tmg → Tmg) (x : Fld) : (s.modTmg g).rd x = s.rd x := rfl

/-! modFwd -/

@[simp] theorem State.modFwd_regs (s : State) (g : Fwd → Fwd) : (s.modFwd g).regs = s.regs := rfl
@[simp] theorem State.modFwd_shadow (s : State) (g : Fwd → Fwd) : (s.modFwd g).shadow = s.shadow := rfl
@[simp] theorem State.modFwd_pending (s : State) (g : Fwd → Fwd) : (s.modFwd g).pending = s.pending := rfl
@[simp] theorem State.modFwd_fresh (s : State) (g : Fwd → Fwd) : (s.modFwd g).fresh = s.fresh := rfl
@[simp] theorem State.modFwd_ticks (s : State) (g : Fwd → Fwd) : (s.modFwd g).ticks = s.ticks := rfl
@[simp] theorem State.modFwd_hostIf (s : State) (g : Fwd → Fwd) : (s.modFwd g).hostIf = s.hostIf := rfl
@[simp] theorem State.modFwd_hub (s : State) (g : Fwd → Fwd) : (s.modFwd g).hub = s.hub := rfl
@[simp] theorem State.modFwd_hrx (s : State) (g : Fwd → Fwd) : (s.modFwd g).hrx = s.hrx := rfl
@[simp] theorem State.modFwd_htx (s : State) (g : Fwd → Fwd) : (s.modFwd g).htx = s.htx := rfl
@[simp] theorem State.modFwd_pwr (s : State) (g : Fwd → Fwd) : (s.modFwd g).pwr = s.pwr := rfl
@[simp] theorem State.modFwd_cfg (s : State) (g : Fwd → Fwd) : (s.modFwd g).cfg = s.cfg := rfl
@[simp] theorem State.modFwd_store (s : State) (g : Fwd → Fwd) : (s.modFwd g).store = s.store := rfl
@[simp] theorem State.modFwd_tpa (s : State) (g : Fwd → Fwd) : (s.modFwd g).tpa = s.tpa := rfl
@[simp] theorem State.modFwd_prt (s : State) (g : Fwd → Fwd) : (s.modFwd g).prt = s.prt := rfl
@[simp] theorem State.modFwd_tsu (s : State) (g : Fwd → Fwd) : (s.modFwd g).tsu = s.tsu := rfl
@[simp] theorem State.modFwd_drc (s : State) (g : Fwd → Fwd) : (s.modFwd g).drc = s.drc := rfl
@[simp] theorem State.modFwd_obs (s : State) (g : Fwd → Fwd) : (s.modFwd g).obs = s.obs := rfl
@[simp] theorem State.modFwd_dram (s : State) (g : Fwd → Fwd) : (s.modFwd g).dram = s.dram := rfl
@[simp] theorem State.modFwd_flash (s : State) (g : Fwd → Fwd) : (s.modFwd g).flash = s.flash := rfl
@[simp] theorem State.modFwd_hostMem (s : State) (g : Fwd → Fwd) : (s.modFwd g).hostMem = s.hostMem := rfl
@[simp] theorem State.modFwd_partn (s : State) (g : Fwd → Fwd) : (s.modFwd g).partn = s.partn := rfl
@[simp] theorem State.modFwd_trees (s : State) (g : Fwd → Fwd) : (s.modFwd g).trees = s.trees := rfl
@[simp] theorem State.modFwd_terms (s : State) (g : Fwd → Fwd) : (s.modFwd g).terms = s.terms := rfl
@[simp] theorem State.modFwd_gview (s : State) (g : Fwd → Fwd) : (s.modFwd g).gview = s.gview := rfl
@[simp] theorem State.modFwd_mec (s : State) (g : Fwd → Fwd) : (s.modFwd g).mec = s.mec := rfl
@[simp] theorem State.modFwd_fwd (s : State) (g : Fwd → Fwd) : (s.modFwd g).fwd = g s.fwd := rfl
@[simp] theorem State.modFwd_tmg (s : State) (g : Fwd → Fwd) : (s.modFwd g).tmg = s.tmg := rfl
@[simp] theorem State.modFwd_bpm (s : State) (g : Fwd → Fwd) : (s.modFwd g).bpm = s.bpm := rfl
@[simp] theorem State.modFwd_upl (s : State) (g : Fwd → Fwd) : (s.modFwd g).upl = s.upl := rfl
@[simp] theorem State.modFwd_cph (s : State) (g : Fwd → Fwd) : (s.modFwd g).cph = s.cph := rfl
@[simp] theorem State.modFwd_capture (s : State) (g : Fwd → Fwd) : (s.modFwd g).capture = s.capture := rfl
@[simp] theorem State.modFwd_secondAt (s : State) (g : Fwd → Fwd) : (s.modFwd g).secondAt = s.secondAt := rfl
@[simp] theorem State.modFwd_rd (s : State) (g : Fwd → Fwd) (x : Fld) : (s.modFwd g).rd x = s.rd x := rfl

/-! modCph -/

@[simp] theorem State.modCph_regs (s : State) (g : Cph → Cph) : (s.modCph g).regs = s.regs := rfl
@[simp] theorem State.modCph_shadow (s : State) (g : Cph → Cph) : (s.modCph g).shadow = s.shadow := rfl
@[simp] theorem State.modCph_pending (s : State) (g : Cph → Cph) : (s.modCph g).pending = s.pending := rfl
@[simp] theorem State.modCph_fresh (s : State) (g : Cph → Cph) : (s.modCph g).fresh = s.fresh := rfl
@[simp] theorem State.modCph_ticks (s : State) (g : Cph → Cph) : (s.modCph g).ticks = s.ticks := rfl
@[simp] theorem State.modCph_hostIf (s : State) (g : Cph → Cph) : (s.modCph g).hostIf = s.hostIf := rfl
@[simp] theorem State.modCph_hub (s : State) (g : Cph → Cph) : (s.modCph g).hub = s.hub := rfl
@[simp] theorem State.modCph_hrx (s : State) (g : Cph → Cph) : (s.modCph g).hrx = s.hrx := rfl
@[simp] theorem State.modCph_htx (s : State) (g : Cph → Cph) : (s.modCph g).htx = s.htx := rfl
@[simp] theorem State.modCph_pwr (s : State) (g : Cph → Cph) : (s.modCph g).pwr = s.pwr := rfl
@[simp] theorem State.modCph_cfg (s : State) (g : Cph → Cph) : (s.modCph g).cfg = s.cfg := rfl
@[simp] theorem State.modCph_store (s : State) (g : Cph → Cph) : (s.modCph g).store = s.store := rfl
@[simp] theorem State.modCph_tpa (s : State) (g : Cph → Cph) : (s.modCph g).tpa = s.tpa := rfl
@[simp] theorem State.modCph_prt (s : State) (g : Cph → Cph) : (s.modCph g).prt = s.prt := rfl
@[simp] theorem State.modCph_tsu (s : State) (g : Cph → Cph) : (s.modCph g).tsu = s.tsu := rfl
@[simp] theorem State.modCph_drc (s : State) (g : Cph → Cph) : (s.modCph g).drc = s.drc := rfl
@[simp] theorem State.modCph_obs (s : State) (g : Cph → Cph) : (s.modCph g).obs = s.obs := rfl
@[simp] theorem State.modCph_dram (s : State) (g : Cph → Cph) : (s.modCph g).dram = s.dram := rfl
@[simp] theorem State.modCph_flash (s : State) (g : Cph → Cph) : (s.modCph g).flash = s.flash := rfl
@[simp] theorem State.modCph_hostMem (s : State) (g : Cph → Cph) : (s.modCph g).hostMem = s.hostMem := rfl
@[simp] theorem State.modCph_partn (s : State) (g : Cph → Cph) : (s.modCph g).partn = s.partn := rfl
@[simp] theorem State.modCph_trees (s : State) (g : Cph → Cph) : (s.modCph g).trees = s.trees := rfl
@[simp] theorem State.modCph_terms (s : State) (g : Cph → Cph) : (s.modCph g).terms = s.terms := rfl
@[simp] theorem State.modCph_gview (s : State) (g : Cph → Cph) : (s.modCph g).gview = s.gview := rfl
@[simp] theorem State.modCph_mec (s : State) (g : Cph → Cph) : (s.modCph g).mec = s.mec := rfl
@[simp] theorem State.modCph_fwd (s : State) (g : Cph → Cph) : (s.modCph g).fwd = s.fwd := rfl
@[simp] theorem State.modCph_tmg (s : State) (g : Cph → Cph) : (s.modCph g).tmg = s.tmg := rfl
@[simp] theorem State.modCph_bpm (s : State) (g : Cph → Cph) : (s.modCph g).bpm = s.bpm := rfl
@[simp] theorem State.modCph_upl (s : State) (g : Cph → Cph) : (s.modCph g).upl = s.upl := rfl
@[simp] theorem State.modCph_cph (s : State) (g : Cph → Cph) : (s.modCph g).cph = g s.cph := rfl
@[simp] theorem State.modCph_capture (s : State) (g : Cph → Cph) : (s.modCph g).capture = s.capture := rfl
@[simp] theorem State.modCph_secondAt (s : State) (g : Cph → Cph) : (s.modCph g).secondAt = s.secondAt := rfl
@[simp] theorem State.modCph_rd (s : State) (g : Cph → Cph) (x : Fld) : (s.modCph g).rd x = s.rd x := rfl

/-! modUpl -/

@[simp] theorem State.modUpl_regs (s : State) (u : Nat) (g : UplPort → UplPort) : (s.modUpl u g).regs = s.regs := rfl
@[simp] theorem State.modUpl_shadow (s : State) (u : Nat) (g : UplPort → UplPort) : (s.modUpl u g).shadow = s.shadow := rfl
@[simp] theorem State.modUpl_pending (s : State) (u : Nat) (g : UplPort → UplPort) : (s.modUpl u g).pending = s.pending := rfl
@[simp] theorem State.modUpl_fresh (s : State) (u : Nat) (g : UplPort → UplPort) : (s.modUpl u g).fresh = s.fresh := rfl
@[simp] theorem State.modUpl_ticks (s : State) (u : Nat) (g : UplPort → UplPort) : (s.modUpl u g).ticks = s.ticks := rfl
@[simp] theorem State.modUpl_hostIf (s : State) (u : Nat) (g : UplPort → UplPort) : (s.modUpl u g).hostIf = s.hostIf := rfl
@[simp] theorem State.modUpl_hub (s : State) (u : Nat) (g : UplPort → UplPort) : (s.modUpl u g).hub = s.hub := rfl
@[simp] theorem State.modUpl_hrx (s : State) (u : Nat) (g : UplPort → UplPort) : (s.modUpl u g).hrx = s.hrx := rfl
@[simp] theorem State.modUpl_htx (s : State) (u : Nat) (g : UplPort → UplPort) : (s.modUpl u g).htx = s.htx := rfl
@[simp] theorem State.modUpl_pwr (s : State) (u : Nat) (g : UplPort → UplPort) : (s.modUpl u g).pwr = s.pwr := rfl
@[simp] theorem State.modUpl_cfg (s : State) (u : Nat) (g : UplPort → UplPort) : (s.modUpl u g).cfg = s.cfg := rfl
@[simp] theorem State.modUpl_store (s : State) (u : Nat) (g : UplPort → UplPort) : (s.modUpl u g).store = s.store := rfl
@[simp] theorem State.modUpl_tpa (s : State) (u : Nat) (g : UplPort → UplPort) : (s.modUpl u g).tpa = s.tpa := rfl
@[simp] theorem State.modUpl_prt (s : State) (u : Nat) (g : UplPort → UplPort) : (s.modUpl u g).prt = s.prt := rfl
@[simp] theorem State.modUpl_tsu (s : State) (u : Nat) (g : UplPort → UplPort) : (s.modUpl u g).tsu = s.tsu := rfl
@[simp] theorem State.modUpl_drc (s : State) (u : Nat) (g : UplPort → UplPort) : (s.modUpl u g).drc = s.drc := rfl
@[simp] theorem State.modUpl_obs (s : State) (u : Nat) (g : UplPort → UplPort) : (s.modUpl u g).obs = s.obs := rfl
@[simp] theorem State.modUpl_dram (s : State) (u : Nat) (g : UplPort → UplPort) : (s.modUpl u g).dram = s.dram := rfl
@[simp] theorem State.modUpl_flash (s : State) (u : Nat) (g : UplPort → UplPort) : (s.modUpl u g).flash = s.flash := rfl
@[simp] theorem State.modUpl_hostMem (s : State) (u : Nat) (g : UplPort → UplPort) : (s.modUpl u g).hostMem = s.hostMem := rfl
@[simp] theorem State.modUpl_partn (s : State) (u : Nat) (g : UplPort → UplPort) : (s.modUpl u g).partn = s.partn := rfl
@[simp] theorem State.modUpl_trees (s : State) (u : Nat) (g : UplPort → UplPort) : (s.modUpl u g).trees = s.trees := rfl
@[simp] theorem State.modUpl_terms (s : State) (u : Nat) (g : UplPort → UplPort) : (s.modUpl u g).terms = s.terms := rfl
@[simp] theorem State.modUpl_gview (s : State) (u : Nat) (g : UplPort → UplPort) : (s.modUpl u g).gview = s.gview := rfl
@[simp] theorem State.modUpl_mec (s : State) (u : Nat) (g : UplPort → UplPort) : (s.modUpl u g).mec = s.mec := rfl
@[simp] theorem State.modUpl_fwd (s : State) (u : Nat) (g : UplPort → UplPort) : (s.modUpl u g).fwd = s.fwd := rfl
@[simp] theorem State.modUpl_tmg (s : State) (u : Nat) (g : UplPort → UplPort) : (s.modUpl u g).tmg = s.tmg := rfl
@[simp] theorem State.modUpl_bpm (s : State) (u : Nat) (g : UplPort → UplPort) : (s.modUpl u g).bpm = s.bpm := rfl
@[simp] theorem State.modUpl_cph (s : State) (u : Nat) (g : UplPort → UplPort) : (s.modUpl u g).cph = s.cph := rfl
@[simp] theorem State.modUpl_capture (s : State) (u : Nat) (g : UplPort → UplPort) : (s.modUpl u g).capture = s.capture := rfl
@[simp] theorem State.modUpl_secondAt (s : State) (u : Nat) (g : UplPort → UplPort) : (s.modUpl u g).secondAt = s.secondAt := rfl
@[simp] theorem State.modUpl_rd (s : State) (u : Nat) (g : UplPort → UplPort) (x : Fld) : (s.modUpl u g).rd x = s.rd x := rfl

end Sys2Proof.Machine
end

