-- ==== Sys2Proof/Laws/Host.lean ====
section
/-! SUPPORT. Laws/Host.lean: a host command reaches its block. -/
namespace Sys2Proof.Machine

theorem setMem_none {s : State} (h : s.hostIf.pcieMem = .none) : s.setMem .pcie .none = s := by
  unfold State.setMem State.modHost
  dsimp only
  rw [show ({ s.hostIf with pcieMem := .none } : HostIf) = s.hostIf from by rw [← h]]

theorem flushPath_ready {s : State} (h : s.hostReady = true) : flushPath .pcie s = s := by
  unfold State.hostReady at h
  simp only [Bool.and_eq_true, beq_iff_eq] at h
  unfold flushPath
  rw [show s.mem .pcie = .none from h.2]
  exact setMem_none h.2

/-- With the path free and the register's tile JOINED, a host command is the block's own operation. -/
theorem hostCmd_ready {s : State} (h : s.hostReady = true) {addr : Nat} (ht : s.tileAway addr = false) (g : State → State) :
    hostCmd .pcie addr g s = g s := by
  have hr : s.reach .pcie = true := by
    unfold State.hostReady at h; simp only [Bool.and_eq_true] at h; exact h.1
  unfold hostCmd
  rw [hr, flushPath_ready h]
  simp [ht]

end Sys2Proof.Machine
end

