-- ==== Sys2Proof/Laws/KeepsOps.lean ====
section
/-! SUPPORT. Laws/KeepsOps.lean: every operation of Machine/Ops.lean keeps the queue of commands and the canonical forms (Keeps). -/
namespace Sys2Proof.Machine

theorem rising_putFld {m : SMap Nat} (h : SMap.rising m = true) (f : Fld) (v : Nat) : SMap.rising (putFld f v m) = true := by
  unfold putFld
  split
  · exact SMap.rising_del h _
  · exact SMap.rising_put h _ _

theorem wr_keeps {b s : State} (f : Fld) (v : Nat) (h : Keeps b s) : Keeps b (s.wr f v) :=
  ⟨h.pending, fun hb => ⟨h.dram hb, h.flash hb, h.hostMem hb, rising_putFld (h.regs hb) _ _, h.shadow hb⟩⟩

theorem wrShadow_keeps {b s : State} (g : Nat) (f : Fld) (v : Nat) (h : Keeps b s) : Keeps b (s.wrShadow g f v) :=
  ⟨h.pending, fun hb => ⟨h.dram hb, h.flash hb, h.hostMem hb, h.regs hb, SMap.rising_put (h.shadow hb) _ _⟩⟩

theorem sat_keeps {s₀ s : State} (f : Fld) (n : Nat) (hk : Keeps s₀ s) : Keeps s₀ (State.sat f n s) := by
  unfold State.sat
  repeat' with_reducible first
    | assumption | intro _ | apply wr_keeps

theorem wrap_keeps {s₀ s : State} (f : Fld) (n : Nat) (hk : Keeps s₀ s) : Keeps s₀ (State.wrap f n s) := by
  unfold State.wrap
  repeat' with_reducible first
    | assumption | intro _ | apply wr_keeps

theorem draw_keeps {s₀ s : State} (hk : Keeps s₀ s) : Keeps s₀ (State.draw s) := by
  unfold State.draw
  repeat' with_reducible first
    | assumption | intro _ | apply mk_keeps | apply Keeps.pending | apply Keeps.dram | apply Keeps.flash | apply Keeps.hostMem
    | apply Keeps.regs | apply Keeps.shadow

theorem obsAdd_keeps {s₀ s : State} (i : Nat) (n : Nat) (hk : Keeps s₀ s) : Keeps s₀ (obsAdd i n s).1 := by
  unfold obsAdd
  repeat' with_reducible first
    | assumption | intro _ | extract_lets | apply ite_keeps | split | apply wr_keeps

theorem obsEvent_keeps {s₀ s : State} (id : Nat) (hk : Keeps s₀ s) : Keeps s₀ (obsEvent id s).1 := by
  unfold obsEvent
  repeat' with_reducible first
    | assumption | intro _ | extract_lets | split | apply foldl_keeps | apply foldl_fst_keeps | apply foldl_snd_keeps
    | apply SMap.rising_filter | apply Memory.wf_filter | apply obsAdd_keeps

theorem modHub_keeps {s₀ s : State} (g : Hub → Hub) (hk : Keeps s₀ s) : Keeps s₀ (State.modHub g s) := by
  unfold State.modHub
  repeat' with_reducible first
    | assumption | intro _ | apply mk_keeps | apply Keeps.pending | apply Keeps.dram | apply Keeps.flash | apply Keeps.hostMem
    | apply Keeps.regs | apply Keeps.shadow

theorem setStatus_keeps {s₀ s : State} (id : Nat) (hk : Keeps s₀ s) : Keeps s₀ (setStatus id s) := by
  unfold setStatus
  repeat' with_reducible first
    | assumption | intro _ | apply wr_keeps

theorem faultLog_keeps {s₀ s : State} (id : Nat) (stamp : Nat) (hk : Keeps s₀ s) : Keeps s₀ (faultLog id stamp s) := by
  unfold faultLog
  repeat' with_reducible first
    | assumption | intro _ | apply ite_keeps | apply SMap.rising_put | apply SMap.rising_foldl | apply mk_keeps | apply Keeps.pending
    | apply Keeps.dram | apply Keeps.flash | apply Keeps.hostMem | apply Keeps.regs | apply Keeps.shadow

theorem sendMsix_keeps {s₀ s : State} (v : Nat) (hk : Keeps s₀ s) : Keeps s₀ (sendMsix v s) := by
  unfold sendMsix
  repeat' with_reducible first
    | assumption | intro _ | extract_lets | apply ite_keeps | apply SMap.rising_put | apply SMap.rising_foldl | apply modHub_keeps
    | apply mk_keeps | apply Keeps.pending | apply Keeps.dram | apply Keeps.flash | apply Keeps.hostMem | apply Keeps.regs
    | apply Keeps.shadow

theorem sendPending_keeps {s₀ s : State} (hk : Keeps s₀ s) : Keeps s₀ (sendPending s) := by
  unfold sendPending
  repeat' with_reducible first
    | assumption | intro _ | apply ite_keeps | apply fst_ite_keeps | apply snd_ite_keeps | apply foldl_keeps | apply foldl_fst_keeps
    | apply foldl_snd_keeps | apply SMap.rising_filter | apply Memory.wf_filter | apply SMap.rising_put | apply SMap.rising_foldl
    | apply modHub_keeps | apply sendMsix_keeps | apply mk_keeps | apply Keeps.pending | apply Keeps.dram | apply Keeps.flash
    | apply Keeps.hostMem | apply Keeps.regs | apply Keeps.shadow

theorem deliver_keeps {s₀ s : State} (id : Nat) (logged : Bool) (reflex : Bool) (stamp : Nat) (hk : Keeps s₀ s) : Keeps s₀ (deliver id logged reflex stamp s) := by
  unfold deliver
  repeat' with_reducible first
    | assumption | intro _ | apply ite_keeps | apply modHub_keeps | apply sendMsix_keeps | apply mk_keeps | apply Keeps.pending
    | apply Keeps.dram | apply Keeps.flash | apply Keeps.hostMem | apply Keeps.regs | apply Keeps.shadow

theorem occur_keeps {s₀ s : State} (e : Ev) (reflex : Bool) (hk : Keeps s₀ s) : Keeps s₀ (occur e reflex s).1 := by
  unfold occur
  repeat' with_reducible first
    | assumption | intro _ | extract_lets | apply ite_keeps | split | apply deliver_keeps | apply draw_keeps | apply faultLog_keeps
    | apply modHub_keeps | apply obsEvent_keeps | apply setStatus_keeps | apply mk_keeps | apply Keeps.pending | apply Keeps.dram
    | apply Keeps.flash | apply Keeps.hostMem | apply Keeps.regs | apply Keeps.shadow

theorem bookFiring_keeps {s₀ s : State} (r : Nat) (hk : Keeps s₀ s) : Keeps s₀ (bookFiring r s) := by
  unfold bookFiring
  repeat' with_reducible first
    | assumption | intro _ | extract_lets | apply ite_keeps | apply SMap.rising_put | apply SMap.rising_foldl | apply modHub_keeps
    | apply wr_keeps | apply wrap_keeps | apply mk_keeps | apply Keeps.pending | apply Keeps.dram | apply Keeps.flash
    | apply Keeps.hostMem | apply Keeps.regs | apply Keeps.shadow

theorem raiseN_keeps {b s : State} (n : Nat) (e : Ev) (h : Keeps b s) : Keeps b (raiseN n e s) := by
  induction n generalizing s e with
  | zero => exact h
  | succ n ih =>
    unfold raiseN
    repeat' with_reducible first
      | assumption | extract_lets | apply ite_keeps | apply ih | apply modHub_keeps | apply foldl_fst_keeps
      | apply occur_keeps | apply bookFiring_keeps | intro _

theorem raise_keeps {s₀ s : State} (e : Ev) (hk : Keeps s₀ s) : Keeps s₀ (raise e s) := by
  unfold raise
  repeat' with_reducible first
    | assumption | intro _ | apply raiseN_keeps

theorem raiseSec_keeps {s₀ s : State} (e : Ev) (hk : Keeps s₀ s) : Keeps s₀ (raiseSec e s) := by
  unfold raiseSec
  repeat' with_reducible first
    | assumption | intro _ | apply ite_keeps | apply modHub_keeps | apply raise_keeps | apply mk_keeps | apply Keeps.pending
    | apply Keeps.dram | apply Keeps.flash | apply Keeps.hostMem | apply Keeps.regs | apply Keeps.shadow

theorem when_keeps {b s : State} {c : Bool} {g : State → State} (hg : ∀ u : State, Keeps b u → Keeps b (g u)) (h : Keeps b s) :
    Keeps b (s.when c g) := by
  unfold State.when; split
  · exact hg s h
  · exact h

theorem modPwr_keeps {s₀ s : State} (g : Pwr → Pwr) (hk : Keeps s₀ s) : Keeps s₀ (State.modPwr g s) := by
  unfold State.modPwr
  repeat' with_reducible first
    | assumption | intro _ | apply mk_keeps | apply Keeps.pending | apply Keeps.dram | apply Keeps.flash | apply Keeps.hostMem
    | apply Keeps.regs | apply Keeps.shadow

theorem modCfg_keeps {s₀ s : State} (g : Cfg → Cfg) (hk : Keeps s₀ s) : Keeps s₀ (State.modCfg g s) := by
  unfold State.modCfg
  repeat' with_reducible first
    | assumption | intro _ | apply mk_keeps | apply Keeps.pending | apply Keeps.dram | apply Keeps.flash | apply Keeps.hostMem
    | apply Keeps.regs | apply Keeps.shadow

theorem modStore_keeps {s₀ s : State} (g : Store → Store) (hk : Keeps s₀ s) : Keeps s₀ (State.modStore g s) := by
  unfold State.modStore
  repeat' with_reducible first
    | assumption | intro _ | apply mk_keeps | apply Keeps.pending | apply Keeps.dram | apply Keeps.flash | apply Keeps.hostMem
    | apply Keeps.regs | apply Keeps.shadow

theorem modPrt_keeps {s₀ s : State} (g : Prt → Prt) (hk : Keeps s₀ s) : Keeps s₀ (State.modPrt g s) := by
  unfold State.modPrt
  repeat' with_reducible first
    | assumption | intro _ | apply mk_keeps | apply Keeps.pending | apply Keeps.dram | apply Keeps.flash | apply Keeps.hostMem
    | apply Keeps.regs | apply Keeps.shadow

theorem modTsu_keeps {s₀ s : State} (g : Tsu → Tsu) (hk : Keeps s₀ s) : Keeps s₀ (State.modTsu g s) := by
  unfold State.modTsu
  repeat' with_reducible first
    | assumption | intro _ | apply mk_keeps | apply Keeps.pending | apply Keeps.dram | apply Keeps.flash | apply Keeps.hostMem
    | apply Keeps.regs | apply Keeps.shadow

theorem modDrc_keeps {s₀ s : State} (g : Drc → Drc) (hk : Keeps s₀ s) : Keeps s₀ (State.modDrc g s) := by
  unfold State.modDrc
  repeat' with_reducible first
    | assumption | intro _ | apply mk_keeps | apply Keeps.pending | apply Keeps.dram | apply Keeps.flash | apply Keeps.hostMem
    | apply Keeps.regs | apply Keeps.shadow

theorem modObs_keeps {s₀ s : State} (g : Obs → Obs) (hk : Keeps s₀ s) : Keeps s₀ (State.modObs g s) := by
  unfold State.modObs
  repeat' with_reducible first
    | assumption | intro _ | apply mk_keeps | apply Keeps.pending | apply Keeps.dram | apply Keeps.flash | apply Keeps.hostMem
    | apply Keeps.regs | apply Keeps.shadow

theorem modHost_keeps {s₀ s : State} (g : HostIf → HostIf) (hk : Keeps s₀ s) : Keeps s₀ (State.modHost g s) := by
  unfold State.modHost
  repeat' with_reducible first
    | assumption | intro _ | apply mk_keeps | apply Keeps.pending | apply Keeps.dram | apply Keeps.flash | apply Keeps.hostMem
    | apply Keeps.regs | apply Keeps.shadow

theorem modPort_keeps {s₀ s : State} (p : Nat) (g : TpaPort → TpaPort) (hk : Keeps s₀ s) : Keeps s₀ (State.modPort p g s) := by
  unfold State.modPort
  repeat' with_reducible first
    | assumption | intro _ | apply SMap.rising_put | apply SMap.rising_foldl | apply mk_keeps | apply Keeps.pending | apply Keeps.dram
    | apply Keeps.flash | apply Keeps.hostMem | apply Keeps.regs | apply Keeps.shadow

theorem modTree_keeps {s₀ s : State} (n : Nat) (g : Tree → Tree) (hk : Keeps s₀ s) : Keeps s₀ (State.modTree n g s) := by
  unfold State.modTree
  repeat' with_reducible first
    | assumption | intro _ | apply SMap.rising_put | apply SMap.rising_foldl | apply mk_keeps | apply Keeps.pending | apply Keeps.dram
    | apply Keeps.flash | apply Keeps.hostMem | apply Keeps.regs | apply Keeps.shadow

theorem modTerm_keeps {s₀ s : State} (n : Nat) (t : Nat) (g : Term → Term) (hk : Keeps s₀ s) : Keeps s₀ (State.modTerm n t g s) := by
  unfold State.modTerm
  repeat' with_reducible first
    | assumption | intro _ | apply SMap.rising_put | apply SMap.rising_foldl | apply mk_keeps | apply Keeps.pending | apply Keeps.dram
    | apply Keeps.flash | apply Keeps.hostMem | apply Keeps.regs | apply Keeps.shadow

end Sys2Proof.Machine
end

