-- ==== Sys2Proof/Laws/KeepsSegments.lean ====
section
/-! SUPPORT. Laws/KeepsSegments.lean: every operation of Machine/Segments.lean keeps the queue of commands and the canonical forms (Keeps). -/
namespace Sys2Proof.Machine

theorem eccLast_keeps {s₀ s : State} (kind : Nat) (r : Nat) (addr : Nat) (hk : Keeps s₀ s) : Keeps s₀ (eccLast kind r addr s) := by
  unfold eccLast
  repeat' with_reducible first
    | assumption | intro _ | apply wr_keeps

theorem segFault_keeps {s₀ s : State} (r : Nat) (addr : Nat) (read : Bool) (hk : Keeps s₀ s) : Keeps s₀ (segFault r addr read s) := by
  unfold segFault
  repeat' with_reducible first
    | assumption | intro _ | extract_lets | apply eccLast_keeps | apply modDrc_keeps | apply raiseSec_keeps | apply sat_keeps
    | apply when_keeps | apply mk_keeps | apply Keeps.pending | apply Keeps.dram | apply Keeps.flash | apply Keeps.hostMem
    | apply Keeps.regs | apply Keeps.shadow

theorem modPc_keeps {s₀ s : State} (p : Nat) (g : PseudoCh → PseudoCh) (hk : Keeps s₀ s) : Keeps s₀ (State.modPc p g s) := by
  unfold State.modPc
  repeat' with_reducible first
    | assumption | intro _ | apply SMap.rising_put | apply SMap.rising_foldl | apply modDrc_keeps | apply mk_keeps
    | apply Keeps.pending | apply Keeps.dram | apply Keeps.flash | apply Keeps.hostMem | apply Keeps.regs | apply Keeps.shadow

theorem rehold_keeps {s₀ s : State} (p : Nat) (hk : Keeps s₀ s) : Keeps s₀ (rehold p s) := by
  unfold rehold
  repeat' with_reducible first
    | assumption | intro _ | extract_lets | apply modPc_keeps | apply mk_keeps | apply Keeps.pending | apply Keeps.dram
    | apply Keeps.flash | apply Keeps.hostMem | apply Keeps.regs | apply Keeps.shadow

theorem reholdAll_keeps {s₀ s : State} (hk : Keeps s₀ s) : Keeps s₀ (reholdAll s) := by
  unfold reholdAll
  repeat' with_reducible first
    | assumption | intro _ | apply foldl_keeps | apply foldl_fst_keeps | apply rehold_keeps

theorem refuseQueued_keeps {s₀ s : State} (bits : Nat) (hk : Keeps s₀ s) : Keeps s₀ (refuseQueued bits s) := by
  unfold refuseQueued
  repeat' with_reducible first
    | assumption | intro _ | apply foldl_keeps | apply foldl_fst_keeps | apply foldl_snd_keeps | apply SMap.rising_filter
    | apply Memory.wf_filter | apply modPc_keeps | apply segFault_keeps | apply mk_keeps | apply Keeps.pending | apply Keeps.dram
    | apply Keeps.flash | apply Keeps.hostMem | apply Keeps.regs | apply Keeps.shadow

theorem releaseSegs_keeps {s₀ s : State} (bits : Nat) (hk : Keeps s₀ s) : Keeps s₀ (releaseSegs bits s) := by
  unfold releaseSegs
  repeat' with_reducible first
    | assumption | intro _ | extract_lets | apply SMap.rising_filter | apply Memory.wf_filter | apply refuseQueued_keeps
    | apply reholdAll_keeps | apply wr_keeps | apply mk_keeps | apply Keeps.pending | apply Keeps.dram | apply Keeps.flash
    | apply Keeps.hostMem | apply Keeps.regs | apply Keeps.shadow

theorem retainSegs_keeps {s₀ s : State} (keep : Nat) (hk : Keeps s₀ s) : Keeps s₀ (retainSegs keep s) := by
  unfold retainSegs
  repeat' with_reducible first
    | assumption | intro _ | apply SMap.rising_filter | apply Memory.wf_filter | apply modDrc_keeps | apply reholdAll_keeps
    | apply mk_keeps | apply Keeps.pending | apply Keeps.dram | apply Keeps.flash | apply Keeps.hostMem | apply Keeps.regs
    | apply Keeps.shadow

theorem drcOnMode_keeps {s₀ s : State} (new : Nat) (hk : Keeps s₀ s) : Keeps s₀ (drcOnMode new s) := by
  unfold drcOnMode
  repeat' with_reducible first
    | assumption | intro _ | apply ite_keeps | apply foldl_keeps | apply SMap.rising_filter | apply Memory.wf_filter
    | apply releaseSegs_keeps | apply retainSegs_keeps | apply wr_keeps

end Sys2Proof.Machine
end

