-- ==== Sys2Proof/Laws/KeepsModes.lean ====
section
/-! SUPPORT. Laws/KeepsModes.lean: every operation of Machine/Modes.lean keeps the queue of commands and the canonical forms (Keeps). -/
namespace Sys2Proof.Machine

theorem refuseMode_keeps {s₀ s : State} (target : Nat) (code : Nat) (hk : Keeps s₀ s) : Keeps s₀ (refuseMode target code s) := by
  unfold refuseMode
  repeat' with_reducible first
    | assumption | intro _ | apply raise_keeps | apply wr_keeps

theorem clearRegs_keeps {s₀ s : State} (p : Nat → Nat → Bool) (hk : Keeps s₀ s) : Keeps s₀ (State.clearRegs p s) := by
  unfold State.clearRegs
  repeat' with_reducible first
    | assumption | intro _ | apply SMap.rising_filter | apply Memory.wf_filter | apply mk_keeps | apply Keeps.pending
    | apply Keeps.dram | apply Keeps.flash | apply Keeps.hostMem | apply Keeps.regs | apply Keeps.shadow

theorem mirrorMark_keeps {s₀ s : State} (hk : Keeps s₀ s) : Keeps s₀ (mirrorMark s) := by
  unfold mirrorMark
  repeat' with_reducible first
    | assumption | intro _ | apply ite_keeps | apply modPrt_keeps | apply wrap_keeps | apply mk_keeps | apply Keeps.pending
    | apply Keeps.dram | apply Keeps.flash | apply Keeps.hostMem | apply Keeps.regs | apply Keeps.shadow

theorem releaseHeld_keeps {s₀ s : State} (l : Nat) (hk : Keeps s₀ s) : Keeps s₀ (releaseHeld l s) := by
  unfold releaseHeld
  repeat' with_reducible first
    | assumption | intro _ | extract_lets | apply ite_keeps | apply snd_ite_keeps | split | apply SMap.rising_put
    | apply SMap.rising_foldl | apply mirrorMark_keeps | apply modObs_keeps | apply modPrt_keeps | refine okeeps_get (by assumption) ?_
    | refine opkeeps_get (by assumption) ?_ | refine pair_fst_keeps (by assumption) ?_ | refine pair_snd_keeps (by assumption) ?_
    | (dsimp +zetaDelta only; split) | apply mk_keeps | apply Keeps.pending | apply Keeps.dram | apply Keeps.flash
    | apply Keeps.hostMem | apply Keeps.regs | apply Keeps.shadow | contradiction

theorem lockLink_keeps {s₀ s : State} (l : Nat) (hk : Keeps s₀ s) : Keeps s₀ (lockLink l s) := by
  unfold lockLink
  repeat' with_reducible first
    | assumption | intro _ | apply releaseHeld_keeps | apply wr_keeps

theorem lockInjection_keeps {s₀ s : State} (hk : Keeps s₀ s) : Keeps s₀ (lockInjection s) := by
  unfold lockInjection
  repeat' with_reducible first
    | assumption | intro _ | extract_lets | apply ite_keeps | apply fst_ite_keeps | apply foldl_keeps | apply foldl_fst_keeps
    | apply clearRegs_keeps | apply modObs_keeps | apply releaseHeld_keeps | apply mk_keeps | apply Keeps.pending | apply Keeps.dram
    | apply Keeps.flash | apply Keeps.hostMem | apply Keeps.regs | apply Keeps.shadow

theorem unlockAll_keeps {s₀ s : State} (hk : Keeps s₀ s) : Keeps s₀ (unlockAll s) := by
  unfold unlockAll
  repeat' with_reducible first
    | assumption | intro _ | apply foldl_keeps | apply wr_keeps

theorem benOff_keeps {s₀ s : State} (hk : Keeps s₀ s) : Keeps s₀ (benOff s) := by
  unfold benOff
  repeat' with_reducible first
    | assumption | intro _ | apply foldl_keeps | apply modPort_keeps | apply wr_keeps | apply mk_keeps | apply Keeps.pending
    | apply Keeps.dram | apply Keeps.flash | apply Keeps.hostMem | apply Keeps.regs | apply Keeps.shadow

theorem phasesDown_keeps {s₀ s : State} (hk : Keeps s₀ s) : Keeps s₀ (phasesDown s) := by
  unfold phasesDown
  repeat' with_reducible first
    | assumption | intro _ | apply ite_keeps | apply foldl_keeps | apply wr_keeps

theorem emptyCaches_keeps {s₀ s : State} (hk : Keeps s₀ s) : Keeps s₀ (emptyCaches s) := by
  unfold emptyCaches
  repeat' with_reducible first
    | assumption | intro _ | apply mk_keeps | apply Keeps.pending | apply Keeps.dram | apply Keeps.flash | apply Keeps.hostMem
    | apply Keeps.regs | apply Keeps.shadow

theorem showLanes_keeps {s₀ s : State} (hk : Keeps s₀ s) : Keeps s₀ (showLanes s) := by
  unfold showLanes
  repeat' with_reducible first
    | assumption | intro _ | apply wr_keeps

theorem loopBen_keeps {s₀ s : State} (n : Nat) (hk : Keeps s₀ s) : Keeps s₀ (loopBen n s) := by
  unfold loopBen
  repeat' with_reducible first
    | assumption | intro _ | apply ite_keeps | apply modPort_keeps | apply wr_keeps | apply mk_keeps | apply Keeps.pending
    | apply Keeps.dram | apply Keeps.flash | apply Keeps.hostMem | apply Keeps.regs | apply Keeps.shadow

theorem offsetsOff_keeps {s₀ s : State} (hk : Keeps s₀ s) : Keeps s₀ (offsetsOff s) := by
  unfold offsetsOff
  repeat' with_reducible first
    | assumption | intro _ | apply foldl_keeps | apply foldl_fst_keeps | apply foldl_snd_keeps | apply wr_keeps | apply mk_keeps
    | apply Keeps.pending | apply Keeps.dram | apply Keeps.flash | apply Keeps.hostMem | apply Keeps.regs | apply Keeps.shadow

theorem setMode_keeps {s₀ s : State} (m : Nat) (hk : Keeps s₀ s) : Keeps s₀ (setMode m s) := by
  unfold setMode
  repeat' with_reducible first
    | assumption | intro _ | extract_lets | apply ite_keeps | apply foldl_keeps | apply benOff_keeps | apply drcOnMode_keeps
    | apply emptyCaches_keeps | apply lockInjection_keeps | apply loopBen_keeps | apply modPwr_keeps | apply offsetsOff_keeps
    | apply phasesDown_keeps | apply raise_keeps | apply showLanes_keeps | apply unlockAll_keeps | apply when_keeps | apply wr_keeps
    | apply wrap_keeps | apply mk_keeps | apply Keeps.pending | apply Keeps.dram | apply Keeps.flash | apply Keeps.hostMem
    | apply Keeps.regs | apply Keeps.shadow

theorem pendMode_keeps {s₀ s : State} (rule : Option Nat) (t : Nat) (hk : Keeps s₀ s) : Keeps s₀ (pendMode rule t s) := by
  unfold pendMode
  repeat' with_reducible first
    | assumption | intro _ | apply modPwr_keeps | apply wr_keeps | apply mk_keeps | apply Keeps.pending | apply Keeps.dram
    | apply Keeps.flash | apply Keeps.hostMem | apply Keeps.regs | apply Keeps.shadow

theorem noPending_keeps {s₀ s : State} (hk : Keeps s₀ s) : Keeps s₀ (noPending s) := by
  unfold noPending
  repeat' with_reducible first
    | assumption | intro _ | apply modPwr_keeps | apply wr_keeps | apply mk_keeps | apply Keeps.pending | apply Keeps.dram
    | apply Keeps.flash | apply Keeps.hostMem | apply Keeps.regs | apply Keeps.shadow

theorem requestMode_keeps {s₀ s : State} (rule : Option Nat) (t : Nat) (hk : Keeps s₀ s) : Keeps s₀ (requestMode rule t s) := by
  unfold requestMode
  repeat' with_reducible first
    | assumption | intro _ | extract_lets | apply ite_keeps | apply pendMode_keeps | apply refuseMode_keeps

theorem dropRequest_keeps {s₀ s : State} (code : Nat) (hk : Keeps s₀ s) : Keeps s₀ (dropRequest code s) := by
  unfold dropRequest
  repeat' with_reducible first
    | assumption | intro _ | split | apply noPending_keeps | apply refuseMode_keeps | refine okeeps_get (by assumption) ?_
    | refine opkeeps_get (by assumption) ?_ | refine pair_fst_keeps (by assumption) ?_ | refine pair_snd_keeps (by assumption) ?_
    | contradiction

theorem showQueue_keeps {s₀ s : State} (hk : Keeps s₀ s) : Keeps s₀ (showQueue s) := by
  unfold showQueue
  repeat' with_reducible first
    | assumption | intro _ | extract_lets | apply ite_keeps | apply wr_keeps

theorem bringUp_keeps {s₀ s : State} (b : BringUp) (hk : Keeps s₀ s) : Keeps s₀ (bringUp b s) := by
  unfold bringUp
  repeat' with_reducible first
    | assumption | intro _ | extract_lets | apply ite_keeps | apply modPwr_keeps | apply raise_keeps | apply sat_keeps
    | apply showQueue_keeps | apply mk_keeps | apply Keeps.pending | apply Keeps.dram | apply Keeps.flash | apply Keeps.hostMem
    | apply Keeps.regs | apply Keeps.shadow

theorem dropBringUp_keeps {s₀ s : State} (p : Nat) (hk : Keeps s₀ s) : Keeps s₀ (dropBringUp p s) := by
  unfold dropBringUp
  repeat' with_reducible first
    | assumption | intro _ | apply SMap.rising_filter | apply Memory.wf_filter | apply modPwr_keeps | apply showQueue_keeps
    | apply mk_keeps | apply Keeps.pending | apply Keeps.dram | apply Keeps.flash | apply Keeps.hostMem | apply Keeps.regs
    | apply Keeps.shadow

theorem menOn_keeps {s₀ s : State} (p : Nat) (hk : Keeps s₀ s) : Keeps s₀ (menOn p s) := by
  unfold menOn
  repeat' with_reducible first
    | assumption | intro _ | apply modPort_keeps | apply wr_keeps | apply mk_keeps | apply Keeps.pending | apply Keeps.dram
    | apply Keeps.flash | apply Keeps.hostMem | apply Keeps.regs | apply Keeps.shadow

theorem releaseBens_keeps {s₀ s : State} (hk : Keeps s₀ s) : Keeps s₀ (releaseBens s) := by
  unfold releaseBens
  repeat' with_reducible first
    | assumption | intro _ | apply foldl_keeps | apply SMap.rising_filter | apply Memory.wf_filter | apply bringUp_keeps

theorem portDown_keeps {s₀ s : State} (p : Nat) (hk : Keeps s₀ s) : Keeps s₀ (portDown p s) := by
  unfold portDown
  repeat' with_reducible first
    | assumption | intro _ | extract_lets | apply dropBringUp_keeps | apply modPort_keeps | apply wr_keeps | apply mk_keeps
    | apply Keeps.pending | apply Keeps.dram | apply Keeps.flash | apply Keeps.hostMem | apply Keeps.regs | apply Keeps.shadow

theorem pcieDown_keeps {s₀ s : State} (hk : Keeps s₀ s) : Keeps s₀ (pcieDown s) := by
  unfold pcieDown
  repeat' with_reducible first
    | assumption | intro _ | apply ite_keeps | apply modHost_keeps | apply sat_keeps | apply mk_keeps | apply Keeps.pending
    | apply Keeps.dram | apply Keeps.flash | apply Keeps.hostMem | apply Keeps.regs | apply Keeps.shadow

theorem uplinksOff_keeps {s₀ s : State} (hk : Keeps s₀ s) : Keeps s₀ (uplinksOff s) := by
  unfold uplinksOff
  repeat' with_reducible first
    | assumption | intro _ | apply foldl_keeps | apply raise_keeps | apply sat_keeps | apply wr_keeps

end Sys2Proof.Machine
end

