-- ==== Sys2Proof/Laws/KeepsWindows.lean ====
section
/-! SUPPORT. Laws/KeepsWindows.lean: every operation of Machine/Windows.lean keeps the queue of commands and the canonical forms (Keeps). -/
namespace Sys2Proof.Machine

theorem writeCs_keeps {s₀ s : State} (w : Nat) (h : Nat) (v : Nat) (hk : Keeps s₀ s) : Keeps s₀ (writeCs w h v s) := by
  unfold writeCs
  repeat' with_reducible first
    | assumption | intro _ | extract_lets | apply ite_keeps | apply mk_keeps | apply Keeps.pending | apply Keeps.dram
    | apply Keeps.flash | apply Keeps.hostMem | apply Keeps.regs | apply Keeps.shadow

theorem windowWrite_keeps {s₀ s : State} (f : Fld) (v : Nat) (hk : Keeps s₀ s) : OKeeps s₀ (windowWrite f v s) := by
  unfold windowWrite
  repeat' with_reducible first
    | assumption | intro _ | apply okeeps_none | apply okeeps_some | apply okeeps_ite | apply ite_keeps | apply writeCs_keeps

end Sys2Proof.Machine
end

