-- ==== Sys2Proof/Laws/KeepsOperands.lean ====
section
/-! SUPPORT. Laws/KeepsOperands.lean: every operation of Machine/Operands.lean keeps the queue of commands and the canonical forms (Keeps). -/
namespace Sys2Proof.Machine

theorem tileAccess_keeps {s₀ s : State} (hk : Keeps s₀ s) : Keeps s₀ (tileAccess s) := by
  unfold tileAccess
  repeat' with_reducible first
    | assumption | intro _ | apply raiseSec_keeps | apply sat_keeps

theorem clearRead_keeps {s₀ s : State} (part : Nat) (r : RegRef) (hk : Keeps s₀ s) : Keeps s₀ (clearRead part r s) := by
  unfold clearRead
  repeat' with_reducible first
    | assumption | intro _ | apply foldl_keeps | apply SMap.rising_filter | apply Memory.wf_filter | apply wr_keeps

theorem refuseCommit_keeps {s₀ s : State} (g : Nat) (code : Nat) (hk : Keeps s₀ s) : Keeps s₀ (refuseCommit g code s) := by
  unfold refuseCommit
  repeat' with_reducible first
    | assumption | intro _ | apply raise_keeps | apply sat_keeps | apply wr_keeps

theorem writeFld_keeps {s₀ s : State} (g : Option Nat) (word : Nat) (f : Fld) (hk : Keeps s₀ s) : Keeps s₀ (writeFld g word f s) := by
  unfold writeFld
  repeat' with_reducible first
    | assumption | intro _ | extract_lets | apply ite_keeps | split | apply SMap.rising_filter | apply Memory.wf_filter
    | apply windowWrite_keeps | apply wrShadow_keeps | apply wr_keeps | refine okeeps_get (by assumption) ?_
    | refine opkeeps_get (by assumption) ?_ | refine pair_fst_keeps (by assumption) ?_ | refine pair_snd_keeps (by assumption) ?_
    | (dsimp +zetaDelta only; split) | contradiction

theorem writeReg_keeps {s₀ s : State} (part : Nat) (word : Nat) (r : RegRef) (hk : Keeps s₀ s) : Keeps s₀ (writeReg part word r s) := by
  unfold writeReg
  repeat' with_reducible first
    | assumption | intro _ | apply ite_keeps | split | apply foldl_keeps | apply SMap.rising_filter | apply Memory.wf_filter
    | apply refuseCommit_keeps | apply tileAccess_keeps | apply writeFld_keeps | refine okeeps_get (by assumption) ?_
    | refine opkeeps_get (by assumption) ?_ | refine pair_fst_keeps (by assumption) ?_ | refine pair_snd_keeps (by assumption) ?_
    | contradiction

theorem setMem_keeps {s₀ s : State} (p : Path) (m : PathMem) (hk : Keeps s₀ s) : Keeps s₀ (State.setMem p m s) := by
  unfold State.setMem
  repeat' with_reducible first
    | assumption | intro _ | split | apply modHost_keeps | refine okeeps_get (by assumption) ?_ | refine opkeeps_get (by assumption) ?_
    | refine pair_fst_keeps (by assumption) ?_ | refine pair_snd_keeps (by assumption) ?_ | apply mk_keeps | apply Keeps.pending
    | apply Keeps.dram | apply Keeps.flash | apply Keeps.hostMem | apply Keeps.regs | apply Keeps.shadow | contradiction

theorem answer_keeps {s₀ s : State} (p : Path) (v : Nat) (hk : Keeps s₀ s) : Keeps s₀ (answer p v s) := by
  unfold answer
  repeat' with_reducible first
    | assumption | intro _ | split | apply modHost_keeps | refine okeeps_get (by assumption) ?_ | refine opkeeps_get (by assumption) ?_
    | refine pair_fst_keeps (by assumption) ?_ | refine pair_snd_keeps (by assumption) ?_ | apply mk_keeps | apply Keeps.pending
    | apply Keeps.dram | apply Keeps.flash | apply Keeps.hostMem | apply Keeps.regs | apply Keeps.shadow | contradiction

end Sys2Proof.Machine
end

