-- ==== Sys2Proof/Laws/KeepsViews.lean ====
section
/-! SUPPORT. Laws/KeepsViews.lean: every operation of Machine/Views.lean keeps the queue of commands and the canonical forms (Keeps). -/
namespace Sys2Proof.Machine

theorem histAdd_keeps {s₀ s : State} (h : Nat) (b : Nat) (hk : Keeps s₀ s) : Keeps s₀ (histAdd h b s) := by
  unfold histAdd
  repeat' with_reducible first
    | assumption | intro _ | extract_lets | apply ite_keeps | apply modObs_keeps | apply raise_keeps | apply sat_keeps | apply mk_keeps
    | apply Keeps.pending | apply Keeps.dram | apply Keeps.flash | apply Keeps.hostMem | apply Keeps.regs | apply Keeps.shadow

theorem histSample_keeps {s₀ s : State} (src : Nat) (index : Nat) (v : Nat) (hk : Keeps s₀ s) : Keeps s₀ (histSample src index v s) := by
  unfold histSample
  repeat' with_reducible first
    | assumption | intro _ | apply foldl_keeps | apply SMap.rising_filter | apply Memory.wf_filter | apply histAdd_keeps

theorem histOver_keeps {s₀ s : State} (src : Nat) (index : Nat) (hk : Keeps s₀ s) : Keeps s₀ (histOver src index s) := by
  unfold histOver
  repeat' with_reducible first
    | assumption | intro _ | apply foldl_keeps | apply SMap.rising_filter | apply Memory.wf_filter | apply histAdd_keeps

theorem histZero_keeps {s₀ s : State} (h : Nat) (hk : Keeps s₀ s) : Keeps s₀ (histZero h s) := by
  unfold histZero
  repeat' with_reducible first
    | assumption | intro _ | extract_lets | apply SMap.rising_filter | apply Memory.wf_filter | apply modObs_keeps | apply mk_keeps
    | apply Keeps.pending | apply Keeps.dram | apply Keeps.flash | apply Keeps.hostMem | apply Keeps.regs | apply Keeps.shadow

end Sys2Proof.Machine
end

