-- ==== Sys2Proof/Laws/KeepsImage.lean ====
section
/-! SUPPORT. Laws/KeepsImage.lean: every operation of Machine/Image.lean keeps the queue of commands and the canonical forms (Keeps). -/
namespace Sys2Proof.Machine

theorem modSlot_keeps {s₀ s : State} (k : Nat) (g : Slot → Slot) (hk : Keeps s₀ s) : Keeps s₀ (State.modSlot k g s) := by
  unfold State.modSlot
  repeat' with_reducible first
    | assumption | intro _ | apply ite_keeps | apply modCfg_keeps | apply mk_keeps | apply Keeps.pending | apply Keeps.dram
    | apply Keeps.flash | apply Keeps.hostMem | apply Keeps.regs | apply Keeps.shadow

theorem showBusy_keeps {s₀ s : State} (k : Nat) (hk : Keeps s₀ s) : Keeps s₀ (showBusy k s) := by
  unfold showBusy
  repeat' with_reducible first
    | assumption | intro _ | apply wr_keeps

theorem unverify_keeps {s₀ s : State} (k : Nat) (hk : Keeps s₀ s) : Keeps s₀ (unverify k s) := by
  unfold unverify
  repeat' with_reducible first
    | assumption | intro _ | apply modSlot_keeps | apply wr_keeps | apply mk_keeps | apply Keeps.pending | apply Keeps.dram
    | apply Keeps.flash | apply Keeps.hostMem | apply Keeps.regs | apply Keeps.shadow

theorem endVerify_keeps {s₀ s : State} (k : Nat) (code : Nat) (hk : Keeps s₀ s) : Keeps s₀ (endVerify k code s) := by
  unfold endVerify
  repeat' with_reducible first
    | assumption | intro _ | extract_lets | apply ite_keeps | apply modSlot_keeps | apply raise_keeps | apply showBusy_keeps
    | apply unverify_keeps | apply wr_keeps | apply mk_keeps | apply Keeps.pending | apply Keeps.dram | apply Keeps.flash
    | apply Keeps.hostMem | apply Keeps.regs | apply Keeps.shadow

theorem showActive_keeps {s₀ s : State} (hk : Keeps s₀ s) : Keeps s₀ (showActive s) := by
  unfold showActive
  repeat' with_reducible first
    | assumption | intro _ | apply wr_keeps

theorem freezeGroup_keeps {s₀ s : State} (n : Nat) (b : Bool) (hk : Keeps s₀ s) : Keeps s₀ (freezeGroup n b s) := by
  unfold freezeGroup
  repeat' with_reducible first
    | assumption | intro _ | apply wr_keeps

theorem beginTile_keeps {s₀ s : State} (n : Nat) (hk : Keeps s₀ s) : Keeps s₀ (beginTile n s) := by
  unfold beginTile
  repeat' with_reducible first
    | assumption | intro _ | apply ite_keeps | split | apply SMap.rising_put | apply SMap.rising_foldl | apply freezeGroup_keeps
    | apply modCfg_keeps | apply showBusy_keeps | apply wr_keeps | refine okeeps_get (by assumption) ?_
    | refine opkeeps_get (by assumption) ?_ | refine pair_fst_keeps (by assumption) ?_ | refine pair_snd_keeps (by assumption) ?_
    | apply mk_keeps | apply Keeps.pending | apply Keeps.dram | apply Keeps.flash | apply Keeps.hostMem | apply Keeps.regs
    | apply Keeps.shadow | contradiction

theorem isolateTile_keeps {s₀ s : State} (keep : Bool) (n : Nat) (hk : Keeps s₀ s) : Keeps s₀ (isolateTile keep n s) := by
  unfold isolateTile
  repeat' with_reducible first
    | assumption | intro _ | extract_lets | apply ite_keeps | apply SMap.rising_del | apply freezeGroup_keeps | apply modCfg_keeps
    | apply portDown_keeps | apply raise_keeps | apply showActive_keeps | apply wr_keeps | apply mk_keeps | apply Keeps.pending
    | apply Keeps.dram | apply Keeps.flash | apply Keeps.hostMem | apply Keeps.regs | apply Keeps.shadow

theorem abandonReload_keeps {s₀ s : State} (n : Nat) (code : Nat) (hk : Keeps s₀ s) : Keeps s₀ (abandonReload n code s) := by
  unfold abandonReload
  repeat' with_reducible first
    | assumption | intro _ | extract_lets | split | apply foldl_keeps | apply isolateTile_keeps | apply raise_keeps
    | apply showBusy_keeps | apply wr_keeps | refine okeeps_get (by assumption) ?_ | refine opkeeps_get (by assumption) ?_
    | refine pair_fst_keeps (by assumption) ?_ | refine pair_snd_keeps (by assumption) ?_ | contradiction

theorem showTree_keeps {s₀ s : State} (n : Nat) (d : TileDesc) (hk : Keeps s₀ s) : Keeps s₀ (showTree n d s) := by
  unfold showTree
  repeat' with_reducible first
    | assumption | intro _ | extract_lets | apply ite_keeps | apply wr_keeps

theorem showPhase_keeps {s₀ s : State} (n : Nat) (hk : Keeps s₀ s) : Keeps s₀ (showPhase n s) := by
  unfold showPhase
  repeat' with_reducible first
    | assumption | intro _ | apply ite_keeps | apply wr_keeps

theorem showUplinks_keeps {s₀ s : State} (hk : Keeps s₀ s) : Keeps s₀ (showUplinks s) := by
  unfold showUplinks
  repeat' with_reducible first
    | assumption | intro _ | extract_lets | split | apply foldl_keeps | apply foldl_fst_keeps | apply foldl_snd_keeps | apply wr_keeps
    | refine okeeps_get (by assumption) ?_ | refine opkeeps_get (by assumption) ?_ | refine pair_fst_keeps (by assumption) ?_
    | refine pair_snd_keeps (by assumption) ?_ | (dsimp +zetaDelta only; split) | contradiction

theorem resetTileFields_keeps {s₀ s : State} (n : Nat) (hk : Keeps s₀ s) : Keeps s₀ (resetTileFields n s) := by
  unfold resetTileFields
  repeat' with_reducible first
    | assumption | intro _ | extract_lets | apply SMap.rising_filter | apply Memory.wf_filter | apply mk_keeps | apply Keeps.pending
    | apply Keeps.dram | apply Keeps.flash | apply Keeps.hostMem | apply Keeps.regs | apply Keeps.shadow

theorem applyWrites_keeps {s₀ s : State} (p : Nat → Bool) (ws : List (Nat × Nat)) (hk : Keeps s₀ s) : Keeps s₀ (applyWrites p ws s) := by
  unfold applyWrites
  repeat' with_reducible first
    | assumption | intro _ | apply ite_keeps | apply fst_ite_keeps | apply snd_ite_keeps | split | apply foldl_keeps
    | apply foldl_fst_keeps | apply foldl_snd_keeps | apply wr_keeps | refine okeeps_get (by assumption) ?_
    | refine opkeeps_get (by assumption) ?_ | refine pair_fst_keeps (by assumption) ?_ | refine pair_snd_keeps (by assumption) ?_
    | contradiction

theorem clearHeld_keeps {s₀ s : State} (n : Nat) (hk : Keeps s₀ s) : Keeps s₀ (clearHeld n s) := by
  unfold clearHeld
  repeat' with_reducible first
    | assumption | intro _ | apply SMap.rising_filter | apply Memory.wf_filter | apply modTree_keeps | apply when_keeps
    | apply mk_keeps | apply Keeps.pending | apply Keeps.dram | apply Keeps.flash | apply Keeps.hostMem | apply Keeps.regs
    | apply Keeps.shadow

theorem joinTile_keeps {s₀ s : State} (n : Nat) (ver : Nat) (r : Reload) (hk : Keeps s₀ s) : Keeps s₀ (joinTile n ver r s) := by
  unfold joinTile
  repeat' with_reducible first
    | assumption | intro _ | extract_lets | apply ite_keeps | apply fst_ite_keeps | apply snd_ite_keeps | apply SMap.rising_filter
    | apply Memory.wf_filter | apply SMap.rising_put | apply SMap.rising_foldl | apply SMap.rising_del | apply applyWrites_keeps
    | apply bringUp_keeps | apply clearHeld_keeps | apply freezeGroup_keeps | apply loopBen_keeps | apply modCfg_keeps
    | apply raise_keeps | apply resetTileFields_keeps | apply showActive_keeps | apply showPhase_keeps | apply showTree_keeps
    | apply showUplinks_keeps | apply when_keeps | apply wr_keeps | apply wrap_keeps | apply mk_keeps | apply Keeps.pending
    | apply Keeps.dram | apply Keeps.flash | apply Keeps.hostMem | apply Keeps.regs | apply Keeps.shadow

theorem loadTick_keeps {s₀ s : State} (hk : Keeps s₀ s) : Keeps s₀ (loadTick s) := by
  unfold loadTick
  repeat' with_reducible first
    | assumption | intro _ | extract_lets | apply ite_keeps | apply fst_ite_keeps | split | apply foldl_keeps | apply foldl_fst_keeps
    | apply SMap.rising_put | apply SMap.rising_foldl | apply joinTile_keeps | apply modCfg_keeps
    | refine okeeps_get (by assumption) ?_ | refine opkeeps_get (by assumption) ?_ | refine pair_fst_keeps (by assumption) ?_
    | refine pair_snd_keeps (by assumption) ?_ | (dsimp +zetaDelta only; split) | apply mk_keeps | apply Keeps.pending
    | apply Keeps.dram | apply Keeps.flash | apply Keeps.hostMem | apply Keeps.regs | apply Keeps.shadow | contradiction

end Sys2Proof.Machine
end

