-- ==== Sys2Proof/Laws/KeepsSaveSet.lean ====
section
/-! SUPPORT. Laws/KeepsSaveSet.lean: every operation of Machine/SaveSet.lean keeps the queue of commands and the canonical forms (Keeps). -/
namespace Sys2Proof.Machine

theorem takeSaved_keeps {s₀ s : State} (p : Nat → Bool) (c : SaveSet) (hk : Keeps s₀ s) : Keeps s₀ (takeSaved p c s) := by
  unfold takeSaved
  repeat' with_reducible first
    | assumption | intro _ | extract_lets | apply foldl_keeps | apply foldl_fst_keeps | apply foldl_snd_keeps
    | apply SMap.rising_filter | apply Memory.wf_filter | apply SMap.rising_put | apply SMap.rising_foldl | apply mk_keeps
    | apply Keeps.pending | apply Keeps.dram | apply Keeps.flash | apply Keeps.hostMem | apply Keeps.regs | apply Keeps.shadow

end Sys2Proof.Machine
end

