-- ==== Sys2Proof/Laws/KeepsJournal.lean ====
section
/-! SUPPORT. Laws/KeepsJournal.lean: every operation of Machine/Journal.lean keeps the queue of commands and the canonical forms (Keeps). -/
namespace Sys2Proof.Machine

theorem showLatest_keeps {s₀ s : State} (hk : Keeps s₀ s) : Keeps s₀ (showLatest s) := by
  unfold showLatest
  repeat' with_reducible first
    | assumption | intro _ | extract_lets | apply ite_keeps | apply wr_keeps

theorem writeCtrl_keeps {s₀ s : State} (g : CtrlCopy → CtrlCopy) (hk : Keeps s₀ s) : Keeps s₀ (writeCtrl g s) := by
  unfold writeCtrl
  repeat' with_reducible first
    | assumption | intro _ | apply ite_keeps | apply modStore_keeps

theorem modArea_keeps {s₀ s : State} (g : StartArea → StartArea) (hk : Keeps s₀ s) : Keeps s₀ (modArea g s) := by
  unfold modArea
  repeat' with_reducible first
    | assumption | intro _ | split | apply SMap.rising_put | apply SMap.rising_foldl | apply modStore_keeps
    | refine okeeps_get (by assumption) ?_ | refine opkeeps_get (by assumption) ?_ | refine pair_fst_keeps (by assumption) ?_
    | refine pair_snd_keeps (by assumption) ?_ | apply mk_keeps | apply Keeps.pending | apply Keeps.dram | apply Keeps.flash
    | apply Keeps.hostMem | apply Keeps.regs | apply Keeps.shadow | contradiction

theorem journalFault_keeps {s₀ s : State} (r : JRec) (hk : Keeps s₀ s) : Keeps s₀ (journalFault s r) := by
  unfold journalFault
  repeat' with_reducible first
    | assumption | intro _ | apply SMap.rising_put | apply SMap.rising_foldl | apply modStore_keeps | apply mk_keeps
    | apply Keeps.pending | apply Keeps.dram | apply Keeps.flash | apply Keeps.hostMem | apply Keeps.regs | apply Keeps.shadow

theorem journal_keeps {s₀ s : State} (r : JRec) (hk : Keeps s₀ s) : Keeps s₀ (journal r s) := by
  unfold journal
  repeat' with_reducible first
    | assumption | intro _ | extract_lets | apply ite_keeps | split | apply journalFault_keeps | apply modArea_keeps
    | apply modCfg_keeps | refine okeeps_get (by assumption) ?_ | refine opkeeps_get (by assumption) ?_
    | refine pair_fst_keeps (by assumption) ?_ | refine pair_snd_keeps (by assumption) ?_ | apply mk_keeps | apply Keeps.pending
    | apply Keeps.dram | apply Keeps.flash | apply Keeps.hostMem | apply Keeps.regs | apply Keeps.shadow | contradiction

theorem closeStart_keeps {s₀ s : State} (final : Nat) (hk : Keeps s₀ s) : Keeps s₀ (closeStart final s) := by
  unfold closeStart
  repeat' with_reducible first
    | assumption | intro _ | apply modArea_keeps | apply wr_keeps | apply mk_keeps | apply Keeps.pending | apply Keeps.dram
    | apply Keeps.flash | apply Keeps.hostMem | apply Keeps.regs | apply Keeps.shadow

end Sys2Proof.Machine
end

