-- ==== Sys2Proof/Laws/KeepsInject.lean ====
section
/-! SUPPORT. Laws/KeepsInject.lean: every operation of Machine/Inject.lean keeps the queue of commands and the canonical forms (Keeps). -/
namespace Sys2Proof.Machine

theorem modLink_keeps {s₀ s : State} (l : Nat) (g : InjLink → InjLink) (hk : Keeps s₀ s) : Keeps s₀ (State.modLink l g s) := by
  unfold State.modLink
  repeat' with_reducible first
    | assumption | intro _ | apply SMap.rising_put | apply SMap.rising_foldl | apply modObs_keeps | apply mk_keeps
    | apply Keeps.pending | apply Keeps.dram | apply Keeps.flash | apply Keeps.hostMem | apply Keeps.regs | apply Keeps.shadow

theorem inject_keeps {s₀ s : State} (l : Nat) (selected : Bool) (hk : Keeps s₀ s) : Keeps s₀ (inject l selected s).2 := by
  unfold inject
  repeat' with_reducible first
    | assumption | intro _ | extract_lets | apply ite_keeps | split | apply modLink_keeps | apply raise_keeps | apply when_keeps
    | apply wr_keeps | apply wrap_keeps | apply mk_keeps | apply Keeps.pending | apply Keeps.dram | apply Keeps.flash
    | apply Keeps.hostMem | apply Keeps.regs | apply Keeps.shadow

theorem passHeld_keeps {s₀ s : State} (l : Nat) (bytes : List Nat) (hk : Keeps s₀ s) : Keeps s₀ (passHeld l bytes s).2 := by
  unfold passHeld
  repeat' with_reducible first
    | assumption | intro _ | extract_lets | split | apply SMap.rising_filter | apply Memory.wf_filter | apply modLink_keeps
    | apply mk_keeps | apply Keeps.pending | apply Keeps.dram | apply Keeps.flash | apply Keeps.hostMem | apply Keeps.regs
    | apply Keeps.shadow

theorem armInjection_keeps {s₀ s : State} (l : Nat) (w : Nat) (hk : Keeps s₀ s) : Keeps s₀ (armInjection l w s) := by
  unfold armInjection
  repeat' with_reducible first
    | assumption | intro _ | extract_lets | apply ite_keeps | split | apply modLink_keeps | apply wr_keeps | apply writeReg_keeps
    | refine okeeps_get (by assumption) ?_ | refine opkeeps_get (by assumption) ?_ | refine pair_fst_keeps (by assumption) ?_
    | refine pair_snd_keeps (by assumption) ?_ | apply mk_keeps | apply Keeps.pending | apply Keeps.dram | apply Keeps.flash
    | apply Keeps.hostMem | apply Keeps.regs | apply Keeps.shadow | contradiction

theorem unlockKey_keeps {s₀ s : State} (l : Nat) (key : Nat) (hk : Keeps s₀ s) : Keeps s₀ (unlockKey l key s) := by
  unfold unlockKey
  repeat' with_reducible first
    | assumption | intro _ | extract_lets | apply ite_keeps | split | apply draw_keeps | apply modLink_keeps | apply modObs_keeps
    | apply raise_keeps | apply wr_keeps | refine okeeps_get (by assumption) ?_ | refine opkeeps_get (by assumption) ?_
    | refine pair_fst_keeps (by assumption) ?_ | refine pair_snd_keeps (by assumption) ?_ | (dsimp +zetaDelta only; split)
    | apply mk_keeps | apply Keeps.pending | apply Keeps.dram | apply Keeps.flash | apply Keeps.hostMem | apply Keeps.regs
    | apply Keeps.shadow | contradiction

theorem injExpired_keeps {s₀ s : State} (l : Nat) (hk : Keeps s₀ s) : Keeps s₀ (injExpired l s) := by
  unfold injExpired
  repeat' with_reducible first
    | assumption | intro _ | extract_lets | apply ite_keeps | apply modLink_keeps | apply raise_keeps | apply mk_keeps
    | apply Keeps.pending | apply Keeps.dram | apply Keeps.flash | apply Keeps.hostMem | apply Keeps.regs | apply Keeps.shadow

theorem injectTick_keeps {s₀ s : State} (hk : Keeps s₀ s) : Keeps s₀ (injectTick s) := by
  unfold injectTick
  repeat' with_reducible first
    | assumption | intro _ | apply ite_keeps | apply fst_ite_keeps | apply snd_ite_keeps | apply foldl_keeps | apply foldl_fst_keeps
    | apply foldl_snd_keeps | apply lockLink_keeps | apply modLink_keeps | apply wr_keeps | apply mk_keeps | apply Keeps.pending
    | apply Keeps.dram | apply Keeps.flash | apply Keeps.hostMem | apply Keeps.regs | apply Keeps.shadow

end Sys2Proof.Machine
end

