-- ==== Sys2Proof/Laws/KeepsProtect.lean ====
section
/-! SUPPORT. Laws/KeepsProtect.lean: every operation of Machine/Protect.lean keeps the queue of commands and the canonical forms (Keeps). -/
namespace Sys2Proof.Machine

theorem setRole_keeps {s₀ s : State} (r : Nat) (hk : Keeps s₀ s) : Keeps s₀ (setRole r s) := by
  unfold setRole
  repeat' with_reducible first
    | assumption | intro _ | apply modPrt_keeps | apply wr_keeps | apply mk_keeps | apply Keeps.pending | apply Keeps.dram
    | apply Keeps.flash | apply Keeps.hostMem | apply Keeps.regs | apply Keeps.shadow

theorem setMirror_keeps {s₀ s : State} (m : Nat) (hk : Keeps s₀ s) : Keeps s₀ (setMirror m s) := by
  unfold setMirror
  repeat' with_reducible first
    | assumption | intro _ | extract_lets | apply ite_keeps | apply raise_keeps | apply wr_keeps

theorem mirrorSend_keeps {s₀ s : State} (n : Option Nat) (hk : Keeps s₀ s) : Keeps s₀ (mirrorSend n s) := by
  unfold mirrorSend
  repeat' with_reducible first
    | assumption | intro _ | extract_lets | apply ite_keeps | apply fst_ite_keeps | apply snd_ite_keeps | apply draw_keeps
    | apply inject_keeps | apply mirrorMark_keeps | apply modLink_keeps | apply passHeld_keeps | apply when_keeps | apply mk_keeps
    | apply Keeps.pending | apply Keeps.dram | apply Keeps.flash | apply Keeps.hostMem | apply Keeps.regs | apply Keeps.shadow

theorem queuePage_keeps {s₀ s : State} (n : Nat) (k : Nat) (hk : Keeps s₀ s) : Keeps s₀ (queuePage n k s) := by
  unfold queuePage
  repeat' with_reducible first
    | assumption | intro _ | apply modPrt_keeps | apply when_keeps | apply mk_keeps | apply Keeps.pending | apply Keeps.dram
    | apply Keeps.flash | apply Keeps.hostMem | apply Keeps.regs | apply Keeps.shadow

theorem startBulk_keeps {s₀ s : State} (hk : Keeps s₀ s) : Keeps s₀ (startBulk s) := by
  unfold startBulk
  repeat' with_reducible first
    | assumption | intro _ | extract_lets | apply modPrt_keeps | apply setMirror_keeps | apply when_keeps | apply mk_keeps
    | apply Keeps.pending | apply Keeps.dram | apply Keeps.flash | apply Keeps.hostMem | apply Keeps.regs | apply Keeps.shadow

theorem sendPages_keeps {s₀ s : State} (hk : Keeps s₀ s) : Keeps s₀ (sendPages s) := by
  unfold sendPages
  repeat' with_reducible first
    | assumption | intro _ | extract_lets | apply ite_keeps | apply fst_ite_keeps | apply snd_ite_keeps | apply foldl_keeps
    | apply foldl_fst_keeps | apply foldl_snd_keeps | apply SMap.rising_filter | apply Memory.wf_filter | apply mirrorSend_keeps
    | apply modPrt_keeps | apply raiseSec_keeps | apply sat_keeps | apply setMirror_keeps | apply startBulk_keeps | apply when_keeps
    | apply mk_keeps | apply Keeps.pending | apply Keeps.dram | apply Keeps.flash | apply Keeps.hostMem | apply Keeps.regs
    | apply Keeps.shadow

theorem showKapTx_keeps {s₀ s : State} (hk : Keeps s₀ s) : Keeps s₀ (showKapTx s) := by
  unfold showKapTx
  repeat' with_reducible first
    | assumption | intro _ | extract_lets | split | apply foldl_keeps | apply wr_keeps | refine okeeps_get (by assumption) ?_
    | refine opkeeps_get (by assumption) ?_ | refine pair_fst_keeps (by assumption) ?_ | refine pair_snd_keeps (by assumption) ?_
    | (dsimp +zetaDelta only; split) | contradiction

theorem sendKap_keeps {s₀ s : State} (m : KapMsg) (hk : Keeps s₀ s) : Keeps s₀ (sendKap m s) := by
  unfold sendKap
  repeat' with_reducible first
    | assumption | intro _ | apply modPrt_keeps | apply raise_keeps | apply showKapTx_keeps | apply mk_keeps | apply Keeps.pending
    | apply Keeps.dram | apply Keeps.flash | apply Keeps.hostMem | apply Keeps.regs | apply Keeps.shadow

theorem issueRequest_keeps {s₀ s : State} (hk : Keeps s₀ s) : Keeps s₀ (issueRequest s) := by
  unfold issueRequest
  repeat' with_reducible first
    | assumption | intro _ | apply ite_keeps | apply modPrt_keeps | apply sendKap_keeps | apply mk_keeps | apply Keeps.pending
    | apply Keeps.dram | apply Keeps.flash | apply Keeps.hostMem | apply Keeps.regs | apply Keeps.shadow

theorem trigger_keeps {s₀ s : State} (b : Nat) (hk : Keeps s₀ s) : Keeps s₀ (trigger b s) := by
  unfold trigger
  repeat' with_reducible first
    | assumption | intro _ | apply ite_keeps | apply issueRequest_keeps | apply modPrt_keeps | apply wr_keeps | apply mk_keeps
    | apply Keeps.pending | apply Keeps.dram | apply Keeps.flash | apply Keeps.hostMem | apply Keeps.regs | apply Keeps.shadow

theorem closeRequest_keeps {s₀ s : State} (hk : Keeps s₀ s) : Keeps s₀ (closeRequest s) := by
  unfold closeRequest
  repeat' with_reducible first
    | assumption | intro _ | apply modPrt_keeps | apply wr_keeps | apply mk_keeps | apply Keeps.pending | apply Keeps.dram
    | apply Keeps.flash | apply Keeps.hostMem | apply Keeps.regs | apply Keeps.shadow

theorem modPath_keeps {s₀ s : State} (i : Nat) (g : HbPath → HbPath) (hk : Keeps s₀ s) : Keeps s₀ (State.modPath i g s) := by
  unfold State.modPath
  repeat' with_reducible first
    | assumption | intro _ | apply ite_keeps | apply modPrt_keeps | apply mk_keeps | apply Keeps.pending | apply Keeps.dram
    | apply Keeps.flash | apply Keeps.hostMem | apply Keeps.regs | apply Keeps.shadow

theorem sendBeat_keeps {s₀ s : State} (i : Nat) (gasp : Bool) (selected : Bool) (hk : Keeps s₀ s) : Keeps s₀ (sendBeat i gasp selected s) := by
  unfold sendBeat
  repeat' with_reducible first
    | assumption | intro _ | extract_lets | apply ite_keeps | apply fst_ite_keeps | apply snd_ite_keeps | apply inject_keeps
    | apply modLink_keeps | apply modPath_keeps | apply passHeld_keeps | apply mk_keeps | apply Keeps.pending | apply Keeps.dram
    | apply Keeps.flash | apply Keeps.hostMem | apply Keeps.regs | apply Keeps.shadow

theorem gasp_keeps {s₀ s : State} (hk : Keeps s₀ s) : Keeps s₀ (gasp s) := by
  unfold gasp
  repeat' with_reducible first
    | assumption | intro _ | extract_lets | apply draw_keeps | apply sendBeat_keeps | apply when_keeps

theorem pathRestored_keeps {s₀ s : State} (i : Nat) (hk : Keeps s₀ s) : Keeps s₀ (pathRestored i s) := by
  unfold pathRestored
  repeat' with_reducible first
    | assumption | intro _ | extract_lets | apply ite_keeps | apply raise_keeps | apply startBulk_keeps | apply wr_keeps

theorem mirrorLagSeen_keeps {s₀ s : State} (mg : Nat) (hk : Keeps s₀ s) : Keeps s₀ (mirrorLagSeen mg s) := by
  unfold mirrorLagSeen
  repeat' with_reducible first
    | assumption | intro _ | extract_lets | apply ite_keeps | apply setMirror_keeps | apply startBulk_keeps | apply wr_keeps

theorem peerSeen_keeps {s₀ s : State} (old : Nat) (r : Nat) (hk : Keeps s₀ s) : Keeps s₀ (peerSeen old r s) := by
  unfold peerSeen
  repeat' with_reducible first
    | assumption | intro _ | apply ite_keeps | apply modPrt_keeps | apply setMirror_keeps | apply startBulk_keeps | apply when_keeps
    | apply mk_keeps | apply Keeps.pending | apply Keeps.dram | apply Keeps.flash | apply Keeps.hostMem | apply Keeps.regs
    | apply Keeps.shadow

theorem onBeat_keeps {s₀ s : State} (i : Nat) (b : List Nat) (near : Bool) (missed : Nat) (hk : Keeps s₀ s) : Keeps s₀ (onBeat i b near missed s) := by
  unfold onBeat
  repeat' with_reducible first
    | assumption | intro _ | extract_lets | apply ite_keeps | apply mirrorLagSeen_keeps | apply modPath_keeps
    | apply pathRestored_keeps | apply peerSeen_keeps | apply raiseSec_keeps | apply raise_keeps | apply sat_keeps
    | apply trigger_keeps | apply when_keeps | apply wr_keeps | apply mk_keeps | apply Keeps.pending | apply Keeps.dram
    | apply Keeps.flash | apply Keeps.hostMem | apply Keeps.regs | apply Keeps.shadow

theorem pathLost_keeps {s₀ s : State} (i : Nat) (hk : Keeps s₀ s) : Keeps s₀ (pathLost i s) := by
  unfold pathLost
  repeat' with_reducible first
    | assumption | intro _ | extract_lets | apply ite_keeps | apply modPath_keeps | apply modPrt_keeps | apply raise_keeps
    | apply sat_keeps | apply setMirror_keeps | apply trigger_keeps | apply when_keeps | apply wr_keeps | apply mk_keeps
    | apply Keeps.pending | apply Keeps.dram | apply Keeps.flash | apply Keeps.hostMem | apply Keeps.regs | apply Keeps.shadow

theorem kapAgree_keeps {s₀ s : State} (m : List Nat) (hk : Keeps s₀ s) : Keeps s₀ (kapAgree m s) := by
  unfold kapAgree
  repeat' with_reducible first
    | assumption | intro _ | apply ite_keeps | apply raise_keeps | apply when_keeps | apply wr_keeps

theorem submitKap_keeps {s₀ s : State} (hk : Keeps s₀ s) : Keeps s₀ (submitKap s) := by
  unfold submitKap
  repeat' with_reducible first
    | assumption | intro _ | extract_lets | apply ite_keeps | apply closeRequest_keeps | apply kapAgree_keeps | apply modPrt_keeps
    | apply raise_keeps | apply sendKap_keeps | apply wr_keeps | apply mk_keeps | apply Keeps.pending | apply Keeps.dram
    | apply Keeps.flash | apply Keeps.hostMem | apply Keeps.regs | apply Keeps.shadow

theorem pinVerdict_keeps {s₀ s : State} (level : Bool) (hk : Keeps s₀ s) : Keeps s₀ (pinVerdict level s) := by
  unfold pinVerdict
  repeat' with_reducible first
    | assumption | intro _ | extract_lets | apply ite_keeps | apply closeRequest_keeps | apply modPrt_keeps | apply raise_keeps
    | apply wr_keeps | apply mk_keeps | apply Keeps.pending | apply Keeps.dram | apply Keeps.flash | apply Keeps.hostMem
    | apply Keeps.regs | apply Keeps.shadow

theorem verdictTimeout_keeps {s₀ s : State} (hk : Keeps s₀ s) : Keeps s₀ (verdictTimeout s) := by
  unfold verdictTimeout
  repeat' with_reducible first
    | assumption | intro _ | extract_lets | apply ite_keeps | apply issueRequest_keeps | apply modPrt_keeps | apply raise_keeps
    | apply wr_keeps | apply mk_keeps | apply Keeps.pending | apply Keeps.dram | apply Keeps.flash | apply Keeps.hostMem
    | apply Keeps.regs | apply Keeps.shadow

theorem showAgreed_keeps {s₀ s : State} (i : Nat) (v : Option Nat) (hk : Keeps s₀ s) : Keeps s₀ (showAgreed i v s) := by
  unfold showAgreed
  repeat' with_reducible first
    | assumption | intro _ | split | apply raise_keeps | apply wr_keeps | refine okeeps_get (by assumption) ?_
    | refine opkeeps_get (by assumption) ?_ | refine pair_fst_keeps (by assumption) ?_ | refine pair_snd_keeps (by assumption) ?_
    | contradiction

theorem oxlTrained_keeps {s₀ s : State} (oxl : Nat × Nat) (schema : Nat × Nat) (hk : Keeps s₀ s) : Keeps s₀ (oxlTrained oxl schema s) := by
  unfold oxlTrained
  repeat' with_reducible first
    | assumption | intro _ | extract_lets | apply ite_keeps | split | apply modPrt_keeps | apply raise_keeps | apply showAgreed_keeps
    | apply startBulk_keeps | apply when_keeps | apply wr_keeps | refine okeeps_get (by assumption) ?_
    | refine opkeeps_get (by assumption) ?_ | refine pair_fst_keeps (by assumption) ?_ | refine pair_snd_keeps (by assumption) ?_
    | (dsimp +zetaDelta only; split) | apply mk_keeps | apply Keeps.pending | apply Keeps.dram | apply Keeps.flash
    | apply Keeps.hostMem | apply Keeps.regs | apply Keeps.shadow | contradiction

theorem bulkDone_keeps {s₀ s : State} (hk : Keeps s₀ s) : Keeps s₀ (bulkDone s) := by
  unfold bulkDone
  repeat' with_reducible first
    | assumption | intro _ | apply ite_keeps | apply modPrt_keeps | apply setMirror_keeps | apply wr_keeps | apply mk_keeps
    | apply Keeps.pending | apply Keeps.dram | apply Keeps.flash | apply Keeps.hostMem | apply Keeps.regs | apply Keeps.shadow

theorem revertRequest_keeps {s₀ s : State} (hk : Keeps s₀ s) : Keeps s₀ (revertRequest s) := by
  unfold revertRequest
  repeat' with_reducible first
    | assumption | intro _ | apply ite_keeps | apply modPrt_keeps | apply trigger_keeps | apply mk_keeps | apply Keeps.pending
    | apply Keeps.dram | apply Keeps.flash | apply Keeps.hostMem | apply Keeps.regs | apply Keeps.shadow

theorem holdoffSecond_keeps {s₀ s : State} (hk : Keeps s₀ s) : Keeps s₀ (holdoffSecond s) := by
  unfold holdoffSecond
  repeat' with_reducible first
    | assumption | intro _ | apply ite_keeps | apply modPrt_keeps | apply sat_keeps | apply wr_keeps | apply mk_keeps
    | apply Keeps.pending | apply Keeps.dram | apply Keeps.flash | apply Keeps.hostMem | apply Keeps.regs | apply Keeps.shadow

end Sys2Proof.Machine
end

