-- ==== Sys2Proof/Laws/KeepsFrame.lean ====
section
/-! SUPPORT. Laws/KeepsFrame.lean: every operation of Machine/Frame.lean keeps the queue of commands and the canonical forms (Keeps). -/
namespace Sys2Proof.Machine

theorem pmAdd_keeps {s₀ s : State} (n : Nat) (i : Nat) (k : Nat) (hk : Keeps s₀ s) : Keeps s₀ (pmAdd n i k s) := by
  unfold pmAdd
  repeat' with_reducible first
    | assumption | intro _ | apply SMap.rising_put | apply SMap.rising_foldl | apply modTree_keeps | apply mk_keeps
    | apply Keeps.pending | apply Keeps.dram | apply Keeps.flash | apply Keeps.hostMem | apply Keeps.regs | apply Keeps.shadow

theorem modPm_keeps {s₀ s : State} (n : Nat) (t : Nat) (g : TermPm → TermPm) (hk : Keeps s₀ s) : Keeps s₀ (modPm n t g s) := by
  unfold modPm
  repeat' with_reducible first
    | assumption | intro _ | apply modTerm_keeps | apply mk_keeps | apply Keeps.pending | apply Keeps.dram | apply Keeps.flash
    | apply Keeps.hostMem | apply Keeps.regs | apply Keeps.shadow

theorem modWin_keeps {s₀ s : State} (n : Nat) (g : Win → Win) (hk : Keeps s₀ s) : Keeps s₀ (modWin n g s) := by
  unfold modWin
  repeat' with_reducible first
    | assumption | intro _ | split | apply modTree_keeps | refine okeeps_get (by assumption) ?_ | refine opkeeps_get (by assumption) ?_
    | refine pair_fst_keeps (by assumption) ?_ | refine pair_snd_keeps (by assumption) ?_ | apply mk_keeps | apply Keeps.pending
    | apply Keeps.dram | apply Keeps.flash | apply Keeps.hostMem | apply Keeps.regs | apply Keeps.shadow | contradiction

theorem winAdd_keeps {s₀ s : State} (n : Nat) (i : Nat) (k : Nat) (hk : Keeps s₀ s) : Keeps s₀ (winAdd n i k s) := by
  unfold winAdd
  repeat' with_reducible first
    | assumption | intro _ | apply SMap.rising_put | apply SMap.rising_foldl | apply modWin_keeps | apply mk_keeps
    | apply Keeps.pending | apply Keeps.dram | apply Keeps.flash | apply Keeps.hostMem | apply Keeps.regs | apply Keeps.shadow

theorem winPm_keeps {s₀ s : State} (n : Nat) (g : TermPm → TermPm) (hk : Keeps s₀ s) : Keeps s₀ (winPm n g s) := by
  unfold winPm
  repeat' with_reducible first
    | assumption | intro _ | apply modWin_keeps | apply mk_keeps | apply Keeps.pending | apply Keeps.dram | apply Keeps.flash
    | apply Keeps.hostMem | apply Keeps.regs | apply Keeps.shadow

theorem countWin_keeps {s₀ s : State} (n : Nat) (w : Win) (hk : Keeps s₀ s) : Keeps s₀ (countWin n w s) := by
  unfold countWin
  repeat' with_reducible first
    | assumption | intro _ | apply foldl_keeps | apply foldl_fst_keeps | apply foldl_snd_keeps | apply modPm_keeps | apply pmAdd_keeps
    | apply when_keeps

theorem countLate_keeps {s₀ s : State} (n : Nat) (w : Win) (tree : List (Nat × Nat)) (p : TermPm) (hk : Keeps s₀ s) : Keeps s₀ (countLate n w tree p s) := by
  unfold countLate
  repeat' with_reducible first
    | assumption | intro _ | extract_lets | apply ite_keeps | apply fst_ite_keeps | apply snd_ite_keeps | apply foldl_keeps
    | apply foldl_fst_keeps | apply foldl_snd_keeps | apply SMap.rising_put | apply SMap.rising_foldl | apply modPm_keeps
    | apply modTree_keeps | apply pmAdd_keeps | apply when_keeps | apply mk_keeps | apply Keeps.pending | apply Keeps.dram
    | apply Keeps.flash | apply Keeps.hostMem | apply Keeps.regs | apply Keeps.shadow

theorem countWithin_keeps {s₀ s : State} (n : Nat) (w : Win) (i : Nat) (hk : Keeps s₀ s) : Keeps s₀ (countWithin n w i s) := by
  unfold countWithin
  repeat' with_reducible first
    | assumption | intro _ | extract_lets | apply ite_keeps | apply SMap.rising_put | apply SMap.rising_foldl | apply countLate_keeps
    | apply modTree_keeps | apply mk_keeps | apply Keeps.pending | apply Keeps.dram | apply Keeps.flash | apply Keeps.hostMem
    | apply Keeps.regs | apply Keeps.shadow

theorem showQueued_keeps {s₀ s : State} (n : Nat) (hk : Keeps s₀ s) : Keeps s₀ (showQueued n s) := by
  unfold showQueued
  repeat' with_reducible first
    | assumption | intro _ | apply wr_keeps

theorem queueMsg_keeps {s₀ s : State} (n : Nat) (m : Msg) (hk : Keeps s₀ s) : Keeps s₀ (queueMsg n m s) := by
  unfold queueMsg
  repeat' with_reducible first
    | assumption | intro _ | apply modTree_keeps | apply mk_keeps | apply Keeps.pending | apply Keeps.dram | apply Keeps.flash
    | apply Keeps.hostMem | apply Keeps.regs | apply Keeps.shadow

theorem askChecks_keeps {s₀ s : State} (l : List (Option (Nat × Msg))) (hk : Keeps s₀ s) : Keeps s₀ (askChecks l s) := by
  unfold askChecks
  repeat' with_reducible first
    | assumption | intro _ | apply mk_keeps | apply Keeps.pending | apply Keeps.dram | apply Keeps.flash | apply Keeps.hostMem
    | apply Keeps.regs | apply Keeps.shadow

theorem selectMsgs_keeps {s₀ s : State} (n : Nat) (hk : Keeps s₀ s) : Keeps s₀ (selectMsgs n s) := by
  unfold selectMsgs
  repeat' with_reducible first
    | assumption | intro _ | extract_lets | apply ite_keeps | apply SMap.rising_filter | apply Memory.wf_filter | apply askChecks_keeps
    | apply modTree_keeps | apply showQueued_keeps | apply mk_keeps | apply Keeps.pending | apply Keeps.dram | apply Keeps.flash
    | apply Keeps.hostMem | apply Keeps.regs | apply Keeps.shadow

theorem submitMsg_keeps {s₀ s : State} (n : Nat) (term : Nat) (hk : Keeps s₀ s) : Keeps s₀ (submitMsg n term s) := by
  unfold submitMsg
  repeat' with_reducible first
    | assumption | intro _ | extract_lets | apply ite_keeps | apply pmAdd_keeps | apply queueMsg_keeps | apply raise_keeps
    | apply showQueued_keeps | apply wr_keeps

theorem noteSent_keeps {s₀ s : State} (n : Nat) (m : Msg) (hk : Keeps s₀ s) : Keeps s₀ (noteSent n m s) := by
  unfold noteSent
  repeat' with_reducible first
    | assumption | intro _ | apply ite_keeps | apply modTerm_keeps | apply mk_keeps | apply Keeps.pending | apply Keeps.dram
    | apply Keeps.flash | apply Keeps.hostMem | apply Keeps.regs | apply Keeps.shadow

theorem countUnderrun_keeps {s₀ s : State} (n : Nat) (hk : Keeps s₀ s) : Keeps s₀ (countUnderrun n s) := by
  unfold countUnderrun
  repeat' with_reducible first
    | assumption | intro _ | apply raiseSec_keeps | apply sat_keeps

theorem handOff_keeps {s₀ s : State} (n : Nat) (idle : Nat) (short : Bool) (hk : Keeps s₀ s) : Keeps s₀ (handOff n idle short s) := by
  unfold handOff
  repeat' with_reducible first
    | assumption | intro _ | extract_lets | apply ite_keeps | apply foldl_keeps | apply countUnderrun_keeps | apply modTree_keeps
    | apply noteSent_keeps | apply when_keeps | apply mk_keeps | apply Keeps.pending | apply Keeps.dram | apply Keeps.flash
    | apply Keeps.hostMem | apply Keeps.regs | apply Keeps.shadow

theorem countFrame_keeps {s₀ s : State} (n : Nat) (hk : Keeps s₀ s) : Keeps s₀ (countFrame n s) := by
  unfold countFrame
  repeat' with_reducible first
    | assumption | intro _ | extract_lets | apply ite_keeps | apply fst_ite_keeps | split | apply SMap.rising_filter
    | apply Memory.wf_filter | apply pmAdd_keeps | refine okeeps_get (by assumption) ?_ | refine opkeeps_get (by assumption) ?_
    | refine pair_fst_keeps (by assumption) ?_ | refine pair_snd_keeps (by assumption) ?_ | contradiction

theorem mapLate_keeps {s₀ s : State} (n : Nat) (hk : Keeps s₀ s) : Keeps s₀ (mapLate n s) := by
  unfold mapLate
  repeat' with_reducible first
    | assumption | intro _ | extract_lets | apply ite_keeps | apply modTree_keeps | apply raise_keeps | apply sat_keeps
    | apply mk_keeps | apply Keeps.pending | apply Keeps.dram | apply Keeps.flash | apply Keeps.hostMem | apply Keeps.regs
    | apply Keeps.shadow

theorem showRx_keeps {s₀ s : State} (n : Nat) (hk : Keeps s₀ s) : Keeps s₀ (showRx n s) := by
  unfold showRx
  repeat' with_reducible first
    | assumption | intro _ | extract_lets | apply foldl_keeps | apply foldl_fst_keeps | apply foldl_snd_keeps | apply wr_keeps

theorem msgRxAgain_keeps {s₀ s : State} (hk : Keeps s₀ s) : Keeps s₀ (msgRxAgain s) := by
  unfold msgRxAgain
  repeat' with_reducible first
    | assumption | intro _ | extract_lets | apply ite_keeps | apply fst_ite_keeps | apply snd_ite_keeps | apply foldl_keeps
    | apply foldl_fst_keeps | apply foldl_snd_keeps | apply raise_keeps

theorem popRx_keeps {s₀ s : State} (n : Nat) (hk : Keeps s₀ s) : Keeps s₀ (popRx n s) := by
  unfold popRx
  repeat' with_reducible first
    | assumption | intro _ | apply modTree_keeps | apply msgRxAgain_keeps | apply showRx_keeps | apply mk_keeps | apply Keeps.pending
    | apply Keeps.dram | apply Keeps.flash | apply Keeps.hostMem | apply Keeps.regs | apply Keeps.shadow

theorem pushRx_keeps {s₀ s : State} (n : Nat) (term : Nat) (body : List Nat) (hk : Keeps s₀ s) : Keeps s₀ (pushRx n term body s) := by
  unfold pushRx
  repeat' with_reducible first
    | assumption | intro _ | apply ite_keeps | apply modTree_keeps | apply raise_keeps | apply sat_keeps | apply showRx_keeps
    | apply mk_keeps | apply Keeps.pending | apply Keeps.dram | apply Keeps.flash | apply Keeps.hostMem | apply Keeps.regs
    | apply Keeps.shadow

theorem writeCeiling_keeps {s₀ s : State} (n : Nat) (hk : Keeps s₀ s) : Keeps s₀ (writeCeiling n s) := by
  unfold writeCeiling
  repeat' with_reducible first
    | assumption | intro _ | extract_lets | apply ite_keeps | apply SMap.rising_put | apply SMap.rising_foldl | apply modStore_keeps
    | apply modTree_keeps | apply mk_keeps | apply Keeps.pending | apply Keeps.dram | apply Keeps.flash | apply Keeps.hostMem
    | apply Keeps.regs | apply Keeps.shadow

theorem startSfc_keeps {s₀ s : State} (n : Nat) (hk : Keeps s₀ s) : Keeps s₀ (startSfc n s) := by
  unfold startSfc
  repeat' with_reducible first
    | assumption | intro _ | apply ite_keeps | apply modTree_keeps | apply wr_keeps | apply writeCeiling_keeps | apply mk_keeps
    | apply Keeps.pending | apply Keeps.dram | apply Keeps.flash | apply Keeps.hostMem | apply Keeps.regs | apply Keeps.shadow

theorem setDefect_keeps {s₀ s : State} (n : Nat) (term : Nat) (c : Nat) (on : Bool) (hk : Keeps s₀ s) : Keeps s₀ (setDefect n term c on s) := by
  unfold setDefect
  repeat' with_reducible first
    | assumption | intro _ | extract_lets | apply ite_keeps | apply modTerm_keeps | apply queueMsg_keeps | apply raise_keeps
    | apply sat_keeps | apply when_keeps | apply wr_keeps | apply mk_keeps | apply Keeps.pending | apply Keeps.dram | apply Keeps.flash
    | apply Keeps.hostMem | apply Keeps.regs | apply Keeps.shadow

theorem burstSeen_keeps {s₀ s : State} (n : Nat) (term : Nat) (dg : Bool) (hk : Keeps s₀ s) : Keeps s₀ (burstSeen n term dg s) := by
  unfold burstSeen
  repeat' with_reducible first
    | assumption | intro _ | extract_lets | apply modTerm_keeps | apply setDefect_keeps | apply mk_keeps | apply Keeps.pending
    | apply Keeps.dram | apply Keeps.flash | apply Keeps.hostMem | apply Keeps.regs | apply Keeps.shadow

theorem lobTick_keeps {s₀ s : State} (n : Nat) (term : Nat) (hk : Keeps s₀ s) : Keeps s₀ (lobTick n term s) := by
  unfold lobTick
  repeat' with_reducible first
    | assumption | intro _ | extract_lets | apply ite_keeps | apply modTerm_keeps | apply setDefect_keeps | apply when_keeps
    | apply mk_keeps | apply Keeps.pending | apply Keeps.dram | apply Keeps.flash | apply Keeps.hostMem | apply Keeps.regs
    | apply Keeps.shadow

theorem errorSecond_keeps {s₀ s : State} (n : Nat) (term : Nat) (hk : Keeps s₀ s) : Keeps s₀ (errorSecond n term s) := by
  unfold errorSecond
  repeat' with_reducible first
    | assumption | intro _ | extract_lets | apply ite_keeps | apply fst_ite_keeps | apply snd_ite_keeps | apply modTerm_keeps
    | apply setDefect_keeps | apply mk_keeps | apply Keeps.pending | apply Keeps.dram | apply Keeps.flash | apply Keeps.hostMem
    | apply Keeps.regs | apply Keeps.shadow

theorem zeroPm_keeps {s₀ s : State} (n : Nat) (term : Nat) (hk : Keeps s₀ s) : Keeps s₀ (zeroPm n term s) := by
  unfold zeroPm
  repeat' with_reducible first
    | assumption | intro _ | apply ite_keeps | apply modTerm_keeps | apply mk_keeps | apply Keeps.pending | apply Keeps.dram
    | apply Keeps.flash | apply Keeps.hostMem | apply Keeps.regs | apply Keeps.shadow

theorem takeFec_keeps {s₀ s : State} (n : Nat) (hk : Keeps s₀ s) : Keeps s₀ (takeFec n s) := by
  unfold takeFec
  repeat' with_reducible first
    | assumption | intro _ | extract_lets | apply modTree_keeps | apply pmAdd_keeps | apply mk_keeps | apply Keeps.pending
    | apply Keeps.dram | apply Keeps.flash | apply Keeps.hostMem | apply Keeps.regs | apply Keeps.shadow

theorem latchTree_keeps {s₀ s : State} (n : Nat) (hk : Keeps s₀ s) : Keeps s₀ (latchTree n s) := by
  unfold latchTree
  repeat' with_reducible first
    | assumption | intro _ | extract_lets | apply ite_keeps | apply modTree_keeps | apply pmAdd_keeps | apply takeFec_keeps
    | apply mk_keeps | apply Keeps.pending | apply Keeps.dram | apply Keeps.flash | apply Keeps.hostMem | apply Keeps.regs
    | apply Keeps.shadow

theorem latchDone_keeps {s₀ s : State} (n : Nat) (hk : Keeps s₀ s) : Keeps s₀ (latchDone n s) := by
  unfold latchDone
  repeat' with_reducible first
    | assumption | intro _ | extract_lets | apply ite_keeps | apply fst_ite_keeps | apply snd_ite_keeps | apply foldl_keeps
    | apply foldl_fst_keeps | apply foldl_snd_keeps | apply SMap.rising_filter | apply Memory.wf_filter | apply mirrorSend_keeps
    | apply modTerm_keeps | apply modTree_keeps | apply raise_keeps | apply when_keeps | apply wr_keeps | apply wrap_keeps
    | apply mk_keeps | apply Keeps.pending | apply Keeps.dram | apply Keeps.flash | apply Keeps.hostMem | apply Keeps.regs
    | apply Keeps.shadow

theorem selectPm_keeps {s₀ s : State} (n : Nat) (term : Nat) (tree : Bool) (hk : Keeps s₀ s) : Keeps s₀ (selectPm n term tree s) := by
  unfold selectPm
  repeat' with_reducible first
    | assumption | intro _ | extract_lets | apply ite_keeps | apply foldl_keeps | apply wr_keeps

theorem missedBurst_keeps {s₀ s : State} (n : Nat) (term : Nat) (hk : Keeps s₀ s) : Keeps s₀ (missedBurst n term s) := by
  unfold missedBurst
  repeat' with_reducible first
    | assumption | intro _ | extract_lets | apply ite_keeps | apply modPm_keeps | apply modTerm_keeps | apply modTree_keeps
    | apply pmAdd_keeps | apply raise_keeps | apply mk_keeps | apply Keeps.pending | apply Keeps.dram | apply Keeps.flash
    | apply Keeps.hostMem | apply Keeps.regs | apply Keeps.shadow

theorem frameTick_keeps {s₀ s : State} (n : Nat) (hk : Keeps s₀ s) : Keeps s₀ (frameTick n s) := by
  unfold frameTick
  repeat' with_reducible first
    | assumption | intro _ | extract_lets | apply ite_keeps | apply foldl_keeps | apply SMap.rising_filter | apply Memory.wf_filter
    | apply SMap.rising_put | apply SMap.rising_foldl | apply countFrame_keeps | apply lobTick_keeps | apply modTree_keeps
    | apply queueMsg_keeps | apply showQueued_keeps | apply when_keeps | apply wrap_keeps | apply mk_keeps | apply Keeps.pending
    | apply Keeps.dram | apply Keeps.flash | apply Keeps.hostMem | apply Keeps.regs | apply Keeps.shadow

end Sys2Proof.Machine
end

