-- ==== Sys2Proof/Laws/KeepsRanging.lean ====
section
/-! SUPPORT. Laws/KeepsRanging.lean: every operation of Machine/Ranging.lean keeps the queue of commands and the canonical forms (Keeps). -/
namespace Sys2Proof.Machine

theorem popAdd_keeps {s₀ s : State} (n : Nat) (st : Nat) (hk : Keeps s₀ s) : Keeps s₀ (popAdd n st s) := by
  unfold popAdd
  repeat' with_reducible first
    | assumption | intro _ | split | apply wr_keeps | refine okeeps_get (by assumption) ?_ | refine opkeeps_get (by assumption) ?_
    | refine pair_fst_keeps (by assumption) ?_ | refine pair_snd_keeps (by assumption) ?_ | contradiction

theorem popSub_keeps {s₀ s : State} (n : Nat) (st : Nat) (hk : Keeps s₀ s) : Keeps s₀ (popSub n st s) := by
  unfold popSub
  repeat' with_reducible first
    | assumption | intro _ | split | apply wr_keeps | refine okeeps_get (by assumption) ?_ | refine opkeeps_get (by assumption) ?_
    | refine pair_fst_keeps (by assumption) ?_ | refine pair_snd_keeps (by assumption) ?_ | contradiction

theorem updateTeq_keeps {s₀ s : State} (n : Nat) (hk : Keeps s₀ s) : Keeps s₀ (updateTeq n s) := by
  unfold updateTeq
  repeat' with_reducible first
    | assumption | intro _ | extract_lets | apply ite_keeps | apply modTree_keeps | apply wr_keeps | apply mk_keeps
    | apply Keeps.pending | apply Keeps.dram | apply Keeps.flash | apply Keeps.hostMem | apply Keeps.regs | apply Keeps.shadow

theorem setTerm_keeps {s₀ s : State} (n : Nat) (t : Nat) (st : Nat) (cause : Nat) (hk : Keeps s₀ s) : Keeps s₀ (setTerm n t st cause s) := by
  unfold setTerm
  repeat' with_reducible first
    | assumption | intro _ | extract_lets | apply mirrorSend_keeps | apply popAdd_keeps | apply popSub_keeps | apply updateTeq_keeps
    | apply when_keeps | apply wr_keeps

theorem rngEvent_keeps {s₀ s : State} (n : Nat) (t : Nat) (e : Nat) (ev : Ev) (hk : Keeps s₀ s) : Keeps s₀ (rngEvent n t e ev s) := by
  unfold rngEvent
  repeat' with_reducible first
    | assumption | intro _ | apply ite_keeps | apply raise_keeps | apply wr_keeps

theorem rngEventSec_keeps {s₀ s : State} (n : Nat) (t : Nat) (e : Nat) (ev : Ev) (hk : Keeps s₀ s) : Keeps s₀ (rngEventSec n t e ev s) := by
  unfold rngEventSec
  repeat' with_reducible first
    | assumption | intro _ | apply ite_keeps | apply modHub_keeps | apply rngEvent_keeps | apply mk_keeps | apply Keeps.pending
    | apply Keeps.dram | apply Keeps.flash | apply Keeps.hostMem | apply Keeps.regs | apply Keeps.shadow

theorem noteRtd_keeps {s₀ s : State} (n : Nat) (t : Nat) (hk : Keeps s₀ s) : Keeps s₀ (noteRtd n t s) := by
  unfold noteRtd
  repeat' with_reducible first
    | assumption | intro _ | extract_lets | apply ite_keeps | apply fst_ite_keeps | apply snd_ite_keeps | apply modTsu_keeps
    | apply raise_keeps | apply when_keeps | apply wr_keeps | apply mk_keeps | apply Keeps.pending | apply Keeps.dram
    | apply Keeps.flash | apply Keeps.hostMem | apply Keeps.regs | apply Keeps.shadow

theorem setRtd_keeps {s₀ s : State} (n : Nat) (t : Nat) (ru : Int) (hk : Keeps s₀ s) : Keeps s₀ (setRtd n t ru s) := by
  unfold setRtd
  repeat' with_reducible first
    | assumption | intro _ | extract_lets | apply ite_keeps | apply mirrorSend_keeps | apply noteRtd_keeps | apply wr_keeps

theorem setEqd_keeps {s₀ s : State} (n : Nat) (t : Nat) (ru : Int) (hk : Keeps s₀ s) : Keeps s₀ (setEqd n t ru s) := by
  unfold setEqd
  repeat' with_reducible first
    | assumption | intro _ | apply mirrorSend_keeps | apply wr_keeps

theorem rngMsg_keeps {s₀ s : State} (n : Nat) (m : Msg) (hk : Keeps s₀ s) : Keeps s₀ (rngMsg n m s) := by
  unfold rngMsg
  repeat' with_reducible first
    | assumption | intro _ | apply ite_keeps | apply queueMsg_keeps

theorem sendRangingTime_keeps {s₀ s : State} (n : Nat) (t : Nat) (hk : Keeps s₀ s) : Keeps s₀ (sendRangingTime n t s) := by
  unfold sendRangingTime
  repeat' with_reducible first
    | assumption | intro _ | apply rngMsg_keeps

theorem freshBlock_keeps {s₀ s : State} (n : Nat) (t : Nat) (hk : Keeps s₀ s) : Keeps s₀ (freshBlock n t s) := by
  unfold freshBlock
  repeat' with_reducible first
    | assumption | intro _ | apply modTerm_keeps | apply mk_keeps | apply Keeps.pending | apply Keeps.dram | apply Keeps.flash
    | apply Keeps.hostMem | apply Keeps.regs | apply Keeps.shadow

theorem enterGuarded_keeps {s₀ s : State} (n : Nat) (t : Nat) (cause : Nat) (hk : Keeps s₀ s) : Keeps s₀ (enterGuarded n t cause s) := by
  unfold enterGuarded
  repeat' with_reducible first
    | assumption | intro _ | apply rngEvent_keeps | apply setTerm_keeps

theorem guardClear_keeps {s₀ s : State} (n : Nat) (t : Nat) (hk : Keeps s₀ s) : Keeps s₀ (guardClear n t s) := by
  unfold guardClear
  repeat' with_reducible first
    | assumption | intro _ | apply freshBlock_keeps | apply rngEvent_keeps | apply setTerm_keeps | apply wr_keeps

theorem verifyCheck_keeps {s₀ s : State} (n : Nat) (hk : Keeps s₀ s) : Keeps s₀ (verifyCheck n s) := by
  unfold verifyCheck
  repeat' with_reducible first
    | assumption | intro _ | apply ite_keeps | apply rngEvent_keeps | apply wr_keeps

theorem failTerm_keeps {s₀ s : State} (n : Nat) (t : Nat) (hk : Keeps s₀ s) : Keeps s₀ (failTerm n t s) := by
  unfold failTerm
  repeat' with_reducible first
    | assumption | intro _ | apply modTerm_keeps | apply rngEvent_keeps | apply setTerm_keeps | apply mk_keeps | apply Keeps.pending
    | apply Keeps.dram | apply Keeps.flash | apply Keeps.hostMem | apply Keeps.regs | apply Keeps.shadow

theorem correct_keeps {s₀ s : State} (n : Nat) (t : Nat) (eqd : Int) (accepting : Bool) (hk : Keeps s₀ s) : Keeps s₀ (correct n t eqd accepting s) := by
  unfold correct
  repeat' with_reducible first
    | assumption | intro _ | extract_lets | apply ite_keeps | apply modTerm_keeps | apply sendRangingTime_keeps | apply setEqd_keeps
    | apply mk_keeps | apply Keeps.pending | apply Keeps.dram | apply Keeps.flash | apply Keeps.hostMem | apply Keeps.regs
    | apply Keeps.shadow

theorem blockFull_keeps {s₀ s : State} (n : Nat) (t : Nat) (hk : Keeps s₀ s) : Keeps s₀ (blockFull n t s) := by
  unfold blockFull
  repeat' with_reducible first
    | assumption | intro _ | extract_lets | apply ite_keeps | apply correct_keeps | apply modTerm_keeps | apply sat_keeps
    | apply mk_keeps | apply Keeps.pending | apply Keeps.dram | apply Keeps.flash | apply Keeps.hostMem | apply Keeps.regs
    | apply Keeps.shadow

theorem stepFound_keeps {s₀ s : State} (n : Nat) (t : Nat) (cause : Nat) (step : Int) (hk : Keeps s₀ s) : Keeps s₀ (stepFound n t cause step s) := by
  unfold stepFound
  repeat' with_reducible first
    | assumption | intro _ | apply enterGuarded_keeps | apply modTerm_keeps | apply sat_keeps | apply wr_keeps | apply mk_keeps
    | apply Keeps.pending | apply Keeps.dram | apply Keeps.flash | apply Keeps.hostMem | apply Keeps.regs | apply Keeps.shadow

theorem judge_keeps {s₀ s : State} (n : Nat) (t : Nat) (env : Int) (e : Int) (hk : Keeps s₀ s) : Keeps s₀ (judge n t env e s) := by
  unfold judge
  repeat' with_reducible first
    | assumption | intro _ | extract_lets | apply ite_keeps | apply SMap.rising_filter | apply Memory.wf_filter | apply blockFull_keeps
    | apply freshBlock_keeps | apply guardClear_keeps | apply modTerm_keeps | apply sat_keeps | apply setTerm_keeps
    | apply stepFound_keeps | apply verifyCheck_keeps | apply wr_keeps | apply mk_keeps | apply Keeps.pending | apply Keeps.dram
    | apply Keeps.flash | apply Keeps.hostMem | apply Keeps.regs | apply Keeps.shadow

theorem sample_keeps {s₀ s : State} (n : Nat) (t : Nat) (rate : Nat) (e : Int) (hk : Keeps s₀ s) : Keeps s₀ (sample n t rate e s) := by
  unfold sample
  repeat' with_reducible first
    | assumption | intro _ | extract_lets | apply ite_keeps | split | apply freshBlock_keeps | apply guardClear_keeps
    | apply histSample_keeps | apply judge_keeps | apply modTerm_keeps | apply modTree_keeps | apply when_keeps | apply wr_keeps
    | refine okeeps_get (by assumption) ?_ | refine opkeeps_get (by assumption) ?_ | refine pair_fst_keeps (by assumption) ?_
    | refine pair_snd_keeps (by assumption) ?_ | (dsimp +zetaDelta only; split) | apply mk_keeps | apply Keeps.pending
    | apply Keeps.dram | apply Keeps.flash | apply Keeps.hostMem | apply Keeps.regs | apply Keeps.shadow | contradiction

theorem missing_keeps {s₀ s : State} (n : Nat) (t : Nat) (hk : Keeps s₀ s) : Keeps s₀ (missing n t s) := by
  unfold missing
  repeat' with_reducible first
    | assumption | intro _ | extract_lets | apply ite_keeps | apply enterGuarded_keeps | apply freshBlock_keeps | apply sat_keeps

theorem correctionResend_keeps {s₀ s : State} (n : Nat) (t : Nat) (hk : Keeps s₀ s) : Keeps s₀ (correctionResend n t s) := by
  unfold correctionResend
  repeat' with_reducible first
    | assumption | intro _ | extract_lets | apply ite_keeps | apply freshBlock_keeps | apply guardClear_keeps | apply modTerm_keeps
    | apply rngEvent_keeps | apply sendRangingTime_keeps | apply when_keeps | apply mk_keeps | apply Keeps.pending | apply Keeps.dram
    | apply Keeps.flash | apply Keeps.hostMem | apply Keeps.regs | apply Keeps.shadow

theorem ranged_keeps {s₀ s : State} (n : Nat) (t : Nat) (rtd : Int) (hk : Keeps s₀ s) : Keeps s₀ (ranged n t rtd s) := by
  unfold ranged
  repeat' with_reducible first
    | assumption | intro _ | extract_lets | apply ite_keeps | apply failTerm_keeps | apply modTerm_keeps | apply rngEvent_keeps
    | apply sendRangingTime_keeps | apply setEqd_keeps | apply setRtd_keeps | apply mk_keeps | apply Keeps.pending | apply Keeps.dram
    | apply Keeps.flash | apply Keeps.hostMem | apply Keeps.regs | apply Keeps.shadow

theorem rangeMissed_keeps {s₀ s : State} (n : Nat) (t : Nat) (hk : Keeps s₀ s) : Keeps s₀ (rangeMissed n t s) := by
  unfold rangeMissed
  repeat' with_reducible first
    | assumption | intro _ | extract_lets | apply ite_keeps | apply failTerm_keeps | apply modTerm_keeps | apply sat_keeps
    | apply setTerm_keeps | apply mk_keeps | apply Keeps.pending | apply Keeps.dram | apply Keeps.flash | apply Keeps.hostMem
    | apply Keeps.regs | apply Keeps.shadow

theorem windowLost_keeps {s₀ s : State} (n : Nat) (t : Nat) (hk : Keeps s₀ s) : Keeps s₀ (windowLost n t s) := by
  unfold windowLost
  repeat' with_reducible first
    | assumption | intro _ | apply ite_keeps | apply modTerm_keeps | apply setTerm_keeps | apply mk_keeps | apply Keeps.pending
    | apply Keeps.dram | apply Keeps.flash | apply Keeps.hostMem | apply Keeps.regs | apply Keeps.shadow

theorem registration_keeps {s₀ s : State} (n : Nat) (t : Nat) (hk : Keeps s₀ s) : Keeps s₀ (registration n t s) := by
  unfold registration
  repeat' with_reducible first
    | assumption | intro _ | apply modTerm_keeps | apply mk_keeps | apply Keeps.pending | apply Keeps.dram | apply Keeps.flash
    | apply Keeps.hostMem | apply Keeps.regs | apply Keeps.shadow

theorem rangingAck_keeps {s₀ s : State} (n : Nat) (t : Nat) (hk : Keeps s₀ s) : OKeeps s₀ (rangingAck n t s) := by
  unfold rangingAck
  repeat' with_reducible first
    | assumption | intro _ | apply okeeps_none | apply okeeps_some | apply okeeps_ite | apply ite_keeps | apply freshBlock_keeps
    | apply modTerm_keeps | apply rngEvent_keeps | apply setTerm_keeps | apply mk_keeps | apply Keeps.pending | apply Keeps.dram
    | apply Keeps.flash | apply Keeps.hostMem | apply Keeps.regs | apply Keeps.shadow

theorem rangingResend_keeps {s₀ s : State} (n : Nat) (t : Nat) (hk : Keeps s₀ s) : Keeps s₀ (rangingResend n t s) := by
  unfold rangingResend
  repeat' with_reducible first
    | assumption | intro _ | extract_lets | apply ite_keeps | apply failTerm_keeps | apply modTerm_keeps | apply sendRangingTime_keeps
    | apply mk_keeps | apply Keeps.pending | apply Keeps.dram | apply Keeps.flash | apply Keeps.hostMem | apply Keeps.regs
    | apply Keeps.shadow

theorem verifyTimeout_keeps {s₀ s : State} (n : Nat) (t : Nat) (hk : Keeps s₀ s) : Keeps s₀ (verifyTimeout n t s) := by
  unfold verifyTimeout
  repeat' with_reducible first
    | assumption | intro _ | extract_lets | apply ite_keeps | apply rngEvent_keeps | apply setEqd_keeps | apply setTerm_keeps
    | apply verifyCheck_keeps | apply when_keeps | apply wr_keeps

theorem admitTerm_keeps {s₀ s : State} (n : Nat) (t : Nat) (sn : Nat) (est : Int) (saved : Bool) (hk : Keeps s₀ s) : Keeps s₀ (admitTerm n t sn est saved s) := by
  unfold admitTerm
  repeat' with_reducible first
    | assumption | intro _ | extract_lets | apply modTerm_keeps | apply rngMsg_keeps | apply setTerm_keeps | apply wr_keeps
    | apply zeroPm_keeps | apply mk_keeps | apply Keeps.pending | apply Keeps.dram | apply Keeps.flash | apply Keeps.hostMem
    | apply Keeps.regs | apply Keeps.shadow

theorem showPend_keeps {s₀ s : State} (n : Nat) (hk : Keeps s₀ s) : Keeps s₀ (showPend n s) := by
  unfold showPend
  repeat' with_reducible first
    | assumption | intro _ | apply wr_keeps

theorem discResponse_keeps {s₀ s : State} (n : Nat) (hk : Keeps s₀ s) : Keeps s₀ (discResponse n s) := by
  unfold discResponse
  repeat' with_reducible first
    | assumption | intro _ | extract_lets | apply ite_keeps | apply fst_ite_keeps | apply snd_ite_keeps | split
    | apply SMap.rising_filter | apply Memory.wf_filter | apply admitTerm_keeps | apply modTree_keeps | apply rngEvent_keeps
    | apply sat_keeps | apply showPend_keeps | apply verifyCheck_keeps | apply when_keeps | apply wr_keeps
    | refine okeeps_get (by assumption) ?_ | refine opkeeps_get (by assumption) ?_ | refine pair_fst_keeps (by assumption) ?_
    | refine pair_snd_keeps (by assumption) ?_ | (dsimp +zetaDelta only; split) | apply mk_keeps | apply Keeps.pending
    | apply Keeps.dram | apply Keeps.flash | apply Keeps.hostMem | apply Keeps.regs | apply Keeps.shadow | contradiction

theorem wantDiscovery_keeps {s₀ s : State} (n : Nat) (hk : Keeps s₀ s) : Keeps s₀ (wantDiscovery n s) := by
  unfold wantDiscovery
  repeat' with_reducible first
    | assumption | intro _ | apply modTree_keeps | apply mk_keeps | apply Keeps.pending | apply Keeps.dram | apply Keeps.flash
    | apply Keeps.hostMem | apply Keeps.regs | apply Keeps.shadow

theorem beginQuiet_keeps {s₀ s : State} (n : Nat) (t : Nat) (len : Nat) (hk : Keeps s₀ s) : Keeps s₀ (beginQuiet n t len s) := by
  unfold beginQuiet
  repeat' with_reducible first
    | assumption | intro _ | extract_lets | apply ite_keeps | apply modTerm_keeps | apply modTree_keeps | apply rngMsg_keeps
    | apply sat_keeps | apply setTerm_keeps | apply wr_keeps | apply mk_keeps | apply Keeps.pending | apply Keeps.dram
    | apply Keeps.flash | apply Keeps.hostMem | apply Keeps.regs | apply Keeps.shadow

theorem deferQuiet_keeps {s₀ s : State} (n : Nat) (hk : Keeps s₀ s) : Keeps s₀ (deferQuiet n s) := by
  unfold deferQuiet
  repeat' with_reducible first
    | assumption | intro _ | extract_lets | apply ite_keeps | apply fst_ite_keeps | apply modTree_keeps | apply rngEventSec_keeps
    | apply sat_keeps | apply wr_keeps | apply mk_keeps | apply Keeps.pending | apply Keeps.dram | apply Keeps.flash
    | apply Keeps.hostMem | apply Keeps.regs | apply Keeps.shadow

theorem leaveQueue_keeps {s₀ s : State} (n : Nat) (hk : Keeps s₀ s) : Keeps s₀ (leaveQueue n s) := by
  unfold leaveQueue
  repeat' with_reducible first
    | assumption | intro _ | extract_lets | apply ite_keeps | apply modTree_keeps | apply wr_keeps | apply mk_keeps
    | apply Keeps.pending | apply Keeps.dram | apply Keeps.flash | apply Keeps.hostMem | apply Keeps.regs | apply Keeps.shadow

theorem quietWindow_keeps {s₀ s : State} (n : Nat) (hk : Keeps s₀ s) : Keeps s₀ (quietWindow n s) := by
  unfold quietWindow
  repeat' with_reducible first
    | assumption | intro _ | extract_lets | apply ite_keeps | split | apply beginQuiet_keeps | apply deferQuiet_keeps
    | refine okeeps_get (by assumption) ?_ | refine opkeeps_get (by assumption) ?_ | refine pair_fst_keeps (by assumption) ?_
    | refine pair_snd_keeps (by assumption) ?_ | (dsimp +zetaDelta only; split) | contradiction

theorem rngCode_keeps {s₀ s : State} (n : Nat) (src : Nat) (c : Nat) (hk : Keeps s₀ s) : Keeps s₀ (rngCode n src c s) := by
  unfold rngCode
  repeat' with_reducible first
    | assumption | intro _ | apply wr_keeps

theorem rngSubmit_keeps {s₀ s : State} (n : Nat) (op : Nat) (t : Nat) (hk : Keeps s₀ s) : Keeps s₀ (rngSubmit n op t s) := by
  unfold rngSubmit
  repeat' with_reducible first
    | assumption | intro _ | extract_lets | apply ite_keeps | apply fst_ite_keeps | apply modTree_keeps | apply rngCode_keeps
    | apply wr_keeps | apply mk_keeps | apply Keeps.pending | apply Keeps.dram | apply Keeps.flash | apply Keeps.hostMem
    | apply Keeps.regs | apply Keeps.shadow

theorem releaseTerm_keeps {s₀ s : State} (n : Nat) (t : Nat) (hk : Keeps s₀ s) : Keeps s₀ (releaseTerm n t s) := by
  unfold releaseTerm
  repeat' with_reducible first
    | assumption | intro _ | extract_lets | apply foldl_keeps | apply modTerm_keeps | apply setDefect_keeps | apply setRtd_keeps
    | apply setTerm_keeps | apply verifyCheck_keeps | apply when_keeps | apply wr_keeps | apply mk_keeps | apply Keeps.pending
    | apply Keeps.dram | apply Keeps.flash | apply Keeps.hostMem | apply Keeps.regs | apply Keeps.shadow

theorem rngApply_keeps {s₀ s : State} (n : Nat) (hk : Keeps s₀ s) : Keeps s₀ (rngApply n s) := by
  unfold rngApply
  repeat' with_reducible first
    | assumption | intro _ | extract_lets | apply ite_keeps | apply snd_ite_keeps | split | apply admitTerm_keeps | apply correct_keeps
    | apply modTerm_keeps | apply modTree_keeps | apply releaseTerm_keeps | apply rngCode_keeps | apply setRtd_keeps
    | apply setTerm_keeps | apply showPend_keeps | apply verifyCheck_keeps | apply when_keeps | apply wr_keeps
    | refine okeeps_get (by assumption) ?_ | refine opkeeps_get (by assumption) ?_ | refine pair_fst_keeps (by assumption) ?_
    | refine pair_snd_keeps (by assumption) ?_ | apply mk_keeps | apply Keeps.pending | apply Keeps.dram | apply Keeps.flash
    | apply Keeps.hostMem | apply Keeps.regs | apply Keeps.shadow | contradiction

theorem rangingTick_keeps {s₀ s : State} (n : Nat) (hk : Keeps s₀ s) : Keeps s₀ (rangingTick n s) := by
  unfold rangingTick
  repeat' with_reducible first
    | assumption | intro _ | extract_lets | apply ite_keeps | apply foldl_keeps | apply leaveQueue_keeps | apply modTerm_keeps
    | apply modTree_keeps | apply rngApply_keeps | apply wr_keeps | apply mk_keeps | apply Keeps.pending | apply Keeps.dram
    | apply Keeps.flash | apply Keeps.hostMem | apply Keeps.regs | apply Keeps.shadow

theorem fillBudget_keeps {s₀ s : State} (n : Nat) (hk : Keeps s₀ s) : Keeps s₀ (fillBudget n s) := by
  unfold fillBudget
  repeat' with_reducible first
    | assumption | intro _ | apply modTree_keeps | apply wr_keeps | apply mk_keeps | apply Keeps.pending | apply Keeps.dram
    | apply Keeps.flash | apply Keeps.hostMem | apply Keeps.regs | apply Keeps.shadow

theorem stbySecond_keeps {s₀ s : State} (n : Nat) (hk : Keeps s₀ s) : Keeps s₀ (stbySecond n s) := by
  unfold stbySecond
  repeat' with_reducible first
    | assumption | intro _ | extract_lets | apply ite_keeps | apply modTree_keeps | apply wr_keeps | apply mk_keeps
    | apply Keeps.pending | apply Keeps.dram | apply Keeps.flash | apply Keeps.hostMem | apply Keeps.regs | apply Keeps.shadow

end Sys2Proof.Machine
end

