-- ==== Sys2Proof/Laws/KeepsGrant.lean ====
section
/-! SUPPORT. Laws/KeepsGrant.lean: every operation of Machine/Grant.lean keeps the queue of commands and the canonical forms (Keeps). -/
namespace Sys2Proof.Machine

theorem setStandby_keeps {s₀ s : State} (n : Nat) (l : List Entry) (hk : Keeps s₀ s) : Keeps s₀ (setStandby n l s) := by
  unfold setStandby
  repeat' with_reducible first
    | assumption | intro _ | apply ite_keeps | apply modTree_keeps | apply mk_keeps | apply Keeps.pending | apply Keeps.dram
    | apply Keeps.flash | apply Keeps.hostMem | apply Keeps.regs | apply Keeps.shadow

theorem trimmed_keeps {s₀ s : State} (n : Nat) (k : Nat) (hk : Keeps s₀ s) : Keeps s₀ (trimmed n k s) := by
  unfold trimmed
  repeat' with_reducible first
    | assumption | intro _ | apply ite_keeps | apply sat_keeps

theorem showProf_keeps {s₀ s : State} (n : Nat) (hk : Keeps s₀ s) : Keeps s₀ (showProf n s) := by
  unfold showProf
  repeat' with_reducible first
    | assumption | intro _ | apply wr_keeps

theorem checkProfiles_keeps {s₀ s : State} (n : Nat) (hk : Keeps s₀ s) : Keeps s₀ (checkProfiles n s) := by
  unfold checkProfiles
  repeat' with_reducible first
    | assumption | intro _ | extract_lets | apply ite_keeps | apply foldl_keeps | apply SMap.rising_put | apply SMap.rising_foldl
    | apply SMap.rising_del | apply modTree_keeps | apply queueMsg_keeps | apply raise_keeps | apply showProf_keeps | apply when_keeps
    | apply wr_keeps | apply mk_keeps | apply Keeps.pending | apply Keeps.dram | apply Keeps.flash | apply Keeps.hostMem
    | apply Keeps.regs | apply Keeps.shadow

theorem profileHoldEnd_keeps {s₀ s : State} (n : Nat) (p : Nat) (hk : Keeps s₀ s) : Keeps s₀ (profileHoldEnd n p s) := by
  unfold profileHoldEnd
  repeat' with_reducible first
    | assumption | intro _ | apply ite_keeps | apply showProf_keeps | apply wr_keeps

theorem checkFixed_keeps {s₀ s : State} (n : Nat) (hk : Keeps s₀ s) : Keeps s₀ (checkFixed n s) := by
  unfold checkFixed
  repeat' with_reducible first
    | assumption | intro _ | extract_lets | apply ite_keeps | apply fst_ite_keeps | apply snd_ite_keeps | apply foldl_keeps
    | apply foldl_fst_keeps | apply foldl_snd_keeps | apply SMap.rising_filter | apply Memory.wf_filter | apply SMap.rising_put
    | apply SMap.rising_foldl | apply modTree_keeps | apply raise_keeps | apply when_keeps | apply wr_keeps | apply mk_keeps
    | apply Keeps.pending | apply Keeps.dram | apply Keeps.flash | apply Keeps.hostMem | apply Keeps.regs | apply Keeps.shadow

theorem treeCommit_keeps {s₀ s : State} (n : Nat) (hk : Keeps s₀ s) : Keeps s₀ (treeCommit n s) := by
  unfold treeCommit
  repeat' with_reducible first
    | assumption | intro _ | apply checkFixed_keeps | apply checkProfiles_keeps | apply updateTeq_keeps

theorem placeFixed_keeps {s₀ s : State} (n : Nat) (hk : Keeps s₀ s) : Keeps s₀ (placeFixed n s) := by
  unfold placeFixed
  repeat' with_reducible first
    | assumption | intro _ | extract_lets | apply ite_keeps | apply fst_ite_keeps | apply snd_ite_keeps | apply foldl_keeps
    | apply foldl_fst_keeps | apply foldl_snd_keeps | apply raiseSec_keeps | apply setStandby_keeps | apply trimmed_keeps
    | apply when_keeps

theorem placeQuiet_keeps {s₀ s : State} (n : Nat) (hk : Keeps s₀ s) : Keeps s₀ (placeQuiet n s) := by
  unfold placeQuiet
  repeat' with_reducible first
    | assumption | intro _ | extract_lets | apply ite_keeps | split | apply foldl_keeps | apply SMap.rising_filter
    | apply Memory.wf_filter | apply modTree_keeps | apply raiseSec_keeps | apply setStandby_keeps | apply when_keeps
    | refine okeeps_get (by assumption) ?_ | refine opkeeps_get (by assumption) ?_ | refine pair_fst_keeps (by assumption) ?_
    | refine pair_snd_keeps (by assumption) ?_ | apply mk_keeps | apply Keeps.pending | apply Keeps.dram | apply Keeps.flash
    | apply Keeps.hostMem | apply Keeps.regs | apply Keeps.shadow | contradiction

theorem endQuiet_keeps {s₀ s : State} (n : Nat) (hk : Keeps s₀ s) : Keeps s₀ (endQuiet n s) := by
  unfold endQuiet
  repeat' with_reducible first
    | assumption | intro _ | apply SMap.rising_filter | apply Memory.wf_filter | apply modTree_keeps | apply mk_keeps
    | apply Keeps.pending | apply Keeps.dram | apply Keeps.flash | apply Keeps.hostMem | apply Keeps.regs | apply Keeps.shadow

theorem insertRefused_keeps {s₀ s : State} (n : Nat) (code : Nat) (alloc : Nat) (frame : Nat) (hk : Keeps s₀ s) : Keeps s₀ (insertRefused n code alloc frame s) := by
  unfold insertRefused
  repeat' with_reducible first
    | assumption | intro _ | apply sat_keeps | apply wr_keeps

theorem setWork_keeps {s₀ s : State} (n : Nat) (join : Bool) (r : Recomp) (hk : Keeps s₀ s) : Keeps s₀ (setWork n join r s) := by
  unfold setWork
  repeat' with_reducible first
    | assumption | intro _ | apply ite_keeps | apply modTree_keeps | apply mk_keeps | apply Keeps.pending | apply Keeps.dram
    | apply Keeps.flash | apply Keeps.hostMem | apply Keeps.regs | apply Keeps.shadow

theorem gntInsert_keeps {s₀ s : State} (n : Nat) (join : Bool) (i : Ins) (hk : Keeps s₀ s) : Keeps s₀ (gntInsert n join i s).1 := by
  unfold gntInsert
  repeat' with_reducible first
    | assumption | intro _ | extract_lets | apply ite_keeps | apply fst_ite_keeps | apply snd_ite_keeps | split
    | apply insertRefused_keeps | apply setWork_keeps | refine okeeps_get (by assumption) ?_ | refine opkeeps_get (by assumption) ?_
    | refine pair_fst_keeps (by assumption) ?_ | refine pair_snd_keeps (by assumption) ?_ | apply mk_keeps | apply Keeps.pending
    | apply Keeps.dram | apply Keeps.flash | apply Keeps.hostMem | apply Keeps.regs | apply Keeps.shadow | contradiction

theorem gntInsertGroup_keeps {s₀ s : State} (n : Nat) (join : Bool) (l : List Ins) (hk : Keeps s₀ s) : Keeps s₀ (gntInsertGroup n join l s).1 := by
  unfold gntInsertGroup
  repeat' with_reducible first
    | assumption | intro _ | extract_lets | apply ite_keeps | apply fst_ite_keeps | apply snd_ite_keeps | split | apply foldl_keeps
    | apply foldl_fst_keeps | apply foldl_snd_keeps | apply gntInsert_keeps | apply setWork_keeps
    | refine okeeps_get (by assumption) ?_ | refine opkeeps_get (by assumption) ?_ | refine pair_fst_keeps (by assumption) ?_
    | refine pair_snd_keeps (by assumption) ?_ | (dsimp +zetaDelta only; split) | contradiction

theorem takeReport_keeps {s₀ s : State} (n : Nat) (r : Nat × Nat × Nat × Nat) (hk : Keeps s₀ s) : Keeps s₀ (takeReport n r s) := by
  unfold takeReport
  repeat' with_reducible first
    | assumption | intro _ | extract_lets | apply ite_keeps | apply fst_ite_keeps | apply snd_ite_keeps | apply SMap.rising_put
    | apply SMap.rising_foldl | apply modTree_keeps | apply raiseSec_keeps | apply sat_keeps | apply mk_keeps | apply Keeps.pending
    | apply Keeps.dram | apply Keeps.flash | apply Keeps.hostMem | apply Keeps.regs | apply Keeps.shadow

theorem closeReports_keeps {s₀ s : State} (n : Nat) (upto : Nat) (hk : Keeps s₀ s) : Keeps s₀ (closeReports n upto s) := by
  unfold closeReports
  repeat' with_reducible first
    | assumption | intro _ | extract_lets | apply foldl_keeps | apply foldl_fst_keeps | apply SMap.rising_filter
    | apply Memory.wf_filter | apply modTree_keeps | apply takeReport_keeps | apply mk_keeps | apply Keeps.pending | apply Keeps.dram
    | apply Keeps.flash | apply Keeps.hostMem | apply Keeps.regs | apply Keeps.shadow

theorem holdReport_keeps {s₀ s : State} (n : Nat) (term : Nat) (idx : Nat) (words : Nat) (hk : Keeps s₀ s) : Keeps s₀ (holdReport n term idx words s) := by
  unfold holdReport
  repeat' with_reducible first
    | assumption | intro _ | apply modTree_keeps | apply mk_keeps | apply Keeps.pending | apply Keeps.dram | apply Keeps.flash
    | apply Keeps.hostMem | apply Keeps.regs | apply Keeps.shadow

theorem freezeMap_keeps {s₀ s0 : State} (n : Nat) (bad : Bool) (hk : Keeps s₀ s0) : Keeps s₀ (freezeMap n bad s0) := by
  unfold freezeMap
  repeat' with_reducible first
    | assumption | intro _ | extract_lets | apply ite_keeps | apply fst_ite_keeps | apply snd_ite_keeps | split | apply foldl_keeps
    | apply foldl_fst_keeps | apply foldl_snd_keeps | apply SMap.rising_filter | apply Memory.wf_filter | apply closeReports_keeps
    | apply modTree_keeps | apply queuePage_keeps | apply raise_keeps | apply setStandby_keeps | apply trimmed_keeps | apply wr_keeps
    | refine okeeps_get (by assumption) ?_ | refine opkeeps_get (by assumption) ?_ | refine pair_fst_keeps (by assumption) ?_
    | refine pair_snd_keeps (by assumption) ?_ | (dsimp +zetaDelta only; split) | apply mk_keeps | apply Keeps.pending
    | apply Keeps.dram | apply Keeps.flash | apply Keeps.hostMem | apply Keeps.regs | apply Keeps.shadow | contradiction

theorem lostQuiet_keeps {s₀ s : State} (n : Nat) (hk : Keeps s₀ s) : Keeps s₀ (lostQuiet n s) := by
  unfold lostQuiet
  repeat' with_reducible first
    | assumption | intro _ | extract_lets | apply foldl_keeps | apply SMap.rising_filter | apply Memory.wf_filter | apply modTree_keeps
    | apply rangeMissed_keeps | apply mk_keeps | apply Keeps.pending | apply Keeps.dram | apply Keeps.flash | apply Keeps.hostMem
    | apply Keeps.regs | apply Keeps.shadow

theorem grantTick_keeps {s₀ s : State} (n : Nat) (hk : Keeps s₀ s) : Keeps s₀ (grantTick n s) := by
  unfold grantTick
  repeat' with_reducible first
    | assumption | intro _ | extract_lets | apply ite_keeps | apply closeReports_keeps | apply endQuiet_keeps | apply lostQuiet_keeps
    | apply modTree_keeps | apply placeFixed_keeps | apply setStandby_keeps | apply mk_keeps | apply Keeps.pending | apply Keeps.dram
    | apply Keeps.flash | apply Keeps.hostMem | apply Keeps.regs | apply Keeps.shadow

theorem startRecomp_keeps {s₀ s : State} (n : Nat) (hk : Keeps s₀ s) : OPKeeps s₀ (startRecomp n s) := by
  unfold startRecomp
  repeat' with_reducible first
    | assumption | intro _ | apply opkeeps_none | apply opkeeps_some | apply opkeeps_ite | extract_lets | apply ite_keeps
    | apply modCfg_keeps | apply modTree_keeps | apply mk_keeps | apply Keeps.pending | apply Keeps.dram | apply Keeps.flash
    | apply Keeps.hostMem | apply Keeps.regs | apply Keeps.shadow

theorem countDone_keeps {s₀ s : State} (n : Nat) (join : Bool) (d : Nat) (hk : Keeps s₀ s) : Keeps s₀ (countDone n join d s) := by
  unfold countDone
  repeat' with_reducible first
    | assumption | intro _ | extract_lets | apply ite_keeps | split | apply raiseSec_keeps | apply sat_keeps | apply setWork_keeps
    | apply when_keeps | refine okeeps_get (by assumption) ?_ | refine opkeeps_get (by assumption) ?_
    | refine pair_fst_keeps (by assumption) ?_ | refine pair_snd_keeps (by assumption) ?_ | apply mk_keeps | apply Keeps.pending
    | apply Keeps.dram | apply Keeps.flash | apply Keeps.hostMem | apply Keeps.regs | apply Keeps.shadow | contradiction

theorem closeRecomp_keeps {s₀ s : State} (n : Nat) (r : Recomp) (hk : Keeps s₀ s) : Keeps s₀ (closeRecomp n r s) := by
  unfold closeRecomp
  repeat' with_reducible first
    | assumption | intro _ | extract_lets | apply ite_keeps | apply modTree_keeps | apply raise_keeps | apply sat_keeps
    | apply when_keeps | apply mk_keeps | apply Keeps.pending | apply Keeps.dram | apply Keeps.flash | apply Keeps.hostMem
    | apply Keeps.regs | apply Keeps.shadow

theorem deadline_keeps {s₀ s : State} (n : Nat) (hk : Keeps s₀ s) : Keeps s₀ (deadline n s) := by
  unfold deadline
  repeat' with_reducible first
    | assumption | intro _ | extract_lets | apply ite_keeps | split | apply closeRecomp_keeps | apply modTree_keeps
    | refine okeeps_get (by assumption) ?_ | refine opkeeps_get (by assumption) ?_ | refine pair_fst_keeps (by assumption) ?_
    | refine pair_snd_keeps (by assumption) ?_ | (dsimp +zetaDelta only; split) | apply mk_keeps | apply Keeps.pending
    | apply Keeps.dram | apply Keeps.flash | apply Keeps.hostMem | apply Keeps.regs | apply Keeps.shadow | contradiction

theorem abandonRecs_keeps {s₀ s : State} (hk : Keeps s₀ s) : Keeps s₀ (abandonRecs s) := by
  unfold abandonRecs
  repeat' with_reducible first
    | assumption | intro _ | apply mk_keeps | apply Keeps.pending | apply Keeps.dram | apply Keeps.flash | apply Keeps.hostMem
    | apply Keeps.regs | apply Keeps.shadow

theorem allocRead_keeps {s₀ s : State} (n : Nat) (i : Nat) (hk : Keeps s₀ s) : Keeps s₀ (allocRead n i s) := by
  unfold allocRead
  repeat' with_reducible first
    | assumption | intro _ | extract_lets | apply ite_keeps | apply wr_keeps

theorem allocWrite_keeps {s₀ s : State} (n : Nat) (i : Nat) (hk : Keeps s₀ s) : Keeps s₀ (allocWrite n i s) := by
  unfold allocWrite
  repeat' with_reducible first
    | assumption | intro _ | extract_lets | apply ite_keeps | apply mirrorSend_keeps | apply modTree_keeps | apply wr_keeps
    | apply mk_keeps | apply Keeps.pending | apply Keeps.dram | apply Keeps.flash | apply Keeps.hostMem | apply Keeps.regs
    | apply Keeps.shadow

end Sys2Proof.Machine
end

