-- ==== Sys2Proof/Laws/KeepsStacks.lean ====
section
/-! SUPPORT. Laws/KeepsStacks.lean: every operation of Machine/Stacks.lean keeps the queue of commands and the canonical forms (Keeps). -/
namespace Sys2Proof.Machine

theorem dramRequest_keeps {s₀ s : State} (r : Nat) (addr : Nat) (data : Option (List Nat)) (hk : Keeps s₀ s) : Keeps s₀ (dramRequest r addr data s) := by
  unfold dramRequest
  repeat' with_reducible first
    | assumption | intro _ | extract_lets | apply ite_keeps | apply modDrc_keeps | apply modPc_keeps | apply rehold_keeps
    | apply sat_keeps | apply segFault_keeps | apply wr_keeps | apply mk_keeps | apply Keeps.pending | apply Keeps.dram
    | apply Keeps.flash | apply Keeps.hostMem | apply Keeps.regs | apply Keeps.shadow

theorem countAct_keeps {s₀ s : State} (p : Nat) (q : DramReq) (hk : Keeps s₀ s) : Keeps s₀ (countAct p q s) := by
  unfold countAct
  repeat' with_reducible first
    | assumption | intro _ | extract_lets | apply ite_keeps | apply SMap.rising_filter | apply Memory.wf_filter | apply SMap.rising_put
    | apply SMap.rising_foldl | apply modPc_keeps | apply raiseSec_keeps | apply sat_keeps | apply wr_keeps | apply mk_keeps
    | apply Keeps.pending | apply Keeps.dram | apply Keeps.flash | apply Keeps.hostMem | apply Keeps.regs | apply Keeps.shadow

theorem eccFound_keeps {s₀ s : State} (found : Nat) (r : Nat) (addr : Nat) (hk : Keeps s₀ s) : Keeps s₀ (eccFound found r addr s) := by
  unfold eccFound
  repeat' with_reducible first
    | assumption | intro _ | apply ite_keeps | apply eccLast_keeps | apply raiseSec_keeps | apply raise_keeps | apply sat_keeps
    | apply wrap_keeps

theorem followLane_keeps {s₀ s : State} (p : Nat) (lane : Nat) (v : Int) (hk : Keeps s₀ s) : Keeps s₀ (followLane p lane v s) := by
  unfold followLane
  repeat' with_reducible first
    | assumption | intro _ | extract_lets | apply ite_keeps | apply SMap.rising_filter | apply Memory.wf_filter | apply SMap.rising_put
    | apply SMap.rising_foldl | apply modPc_keeps | apply raise_keeps | apply when_keeps | apply wr_keeps | apply mk_keeps
    | apply Keeps.pending | apply Keeps.dram | apply Keeps.flash | apply Keeps.hostMem | apply Keeps.regs | apply Keeps.shadow

theorem takeBase_keeps {s₀ s : State} (hk : Keeps s₀ s) : Keeps s₀ (takeBase s) := by
  unfold takeBase
  repeat' with_reducible first
    | assumption | intro _ | apply ite_keeps | split | apply modHost_keeps | apply wr_keeps | refine okeeps_get (by assumption) ?_
    | refine opkeeps_get (by assumption) ?_ | refine pair_fst_keeps (by assumption) ?_ | refine pair_snd_keeps (by assumption) ?_
    | apply mk_keeps | apply Keeps.pending | apply Keeps.dram | apply Keeps.flash | apply Keeps.hostMem | apply Keeps.regs
    | apply Keeps.shadow | contradiction

theorem baseWrite_keeps {s₀ s : State} (b : Nat) (hk : Keeps s₀ s) : Keeps s₀ (baseWrite b s) := by
  unfold baseWrite
  repeat' with_reducible first
    | assumption | intro _ | apply modHost_keeps | apply takeBase_keeps | apply mk_keeps | apply Keeps.pending | apply Keeps.dram
    | apply Keeps.flash | apply Keeps.hostMem | apply Keeps.regs | apply Keeps.shadow

theorem issueReq_keeps {s₀ s : State} (p : Nat) (q : DramReq) (act : Bool) (ecc : Nat) (drift : List (Nat × Int)) (hk : Keeps s₀ s) : Keeps s₀ (issueReq p q act ecc drift s) := by
  unfold issueReq
  repeat' with_reducible first
    | assumption | intro _ | extract_lets | apply ite_keeps | apply fst_ite_keeps | apply snd_ite_keeps | split | apply foldl_keeps
    | apply foldl_fst_keeps | apply foldl_snd_keeps | apply SMap.rising_filter | apply Memory.wf_filter | apply Memory.wf_writeBytes
    | apply Memory.wf_write | apply Memory.wf_foldl | apply countAct_keeps | apply draw_keeps | apply eccFound_keeps
    | apply followLane_keeps | apply histSample_keeps | apply modDrc_keeps | apply modPc_keeps | apply takeBase_keeps
    | apply when_keeps | refine okeeps_get (by assumption) ?_ | refine opkeeps_get (by assumption) ?_
    | refine pair_fst_keeps (by assumption) ?_ | refine pair_snd_keeps (by assumption) ?_ | (dsimp +zetaDelta only; split)
    | apply mk_keeps | apply Keeps.pending | apply Keeps.dram | apply Keeps.flash | apply Keeps.hostMem | apply Keeps.regs
    | apply Keeps.shadow | contradiction

theorem wake_keeps {s₀ s : State} (p : Nat) (hk : Keeps s₀ s) : Keeps s₀ (wake p s) := by
  unfold wake
  repeat' with_reducible first
    | assumption | intro _ | extract_lets | apply ite_keeps | apply modPc_keeps | apply rehold_keeps | apply sat_keeps
    | apply when_keeps | apply wr_keeps | apply mk_keeps | apply Keeps.pending | apply Keeps.dram | apply Keeps.flash
    | apply Keeps.hostMem | apply Keeps.regs | apply Keeps.shadow

theorem serveTo_keeps {s₀ s : State} (p id ecc fuel : Nat) (hk : Keeps s₀ s) : Keeps s₀ (serveTo p id ecc fuel s) := by
  induction fuel generalizing s with
  | zero => exact hk
  | succ fuel ih =>
    unfold serveTo
    repeat' with_reducible first
      | assumption | split | apply ih | apply issueReq_keeps | apply draw_keeps

theorem access_keeps {s₀ s : State} (r : Nat) (addr : Nat) (data : Option (List Nat)) (ecc : Nat) (hk : Keeps s₀ s) : Keeps s₀ (access r addr data ecc s) := by
  unfold access
  repeat' with_reducible first
    | assumption | intro _ | extract_lets | apply ite_keeps | apply dramRequest_keeps | apply serveTo_keeps | apply wake_keeps

theorem readSectors_keeps {s₀ s : State} (r : Nat) (l : List Nat) (hk : Keeps s₀ s) : Keeps s₀ (readSectors r l s).2 := by
  induction l generalizing s with
  | nil => exact hk
  | cons x l ih => exact ih (access_keeps r x none 0 hk)

theorem dramGet_keeps {s₀ s : State} (r a len : Nat) (hk : Keeps s₀ s) : Keeps s₀ (dramGet r a len s).2 :=
  readSectors_keeps r _ hk

theorem putSector_keeps {s₀ s : State} (r : Nat) (l : List (Nat × Nat)) (hk : Keeps s₀ s) : Keeps s₀ (putSector r l s) := by
  unfold putSector
  repeat' with_reducible first
    | assumption | intro _ | split | apply access_keeps | refine okeeps_get (by assumption) ?_ | refine opkeeps_get (by assumption) ?_
    | refine pair_fst_keeps (by assumption) ?_ | refine pair_snd_keeps (by assumption) ?_ | contradiction

theorem dramPut_keeps {s₀ s : State} (r : Nat) (l : List (Nat × Nat)) (hk : Keeps s₀ s) : Keeps s₀ (dramPut r l s) := by
  unfold dramPut
  repeat' with_reducible first
    | assumption | intro _ | apply foldl_keeps | apply foldl_fst_keeps | apply SMap.rising_filter | apply Memory.wf_filter
    | apply putSector_keeps

theorem dramRun_keeps {s₀ s : State} (r : Nat) (a : Nat) (b : List Nat) (hk : Keeps s₀ s) : Keeps s₀ (dramRun r a b s) := by
  unfold dramRun
  repeat' with_reducible first
    | assumption | intro _ | apply foldl_keeps | apply access_keeps

theorem imageRead_keeps {s₀ s : State} (a : Nat) (len : Nat) (hk : Keeps s₀ s) : Keeps s₀ (imageRead a len s) := by
  unfold imageRead
  repeat' with_reducible first
    | assumption | intro _ | apply dramGet_keeps

end Sys2Proof.Machine
end

