-- ==== Sys2Proof/Laws/KeepsEngine.lean ====
section
/-! SUPPORT. Laws/KeepsEngine.lean: every operation of Machine/Engine.lean keeps the queue of commands and the canonical forms (Keeps). -/
namespace Sys2Proof.Machine

theorem modMec_keeps {s₀ s : State} (g : Mec → Mec) (hk : Keeps s₀ s) : Keeps s₀ (State.modMec g s) := by
  unfold State.modMec
  repeat' with_reducible first
    | assumption | intro _ | apply mk_keeps | apply Keeps.pending | apply Keeps.dram | apply Keeps.flash | apply Keeps.hostMem
    | apply Keeps.regs | apply Keeps.shadow

theorem showEng_keeps {s₀ s : State} (e : Nat) (hk : Keeps s₀ s) : Keeps s₀ (showEng e s) := by
  unfold showEng
  repeat' with_reducible first
    | assumption | intro _ | extract_lets | apply wr_keeps

theorem modEng_keeps {s₀ s : State} (e : Nat) (g : Engine → Engine) (hk : Keeps s₀ s) : Keeps s₀ (State.modEng e g s) := by
  unfold State.modEng
  repeat' with_reducible first
    | assumption | intro _ | apply SMap.rising_put | apply SMap.rising_foldl | apply modMec_keeps | apply showEng_keeps
    | apply mk_keeps | apply Keeps.pending | apply Keeps.dram | apply Keeps.flash | apply Keeps.hostMem | apply Keeps.regs
    | apply Keeps.shadow

theorem modMecTree_keeps {s₀ s : State} (n : Nat) (g : MecTree → MecTree) (hk : Keeps s₀ s) : Keeps s₀ (State.modMecTree n g s) := by
  unfold State.modMecTree
  repeat' with_reducible first
    | assumption | intro _ | apply SMap.rising_put | apply SMap.rising_foldl | apply modMec_keeps | apply mk_keeps
    | apply Keeps.pending | apply Keeps.dram | apply Keeps.flash | apply Keeps.hostMem | apply Keeps.regs | apply Keeps.shadow

theorem workRead_keeps {s₀ s : State} (a : Nat) (hk : Keeps s₀ s) : Keeps s₀ (workRead a s).2 := dramGet_keeps 2 a 64 hk

theorem winRead_keeps {s₀ s : State} (key : Nat) (hk : Keeps s₀ s) : Keeps s₀ (winRead key s).2 := by
  unfold winRead
  repeat' with_reducible first
    | assumption | intro _ | apply ite_keeps | split | apply workRead_keeps

theorem applyStaged_keeps {s₀ s : State} (e : Nat) (w : Staged) (hk : Keeps s₀ s) : Keeps s₀ (applyStaged e w s) := by
  unfold applyStaged
  repeat' with_reducible first
    | assumption | intro _ | split | apply SMap.rising_put | apply SMap.rising_foldl | apply Memory.wf_writeBytes
    | apply Memory.wf_write | apply Memory.wf_foldl | apply dramPut_keeps | apply modEng_keeps | apply modMecTree_keeps
    | refine okeeps_get (by assumption) ?_ | refine opkeeps_get (by assumption) ?_ | refine pair_fst_keeps (by assumption) ?_
    | refine pair_snd_keeps (by assumption) ?_ | apply mk_keeps | apply Keeps.pending | apply Keeps.dram | apply Keeps.flash
    | apply Keeps.hostMem | apply Keeps.regs | apply Keeps.shadow | contradiction

theorem present_keeps {s₀ s : State} (e : Nat) (c : Nat) (g : List (Nat × Nat)) (hk : Keeps s₀ s) : Keeps s₀ (present e c g s) := by
  unfold present
  repeat' with_reducible first
    | assumption | intro _ | split | apply modEng_keeps | apply modMecTree_keeps | refine okeeps_get (by assumption) ?_
    | refine opkeeps_get (by assumption) ?_ | refine pair_fst_keeps (by assumption) ?_ | refine pair_snd_keeps (by assumption) ?_
    | apply mk_keeps | apply Keeps.pending | apply Keeps.dram | apply Keeps.flash | apply Keeps.hostMem | apply Keeps.regs
    | apply Keeps.shadow | contradiction

theorem putWrite_keeps {s₀ s : State} (e : Nat) (c : Nat) (w : Staged) (hk : Keeps s₀ s) : Keeps s₀ (putWrite e c w s) := by
  unfold putWrite
  repeat' with_reducible first
    | assumption | intro _ | split | apply applyStaged_keeps | apply modEng_keeps | apply present_keeps
    | refine okeeps_get (by assumption) ?_ | refine opkeeps_get (by assumption) ?_ | refine pair_fst_keeps (by assumption) ?_
    | refine pair_snd_keeps (by assumption) ?_ | apply mk_keeps | apply Keeps.pending | apply Keeps.dram | apply Keeps.flash
    | apply Keeps.hostMem | apply Keeps.regs | apply Keeps.shadow | contradiction

theorem abortSpan_keeps {s₀ s : State} (e : Nat) (code : Nat) (now : Nat) (hk : Keeps s₀ s) : Keeps s₀ (abortSpan e code now s) := by
  unfold abortSpan
  repeat' with_reducible first
    | assumption | intro _ | extract_lets | split | apply SMap.rising_filter | apply Memory.wf_filter | apply modEng_keeps
    | apply wr_keeps | refine okeeps_get (by assumption) ?_ | refine opkeeps_get (by assumption) ?_
    | refine pair_fst_keeps (by assumption) ?_ | refine pair_snd_keeps (by assumption) ?_ | apply mk_keeps | apply Keeps.pending
    | apply Keeps.dram | apply Keeps.flash | apply Keeps.hostMem | apply Keeps.regs | apply Keeps.shadow | contradiction

theorem showTasks_keeps {s₀ s : State} (hk : Keeps s₀ s) : Keeps s₀ (showTasks s) := by
  unfold showTasks
  repeat' with_reducible first
    | assumption | intro _ | extract_lets | apply wr_keeps

theorem finishTask_keeps {s₀ s : State} (e : Nat) (status : Nat) (result : Nat) (t : SlowTask) (hk : Keeps s₀ s) : Keeps s₀ (finishTask e status result t s) := by
  unfold finishTask
  repeat' with_reducible first
    | assumption | intro _ | extract_lets | apply ite_keeps | apply modEng_keeps | apply modMec_keeps | apply modPrt_keeps
    | apply raise_keeps | apply showTasks_keeps | apply when_keeps | apply mk_keeps | apply Keeps.pending | apply Keeps.dram
    | apply Keeps.flash | apply Keeps.hostMem | apply Keeps.regs | apply Keeps.shadow

theorem endWork_keeps {s₀ s : State} (e : Nat) (trapped : Bool) (hk : Keeps s₀ s) : Keeps s₀ (endWork e trapped s) := by
  unfold endWork
  repeat' with_reducible first
    | assumption | intro _ | extract_lets | apply ite_keeps | split | apply finishTask_keeps | apply modEng_keeps
    | refine okeeps_get (by assumption) ?_ | refine opkeeps_get (by assumption) ?_ | refine pair_fst_keeps (by assumption) ?_
    | refine pair_snd_keeps (by assumption) ?_ | (dsimp +zetaDelta only; split) | apply mk_keeps | apply Keeps.pending
    | apply Keeps.dram | apply Keeps.flash | apply Keeps.hostMem | apply Keeps.regs | apply Keeps.shadow | contradiction

theorem startEng_keeps {s₀ s : State} (e : Nat) (hk : Keeps s₀ s) : Keeps s₀ (startEng e s) := by
  unfold startEng
  repeat' with_reducible first
    | assumption | intro _ | apply modEng_keeps | apply mk_keeps | apply Keeps.pending | apply Keeps.dram | apply Keeps.flash
    | apply Keeps.hostMem | apply Keeps.regs | apply Keeps.shadow

theorem takeSignal_keeps {s₀ s : State} (e : Nat) (code : Nat) (now : Nat) (hk : Keeps s₀ s) : Keeps s₀ (takeSignal e code now s) := by
  unfold takeSignal
  repeat' with_reducible first
    | assumption | intro _ | extract_lets | apply ite_keeps | apply abortSpan_keeps | apply modEng_keeps | apply raiseSec_keeps
    | apply sat_keeps | apply when_keeps | apply mk_keeps | apply Keeps.pending | apply Keeps.dram | apply Keeps.flash
    | apply Keeps.hostMem | apply Keeps.regs | apply Keeps.shadow

theorem takeSignals_keeps {s₀ s : State} (e : Nat) (c : Nat) (hk : Keeps s₀ s) : Keeps s₀ (takeSignals e c s) := by
  unfold takeSignals
  repeat' with_reducible first
    | assumption | intro _ | extract_lets | apply ite_keeps | apply takeSignal_keeps

theorem deliverSig_keeps {s₀ s : State} (e : Nat) (code : Nat) (c : Nat) (hk : Keeps s₀ s) : Keeps s₀ (deliverSig e code c s) := by
  unfold deliverSig
  repeat' with_reducible first
    | assumption | intro _ | apply ite_keeps | apply modEng_keeps | apply takeSignals_keeps | apply mk_keeps | apply Keeps.pending
    | apply Keeps.dram | apply Keeps.flash | apply Keeps.hostMem | apply Keeps.regs | apply Keeps.shadow

theorem trap_keeps {s₀ s : State} (e : Nat) (code : Nat) (c : Nat) (hk : Keeps s₀ s) : Keeps s₀ (trap e code c s) := by
  unfold trap
  repeat' with_reducible first
    | assumption | intro _ | extract_lets | apply ite_keeps | split | apply abortSpan_keeps | apply endWork_keeps | apply modEng_keeps
    | apply raiseSec_keeps | apply raise_keeps | apply sat_keeps | apply takeSignal_keeps | apply takeSignals_keeps | apply wr_keeps
    | refine okeeps_get (by assumption) ?_ | refine opkeeps_get (by assumption) ?_ | refine pair_fst_keeps (by assumption) ?_
    | refine pair_snd_keeps (by assumption) ?_ | (dsimp +zetaDelta only; split) | apply mk_keeps | apply Keeps.pending
    | apply Keeps.dram | apply Keeps.flash | apply Keeps.hostMem | apply Keeps.regs | apply Keeps.shadow | contradiction

theorem callHook_keeps {s₀ s : State} (e : Nat) (num : Nat) (c : Nat) (hk : Keeps s₀ s) : Keeps s₀ (callHook e num c s) := by
  unfold callHook
  repeat' with_reducible first
    | assumption | intro _ | extract_lets | apply ite_keeps | split | apply foldl_keeps | apply modEng_keeps | apply raiseSec_keeps
    | apply sat_keeps | refine okeeps_get (by assumption) ?_ | refine opkeeps_get (by assumption) ?_
    | refine pair_fst_keeps (by assumption) ?_ | refine pair_snd_keeps (by assumption) ?_ | (dsimp +zetaDelta only; split)
    | apply mk_keeps | apply Keeps.pending | apply Keeps.dram | apply Keeps.flash | apply Keeps.hostMem | apply Keeps.regs
    | apply Keeps.shadow | contradiction

theorem returnTo_keeps {s₀ s : State} (e : Nat) (c : Nat) (next : Nat) (hk : Keeps s₀ s) : Keeps s₀ (returnTo e c next s) := by
  unfold returnTo
  repeat' with_reducible first
    | assumption | intro _ | extract_lets | apply ite_keeps | split | apply modEng_keeps | refine okeeps_get (by assumption) ?_
    | refine opkeeps_get (by assumption) ?_ | refine pair_fst_keeps (by assumption) ?_ | refine pair_snd_keeps (by assumption) ?_
    | (dsimp +zetaDelta only; split) | apply mk_keeps | apply Keeps.pending | apply Keeps.dram | apply Keeps.flash
    | apply Keeps.hostMem | apply Keeps.regs | apply Keeps.shadow | contradiction

theorem doneWork_keeps {s₀ s : State} (e : Nat) (c : Nat) (hk : Keeps s₀ s) : Keeps s₀ (doneWork e c s) := by
  unfold doneWork
  repeat' with_reducible first
    | assumption | intro _ | extract_lets | apply ite_keeps | split | apply SMap.rising_filter | apply Memory.wf_filter
    | apply finishTask_keeps | apply modEng_keeps | apply modMecTree_keeps | refine okeeps_get (by assumption) ?_
    | refine opkeeps_get (by assumption) ?_ | refine pair_fst_keeps (by assumption) ?_ | refine pair_snd_keeps (by assumption) ?_
    | (dsimp +zetaDelta only; split) | apply mk_keeps | apply Keeps.pending | apply Keeps.dram | apply Keeps.flash
    | apply Keeps.hostMem | apply Keeps.regs | apply Keeps.shadow | contradiction

theorem handlerReturn_keeps {s₀ s : State} (e : Nat) (hk : Keeps s₀ s) : Keeps s₀ (handlerReturn e s) := by
  unfold handlerReturn
  repeat' with_reducible first
    | assumption | intro _ | extract_lets | apply ite_keeps | split | apply endWork_keeps | apply modEng_keeps | apply sat_keeps
    | apply when_keeps | refine okeeps_get (by assumption) ?_ | refine opkeeps_get (by assumption) ?_
    | refine pair_fst_keeps (by assumption) ?_ | refine pair_snd_keeps (by assumption) ?_ | (dsimp +zetaDelta only; split)
    | apply mk_keeps | apply Keeps.pending | apply Keeps.dram | apply Keeps.flash | apply Keeps.hostMem | apply Keeps.regs
    | apply Keeps.shadow | contradiction

theorem takeStart_keeps {s₀ s : State} (e : Nat) (hk : Keeps s₀ s) : Keeps s₀ (takeStart e s) := by
  unfold takeStart
  repeat' with_reducible first
    | assumption | intro _ | split | apply modEng_keeps | refine okeeps_get (by assumption) ?_ | refine opkeeps_get (by assumption) ?_
    | refine pair_fst_keeps (by assumption) ?_ | refine pair_snd_keeps (by assumption) ?_ | apply mk_keeps | apply Keeps.pending
    | apply Keeps.dram | apply Keeps.flash | apply Keeps.hostMem | apply Keeps.regs | apply Keeps.shadow | contradiction

theorem startAssist_keeps {s₀ s : State} (e : Nat) (c : Nat) (w : MWord) (g : Nat → Nat) (hk : Keeps s₀ s) : Keeps s₀ (startAssist e c w g s) := by
  unfold startAssist
  repeat' with_reducible first
    | assumption | intro _ | extract_lets | apply ite_keeps | split | apply SMap.rising_put | apply SMap.rising_foldl
    | apply modEng_keeps | apply modMecTree_keeps | apply putWrite_keeps | refine okeeps_get (by assumption) ?_
    | refine opkeeps_get (by assumption) ?_ | refine pair_fst_keeps (by assumption) ?_ | refine pair_snd_keeps (by assumption) ?_
    | (dsimp +zetaDelta only; split) | apply mk_keeps | apply Keeps.pending | apply Keeps.dram | apply Keeps.flash
    | apply Keeps.hostMem | apply Keeps.regs | apply Keeps.shadow | contradiction

theorem memSlot_keeps {s₀ s : State} (e : Nat) (c : Nat) (w : MWord) (hk : Keeps s₀ s) : Keeps s₀ (memSlot e c w s0 s) := by
  unfold memSlot
  repeat' with_reducible first
    | assumption | intro _ | extract_lets | apply ite_keeps | apply modEng_keeps | apply putWrite_keeps | apply mk_keeps
    | apply Keeps.pending | apply Keeps.dram | apply Keeps.flash | apply Keeps.hostMem | apply Keeps.regs | apply Keeps.shadow

theorem closeSpan_keeps {s₀ s : State} (e : Nat) (c : Nat) (hk : Keeps s₀ s) : Keeps s₀ (closeSpan e c s) := by
  unfold closeSpan
  repeat' with_reducible first
    | assumption | intro _ | extract_lets | apply ite_keeps | split | apply foldl_keeps | apply applyStaged_keeps | apply modEng_keeps
    | apply present_keeps | refine okeeps_get (by assumption) ?_ | refine opkeeps_get (by assumption) ?_
    | refine pair_fst_keeps (by assumption) ?_ | refine pair_snd_keeps (by assumption) ?_ | apply mk_keeps | apply Keeps.pending
    | apply Keeps.dram | apply Keeps.flash | apply Keeps.hostMem | apply Keeps.regs | apply Keeps.shadow | contradiction

theorem control_keeps {s₀ s : State} (e : Nat) (c : Nat) (w : MWord) (hk : Keeps s₀ s) : Keeps s₀ (control e c w s0 s) := by
  unfold control
  repeat' with_reducible first
    | assumption | intro _ | extract_lets | apply ite_keeps | apply callHook_keeps | apply closeSpan_keeps | apply doneWork_keeps
    | apply handlerReturn_keeps | apply modEng_keeps | apply returnTo_keeps | apply takeStart_keeps | apply mk_keeps
    | apply Keeps.pending | apply Keeps.dram | apply Keeps.flash | apply Keeps.hostMem | apply Keeps.regs | apply Keeps.shadow

theorem performBy_keeps {s₀ s0 : State} (ctl : State → State) (e : Nat) (c : Nat) (w : MWord) (hctl : ∀ u : State, Keeps s₀ u → Keeps s₀ (ctl u)) (hk : Keeps s₀ s0) : Keeps s₀ (performBy ctl e c w s0) := by
  unfold performBy
  repeat' with_reducible first
    | assumption | intro _ | extract_lets | apply ite_keeps | apply memSlot_keeps | apply modEng_keeps | apply startAssist_keeps
    | apply takeSignals_keeps | apply hctl | apply mk_keeps | apply Keeps.pending | apply Keeps.dram | apply Keeps.flash
    | apply Keeps.hostMem | apply Keeps.regs | apply Keeps.shadow

theorem perform_keeps {s₀ s : State} (e : Nat) (c : Nat) (w : MWord) (hk : Keeps s₀ s) : Keeps s₀ (perform e c w s) := by
  unfold perform
  repeat' with_reducible first
    | assumption | intro _ | apply control_keeps | apply performBy_keeps

theorem runWord_keeps {s₀ s : State} (has : MWord → Bool) (e : Nat) (c : Nat) (hk : Keeps s₀ s) : Keeps s₀ (runWord has e c s) := by
  unfold runWord
  repeat' with_reducible first
    | assumption | intro _ | extract_lets | apply ite_keeps | split | apply modEng_keeps | apply perform_keeps | apply trap_keeps
    | apply when_keeps | refine okeeps_get (by assumption) ?_ | refine opkeeps_get (by assumption) ?_
    | refine pair_fst_keeps (by assumption) ?_ | refine pair_snd_keeps (by assumption) ?_ | (dsimp +zetaDelta only; split)
    | apply mk_keeps | apply Keeps.pending | apply Keeps.dram | apply Keeps.flash | apply Keeps.hostMem | apply Keeps.regs
    | apply Keeps.shadow | contradiction

end Sys2Proof.Machine
end

