-- ==== Sys2Proof/Laws/KeepsThyme.lean ====
section
/-! SUPPORT. Laws/KeepsThyme.lean: every operation of Machine/Thyme.lean keeps the queue of commands and the canonical forms (Keeps). -/
namespace Sys2Proof.Machine

theorem recompStart_keeps {s₀ s0 : State} (n : Nat) (hk : Keeps s₀ s0) : Keeps s₀ (recompStart n s0) := by
  unfold recompStart
  repeat' with_reducible first
    | assumption | intro _ | extract_lets | apply ite_keeps | apply fst_ite_keeps | apply snd_ite_keeps | split | apply foldl_keeps
    | apply foldl_fst_keeps | apply foldl_snd_keeps | apply closeReports_keeps | apply deadline_keeps | apply modEng_keeps
    | apply modMecTree_keeps | apply modTree_keeps | apply startRecomp_keeps | apply when_keeps | refine okeeps_get (by assumption) ?_
    | refine opkeeps_get (by assumption) ?_ | refine pair_fst_keeps (by assumption) ?_ | refine pair_snd_keeps (by assumption) ?_
    | (dsimp +zetaDelta only; split) | apply mk_keeps | apply Keeps.pending | apply Keeps.dram | apply Keeps.flash
    | apply Keeps.hostMem | apply Keeps.regs | apply Keeps.shadow | contradiction

theorem nearOne_keeps {s₀ s : State} (n : Nat) (join : Bool) (hk : Keeps s₀ s) : Keeps s₀ (nearOne n join s) := by
  unfold nearOne
  repeat' with_reducible first
    | assumption | intro _ | extract_lets | apply ite_keeps | apply foldl_keeps | apply deadline_keeps | apply deliverSig_keeps
    | apply modMecTree_keeps | apply mk_keeps | apply Keeps.pending | apply Keeps.dram | apply Keeps.flash | apply Keeps.hostMem
    | apply Keeps.regs | apply Keeps.shadow

theorem deadlineNear_keeps {s₀ s : State} (n : Nat) (hk : Keeps s₀ s) : Keeps s₀ (deadlineNear n s) := by
  unfold deadlineNear
  repeat' with_reducible first
    | assumption | intro _ | apply nearOne_keeps | apply when_keeps

theorem doneReaches_keeps {s₀ s : State} (n : Nat) (join : Bool) (d : Nat) (r : Recomp) (hk : Keeps s₀ s) : Keeps s₀ (doneReaches n join d r s) := by
  unfold doneReaches
  repeat' with_reducible first
    | assumption | intro _ | extract_lets | apply ite_keeps | apply countDone_keeps | apply deadline_keeps | apply histSample_keeps
    | apply modMecTree_keeps | apply wr_keeps | apply mk_keeps | apply Keeps.pending | apply Keeps.dram | apply Keeps.flash
    | apply Keeps.hostMem | apply Keeps.regs | apply Keeps.shadow

theorem treeDone_keeps {s₀ s : State} (n : Nat) (c : Nat) (hk : Keeps s₀ s) : Keeps s₀ (treeDone n c s) := by
  unfold treeDone
  repeat' with_reducible first
    | assumption | intro _ | apply ite_keeps | apply fst_ite_keeps | apply snd_ite_keeps | split | apply doneReaches_keeps
    | refine okeeps_get (by assumption) ?_ | refine opkeeps_get (by assumption) ?_ | refine pair_fst_keeps (by assumption) ?_
    | refine pair_snd_keeps (by assumption) ?_ | contradiction

theorem abortTree_keeps {s₀ s : State} (n : Nat) (join : Bool) (c : Nat) (hk : Keeps s₀ s) : Keeps s₀ (abortTree n join c s) := by
  unfold abortTree
  repeat' with_reducible first
    | assumption | intro _ | extract_lets | apply foldl_keeps | apply SMap.rising_filter | apply Memory.wf_filter
    | apply deliverSig_keeps | apply modEng_keeps | apply modMecTree_keeps | apply mk_keeps | apply Keeps.pending | apply Keeps.dram
    | apply Keeps.flash | apply Keeps.hostMem | apply Keeps.regs | apply Keeps.shadow

theorem recompDeadline_keeps {s₀ s : State} (n : Nat) (hk : Keeps s₀ s) : Keeps s₀ (recompDeadline n s) := by
  unfold recompDeadline
  repeat' with_reducible first
    | assumption | intro _ | extract_lets | apply ite_keeps | apply abortTree_keeps | apply deadline_keeps | apply histOver_keeps
    | apply when_keeps | apply wr_keeps

theorem applyMap_keeps {s₀ s : State} (hk : Keeps s₀ s) : Keeps s₀ (applyMap s) := by
  unfold applyMap
  repeat' with_reducible first
    | assumption | intro _ | extract_lets | apply foldl_keeps | apply SMap.rising_filter | apply Memory.wf_filter
    | apply SMap.rising_put | apply SMap.rising_foldl | apply modMec_keeps | apply modTree_keeps | apply raise_keeps | apply when_keeps
    | apply wr_keeps | apply mk_keeps | apply Keeps.pending | apply Keeps.dram | apply Keeps.flash | apply Keeps.hostMem
    | apply Keeps.regs | apply Keeps.shadow

theorem mapTick_keeps {s₀ s : State} (hk : Keeps s₀ s) : Keeps s₀ (mapTick s) := by
  unfold mapTick
  repeat' with_reducible first
    | assumption | intro _ | apply applyMap_keeps | apply when_keeps

theorem takeEntry_keeps {s₀ s : State} (n : Nat) (join : Bool) (i : Ins) (hk : Keeps s₀ s) : Keeps s₀ (takeEntry n join i s).1 := by
  unfold takeEntry
  repeat' with_reducible first
    | assumption | intro _ | extract_lets | apply ite_keeps | apply fst_ite_keeps | apply snd_ite_keeps | split | apply gntInsert_keeps
    | apply modMecTree_keeps | refine okeeps_get (by assumption) ?_ | refine opkeeps_get (by assumption) ?_
    | refine pair_fst_keeps (by assumption) ?_ | refine pair_snd_keeps (by assumption) ?_ | apply mk_keeps | apply Keeps.pending
    | apply Keeps.dram | apply Keeps.flash | apply Keeps.hostMem | apply Keeps.regs | apply Keeps.shadow | contradiction

theorem takeGroup_keeps {s₀ s : State} (n : Nat) (join : Bool) (l : List Ins) (hk : Keeps s₀ s) : Keeps s₀ (takeGroup n join l s).1 := by
  unfold takeGroup
  repeat' with_reducible first
    | assumption | intro _ | extract_lets | apply ite_keeps | apply fst_ite_keeps | apply snd_ite_keeps | split | apply foldl_keeps
    | apply foldl_fst_keeps | apply foldl_snd_keeps | apply modMecTree_keeps | apply setWork_keeps | apply takeEntry_keeps
    | refine okeeps_get (by assumption) ?_ | refine opkeeps_get (by assumption) ?_ | refine pair_fst_keeps (by assumption) ?_
    | refine pair_snd_keeps (by assumption) ?_ | (dsimp +zetaDelta only; split) | apply mk_keeps | apply Keeps.pending
    | apply Keeps.dram | apply Keeps.flash | apply Keeps.hostMem | apply Keeps.regs | apply Keeps.shadow | contradiction

theorem answerGroup_keeps {s₀ s : State} (n : Nat) (c : Nat) (hk : Keeps s₀ s) : Keeps s₀ (answerGroup n c s) := by
  unfold answerGroup
  repeat' with_reducible first
    | assumption | intro _ | extract_lets | apply ite_keeps | apply fst_ite_keeps | apply snd_ite_keeps | split
    | apply insertRefused_keeps | apply modEng_keeps | apply modMecTree_keeps | apply takeGroup_keeps | apply takeSignals_keeps
    | refine okeeps_get (by assumption) ?_ | refine opkeeps_get (by assumption) ?_ | refine pair_fst_keeps (by assumption) ?_
    | refine pair_snd_keeps (by assumption) ?_ | (dsimp +zetaDelta only; split) | apply mk_keeps | apply Keeps.pending
    | apply Keeps.dram | apply Keeps.flash | apply Keeps.hostMem | apply Keeps.regs | apply Keeps.shadow | contradiction

theorem assistResult_keeps {s₀ s : State} (e : Nat) (c : Nat) (hk : Keeps s₀ s) : Keeps s₀ (assistResult e c s) := by
  unfold assistResult
  repeat' with_reducible first
    | assumption | intro _ | apply ite_keeps | apply fst_ite_keeps | apply snd_ite_keeps | split | apply foldl_keeps
    | apply foldl_fst_keeps | apply foldl_snd_keeps | apply modEng_keeps | refine okeeps_get (by assumption) ?_
    | refine opkeeps_get (by assumption) ?_ | refine pair_fst_keeps (by assumption) ?_ | refine pair_snd_keeps (by assumption) ?_
    | apply mk_keeps | apply Keeps.pending | apply Keeps.dram | apply Keeps.flash | apply Keeps.hostMem | apply Keeps.regs
    | apply Keeps.shadow | contradiction

theorem lineLands_keeps {s₀ s : State} (e : Nat) (i : Nat) (hk : Keeps s₀ s) : Keeps s₀ (lineLands e i s) := by
  unfold lineLands
  repeat' with_reducible first
    | assumption | intro _ | extract_lets | apply ite_keeps | apply fst_ite_keeps | apply snd_ite_keeps | split | apply SMap.rising_put
    | apply SMap.rising_foldl | apply Memory.wf_writeBytes | apply Memory.wf_write | apply Memory.wf_foldl | apply modEng_keeps
    | apply winRead_keeps | refine okeeps_get (by assumption) ?_ | refine opkeeps_get (by assumption) ?_
    | refine pair_fst_keeps (by assumption) ?_ | refine pair_snd_keeps (by assumption) ?_ | (dsimp +zetaDelta only; split)
    | apply mk_keeps | apply Keeps.pending | apply Keeps.dram | apply Keeps.flash | apply Keeps.hostMem | apply Keeps.regs
    | apply Keeps.shadow | contradiction

theorem spanCap_keeps {s₀ s : State} (e : Nat) (c : Nat) (hk : Keeps s₀ s) : Keeps s₀ (spanCap e c s) := by
  unfold spanCap
  repeat' with_reducible first
    | assumption | intro _ | apply ite_keeps | apply deliverSig_keeps | apply modEng_keeps | apply mk_keeps | apply Keeps.pending
    | apply Keeps.dram | apply Keeps.flash | apply Keeps.hostMem | apply Keeps.regs | apply Keeps.shadow

theorem hookTimeout_keeps {s₀ s : State} (e : Nat) (c : Nat) (hk : Keeps s₀ s) : Keeps s₀ (hookTimeout e c s) := by
  unfold hookTimeout
  repeat' with_reducible first
    | assumption | intro _ | apply ite_keeps | apply trap_keeps

theorem taskTimeout_keeps {s₀ s : State} (e : Nat) (c : Nat) (hk : Keeps s₀ s) : Keeps s₀ (taskTimeout e c s) := by
  unfold taskTimeout
  repeat' with_reducible first
    | assumption | intro _ | apply ite_keeps | split | apply trap_keeps | refine okeeps_get (by assumption) ?_
    | refine opkeeps_get (by assumption) ?_ | refine pair_fst_keeps (by assumption) ?_ | refine pair_snd_keeps (by assumption) ?_
    | contradiction

theorem engineStop_keeps {s₀ s : State} (e : Nat) (c : Nat) (hk : Keeps s₀ s) : Keeps s₀ (engineStop e c s) := by
  unfold engineStop
  repeat' with_reducible first
    | assumption | intro _ | apply deliverSig_keeps | apply wr_keeps

theorem engineStart_keeps {s₀ s : State} (e : Nat) (hk : Keeps s₀ s) : Keeps s₀ (engineStart e s) := by
  unfold engineStart
  repeat' with_reducible first
    | assumption | intro _ | extract_lets | apply ite_keeps | apply startEng_keeps | apply wr_keeps

theorem eachEngine_keeps {s₀ s : State} (g : Nat → State → State) (hg : ∀ x0 (u : State), Keeps s₀ u → Keeps s₀ (g x0 u)) (hk : Keeps s₀ s) : Keeps s₀ (eachEngine g s) := by
  unfold eachEngine
  repeat' with_reducible first
    | assumption | intro _ | apply foldl_keeps | apply hg

theorem abortAll_keeps {s₀ s : State} (hk : Keeps s₀ s) : Keeps s₀ (abortAll s) := by
  unfold abortAll
  repeat' with_reducible first
    | assumption | intro _ | apply deliverSig_keeps | apply eachEngine_keeps | apply modEng_keeps | apply modMec_keeps | apply mk_keeps
    | apply Keeps.pending | apply Keeps.dram | apply Keeps.flash | apply Keeps.hostMem | apply Keeps.regs | apply Keeps.shadow

theorem stopAll_keeps {s₀ s : State} (hk : Keeps s₀ s) : Keeps s₀ (stopAll s) := by
  unfold stopAll
  repeat' with_reducible first
    | assumption | intro _ | apply deliverSig_keeps | apply eachEngine_keeps | apply modMec_keeps | apply mk_keeps
    | apply Keeps.pending | apply Keeps.dram | apply Keeps.flash | apply Keeps.hostMem | apply Keeps.regs | apply Keeps.shadow

theorem stopLoading_keeps {s₀ s : State} (hk : Keeps s₀ s) : Keeps s₀ (stopLoading s) := by
  unfold stopLoading
  repeat' with_reducible first
    | assumption | intro _ | apply eachEngine_keeps | apply modEng_keeps | apply stopAll_keeps | apply mk_keeps | apply Keeps.pending
    | apply Keeps.dram | apply Keeps.flash | apply Keeps.hostMem | apply Keeps.regs | apply Keeps.shadow

theorem startAll_keeps {s₀ s : State} (hk : Keeps s₀ s) : Keeps s₀ (startAll s) := by
  unfold startAll
  repeat' with_reducible first
    | assumption | intro _ | extract_lets | apply ite_keeps | apply eachEngine_keeps | apply modEng_keeps | apply startEng_keeps
    | apply mk_keeps | apply Keeps.pending | apply Keeps.dram | apply Keeps.flash | apply Keeps.hostMem | apply Keeps.regs
    | apply Keeps.shadow

theorem loadStore_keeps {s₀ s : State} (r : Reload) (hk : Keeps s₀ s) : Keeps s₀ (loadStore r s) := by
  unfold loadStore
  repeat' with_reducible first
    | assumption | intro _ | extract_lets | apply ite_keeps | apply foldl_keeps | apply modMec_keeps | apply wr_keeps | apply mk_keeps
    | apply Keeps.pending | apply Keeps.dram | apply Keeps.flash | apply Keeps.hostMem | apply Keeps.regs | apply Keeps.shadow

theorem mecFollow_keeps {s₀ s : State} (old : Nat) (load : Option Reload) (hk : Keeps s₀ s) : Keeps s₀ (mecFollow old load s) := by
  unfold mecFollow
  repeat' with_reducible first
    | assumption | intro _ | extract_lets | apply ite_keeps | split | apply abandonRecs_keeps | apply abortAll_keeps
    | apply loadStore_keeps | apply raise_keeps | apply startAll_keeps | apply stopLoading_keeps | apply when_keeps | apply wr_keeps
    | refine okeeps_get (by assumption) ?_ | refine opkeeps_get (by assumption) ?_ | refine pair_fst_keeps (by assumption) ?_
    | refine pair_snd_keeps (by assumption) ?_ | (dsimp +zetaDelta only; split) | contradiction

theorem openRefused_keeps {s₀ s : State} (code : Nat) (word : Nat) (hk : Keeps s₀ s) : Keeps s₀ (openRefused code word s) := by
  unfold openRefused
  repeat' with_reducible first
    | assumption | intro _ | apply raise_keeps | apply wr_keeps

theorem openLoad_keeps {s₀ s : State} (src : Nat) (slot : Nat) (hk : Keeps s₀ s) : Keeps s₀ (openLoad src slot s) := by
  unfold openLoad
  repeat' with_reducible first
    | assumption | intro _ | extract_lets | apply ite_keeps | apply imageRead_keeps | apply modMec_keeps | apply openRefused_keeps
    | apply wr_keeps | apply mk_keeps | apply Keeps.pending | apply Keeps.dram | apply Keeps.flash | apply Keeps.hostMem
    | apply Keeps.regs | apply Keeps.shadow

theorem openCheckEnd_keeps {s₀ s : State} (hk : Keeps s₀ s) : Keeps s₀ (openCheckEnd s) := by
  unfold openCheckEnd
  repeat' with_reducible first
    | assumption | intro _ | apply ite_keeps | apply fst_ite_keeps | apply snd_ite_keeps | split | apply openRefused_keeps
    | apply wr_keeps | refine okeeps_get (by assumption) ?_ | refine opkeeps_get (by assumption) ?_
    | refine pair_fst_keeps (by assumption) ?_ | refine pair_snd_keeps (by assumption) ?_ | contradiction

theorem openSwitch_keeps {s₀ s : State} (hk : Keeps s₀ s) : Keeps s₀ (openSwitch s) := by
  unfold openSwitch
  repeat' with_reducible first
    | assumption | intro _ | extract_lets | apply ite_keeps | apply fst_ite_keeps | apply snd_ite_keeps | apply SMap.rising_filter
    | apply Memory.wf_filter | apply modMec_keeps | apply raise_keeps | apply wr_keeps | apply wrap_keeps | apply mk_keeps
    | apply Keeps.pending | apply Keeps.dram | apply Keeps.flash | apply Keeps.hostMem | apply Keeps.regs | apply Keeps.shadow

theorem postTask_keeps {s₀ s : State} (t : SlowTask) (hk : Keeps s₀ s) : Keeps s₀ (postTask t s) := by
  unfold postTask
  repeat' with_reducible first
    | assumption | intro _ | apply ite_keeps | apply modMec_keeps | apply raise_keeps | apply showTasks_keeps | apply wr_keeps
    | apply mk_keeps | apply Keeps.pending | apply Keeps.dram | apply Keeps.flash | apply Keeps.hostMem | apply Keeps.regs
    | apply Keeps.shadow

theorem hostTask_keeps {s₀ s : State} (typ : Nat) (engine : Nat) (tag : Nat) (arg : Nat) (hk : Keeps s₀ s) : Keeps s₀ (hostTask typ engine tag arg s) := by
  unfold hostTask
  repeat' with_reducible first
    | assumption | intro _ | apply postTask_keeps | apply wr_keeps

theorem sageTasks_keeps {s₀ s : State} (hk : Keeps s₀ s) : Keeps s₀ (sageTasks s) := by
  unfold sageTasks
  repeat' with_reducible first
    | assumption | intro _ | apply ite_keeps | apply foldl_keeps | apply postTask_keeps

theorem takeTask_keeps {s₀ s : State} (e : Nat) (c : Nat) (t : SlowTask) (hk : Keeps s₀ s) : Keeps s₀ (takeTask e c t s) := by
  unfold takeTask
  repeat' with_reducible first
    | assumption | intro _ | apply modEng_keeps | apply mk_keeps | apply Keeps.pending | apply Keeps.dram | apply Keeps.flash
    | apply Keeps.hostMem | apply Keeps.regs | apply Keeps.shadow

theorem taskStart_keeps {s₀ s : State} (e : Nat) (c : Nat) (hk : Keeps s₀ s) : Keeps s₀ (taskStart e c s) := by
  unfold taskStart
  repeat' with_reducible first
    | assumption | intro _ | extract_lets | apply ite_keeps | split | apply finishTask_keeps | apply modMec_keeps
    | apply performBy_keeps | apply showTasks_keeps | apply takeTask_keeps | apply trap_keeps | refine okeeps_get (by assumption) ?_
    | refine opkeeps_get (by assumption) ?_ | refine pair_fst_keeps (by assumption) ?_ | refine pair_snd_keeps (by assumption) ?_
    | (dsimp +zetaDelta only; split) | apply mk_keeps | apply Keeps.pending | apply Keeps.dram | apply Keeps.flash
    | apply Keeps.hostMem | apply Keeps.regs | apply Keeps.shadow | contradiction

theorem placeResult_keeps {s₀ s : State} (hk : Keeps s₀ s) : Keeps s₀ (placeResult s) := by
  unfold placeResult
  repeat' with_reducible first
    | assumption | intro _ | split | apply modEng_keeps | apply modMec_keeps | apply raise_keeps | apply showTasks_keeps
    | refine okeeps_get (by assumption) ?_ | refine opkeeps_get (by assumption) ?_ | refine pair_fst_keeps (by assumption) ?_
    | refine pair_snd_keeps (by assumption) ?_ | apply mk_keeps | apply Keeps.pending | apply Keeps.dram | apply Keeps.flash
    | apply Keeps.hostMem | apply Keeps.regs | apply Keeps.shadow | contradiction

theorem readTaskResult_keeps {s₀ s : State} (p : Path) (hk : Keeps s₀ s) : Keeps s₀ (readTaskResult p s) := by
  unfold readTaskResult
  repeat' with_reducible first
    | assumption | intro _ | extract_lets | apply ite_keeps | split | apply answer_keeps | apply modMec_keeps | apply placeResult_keeps
    | apply showTasks_keeps | refine okeeps_get (by assumption) ?_ | refine opkeeps_get (by assumption) ?_
    | refine pair_fst_keeps (by assumption) ?_ | refine pair_snd_keeps (by assumption) ?_ | apply mk_keeps | apply Keeps.pending
    | apply Keeps.dram | apply Keeps.flash | apply Keeps.hostMem | apply Keeps.regs | apply Keeps.shadow | contradiction

end Sys2Proof.Machine
end

