-- ==== Sys2Proof/Laws/KeepsCells.lean ====
section
/-! SUPPORT. Laws/KeepsCells.lean: every operation of Machine/Cells.lean keeps the queue of commands and the canonical forms (Keeps). -/
namespace Sys2Proof.Machine

theorem modBpm_keeps {s₀ s : State} (g : Bpm → Bpm) (hk : Keeps s₀ s) : Keeps s₀ (State.modBpm g s) := by
  unfold State.modBpm
  repeat' with_reducible first
    | assumption | intro _ | apply mk_keeps | apply Keeps.pending | apply Keeps.dram | apply Keeps.flash | apply Keeps.hostMem
    | apply Keeps.regs | apply Keeps.shadow

theorem modTmg_keeps {s₀ s : State} (g : Tmg → Tmg) (hk : Keeps s₀ s) : Keeps s₀ (State.modTmg g s) := by
  unfold State.modTmg
  repeat' with_reducible first
    | assumption | intro _ | apply mk_keeps | apply Keeps.pending | apply Keeps.dram | apply Keeps.flash | apply Keeps.hostMem
    | apply Keeps.regs | apply Keeps.shadow

theorem modFwd_keeps {s₀ s : State} (g : Fwd → Fwd) (hk : Keeps s₀ s) : Keeps s₀ (State.modFwd g s) := by
  unfold State.modFwd
  repeat' with_reducible first
    | assumption | intro _ | apply mk_keeps | apply Keeps.pending | apply Keeps.dram | apply Keeps.flash | apply Keeps.hostMem
    | apply Keeps.regs | apply Keeps.shadow

theorem modCph_keeps {s₀ s : State} (g : Cph → Cph) (hk : Keeps s₀ s) : Keeps s₀ (State.modCph g s) := by
  unfold State.modCph
  repeat' with_reducible first
    | assumption | intro _ | apply mk_keeps | apply Keeps.pending | apply Keeps.dram | apply Keeps.flash | apply Keeps.hostMem
    | apply Keeps.regs | apply Keeps.shadow

theorem modUpl_keeps {s₀ s : State} (u : Nat) (g : UplPort → UplPort) (hk : Keeps s₀ s) : Keeps s₀ (State.modUpl u g s) := by
  unfold State.modUpl
  repeat' with_reducible first
    | assumption | intro _ | apply SMap.rising_put | apply SMap.rising_foldl | apply mk_keeps | apply Keeps.pending | apply Keeps.dram
    | apply Keeps.flash | apply Keeps.hostMem | apply Keeps.regs | apply Keeps.shadow

theorem takeThr_keeps {s₀ s : State} (p : Nat) (hk : Keeps s₀ s) : Keeps s₀ (takeThr p s) := by
  unfold takeThr
  repeat' with_reducible first
    | assumption | intro _ | apply SMap.rising_put | apply SMap.rising_foldl | apply modBpm_keeps | apply mk_keeps
    | apply Keeps.pending | apply Keeps.dram | apply Keeps.flash | apply Keeps.hostMem | apply Keeps.regs | apply Keeps.shadow

theorem uplCount_keeps {s₀ s : State} (u : Nat) (i : Nat) (n : Nat) (hk : Keeps s₀ s) : Keeps s₀ (uplCount u i n s) := by
  unfold uplCount
  repeat' with_reducible first
    | assumption | intro _ | apply wrap_keeps

theorem sendPause_keeps {s₀ s : State} (u : Nat) (classes : Nat) (hk : Keeps s₀ s) : Keeps s₀ (sendPause u classes s) := by
  unfold sendPause
  repeat' with_reducible first
    | assumption | intro _ | extract_lets | apply ite_keeps | apply modUpl_keeps | apply uplCount_keeps | apply mk_keeps
    | apply Keeps.pending | apply Keeps.dram | apply Keeps.flash | apply Keeps.hostMem | apply Keeps.regs | apply Keeps.shadow

theorem backPressure_keeps {s₀ s : State} (hk : Keeps s₀ s) : Keeps s₀ (backPressure s) := by
  unfold backPressure
  repeat' with_reducible first
    | assumption | intro _ | extract_lets | apply ite_keeps | apply foldl_keeps | apply SMap.rising_filter | apply Memory.wf_filter
    | apply raiseSec_keeps | apply raise_keeps | apply sendPause_keeps | apply when_keeps | apply wr_keeps

theorem settlePool_keeps {s₀ s : State} (p : Nat) (hk : Keeps s₀ s) : Keeps s₀ (settlePool p s) := by
  unfold settlePool
  repeat' with_reducible first
    | assumption | intro _ | extract_lets | apply ite_keeps | apply backPressure_keeps | apply raise_keeps | apply wr_keeps

theorem chargePool_keeps {s₀ s : State} (p : Nat) (k : Nat) (hk : Keeps s₀ s) : Keeps s₀ (chargePool p k s) := by
  unfold chargePool
  repeat' with_reducible first
    | assumption | intro _ | extract_lets | apply settlePool_keeps | apply takeThr_keeps | apply wr_keeps

theorem dischargePool_keeps {s₀ s : State} (p : Nat) (k : Nat) (hk : Keeps s₀ s) : Keeps s₀ (dischargePool p k s) := by
  unfold dischargePool
  repeat' with_reducible first
    | assumption | intro _ | apply settlePool_keeps | apply wr_keeps

theorem stopDrop_keeps {s₀ s : State} (p : Nat) (hk : Keeps s₀ s) : Keeps s₀ (stopDrop p s) := by
  unfold stopDrop
  repeat' with_reducible first
    | assumption | intro _ | apply raiseSec_keeps | apply settlePool_keeps | apply takeThr_keeps | apply wrap_keeps

theorem emptyDrop_keeps {s₀ s : State} (p : Nat) (hk : Keeps s₀ s) : Keeps s₀ (emptyDrop p s) := by
  unfold emptyDrop
  repeat' with_reducible first
    | assumption | intro _ | apply raiseSec_keeps | apply wrap_keeps

theorem setFree_keeps {s₀ s : State} (v : Nat) (hk : Keeps s₀ s) : Keeps s₀ (setFree v s) := by
  unfold setFree
  repeat' with_reducible first
    | assumption | intro _ | apply wr_keeps

theorem endCycle_keeps {s₀ s : State} (hk : Keeps s₀ s) : Keeps s₀ (endCycle s) := by
  unfold endCycle
  repeat' with_reducible first
    | assumption | intro _ | apply ite_keeps | apply foldl_keeps | apply repeat_keeps | apply modBpm_keeps | apply mk_keeps
    | apply Keeps.pending | apply Keeps.dram | apply Keeps.flash | apply Keeps.hostMem | apply Keeps.regs | apply Keeps.shadow

theorem allocCells_keeps {s₀ s : State} (hk : Keeps s₀ s) : Keeps s₀ (allocCells s).2 := by
  unfold allocCells
  repeat' with_reducible first
    | assumption | intro _ | apply ite_keeps | split | apply draw_keeps | apply endCycle_keeps

theorem takeCell_keeps {s₀ s : State} (hk : Keeps s₀ s) : Keeps s₀ (takeCell s).2 := by
  unfold takeCell
  repeat' with_reducible first
    | assumption | intro _ | extract_lets | apply ite_keeps | split | apply draw_keeps | apply modBpm_keeps | apply setFree_keeps
    | apply wr_keeps | apply mk_keeps | apply Keeps.pending | apply Keeps.dram | apply Keeps.flash | apply Keeps.hostMem
    | apply Keeps.regs | apply Keeps.shadow

theorem takeCells_keeps {s₀ s : State} (pool tag k : Nat) (hk : Keeps s₀ s) : Keeps s₀ (takeCells pool tag k s).2 := by
  induction k generalizing s with
  | zero => exact hk
  | succ k ih =>
    unfold takeCells
    dsimp only
    apply modBpm_keeps
    apply ih
    apply modBpm_keeps
    exact takeCell_keeps hk

theorem putCell_keeps {s₀ s : State} (c : Nat) (hk : Keeps s₀ s) : Keeps s₀ (putCell c s) := by
  unfold putCell
  repeat' with_reducible first
    | assumption | intro _ | extract_lets | apply ite_keeps | split | apply SMap.rising_put | apply SMap.rising_foldl
    | apply SMap.rising_del | apply dischargePool_keeps | apply modBpm_keeps | apply setFree_keeps | apply wr_keeps
    | refine okeeps_get (by assumption) ?_ | refine opkeeps_get (by assumption) ?_ | refine pair_fst_keeps (by assumption) ?_
    | refine pair_snd_keeps (by assumption) ?_ | apply mk_keeps | apply Keeps.pending | apply Keeps.dram | apply Keeps.flash
    | apply Keeps.hostMem | apply Keeps.regs | apply Keeps.shadow | contradiction

theorem fillStore_keeps {s₀ s : State} (hk : Keeps s₀ s) : Keeps s₀ (fillStore s) := by
  unfold fillStore
  repeat' with_reducible first
    | assumption | intro _ | extract_lets | apply ite_keeps | apply modBpm_keeps | apply wr_keeps | apply mk_keeps
    | apply Keeps.pending | apply Keeps.dram | apply Keeps.flash | apply Keeps.hostMem | apply Keeps.regs | apply Keeps.shadow

theorem putFrame_keeps {s₀ s : State} (id : Nat) (f : Frame) (hk : Keeps s₀ s) : Keeps s₀ (State.putFrame id f s) := by
  unfold State.putFrame
  repeat' with_reducible first
    | assumption | intro _ | apply SMap.rising_put | apply SMap.rising_foldl | apply modBpm_keeps | apply mk_keeps
    | apply Keeps.pending | apply Keeps.dram | apply Keeps.flash | apply Keeps.hostMem | apply Keeps.regs | apply Keeps.shadow

theorem moveCharge_keeps {s₀ s : State} (id : Nat) (pool : Nat) (hk : Keeps s₀ s) : Keeps s₀ (moveCharge id pool s) := by
  unfold moveCharge
  repeat' with_reducible first
    | assumption | intro _ | extract_lets | apply ite_keeps | apply fst_ite_keeps | apply snd_ite_keeps | split
    | apply chargePool_keeps | apply dischargePool_keeps | apply modBpm_keeps | apply putFrame_keeps
    | refine okeeps_get (by assumption) ?_ | refine opkeeps_get (by assumption) ?_ | refine pair_fst_keeps (by assumption) ?_
    | refine pair_snd_keeps (by assumption) ?_ | apply mk_keeps | apply Keeps.pending | apply Keeps.dram | apply Keeps.flash
    | apply Keeps.hostMem | apply Keeps.regs | apply Keeps.shadow | contradiction

theorem setOwners_keeps {s₀ s : State} (id : Nat) (tags : List Nat) (hk : Keeps s₀ s) : Keeps s₀ (setOwners id tags s) := by
  unfold setOwners
  repeat' with_reducible first
    | assumption | intro _ | apply ite_keeps | apply fst_ite_keeps | apply snd_ite_keeps | split | apply modBpm_keeps
    | apply putFrame_keeps | refine okeeps_get (by assumption) ?_ | refine opkeeps_get (by assumption) ?_
    | refine pair_fst_keeps (by assumption) ?_ | refine pair_snd_keeps (by assumption) ?_ | apply mk_keeps | apply Keeps.pending
    | apply Keeps.dram | apply Keeps.flash | apply Keeps.hostMem | apply Keeps.regs | apply Keeps.shadow | contradiction

theorem obsStage_keeps {s₀ s : State} (up : Bool) (stage : Nat) (index : Nat) (len : Nat) (hk : Keeps s₀ s) : Keeps s₀ (obsStage up stage index len s) := by
  unfold obsStage
  repeat' with_reducible first
    | assumption | intro _ | extract_lets | apply ite_keeps | apply fst_ite_keeps | apply snd_ite_keeps | apply foldl_keeps
    | apply foldl_fst_keeps | apply foldl_snd_keeps | apply SMap.rising_filter | apply Memory.wf_filter | apply obsAdd_keeps
    | apply raiseSec_keeps | apply when_keeps

theorem passStage_keeps {s₀ s : State} (f : Frame) (up : Bool) (stage : Nat) (index : Nat) (hk : Keeps s₀ s) : Keeps s₀ (passStage f up stage index s).2 := by
  unfold passStage
  repeat' with_reducible first
    | assumption | intro _ | extract_lets | split | apply draw_keeps | apply obsStage_keeps | apply when_keeps | apply mk_keeps
    | apply Keeps.pending | apply Keeps.dram | apply Keeps.flash | apply Keeps.hostMem | apply Keeps.regs | apply Keeps.shadow

theorem passId_keeps {s₀ s : State} (id : Nat) (up : Bool) (stage : Nat) (index : Nat) (hk : Keeps s₀ s) : Keeps s₀ (passId id up stage index s) := by
  unfold passId
  repeat' with_reducible first
    | assumption | intro _ | extract_lets | split | apply passStage_keeps | apply putFrame_keeps | refine okeeps_get (by assumption) ?_
    | refine opkeeps_get (by assumption) ?_ | refine pair_fst_keeps (by assumption) ?_ | refine pair_snd_keeps (by assumption) ?_
    | contradiction

theorem passCopy_keeps {s₀ s : State} (id : Nat) (tag : Nat) (up : Bool) (stage : Nat) (index : Nat) (hk : Keeps s₀ s) : Keeps s₀ (passCopy id tag up stage index s) := by
  unfold passCopy
  repeat' with_reducible first
    | assumption | intro _ | apply ite_keeps | split | apply obsStage_keeps | apply passId_keeps | refine okeeps_get (by assumption) ?_
    | refine opkeeps_get (by assumption) ?_ | refine pair_fst_keeps (by assumption) ?_ | refine pair_snd_keeps (by assumption) ?_
    | contradiction

theorem skimTag_keeps {s₀ s : State} (up : Bool) (src : Nat) (drawn : Bool) (hk : Keeps s₀ s) : Keeps s₀ (skimTag up src drawn s).2 := by
  unfold skimTag
  repeat' with_reducible first
    | assumption | intro _ | extract_lets | apply ite_keeps | split | apply modObs_keeps | apply sat_keeps | apply mk_keeps
    | apply Keeps.pending | apply Keeps.dram | apply Keeps.flash | apply Keeps.hostMem | apply Keeps.regs | apply Keeps.shadow

theorem skimEnd_keeps {s₀ s : State} (f : Frame) (dropped : Bool) (hk : Keeps s₀ s) : Keeps s₀ (skimEnd f dropped s) := by
  unfold skimEnd
  repeat' with_reducible first
    | assumption | intro _ | extract_lets | apply ite_keeps | apply fst_ite_keeps | apply snd_ite_keeps | split | apply foldl_keeps
    | apply foldl_fst_keeps | apply foldl_snd_keeps | apply modObs_keeps | refine okeeps_get (by assumption) ?_
    | refine opkeeps_get (by assumption) ?_ | refine pair_fst_keeps (by assumption) ?_ | refine pair_snd_keeps (by assumption) ?_
    | apply mk_keeps | apply Keeps.pending | apply Keeps.dram | apply Keeps.flash | apply Keeps.hostMem | apply Keeps.regs
    | apply Keeps.shadow | contradiction

theorem dropFrame_keeps {s₀ s : State} (id : Nat) (hk : Keeps s₀ s) : Keeps s₀ (dropFrame id s) := by
  unfold dropFrame
  repeat' with_reducible first
    | assumption | intro _ | split | apply foldl_keeps | apply SMap.rising_del | apply modBpm_keeps | apply putCell_keeps
    | apply skimEnd_keeps | refine okeeps_get (by assumption) ?_ | refine opkeeps_get (by assumption) ?_
    | refine pair_fst_keeps (by assumption) ?_ | refine pair_snd_keeps (by assumption) ?_ | apply mk_keeps | apply Keeps.pending
    | apply Keeps.dram | apply Keeps.flash | apply Keeps.hostMem | apply Keeps.regs | apply Keeps.shadow | contradiction

theorem oweFree_keeps {s₀ s : State} (id : Nat) (tag : Nat) (hk : Keeps s₀ s) : Keeps s₀ (oweFree id tag s) := by
  unfold oweFree
  repeat' with_reducible first
    | assumption | intro _ | apply modBpm_keeps | apply mk_keeps | apply Keeps.pending | apply Keeps.dram | apply Keeps.flash
    | apply Keeps.hostMem | apply Keeps.regs | apply Keeps.shadow

theorem nextAlloc_keeps {s₀ s : State} (hk : Keeps s₀ s) : OPKeeps s₀ (nextAlloc s) := by
  unfold nextAlloc
  repeat' with_reducible first
    | assumption | intro _ | apply opkeeps_none | apply opkeeps_some | apply opkeeps_ite | extract_lets | split
    | apply SMap.rising_filter | apply Memory.wf_filter | apply draw_keeps | apply modBpm_keeps | refine okeeps_get (by assumption) ?_
    | refine opkeeps_get (by assumption) ?_ | refine pair_fst_keeps (by assumption) ?_ | refine pair_snd_keeps (by assumption) ?_
    | (dsimp +zetaDelta only; split) | apply mk_keeps | apply Keeps.pending | apply Keeps.dram | apply Keeps.flash
    | apply Keeps.hostMem | apply Keeps.regs | apply Keeps.shadow | contradiction

theorem allocFrame_keeps {s₀ s : State} (next : Nat → Frame → State → State) (hnext : ∀ x0 x1 (u : State), Keeps s₀ u → Keeps s₀ (next x0 x1 u)) (hk : Keeps s₀ s) : Keeps s₀ (allocFrame next s) := by
  unfold allocFrame
  repeat' with_reducible first
    | assumption | intro _ | extract_lets | apply ite_keeps | apply fst_ite_keeps | apply snd_ite_keeps | split
    | apply allocCells_keeps | apply chargePool_keeps | apply emptyDrop_keeps | apply nextAlloc_keeps | apply putFrame_keeps
    | apply settlePool_keeps | apply skimEnd_keeps | apply stopDrop_keeps | apply takeCells_keeps | apply takeThr_keeps | apply hnext
    | refine okeeps_get (by assumption) ?_ | refine opkeeps_get (by assumption) ?_ | refine pair_fst_keeps (by assumption) ?_
    | refine pair_snd_keeps (by assumption) ?_ | apply mk_keeps | apply Keeps.pending | apply Keeps.dram | apply Keeps.flash
    | apply Keeps.hostMem | apply Keeps.regs | apply Keeps.shadow | contradiction

theorem freeRefused_keeps {s₀ s : State} (c : Nat) (x : Nat) (code : Nat) (hk : Keeps s₀ s) : Keeps s₀ (freeRefused c x code s) := by
  unfold freeRefused
  repeat' with_reducible first
    | assumption | intro _ | apply raise_keeps | apply wr_keeps | apply wrap_keeps

theorem cellFree_keeps {s₀ s : State} (c : Nat) (x : Nat) (hk : Keeps s₀ s) : Keeps s₀ (cellFree c x s) := by
  unfold cellFree
  repeat' with_reducible first
    | assumption | intro _ | extract_lets | apply ite_keeps | apply fst_ite_keeps | apply snd_ite_keeps | split | apply foldl_keeps
    | apply foldl_fst_keeps | apply foldl_snd_keeps | apply SMap.rising_del | apply freeRefused_keeps | apply modBpm_keeps
    | apply putCell_keeps | apply putFrame_keeps | refine okeeps_get (by assumption) ?_ | refine opkeeps_get (by assumption) ?_
    | refine pair_fst_keeps (by assumption) ?_ | refine pair_snd_keeps (by assumption) ?_ | (dsimp +zetaDelta only; split)
    | apply mk_keeps | apply Keeps.pending | apply Keeps.dram | apply Keeps.flash | apply Keeps.hostMem | apply Keeps.regs
    | apply Keeps.shadow | contradiction

theorem hostAlloc_keeps {s₀ s : State} (p : Path) (hk : Keeps s₀ s) : Keeps s₀ (hostAlloc p s) := by
  unfold hostAlloc
  repeat' with_reducible first
    | assumption | intro _ | extract_lets | apply ite_keeps | apply fst_ite_keeps | apply snd_ite_keeps | apply allocCells_keeps
    | apply answer_keeps | apply chargePool_keeps | apply settlePool_keeps | apply takeCells_keeps | apply takeThr_keeps

end Sys2Proof.Machine
end

