-- ==== Sys2Proof/Laws/KeepsTraffic.lean ====
section
/-! SUPPORT. Laws/KeepsTraffic.lean: every operation of Machine/Traffic.lean keeps the queue of commands and the canonical forms (Keeps). -/
namespace Sys2Proof.Machine

theorem modQueue_keeps {s₀ s : State} (q : Nat) (g : TQueue → TQueue) (hk : Keeps s₀ s) : Keeps s₀ (State.modQueue q g s) := by
  unfold State.modQueue
  repeat' with_reducible first
    | assumption | intro _ | apply SMap.rising_put | apply SMap.rising_foldl | apply modTmg_keeps | apply mk_keeps
    | apply Keeps.pending | apply Keeps.dram | apply Keeps.flash | apply Keeps.hostMem | apply Keeps.regs | apply Keeps.shadow

theorem modNode_keeps {s₀ s : State} (k : Nat) (g : TNode → TNode) (hk : Keeps s₀ s) : Keeps s₀ (State.modNode k g s) := by
  unfold State.modNode
  repeat' with_reducible first
    | assumption | intro _ | apply SMap.rising_put | apply SMap.rising_foldl | apply modTmg_keeps | apply mk_keeps
    | apply Keeps.pending | apply Keeps.dram | apply Keeps.flash | apply Keeps.hostMem | apply Keeps.regs | apply Keeps.shadow

theorem modTTree_keeps {s₀ s : State} (n : Nat) (g : TTree → TTree) (hk : Keeps s₀ s) : Keeps s₀ (State.modTTree n g s) := by
  unfold State.modTTree
  repeat' with_reducible first
    | assumption | intro _ | apply SMap.rising_put | apply SMap.rising_foldl | apply modTmg_keeps | apply mk_keeps
    | apply Keeps.pending | apply Keeps.dram | apply Keeps.flash | apply Keeps.hostMem | apply Keeps.regs | apply Keeps.shadow

theorem modClass_keeps {s₀ s : State} (k : Nat) (g : ClassQ → ClassQ) (hk : Keeps s₀ s) : Keeps s₀ (State.modClass k g s) := by
  unfold State.modClass
  repeat' with_reducible first
    | assumption | intro _ | apply SMap.rising_put | apply SMap.rising_foldl | apply modTmg_keeps | apply mk_keeps
    | apply Keeps.pending | apply Keeps.dram | apply Keeps.flash | apply Keeps.hostMem | apply Keeps.regs | apply Keeps.shadow

theorem bucketTick_keeps {s₀ s : State} (hk : Keeps s₀ s) : Keeps s₀ (bucketTick s) := by
  unfold bucketTick
  repeat' with_reducible first
    | assumption | intro _ | apply modTmg_keeps | apply mk_keeps | apply Keeps.pending | apply Keeps.dram | apply Keeps.flash
    | apply Keeps.hostMem | apply Keeps.regs | apply Keeps.shadow

theorem mirrorAt_keeps {s₀ s : State} (id : Nat) (up : Bool) (stage : Nat) (index : Nat) (hk : Keeps s₀ s) : Keeps s₀ (mirrorAt id up stage index s).2 := by
  unfold mirrorAt
  repeat' with_reducible first
    | assumption | intro _ | extract_lets | apply ite_keeps | apply fst_ite_keeps | apply snd_ite_keeps | split | apply foldl_keeps
    | apply foldl_fst_keeps | apply foldl_snd_keeps | apply SMap.rising_filter | apply Memory.wf_filter | apply SMap.rising_put
    | apply SMap.rising_foldl | apply modClass_keeps | apply modObs_keeps | apply stopDrop_keeps | refine okeeps_get (by assumption) ?_
    | refine opkeeps_get (by assumption) ?_ | refine pair_fst_keeps (by assumption) ?_ | refine pair_snd_keeps (by assumption) ?_
    | apply mk_keeps | apply Keeps.pending | apply Keeps.dram | apply Keeps.flash | apply Keeps.hostMem | apply Keeps.regs
    | apply Keeps.shadow | contradiction

theorem mirrorLate_keeps {s₀ s : State} (id : Nat) (up : Bool) (stage : Nat) (index : Nat) (hk : Keeps s₀ s) : Keeps s₀ (mirrorLate id up stage index s) := by
  unfold mirrorLate
  repeat' with_reducible first
    | assumption | intro _ | extract_lets | apply ite_keeps | apply fst_ite_keeps | apply snd_ite_keeps | split | apply mirrorAt_keeps
    | apply modBpm_keeps | apply putFrame_keeps | refine okeeps_get (by assumption) ?_ | refine opkeeps_get (by assumption) ?_
    | refine pair_fst_keeps (by assumption) ?_ | refine pair_snd_keeps (by assumption) ?_ | (dsimp +zetaDelta only; split)
    | apply mk_keeps | apply Keeps.pending | apply Keeps.dram | apply Keeps.flash | apply Keeps.hostMem | apply Keeps.regs
    | apply Keeps.shadow | contradiction

theorem endFollowed_keeps {s₀ s : State} (id : Nat) (dropped : Bool) (hk : Keeps s₀ s) : Keeps s₀ (endFollowed id dropped s) := by
  unfold endFollowed
  repeat' with_reducible first
    | assumption | intro _ | split | apply putFrame_keeps | apply skimEnd_keeps | refine okeeps_get (by assumption) ?_
    | refine opkeeps_get (by assumption) ?_ | refine pair_fst_keeps (by assumption) ?_ | refine pair_snd_keeps (by assumption) ?_
    | apply mk_keeps | apply Keeps.pending | apply Keeps.dram | apply Keeps.flash | apply Keeps.hostMem | apply Keeps.regs
    | apply Keeps.shadow | contradiction

theorem setFlow_keeps {s₀ s : State} (id : Nat) (flow : Nat) (hk : Keeps s₀ s) : Keeps s₀ (setFlow id flow s) := by
  unfold setFlow
  repeat' with_reducible first
    | assumption | intro _ | split | apply putFrame_keeps | refine okeeps_get (by assumption) ?_
    | refine opkeeps_get (by assumption) ?_ | refine pair_fst_keeps (by assumption) ?_ | refine pair_snd_keeps (by assumption) ?_
    | apply mk_keeps | apply Keeps.pending | apply Keeps.dram | apply Keeps.flash | apply Keeps.hostMem | apply Keeps.regs
    | apply Keeps.shadow | contradiction

theorem settleOwners_keeps {s₀ s : State} (id : Nat) (main : List (Nat × Nat)) (mirrors : List Nat) (hk : Keeps s₀ s) : Keeps s₀ (settleOwners id main mirrors s) := by
  unfold settleOwners
  repeat' with_reducible first
    | assumption | intro _ | split | apply dropFrame_keeps | apply endFollowed_keeps | apply moveCharge_keeps | apply setOwners_keeps
    | refine okeeps_get (by assumption) ?_ | refine opkeeps_get (by assumption) ?_ | refine pair_fst_keeps (by assumption) ?_
    | refine pair_snd_keeps (by assumption) ?_ | contradiction

theorem enqueueCopy_keeps {s₀ s : State} (id : Nat) (q : Nat) (flow : Nat) (hk : Keeps s₀ s) : Keeps s₀ (enqueueCopy id q flow s).2 := by
  unfold enqueueCopy
  repeat' with_reducible first
    | assumption | intro _ | extract_lets | apply ite_keeps | split | apply modQueue_keeps | apply raiseSec_keeps
    | apply stopDrop_keeps | apply wrap_keeps | apply mk_keeps | apply Keeps.pending | apply Keeps.dram | apply Keeps.flash
    | apply Keeps.hostMem | apply Keeps.regs | apply Keeps.shadow

theorem enqueueDown_keeps {s₀ s : State} (id : Nat) (copies : List (Nat × Nat)) (early : List Nat) (hk : Keeps s₀ s) : Keeps s₀ (enqueueDown id copies early s) := by
  unfold enqueueDown
  repeat' with_reducible first
    | assumption | intro _ | extract_lets | apply ite_keeps | apply fst_ite_keeps | apply snd_ite_keeps | split | apply foldl_keeps
    | apply foldl_fst_keeps | apply foldl_snd_keeps | apply enqueueCopy_keeps | apply mirrorAt_keeps | apply passId_keeps
    | apply setFlow_keeps | apply settleOwners_keeps | refine okeeps_get (by assumption) ?_ | refine opkeeps_get (by assumption) ?_
    | refine pair_fst_keeps (by assumption) ?_ | refine pair_snd_keeps (by assumption) ?_ | (dsimp +zetaDelta only; split)
    | contradiction

theorem policeUp_keeps {s₀ s : State} (id : Nat) (pol : Nat) (hk : Keeps s₀ s) : Keeps s₀ (policeUp id pol s).2 := by
  unfold policeUp
  repeat' with_reducible first
    | assumption | intro _ | extract_lets | apply ite_keeps | apply fst_ite_keeps | apply snd_ite_keeps | split | apply SMap.rising_put
    | apply SMap.rising_foldl | apply modTmg_keeps | apply putFrame_keeps | apply wrap_keeps | refine okeeps_get (by assumption) ?_
    | refine opkeeps_get (by assumption) ?_ | refine pair_fst_keeps (by assumption) ?_ | refine pair_snd_keeps (by assumption) ?_
    | apply mk_keeps | apply Keeps.pending | apply Keeps.dram | apply Keeps.flash | apply Keeps.hostMem | apply Keeps.regs
    | apply Keeps.shadow | contradiction

theorem enqueueUp_keeps {s₀ s : State} (id : Nat) (u : Nat) (cls : Nat) (pol : Nat) (early : List Nat) (hk : Keeps s₀ s) : Keeps s₀ (enqueueUp id u cls pol early s) := by
  unfold enqueueUp
  repeat' with_reducible first
    | assumption | intro _ | extract_lets | apply ite_keeps | apply fst_ite_keeps | apply snd_ite_keeps | split | apply mirrorAt_keeps
    | apply modClass_keeps | apply passId_keeps | apply policeUp_keeps | apply settleOwners_keeps | apply stopDrop_keeps
    | refine okeeps_get (by assumption) ?_ | refine opkeeps_get (by assumption) ?_ | refine pair_fst_keeps (by assumption) ?_
    | refine pair_snd_keeps (by assumption) ?_ | apply mk_keeps | apply Keeps.pending | apply Keeps.dram | apply Keeps.flash
    | apply Keeps.hostMem | apply Keeps.regs | apply Keeps.shadow | contradiction

theorem chargeSent_keeps {s₀ s : State} (n : Nat) (t : Nat) (q : Nat) (pass : Nat) (len : Int) (hk : Keeps s₀ s) : Keeps s₀ (chargeSent n t q pass len s) := by
  unfold chargeSent
  repeat' with_reducible first
    | assumption | intro _ | apply ite_keeps | apply modNode_keeps | apply modQueue_keeps | apply modTTree_keeps | apply mk_keeps
    | apply Keeps.pending | apply Keeps.dram | apply Keeps.flash | apply Keeps.hostMem | apply Keeps.regs | apply Keeps.shadow

theorem fillFrame_keeps {s₀ : State} (send : Nat → Nat → Nat → Nat → State → State)
    (hsend : ∀ x y z v (u : State), Keeps s₀ u → Keeps s₀ (send x y z v u)) (n fuel : Nat) {s : State} (pass : Nat) (budget : Int)
    (hk : Keeps s₀ s) : Keeps s₀ (fillFrame send n fuel pass budget s) := by
  induction fuel generalizing s pass budget with
  | zero => exact hk
  | succ fuel ih =>
    unfold fillFrame
    repeat' with_reducible first
      | assumption | extract_lets | apply ite_keeps | split | apply ih | apply hsend | apply mirrorLate_keeps | apply passCopy_keeps
      | apply chargeSent_keeps | apply modTTree_keeps | apply modQueue_keeps
      | apply modNode_keeps

theorem deficitTurn_keeps {s₀ s : State} (u fuel c : Nat) (hk : Keeps s₀ s) : Keeps s₀ (deficitTurn u fuel c s).2 := by
  induction fuel generalizing s c with
  | zero => exact hk
  | succ fuel ih =>
    unfold deficitTurn
    repeat' with_reducible first
      | assumption | extract_lets | apply ite_keeps | split | apply ih | apply modTmg_keeps | apply modClass_keeps

theorem pickClass_keeps {s₀ s : State} (u : Nat) (hk : Keeps s₀ s) : Keeps s₀ (pickClass u s).2 := by
  unfold pickClass
  repeat' with_reducible first
    | assumption | intro _ | extract_lets | apply ite_keeps | split | apply SMap.rising_filter | apply Memory.wf_filter
    | apply deficitTurn_keeps | refine okeeps_get (by assumption) ?_ | refine opkeeps_get (by assumption) ?_
    | refine pair_fst_keeps (by assumption) ?_ | refine pair_snd_keeps (by assumption) ?_ | (dsimp +zetaDelta only; split)
    | contradiction

theorem txFrame_keeps {s₀ s : State} (u : Nat) (len : Nat) (hdr : Option TxHeader) (hk : Keeps s₀ s) : Keeps s₀ (txFrame u len hdr s) := by
  unfold txFrame
  repeat' with_reducible first
    | assumption | intro _ | apply modUpl_keeps | apply uplCount_keeps | apply mk_keeps | apply Keeps.pending | apply Keeps.dram
    | apply Keeps.flash | apply Keeps.hostMem | apply Keeps.regs | apply Keeps.shadow

theorem txSelect_keeps {s₀ s : State} (u : Nat) (hk : Keeps s₀ s) : Keeps s₀ (txSelect u s) := by
  unfold txSelect
  repeat' with_reducible first
    | assumption | intro _ | extract_lets | apply ite_keeps | apply fst_ite_keeps | apply snd_ite_keeps | split
    | apply endFollowed_keeps | apply modClass_keeps | apply oweFree_keeps | apply passId_keeps | apply pickClass_keeps
    | apply txFrame_keeps | apply when_keeps | refine okeeps_get (by assumption) ?_ | refine opkeeps_get (by assumption) ?_
    | refine pair_fst_keeps (by assumption) ?_ | refine pair_snd_keeps (by assumption) ?_ | (dsimp +zetaDelta only; split)
    | apply mk_keeps | apply Keeps.pending | apply Keeps.dram | apply Keeps.flash | apply Keeps.hostMem | apply Keeps.regs
    | apply Keeps.shadow | contradiction

theorem tmgApply_keeps {s₀ s : State} (e : Nat × Nat × List Nat) (hk : Keeps s₀ s) : Keeps s₀ (tmgApply e s) := by
  unfold tmgApply
  repeat' with_reducible first
    | assumption | intro _ | extract_lets | apply ite_keeps | apply fst_ite_keeps | apply snd_ite_keeps | apply SMap.rising_put
    | apply SMap.rising_foldl | apply modClass_keeps | apply modNode_keeps | apply modQueue_keeps | apply modTTree_keeps
    | apply modTmg_keeps | apply mk_keeps | apply Keeps.pending | apply Keeps.dram | apply Keeps.flash | apply Keeps.hostMem
    | apply Keeps.regs | apply Keeps.shadow

theorem showShadow_keeps {s₀ s : State} (hk : Keeps s₀ s) : Keeps s₀ (showShadow s) := by
  unfold showShadow
  repeat' with_reducible first
    | assumption | intro _ | apply wr_keeps

theorem tmgCommit_keeps {s₀ s : State} (h : Nat) (hk : Keeps s₀ s) : Keeps s₀ (tmgCommit h s) := by
  unfold tmgCommit
  repeat' with_reducible first
    | assumption | intro _ | apply foldl_keeps | apply SMap.rising_put | apply SMap.rising_foldl | apply modTmg_keeps
    | apply showShadow_keeps | apply tmgApply_keeps | apply mk_keeps | apply Keeps.pending | apply Keeps.dram | apply Keeps.flash
    | apply Keeps.hostMem | apply Keeps.regs | apply Keeps.shadow

theorem queueDefaults_keeps {s₀ s : State} (h : Nat) (tables : List (Nat × Nat × List Nat)) (hk : Keeps s₀ s) : Keeps s₀ (queueDefaults h tables s) := by
  unfold queueDefaults
  repeat' with_reducible first
    | assumption | intro _ | apply foldl_keeps | apply foldl_fst_keeps | apply foldl_snd_keeps | apply SMap.rising_filter
    | apply Memory.wf_filter | apply SMap.rising_put | apply SMap.rising_foldl | apply modTmg_keeps | apply showShadow_keeps
    | apply tmgApply_keeps | apply mk_keeps | apply Keeps.pending | apply Keeps.dram | apply Keeps.flash | apply Keeps.hostMem
    | apply Keeps.regs | apply Keeps.shadow

theorem tmgTick_keeps {s₀ s : State} (hk : Keeps s₀ s) : Keeps s₀ (tmgTick s) := by
  unfold tmgTick
  repeat' with_reducible first
    | assumption | intro _ | apply foldl_keeps | apply modTmg_keeps | apply tmgApply_keeps | apply mk_keeps | apply Keeps.pending
    | apply Keeps.dram | apply Keeps.flash | apply Keeps.hostMem | apply Keeps.regs | apply Keeps.shadow

theorem tmgCmd_keeps {s₀ s : State} (table : Nat) (op : Nat) (index : Nat) (hk : Keeps s₀ s) : Keeps s₀ (tmgCmd table op index s) := by
  unfold tmgCmd
  repeat' with_reducible first
    | assumption | intro _ | apply wr_keeps

theorem tmgRead_keeps {s₀ s : State} (table : Nat) (index : Nat) (hk : Keeps s₀ s) : Keeps s₀ (tmgRead table index s) := by
  unfold tmgRead
  repeat' with_reducible first
    | assumption | intro _ | extract_lets | apply ite_keeps | apply foldl_keeps | apply tmgCmd_keeps | apply wr_keeps

theorem tmgWrite_keeps {s₀ s : State} (table : Nat) (index : Nat) (hk : Keeps s₀ s) : Keeps s₀ (tmgWrite table index s) := by
  unfold tmgWrite
  repeat' with_reducible first
    | assumption | intro _ | extract_lets | apply ite_keeps | apply fst_ite_keeps | apply snd_ite_keeps | apply SMap.rising_filter
    | apply Memory.wf_filter | apply SMap.rising_put | apply SMap.rising_foldl | apply modTmg_keeps | apply raise_keeps
    | apply refuseCommit_keeps | apply showShadow_keeps | apply tmgCmd_keeps | apply wr_keeps | apply mk_keeps | apply Keeps.pending
    | apply Keeps.dram | apply Keeps.flash | apply Keeps.hostMem | apply Keeps.regs | apply Keeps.shadow

theorem pfcRx_keeps {s₀ s : State} (u : Nat) (classes : Nat) (zero : Nat) (hk : Keeps s₀ s) : Keeps s₀ (pfcRx u classes zero s) := by
  unfold pfcRx
  repeat' with_reducible first
    | assumption | intro _ | extract_lets | apply ite_keeps | apply SMap.rising_filter | apply Memory.wf_filter | apply uplCount_keeps
    | apply wr_keeps

theorem pauseExpire_keeps {s₀ s : State} (u : Nat) (c : Nat) (hk : Keeps s₀ s) : Keeps s₀ (pauseExpire u c s) := by
  unfold pauseExpire
  repeat' with_reducible first
    | assumption | intro _ | apply ite_keeps | apply wr_keeps

theorem pauseRefresh_keeps {s₀ s : State} (u : Nat) (hk : Keeps s₀ s) : Keeps s₀ (pauseRefresh u s) := by
  unfold pauseRefresh
  repeat' with_reducible first
    | assumption | intro _ | apply ite_keeps | apply sendPause_keeps

end Sys2Proof.Machine
end

