-- ==== Sys2Proof/Laws/KeepsForward.lean ====
section
/-! SUPPORT. Laws/KeepsForward.lean: every operation of Machine/Forward.lean keeps the queue of commands and the canonical forms (Keeps). -/
namespace Sys2Proof.Machine

theorem modFlow_keeps {s₀ s : State} (x : Nat) (g : FlowCtx → FlowCtx) (hk : Keeps s₀ s) : Keeps s₀ (State.modFlow x g s) := by
  unfold State.modFlow
  repeat' with_reducible first
    | assumption | intro _ | apply SMap.rising_put | apply SMap.rising_foldl | apply SMap.rising_del | apply modFwd_keeps
    | apply mk_keeps | apply Keeps.pending | apply Keeps.dram | apply Keeps.flash | apply Keeps.hostMem | apply Keeps.regs
    | apply Keeps.shadow

theorem lineFlow_keeps {s₀ s : State} (x : Nat) (g : FlowCtx → FlowCtx) (hk : Keeps s₀ s) : Keeps s₀ (State.lineFlow x g s) := by
  unfold State.lineFlow
  repeat' with_reducible first
    | assumption | intro _ | apply SMap.rising_put | apply SMap.rising_foldl | apply modFwd_keeps | apply mk_keeps
    | apply Keeps.pending | apply Keeps.dram | apply Keeps.flash | apply Keeps.hostMem | apply Keeps.regs | apply Keeps.shadow

theorem modPart_keeps {s₀ s : State} (k : Nat) (g : FwdPart → FwdPart) (hk : Keeps s₀ s) : Keeps s₀ (State.modPart k g s) := by
  unfold State.modPart
  repeat' with_reducible first
    | assumption | intro _ | apply SMap.rising_put | apply SMap.rising_foldl | apply modFwd_keeps | apply mk_keeps
    | apply Keeps.pending | apply Keeps.dram | apply Keeps.flash | apply Keeps.hostMem | apply Keeps.regs | apply Keeps.shadow

theorem modOwner_keeps {s₀ s : State} (o : Nat) (g : Owner → Owner) (hk : Keeps s₀ s) : Keeps s₀ (State.modOwner o g s) := by
  unfold State.modOwner
  repeat' with_reducible first
    | assumption | intro _ | apply SMap.rising_put | apply SMap.rising_foldl | apply modFwd_keeps | apply mk_keeps
    | apply Keeps.pending | apply Keeps.dram | apply Keeps.flash | apply Keeps.hostMem | apply Keeps.regs | apply Keeps.shadow

theorem setEntry_keeps {s₀ s : State} (key : Nat) (e : Option BEntry) (hk : Keeps s₀ s) : Keeps s₀ (State.setEntry key e s) := by
  unfold State.setEntry
  repeat' with_reducible first
    | assumption | intro _ | split | apply SMap.rising_put | apply SMap.rising_foldl | apply SMap.rising_del | apply modFwd_keeps
    | refine okeeps_get (by assumption) ?_ | refine opkeeps_get (by assumption) ?_ | refine pair_fst_keeps (by assumption) ?_
    | refine pair_snd_keeps (by assumption) ?_ | apply mk_keeps | apply Keeps.pending | apply Keeps.dram | apply Keeps.flash
    | apply Keeps.hostMem | apply Keeps.regs | apply Keeps.shadow | contradiction

theorem lineHit_keeps {s₀ s : State} (key : Nat) (e : BEntry) (hk : Keeps s₀ s) : Keeps s₀ (State.lineHit key e s) := by
  unfold State.lineHit
  repeat' with_reducible first
    | assumption | intro _ | apply SMap.rising_put | apply SMap.rising_foldl | apply modFwd_keeps | apply mk_keeps
    | apply Keeps.pending | apply Keeps.dram | apply Keeps.flash | apply Keeps.hostMem | apply Keeps.regs | apply Keeps.shadow

theorem cacheLook_keeps {s₀ s : State} (flow : Bool) (key : Option Nat) (hk : Keeps s₀ s) : Keeps s₀ (cacheLook flow key s) := by
  unfold cacheLook
  repeat' with_reducible first
    | assumption | intro _ | extract_lets | apply ite_keeps | split | apply foldl_keeps | apply SMap.rising_filter
    | apply Memory.wf_filter | apply SMap.rising_put | apply SMap.rising_foldl | apply SMap.rising_del | apply lineFlow_keeps
    | apply modFwd_keeps | refine okeeps_get (by assumption) ?_ | refine opkeeps_get (by assumption) ?_
    | refine pair_fst_keeps (by assumption) ?_ | refine pair_snd_keeps (by assumption) ?_ | (dsimp +zetaDelta only; split)
    | apply mk_keeps | apply Keeps.pending | apply Keeps.dram | apply Keeps.flash | apply Keeps.hostMem | apply Keeps.regs
    | apply Keeps.shadow | contradiction

theorem cacheDrop_keeps {s₀ s : State} (k : Nat) (hk : Keeps s₀ s) : Keeps s₀ (cacheDrop k s) := by
  unfold cacheDrop
  repeat' with_reducible first
    | assumption | intro _ | apply SMap.rising_filter | apply Memory.wf_filter | apply modFwd_keeps | apply mk_keeps
    | apply Keeps.pending | apply Keeps.dram | apply Keeps.flash | apply Keeps.hostMem | apply Keeps.regs | apply Keeps.shadow

theorem touch_keeps {s₀ s : State} (key : Nat) (hk : Keeps s₀ s) : Keeps s₀ (touch key s) := by
  unfold touch
  repeat' with_reducible first
    | assumption | intro _ | apply ite_keeps | split | apply lineHit_keeps | apply modFwd_keeps | refine okeeps_get (by assumption) ?_
    | refine opkeeps_get (by assumption) ?_ | refine pair_fst_keeps (by assumption) ?_ | refine pair_snd_keeps (by assumption) ?_
    | apply mk_keeps | apply Keeps.pending | apply Keeps.dram | apply Keeps.flash | apply Keeps.hostMem | apply Keeps.regs
    | apply Keeps.shadow | contradiction

theorem countUp_keeps {s₀ s : State} (o : Nat) (hk : Keeps s₀ s) : Keeps s₀ (countUp o s) := by
  unfold countUp
  repeat' with_reducible first
    | assumption | intro _ | apply foldl_keeps | apply modOwner_keeps | apply mk_keeps | apply Keeps.pending | apply Keeps.dram
    | apply Keeps.flash | apply Keeps.hostMem | apply Keeps.regs | apply Keeps.shadow

theorem countDown_keeps {s₀ s : State} (o : Nat) (hk : Keeps s₀ s) : Keeps s₀ (countDown o s) := by
  unfold countDown
  repeat' with_reducible first
    | assumption | intro _ | apply foldl_keeps | apply modOwner_keeps | apply mk_keeps | apply Keeps.pending | apply Keeps.dram
    | apply Keeps.flash | apply Keeps.hostMem | apply Keeps.regs | apply Keeps.shadow

theorem removeEntry_keeps {s₀ s : State} (key : Nat) (hk : Keeps s₀ s) : Keeps s₀ (removeEntry key s) := by
  unfold removeEntry
  repeat' with_reducible first
    | assumption | intro _ | apply ite_keeps | split | apply countDown_keeps | apply setEntry_keeps
    | refine okeeps_get (by assumption) ?_ | refine opkeeps_get (by assumption) ?_ | refine pair_fst_keeps (by assumption) ?_
    | refine pair_snd_keeps (by assumption) ?_ | contradiction

theorem queueLearn_keeps {s₀ s : State} (k : Nat) (r : LearnReq) (hk : Keeps s₀ s) : Keeps s₀ (queueLearn k r s) := by
  unfold queueLearn
  repeat' with_reducible first
    | assumption | intro _ | apply ite_keeps | apply modPart_keeps | apply raiseSec_keeps | apply sat_keeps | apply wrap_keeps
    | apply mk_keeps | apply Keeps.pending | apply Keeps.dram | apply Keeps.flash | apply Keeps.hostMem | apply Keeps.regs
    | apply Keeps.shadow

theorem sourceLookup_keeps {s₀ s0 : State} (k : Nat) (bd : Nat) (mac : Nat) (owner : Nat) (flow : Nat) (uplink : Nat) (dkind : Nat) (learn : Bool) (hk : Keeps s₀ s0) : Keeps s₀ (sourceLookup k bd mac owner flow uplink dkind learn s0).2 := by
  unfold sourceLookup
  repeat' with_reducible first
    | assumption | intro _ | extract_lets | apply ite_keeps | split | apply SMap.rising_filter | apply Memory.wf_filter
    | apply cacheLook_keeps | apply queueLearn_keeps | apply raiseSec_keeps | apply sat_keeps | apply touch_keeps | apply wr_keeps
    | refine okeeps_get (by assumption) ?_ | refine opkeeps_get (by assumption) ?_ | refine pair_fst_keeps (by assumption) ?_
    | refine pair_snd_keeps (by assumption) ?_ | (dsimp +zetaDelta only; split) | contradiction

theorem bucketFull_keeps {s₀ s : State} (k : Nat) (hk : Keeps s₀ s) : Keeps s₀ (bucketFull k s) := by
  unfold bucketFull
  repeat' with_reducible first
    | assumption | intro _ | apply raiseSec_keeps | apply sat_keeps

theorem victim_keeps {s₀ s : State} (k : Nat) (keys : List Nat) (hk : Keeps s₀ s) : Keeps s₀ (victim k keys s).2 := by
  unfold victim
  repeat' with_reducible first
    | assumption | intro _ | extract_lets | apply ite_keeps | split | apply foldl_keeps | apply SMap.rising_filter
    | apply Memory.wf_filter | apply draw_keeps

theorem freeSlot_keeps {s₀ s : State} (learn : Bool) (k : Nat) (b : Nat) (hk : Keeps s₀ s) : Keeps s₀ (freeSlot learn k b s).2 := by
  unfold freeSlot
  repeat' with_reducible first
    | assumption | intro _ | extract_lets | apply ite_keeps | apply fst_ite_keeps | apply snd_ite_keeps | split
    | apply bucketFull_keeps | apply raiseSec_keeps | apply removeEntry_keeps | apply sat_keeps | apply victim_keeps
    | refine okeeps_get (by assumption) ?_ | refine opkeeps_get (by assumption) ?_ | refine pair_fst_keeps (by assumption) ?_
    | refine pair_snd_keeps (by assumption) ?_ | (dsimp +zetaDelta only; split) | contradiction

theorem countMove_keeps {s₀ s : State} (k : Nat) (key : Nat) (e : BEntry) (hk : Keeps s₀ s) : Keeps s₀ (countMove k key e s) := by
  unfold countMove
  repeat' with_reducible first
    | assumption | intro _ | extract_lets | apply ite_keeps | apply raise_keeps | apply setEntry_keeps | apply wr_keeps
    | apply mk_keeps | apply Keeps.pending | apply Keeps.dram | apply Keeps.flash | apply Keeps.hostMem | apply Keeps.regs
    | apply Keeps.shadow

theorem commitLearn_keeps {s₀ s : State} (k : Nat) (mac : Nat) (bd : Nat) (owner : Nat) (flow : Nat) (uplink : Nat) (dkind : Nat) (hk : Keeps s₀ s) : Keeps s₀ (commitLearn k mac bd owner flow uplink dkind s) := by
  unfold commitLearn
  repeat' with_reducible first
    | assumption | intro _ | extract_lets | apply ite_keeps | apply fst_ite_keeps | apply snd_ite_keeps | split
    | apply SMap.rising_filter | apply Memory.wf_filter | apply bucketFull_keeps | apply countDown_keeps | apply countMove_keeps
    | apply countUp_keeps | apply freeSlot_keeps | apply raiseSec_keeps | apply sat_keeps | apply setEntry_keeps | apply touch_keeps
    | refine okeeps_get (by assumption) ?_ | refine opkeeps_get (by assumption) ?_ | refine pair_fst_keeps (by assumption) ?_
    | refine pair_snd_keeps (by assumption) ?_ | (dsimp +zetaDelta only; split) | apply mk_keeps | apply Keeps.pending
    | apply Keeps.dram | apply Keeps.flash | apply Keeps.hostMem | apply Keeps.regs | apply Keeps.shadow | contradiction

theorem dropNoFlow_keeps {s₀ s : State} (id : Nat) (hk : Keeps s₀ s) : Keeps s₀ (dropNoFlow id s) := by
  unfold dropNoFlow
  repeat' with_reducible first
    | assumption | intro _ | apply dropFrame_keeps | apply sat_keeps

theorem dropNoDomain_keeps {s₀ s : State} (id : Nat) (hk : Keeps s₀ s) : Keeps s₀ (dropNoDomain id s) := by
  unfold dropNoDomain
  repeat' with_reducible first
    | assumption | intro _ | apply dropFrame_keeps | apply sat_keeps

theorem dropDestMiss_keeps {s₀ s : State} (id : Nat) (hk : Keeps s₀ s) : Keeps s₀ (dropDestMiss id s) := by
  unfold dropDestMiss
  repeat' with_reducible first
    | assumption | intro _ | apply dropFrame_keeps | apply sat_keeps

theorem sendDown_keeps {s₀ s0 : State} (id : Nat) (flows : List Nat) (pass : Bool) (pol : Nat) (early : List Nat) (hk : Keeps s₀ s0) : Keeps s₀ (sendDown id flows pass pol early s0) := by
  unfold sendDown
  repeat' with_reducible first
    | assumption | intro _ | extract_lets | apply ite_keeps | apply fst_ite_keeps | apply snd_ite_keeps | split | apply foldl_keeps
    | apply foldl_fst_keeps | apply foldl_snd_keeps | apply repeat_keeps | apply SMap.rising_filter | apply Memory.wf_filter
    | apply cacheLook_keeps | apply dropDestMiss_keeps | apply enqueueDown_keeps | apply lineFlow_keeps | apply passId_keeps
    | apply policeUp_keeps | apply sat_keeps | apply setFlow_keeps | apply settleOwners_keeps | refine okeeps_get (by assumption) ?_
    | refine opkeeps_get (by assumption) ?_ | refine pair_fst_keeps (by assumption) ?_ | refine pair_snd_keeps (by assumption) ?_
    | (dsimp +zetaDelta only; split) | apply mk_keeps | apply Keeps.pending | apply Keeps.dram | apply Keeps.flash
    | apply Keeps.hostMem | apply Keeps.regs | apply Keeps.shadow | contradiction

theorem localTarget_keeps {s₀ s0 : State} (k : Nat) (dom : Nat) (bd : Nat) (f : Frame) (hk : Keeps s₀ s0) : Keeps s₀ (localTarget s0 k dom bd f).2 := by
  unfold localTarget
  repeat' with_reducible first
    | assumption | intro _ | extract_lets | apply ite_keeps | split | apply cacheLook_keeps | apply touch_keeps
    | refine okeeps_get (by assumption) ?_ | refine opkeeps_get (by assumption) ?_ | refine pair_fst_keeps (by assumption) ?_
    | refine pair_snd_keeps (by assumption) ?_ | (dsimp +zetaDelta only; split) | contradiction

theorem lookupUp_keeps {s₀ s0 : State} (id : Nat) (f : Frame) (hk : Keeps s₀ s0) : Keeps s₀ (lookupUp id f s0) := by
  unfold lookupUp
  repeat' with_reducible first
    | assumption | intro _ | extract_lets | apply ite_keeps | apply fst_ite_keeps | apply snd_ite_keeps | split | apply cacheLook_keeps
    | apply dropDestMiss_keeps | apply dropFrame_keeps | apply dropNoDomain_keeps | apply dropNoFlow_keeps | apply enqueueUp_keeps
    | apply lineFlow_keeps | apply localTarget_keeps | apply mirrorAt_keeps | apply passId_keeps | apply putFrame_keeps
    | apply sendDown_keeps | apply setFlow_keeps | apply sourceLookup_keeps | refine okeeps_get (by assumption) ?_
    | refine opkeeps_get (by assumption) ?_ | refine pair_fst_keeps (by assumption) ?_ | refine pair_snd_keeps (by assumption) ?_
    | (dsimp +zetaDelta only; split) | apply mk_keeps | apply Keeps.pending | apply Keeps.dram | apply Keeps.flash
    | apply Keeps.hostMem | apply Keeps.regs | apply Keeps.shadow | contradiction

theorem downTarget_keeps {s₀ s0 : State} (k : Nat) (dom : Nat) (bd : Nat) (f : Frame) (hk : Keeps s₀ s0) : Keeps s₀ (downTarget s0 k dom bd f).2 := by
  unfold downTarget
  repeat' with_reducible first
    | assumption | intro _ | extract_lets | apply ite_keeps | split | apply cacheLook_keeps | apply touch_keeps
    | refine okeeps_get (by assumption) ?_ | refine opkeeps_get (by assumption) ?_ | refine pair_fst_keeps (by assumption) ?_
    | refine pair_snd_keeps (by assumption) ?_ | (dsimp +zetaDelta only; split) | contradiction

theorem lookupDown_keeps {s₀ s : State} (id : Nat) (f : Frame) (hk : Keeps s₀ s) : Keeps s₀ (lookupDown id f s) := by
  unfold lookupDown
  repeat' with_reducible first
    | assumption | intro _ | extract_lets | apply ite_keeps | apply fst_ite_keeps | apply snd_ite_keeps | split
    | apply downTarget_keeps | apply dropDestMiss_keeps | apply dropFrame_keeps | apply dropNoDomain_keeps | apply sendDown_keeps
    | apply sourceLookup_keeps | refine okeeps_get (by assumption) ?_ | refine opkeeps_get (by assumption) ?_
    | refine pair_fst_keeps (by assumption) ?_ | refine pair_snd_keeps (by assumption) ?_ | (dsimp +zetaDelta only; split)
    | contradiction

theorem setHolding_keeps {s₀ s : State} (b : Bool) (hk : Keeps s₀ s) : Keeps s₀ (setHolding b s) := by
  unfold setHolding
  repeat' with_reducible first
    | assumption | intro _ | apply ite_keeps | apply raiseSec_keeps | apply wr_keeps

theorem fillSamples_keeps {s₀ s : State} (ns : List Nat) (fills : Nat) (hk : Keeps s₀ s) : Keeps s₀ (fillSamples ns fills s) := by
  unfold fillSamples
  repeat' with_reducible first
    | assumption | intro _ | apply foldl_keeps | apply histSample_keeps

theorem lookupFills_keeps {s₀ t : State} (brNs : List Nat) (flNs : List Nat) (f : Frame) (hk : Keeps s₀ t) : Keeps s₀ (lookupFills brNs flNs f s t) := by
  unfold lookupFills
  repeat' with_reducible first
    | assumption | intro _ | extract_lets | apply fillSamples_keeps

theorem frameLookup_keeps {s₀ s : State} (hold : Bool) (brNs : List Nat) (flNs : List Nat) (hk : Keeps s₀ s) : Keeps s₀ (frameLookup hold brNs flNs s) := by
  unfold frameLookup
  repeat' with_reducible first
    | assumption | intro _ | extract_lets | apply ite_keeps | split | apply SMap.rising_filter | apply Memory.wf_filter
    | apply lookupDown_keeps | apply lookupFills_keeps | apply lookupUp_keeps | apply modFwd_keeps | apply setHolding_keeps
    | refine okeeps_get (by assumption) ?_ | refine opkeeps_get (by assumption) ?_ | refine pair_fst_keeps (by assumption) ?_
    | refine pair_snd_keeps (by assumption) ?_ | (dsimp +zetaDelta only; split) | apply mk_keeps | apply Keeps.pending
    | apply Keeps.dram | apply Keeps.flash | apply Keeps.hostMem | apply Keeps.regs | apply Keeps.shadow | contradiction

theorem tblDone_keeps {s₀ s : State} (code : Nat) (hk : Keeps s₀ s) : Keeps s₀ (tblDone code s) := by
  unfold tblDone
  repeat' with_reducible first
    | assumption | intro _ | apply wr_keeps

theorem tblData_keeps {s₀ s : State} (w : List Nat) (hk : Keeps s₀ s) : Keeps s₀ (tblData w s) := by
  unfold tblData
  repeat' with_reducible first
    | assumption | intro _ | apply foldl_keeps | apply wr_keeps

theorem putEntry_keeps {s₀ s : State} (key : Nat) (e : BEntry) (hk : Keeps s₀ s) : Keeps s₀ (putEntry key e s) := by
  unfold putEntry
  repeat' with_reducible first
    | assumption | intro _ | extract_lets | apply ite_keeps | apply countUp_keeps | apply removeEntry_keeps | apply setEntry_keeps

theorem commitHost_keeps {s₀ s : State} (k : Nat) (table : Nat) (op : Nat) (key : Nat) (w : List Nat) (hk : Keeps s₀ s) : Keeps s₀ (commitHost k table op key w s) := by
  unfold commitHost
  repeat' with_reducible first
    | assumption | intro _ | extract_lets | apply ite_keeps | apply fst_ite_keeps | apply snd_ite_keeps | split | apply draw_keeps
    | apply freeSlot_keeps | apply putEntry_keeps | apply removeEntry_keeps | apply tblData_keeps | apply tblDone_keeps
    | refine okeeps_get (by assumption) ?_ | refine opkeeps_get (by assumption) ?_ | refine pair_fst_keeps (by assumption) ?_
    | refine pair_snd_keeps (by assumption) ?_ | (dsimp +zetaDelta only; split) | contradiction

theorem learnCommit_keeps {s₀ s : State} (k : Nat) (hk : Keeps s₀ s) : Keeps s₀ (learnCommit k s) := by
  unfold learnCommit
  repeat' with_reducible first
    | assumption | intro _ | extract_lets | apply ite_keeps | split | apply commitHost_keeps | apply commitLearn_keeps
    | apply modPart_keeps | apply wr_keeps | refine okeeps_get (by assumption) ?_ | refine opkeeps_get (by assumption) ?_
    | refine pair_fst_keeps (by assumption) ?_ | refine pair_snd_keeps (by assumption) ?_ | (dsimp +zetaDelta only; split)
    | apply mk_keeps | apply Keeps.pending | apply Keeps.dram | apply Keeps.flash | apply Keeps.hostMem | apply Keeps.regs
    | apply Keeps.shadow | contradiction

theorem writeFlow_keeps {s₀ s : State} (key : Nat) (clr : Bool) (w : List Nat) (hk : Keeps s₀ s) : Keeps s₀ (writeFlow key clr w s) := by
  unfold writeFlow
  repeat' with_reducible first
    | assumption | intro _ | extract_lets | apply ite_keeps | apply mirrorSend_keeps | apply modFlow_keeps | apply mk_keeps
    | apply Keeps.pending | apply Keeps.dram | apply Keeps.flash | apply Keeps.hostMem | apply Keeps.regs | apply Keeps.shadow

theorem writeOwner_keeps {s₀ s : State} (o : Nat) (wrCount : Bool) (w : Nat) (hk : Keeps s₀ s) : Keeps s₀ (writeOwner o wrCount w s) := by
  unfold writeOwner
  repeat' with_reducible first
    | assumption | intro _ | extract_lets | apply ite_keeps | apply modOwner_keeps | apply refuseCommit_keeps | apply mk_keeps
    | apply Keeps.pending | apply Keeps.dram | apply Keeps.flash | apply Keeps.hostMem | apply Keeps.regs | apply Keeps.shadow

theorem tblCmd_keeps {s₀ s : State} (table : Nat) (op : Nat) (key : Nat) (clr : Bool) (wrCount : Bool) (hk : Keeps s₀ s) : Keeps s₀ (tblCmd table op key clr wrCount s) := by
  unfold tblCmd
  repeat' with_reducible first
    | assumption | intro _ | extract_lets | apply ite_keeps | apply modFwd_keeps | apply modPart_keeps | apply tblData_keeps
    | apply tblDone_keeps | apply wr_keeps | apply writeFlow_keeps | apply writeOwner_keeps | apply mk_keeps | apply Keeps.pending
    | apply Keeps.dram | apply Keeps.flash | apply Keeps.hostMem | apply Keeps.regs | apply Keeps.shadow

theorem fwdCommit_keeps {s₀ s : State} (k : Nat) (hk : Keeps s₀ s) : Keeps s₀ (fwdCommit k s) := by
  unfold fwdCommit
  repeat' with_reducible first
    | assumption | intro _ | extract_lets | apply ite_keeps | apply fst_ite_keeps | apply snd_ite_keeps | split | apply modFwd_keeps
    | refine okeeps_get (by assumption) ?_ | refine opkeeps_get (by assumption) ?_ | refine pair_fst_keeps (by assumption) ?_
    | refine pair_snd_keeps (by assumption) ?_ | (dsimp +zetaDelta only; split) | apply mk_keeps | apply Keeps.pending
    | apply Keeps.dram | apply Keeps.flash | apply Keeps.hostMem | apply Keeps.regs | apply Keeps.shadow | contradiction

theorem ownerDefaults_keeps {s₀ s : State} (k : Nat) (tables : List (Nat × Nat × List Nat)) (hk : Keeps s₀ s) : Keeps s₀ (ownerDefaults k tables s) := by
  unfold ownerDefaults
  repeat' with_reducible first
    | assumption | intro _ | extract_lets | apply ite_keeps | apply fst_ite_keeps | apply snd_ite_keeps | apply foldl_keeps
    | apply foldl_fst_keeps | apply foldl_snd_keeps | apply SMap.rising_filter | apply Memory.wf_filter | apply modFwd_keeps
    | apply modOwner_keeps | apply mk_keeps | apply Keeps.pending | apply Keeps.dram | apply Keeps.flash | apply Keeps.hostMem
    | apply Keeps.regs | apply Keeps.shadow

theorem flushRange_keeps {s₀ s : State} (k : Nat) (owner : Nat) (lo : Nat) (hi : Nat) (hk : Keeps s₀ s) : Keeps s₀ (flushRange k owner lo hi s) := by
  unfold flushRange
  repeat' with_reducible first
    | assumption | intro _ | extract_lets | apply foldl_keeps | apply foldl_fst_keeps | apply foldl_snd_keeps
    | apply SMap.rising_filter | apply Memory.wf_filter | apply removeEntry_keeps

theorem flushTo_keeps {s₀ s : State} (k : Nat) (hi : Nat) (hk : Keeps s₀ s) : Keeps s₀ (flushTo k hi s) := by
  unfold flushTo
  repeat' with_reducible first
    | assumption | intro _ | split | apply flushRange_keeps | apply modPart_keeps | refine okeeps_get (by assumption) ?_
    | refine opkeeps_get (by assumption) ?_ | refine pair_fst_keeps (by assumption) ?_ | refine pair_snd_keeps (by assumption) ?_
    | apply mk_keeps | apply Keeps.pending | apply Keeps.dram | apply Keeps.flash | apply Keeps.hostMem | apply Keeps.regs
    | apply Keeps.shadow | contradiction

theorem flushTick_keeps {s₀ s : State} (hk : Keeps s₀ s) : Keeps s₀ (flushTick s) := by
  unfold flushTick
  repeat' with_reducible first
    | assumption | intro _ | apply ite_keeps | split | apply foldl_keeps | apply flushTo_keeps | refine okeeps_get (by assumption) ?_
    | refine opkeeps_get (by assumption) ?_ | refine pair_fst_keeps (by assumption) ?_ | refine pair_snd_keeps (by assumption) ?_
    | contradiction

theorem flushDone_keeps {s₀ s : State} (k : Nat) (hk : Keeps s₀ s) : Keeps s₀ (flushDone k s) := by
  unfold flushDone
  repeat' with_reducible first
    | assumption | intro _ | apply ite_keeps | apply flushTo_keeps | apply modPart_keeps | apply raise_keeps | apply wr_keeps
    | apply mk_keeps | apply Keeps.pending | apply Keeps.dram | apply Keeps.flash | apply Keeps.hostMem | apply Keeps.regs
    | apply Keeps.shadow

theorem churnEntry_keeps {s₀ s : State} (k : Nat) (key : Nat) (hk : Keeps s₀ s) : Keeps s₀ (churnEntry k key s) := by
  unfold churnEntry
  repeat' with_reducible first
    | assumption | intro _ | extract_lets | apply ite_keeps | split | apply draw_keeps | apply removeEntry_keeps | apply sat_keeps
    | apply setEntry_keeps | refine okeeps_get (by assumption) ?_ | refine opkeeps_get (by assumption) ?_
    | refine pair_fst_keeps (by assumption) ?_ | refine pair_snd_keeps (by assumption) ?_ | apply mk_keeps | apply Keeps.pending
    | apply Keeps.dram | apply Keeps.flash | apply Keeps.hostMem | apply Keeps.regs | apply Keeps.shadow | contradiction

theorem churnFlow_keeps {s₀ s : State} (k : Nat) (x : Nat) (hk : Keeps s₀ s) : Keeps s₀ (churnFlow k x s) := by
  unfold churnFlow
  repeat' with_reducible first
    | assumption | intro _ | extract_lets | apply ite_keeps | apply modFlow_keeps | apply mk_keeps | apply Keeps.pending
    | apply Keeps.dram | apply Keeps.flash | apply Keeps.hostMem | apply Keeps.regs | apply Keeps.shadow

theorem churnEnd_keeps {s₀ s : State} (k : Nat) (hk : Keeps s₀ s) : Keeps s₀ (churnEnd k s) := by
  unfold churnEnd
  repeat' with_reducible first
    | assumption | intro _ | apply ite_keeps | apply modPart_keeps | apply raise_keeps | apply wrap_keeps | apply mk_keeps
    | apply Keeps.pending | apply Keeps.dram | apply Keeps.flash | apply Keeps.hostMem | apply Keeps.regs | apply Keeps.shadow

theorem churnVisit_keeps {s₀ s : State} (k : Nat) (flow : Bool) (hk : Keeps s₀ s) : Keeps s₀ (churnVisit k flow s) := by
  unfold churnVisit
  repeat' with_reducible first
    | assumption | intro _ | extract_lets | apply ite_keeps | apply foldl_keeps | apply churnEnd_keeps | apply churnEntry_keeps
    | apply churnFlow_keeps | apply modFwd_keeps | apply modPart_keeps | apply wr_keeps | apply mk_keeps | apply Keeps.pending
    | apply Keeps.dram | apply Keeps.flash | apply Keeps.hostMem | apply Keeps.regs | apply Keeps.shadow

theorem fwdDrain_keeps {s₀ s : State} (k : Nat) (hk : Keeps s₀ s) : Keeps s₀ (fwdDrain k s) := by
  unfold fwdDrain
  repeat' with_reducible first
    | assumption | intro _ | extract_lets | apply ite_keeps | split | apply SMap.rising_filter | apply Memory.wf_filter
    | apply modPart_keeps | apply raiseSec_keeps | apply sat_keeps | apply tblDone_keeps | apply wr_keeps
    | refine okeeps_get (by assumption) ?_ | refine opkeeps_get (by assumption) ?_ | refine pair_fst_keeps (by assumption) ?_
    | refine pair_snd_keeps (by assumption) ?_ | (dsimp +zetaDelta only; split) | apply mk_keeps | apply Keeps.pending
    | apply Keeps.dram | apply Keeps.flash | apply Keeps.hostMem | apply Keeps.regs | apply Keeps.shadow | contradiction

theorem clearPart_keeps {s₀ s : State} (k : Nat) (hk : Keeps s₀ s) : Keeps s₀ (clearPart k s) := by
  unfold clearPart
  repeat' with_reducible first
    | assumption | intro _ | apply foldl_keeps | apply foldl_fst_keeps | apply SMap.rising_filter | apply Memory.wf_filter
    | apply removeEntry_keeps

theorem fwdLoading_keeps {s₀ s : State} (k : Nat) (old : TileDesc) (new : TileDesc) (hk : Keeps s₀ s) : Keeps s₀ (fwdLoading k old new s) := by
  unfold fwdLoading
  repeat' with_reducible first
    | assumption | intro _ | apply ite_keeps | apply clearPart_keeps

theorem fwdJoined_keeps {s₀ s : State} (k : Nat) (hk : Keeps s₀ s) : Keeps s₀ (fwdJoined k s) := by
  unfold fwdJoined
  repeat' with_reducible first
    | assumption | intro _ | extract_lets | apply cacheDrop_keeps | apply churnFlow_keeps | apply modPart_keeps | apply wr_keeps
    | apply mk_keeps | apply Keeps.pending | apply Keeps.dram | apply Keeps.flash | apply Keeps.hostMem | apply Keeps.regs
    | apply Keeps.shadow

theorem fwdTick_keeps {s₀ s : State} (hk : Keeps s₀ s) : Keeps s₀ (fwdTick s) := by
  unfold fwdTick
  repeat' with_reducible first
    | assumption | intro _ | extract_lets | apply ite_keeps | apply foldl_keeps | apply flushTick_keeps | apply modFwd_keeps
    | apply sat_keeps | apply mk_keeps | apply Keeps.pending | apply Keeps.dram | apply Keeps.flash | apply Keeps.hostMem
    | apply Keeps.regs | apply Keeps.shadow

theorem fwdSecond_keeps {s₀ s : State} (hk : Keeps s₀ s) : Keeps s₀ (fwdSecond s) := by
  unfold fwdSecond
  repeat' with_reducible first
    | assumption | intro _ | apply modFwd_keeps | apply wr_keeps | apply mk_keeps | apply Keeps.pending | apply Keeps.dram
    | apply Keeps.flash | apply Keeps.hostMem | apply Keeps.regs | apply Keeps.shadow

theorem fwdEcc_keeps {s₀ s : State} (addr : Nat) (hk : Keeps s₀ s) : Keeps s₀ (fwdEcc addr s) := by
  unfold fwdEcc
  repeat' with_reducible first
    | assumption | intro _ | extract_lets | split | apply raise_keeps | apply sat_keeps | apply setEntry_keeps | apply wr_keeps
    | refine okeeps_get (by assumption) ?_ | refine opkeeps_get (by assumption) ?_ | refine pair_fst_keeps (by assumption) ?_
    | refine pair_snd_keeps (by assumption) ?_ | (dsimp +zetaDelta only; split) | apply mk_keeps | apply Keeps.pending
    | apply Keeps.dram | apply Keeps.flash | apply Keeps.hostMem | apply Keeps.regs | apply Keeps.shadow | contradiction

end Sys2Proof.Machine
end

