-- ==== Sys2Proof/Laws/KeepsCipher.lean ====
section
/-! SUPPORT. Laws/KeepsCipher.lean: every operation of Machine/Cipher.lean keeps the queue of commands and the canonical forms (Keeps). -/
namespace Sys2Proof.Machine

theorem modKey_keeps {s₀ s : State} (k : Nat) (g : KeySlot → KeySlot) (hk : Keeps s₀ s) : Keeps s₀ (State.modKey k g s) := by
  unfold State.modKey
  repeat' with_reducible first
    | assumption | intro _ | apply SMap.rising_put | apply SMap.rising_foldl | apply modCph_keeps | apply mk_keeps
    | apply Keeps.pending | apply Keeps.dram | apply Keeps.flash | apply Keeps.hostMem | apply Keeps.regs | apply Keeps.shadow

theorem modKterm_keeps {s₀ s : State} (x : Nat) (g : KeyTerm → KeyTerm) (hk : Keeps s₀ s) : Keeps s₀ (State.modKterm x g s) := by
  unfold State.modKterm
  repeat' with_reducible first
    | assumption | intro _ | apply SMap.rising_put | apply SMap.rising_foldl | apply modCph_keeps | apply mk_keeps
    | apply Keeps.pending | apply Keeps.dram | apply Keeps.flash | apply Keeps.hostMem | apply Keeps.regs | apply Keeps.shadow

theorem laneTick_keeps {s₀ s : State} (hk : Keeps s₀ s) : Keeps s₀ (laneTick s) := by
  unfold laneTick
  repeat' with_reducible first
    | assumption | intro _ | extract_lets | apply modCph_keeps | apply showLanes_keeps | apply wr_keeps | apply mk_keeps
    | apply Keeps.pending | apply Keeps.dram | apply Keeps.flash | apply Keeps.hostMem | apply Keeps.regs | apply Keeps.shadow

theorem laneSecond_keeps {s₀ s : State} (hk : Keeps s₀ s) : Keeps s₀ (laneSecond s) := by
  unfold laneSecond
  repeat' with_reducible first
    | assumption | intro _ | apply modCph_keeps | apply showLanes_keeps | apply mk_keeps | apply Keeps.pending | apply Keeps.dram
    | apply Keeps.flash | apply Keeps.hostMem | apply Keeps.regs | apply Keeps.shadow

theorem showResult_keeps {s₀ s : State} (hk : Keeps s₀ s) : Keeps s₀ (showResult s) := by
  unfold showResult
  repeat' with_reducible first
    | assumption | intro _ | extract_lets | apply wr_keeps

theorem pushResult_keeps {s₀ s : State} (r : HostResult) (hk : Keeps s₀ s) : Keeps s₀ (pushResult r s) := by
  unfold pushResult
  repeat' with_reducible first
    | assumption | intro _ | apply modCph_keeps | apply raise_keeps | apply showResult_keeps | apply mk_keeps | apply Keeps.pending
    | apply Keeps.dram | apply Keeps.flash | apply Keeps.hostMem | apply Keeps.regs | apply Keeps.shadow

theorem readResult_keeps {s₀ s : State} (p : Path) (hk : Keeps s₀ s) : Keeps s₀ (readResult p s) := by
  unfold readResult
  repeat' with_reducible first
    | assumption | intro _ | extract_lets | split | apply answer_keeps | apply modCph_keeps | apply showResult_keeps | apply wr_keeps
    | refine okeeps_get (by assumption) ?_ | refine opkeeps_get (by assumption) ?_ | refine pair_fst_keeps (by assumption) ?_
    | refine pair_snd_keeps (by assumption) ?_ | apply mk_keeps | apply Keeps.pending | apply Keeps.dram | apply Keeps.flash
    | apply Keeps.hostMem | apply Keeps.regs | apply Keeps.shadow | contradiction

theorem dropCopy_keeps {s₀ s : State} (id : Nat) (tag : Nat) (hk : Keeps s₀ s) : Keeps s₀ (dropCopy id tag s) := by
  unfold dropCopy
  repeat' with_reducible first
    | assumption | intro _ | apply ite_keeps | apply cellFree_keeps | apply endFollowed_keeps | apply when_keeps

theorem importEnds_keeps {s₀ s : State} (code : Nat) (hk : Keeps s₀ s) : Keeps s₀ (importEnds code s) := by
  unfold importEnds
  repeat' with_reducible first
    | assumption | intro _ | extract_lets | apply ite_keeps | apply foldl_keeps | apply modCph_keeps | apply raise_keeps
    | apply sat_keeps | apply wr_keeps | apply mk_keeps | apply Keeps.pending | apply Keeps.dram | apply Keeps.flash
    | apply Keeps.hostMem | apply Keeps.regs | apply Keeps.shadow

theorem refuseReq_keeps {s₀ s : State} (code : Nat) (r : CipherReq) (hk : Keeps s₀ s) : Keeps s₀ (refuseReq code r s) := by
  unfold refuseReq
  repeat' with_reducible first
    | assumption | intro _ | extract_lets | apply ite_keeps | apply SMap.rising_filter | apply Memory.wf_filter | apply SMap.rising_put
    | apply SMap.rising_foldl | apply dropCopy_keeps | apply dropFrame_keeps | apply importEnds_keeps | apply modTmg_keeps
    | apply pushResult_keeps | apply raiseSec_keeps | apply sat_keeps | apply setDefect_keeps | apply wrap_keeps | apply mk_keeps
    | apply Keeps.pending | apply Keeps.dram | apply Keeps.flash | apply Keeps.hostMem | apply Keeps.regs | apply Keeps.shadow

theorem payloadDone_keeps {s₀ s : State} (n : Nat) (id : Nat) (tag : Nat) (hk : Keeps s₀ s) : Keeps s₀ (payloadDone n id tag s) := by
  unfold payloadDone
  repeat' with_reducible first
    | assumption | intro _ | extract_lets | apply ite_keeps | apply SMap.rising_put | apply SMap.rising_foldl | apply modTmg_keeps
    | apply passCopy_keeps | apply mk_keeps | apply Keeps.pending | apply Keeps.dram | apply Keeps.flash | apply Keeps.hostMem
    | apply Keeps.regs | apply Keeps.shadow

theorem countUse_keeps {s₀ s : State} (r : CipherRun) (hk : Keeps s₀ s) : Keeps s₀ (countUse r s) := by
  unfold countUse
  repeat' with_reducible first
    | assumption | intro _ | extract_lets | apply ite_keeps | apply modKey_keeps | apply raise_keeps | apply when_keeps
    | apply wr_keeps | apply mk_keeps | apply Keeps.pending | apply Keeps.dram | apply Keeps.flash | apply Keeps.hostMem
    | apply Keeps.regs | apply Keeps.shadow

theorem hostDone_keeps {s₀ s : State} (r : CipherRun) (hk : Keeps s₀ s) : Keeps s₀ (hostDone r s) := by
  unfold hostDone
  repeat' with_reducible first
    | assumption | intro _ | extract_lets | split | apply dramGet_keeps | apply dramPut_keeps | apply pushResult_keeps
    | refine okeeps_get (by assumption) ?_ | refine opkeeps_get (by assumption) ?_ | refine pair_fst_keeps (by assumption) ?_
    | refine pair_snd_keeps (by assumption) ?_ | (dsimp +zetaDelta only; split) | contradiction

theorem sendDequeued_keeps {s₀ s : State} (n : Nat) (id : Nat) (flow : Nat) (tag : Nat) (pass : Nat) (hk : Keeps s₀ s) : Keeps s₀ (sendDequeued n id flow tag pass s) := by
  unfold sendDequeued
  repeat' with_reducible first
    | assumption | intro _ | extract_lets | split | apply SMap.rising_put | apply SMap.rising_foldl | apply modCph_keeps
    | apply modTmg_keeps | apply payloadDone_keeps | refine okeeps_get (by assumption) ?_ | refine opkeeps_get (by assumption) ?_
    | refine pair_fst_keeps (by assumption) ?_ | refine pair_snd_keeps (by assumption) ?_ | (dsimp +zetaDelta only; split)
    | apply mk_keeps | apply Keeps.pending | apply Keeps.dram | apply Keeps.flash | apply Keeps.hostMem | apply Keeps.regs
    | apply Keeps.shadow | contradiction

theorem prefetch_keeps {s₀ s : State} (n : Nat) (budget : Nat) (hk : Keeps s₀ s) : Keeps s₀ (prefetch n budget s) := by
  unfold prefetch
  repeat' with_reducible first
    | assumption | intro _ | extract_lets | apply ite_keeps | apply fillFrame_keeps | apply modCph_keeps | apply sendDequeued_keeps
    | apply when_keeps | apply mk_keeps | apply Keeps.pending | apply Keeps.dram | apply Keeps.flash | apply Keeps.hostMem
    | apply Keeps.regs | apply Keeps.shadow

theorem requeue_keeps {s₀ s : State} (n : Nat) (e : OutFrame) (hk : Keeps s₀ s) : Keeps s₀ (requeue n e s) := by
  unfold requeue
  repeat' with_reducible first
    | assumption | intro _ | extract_lets | apply chargeSent_keeps | apply modQueue_keeps | apply mk_keeps | apply Keeps.pending
    | apply Keeps.dram | apply Keeps.flash | apply Keeps.hostMem | apply Keeps.regs | apply Keeps.shadow

theorem missFrame_keeps {s₀ s : State} (n : Nat) (l : List OutFrame) (hk : Keeps s₀ s) : Keeps s₀ (missFrame n l s) := by
  unfold missFrame
  repeat' with_reducible first
    | assumption | intro _ | extract_lets | apply ite_keeps | apply foldr_keeps | apply SMap.rising_filter | apply Memory.wf_filter
    | apply modCph_keeps | apply requeue_keeps | apply mk_keeps | apply Keeps.pending | apply Keeps.dram | apply Keeps.flash
    | apply Keeps.hostMem | apply Keeps.regs | apply Keeps.shadow

theorem loadPayload_keeps {s₀ s : State} (n : Nat) (hk : Keeps s₀ s) : Keeps s₀ (loadPayload n s) := by
  unfold loadPayload
  repeat' with_reducible first
    | assumption | intro _ | extract_lets | apply ite_keeps | apply fst_ite_keeps | apply snd_ite_keeps | apply foldl_keeps
    | apply foldl_fst_keeps | apply foldl_snd_keeps | apply SMap.rising_filter | apply Memory.wf_filter | apply SMap.rising_put
    | apply SMap.rising_foldl | apply missFrame_keeps | apply modTTree_keeps | apply modTmg_keeps | apply modTree_keeps
    | apply mk_keeps | apply Keeps.pending | apply Keeps.dram | apply Keeps.flash | apply Keeps.hostMem | apply Keeps.regs
    | apply Keeps.shadow

theorem frameOut_keeps {s₀ s : State} (n : Nat) (idle : Nat) (short : Bool) (hk : Keeps s₀ s) : Keeps s₀ (frameOut n idle short s) := by
  unfold frameOut
  repeat' with_reducible first
    | assumption | intro _ | extract_lets | apply ite_keeps | apply handOff_keeps | apply loadPayload_keeps

theorem outTick_keeps {s₀ s : State} (n : Nat) (hk : Keeps s₀ s) : Keeps s₀ (outTick n s) := by
  unfold outTick
  repeat' with_reducible first
    | assumption | intro _ | extract_lets | apply ite_keeps | apply foldl_keeps | apply SMap.rising_del | apply countUnderrun_keeps
    | apply endFollowed_keeps | apply missFrame_keeps | apply modTmg_keeps | apply oweFree_keeps | apply passCopy_keeps
    | apply when_keeps | apply mk_keeps | apply Keeps.pending | apply Keeps.dram | apply Keeps.flash | apply Keeps.hostMem
    | apply Keeps.regs | apply Keeps.shadow

theorem hostReq_keeps {s₀ s : State} (mode : Nat) (decrypt : Bool) (a : Nat) (tag : Nat) (len : Nat) (hk : Keeps s₀ s) : Keeps s₀ (hostReq mode decrypt a tag len s) := by
  unfold hostReq
  repeat' with_reducible first
    | assumption | intro _ | extract_lets | apply ite_keeps | apply SMap.rising_filter | apply Memory.wf_filter | apply SMap.rising_put
    | apply SMap.rising_foldl | apply modCph_keeps | apply refuseReq_keeps | apply wr_keeps | apply mk_keeps | apply Keeps.pending
    | apply Keeps.dram | apply Keeps.flash | apply Keeps.hostMem | apply Keeps.regs | apply Keeps.shadow

theorem takeKey_keeps {s₀ s : State} (k : Nat) (key : List Nat) (data : Bool) (sfc : Nat) (hk : Keeps s₀ s) : Keeps s₀ (takeKey k key data sfc s) := by
  unfold takeKey
  repeat' with_reducible first
    | assumption | intro _ | apply mirrorSend_keeps | apply modKey_keeps | apply mk_keeps | apply Keeps.pending | apply Keeps.dram
    | apply Keeps.flash | apply Keeps.hostMem | apply Keeps.regs | apply Keeps.shadow

theorem keyActive_keeps {s₀ s : State} (hk : Keeps s₀ s) : Keeps s₀ (keyActive s) := by
  unfold keyActive
  repeat' with_reducible first
    | assumption | intro _ | apply ite_keeps | apply modCph_keeps | apply raise_keeps | apply mk_keeps | apply Keeps.pending
    | apply Keeps.dram | apply Keeps.flash | apply Keeps.hostMem | apply Keeps.regs | apply Keeps.shadow

theorem dueImports_keeps {s₀ s : State} (hk : Keeps s₀ s) : Keeps s₀ (dueImports s) := by
  unfold dueImports
  repeat' with_reducible first
    | assumption | intro _ | apply ite_keeps | apply fst_ite_keeps | apply snd_ite_keeps | apply foldl_keeps | apply foldl_fst_keeps
    | apply foldl_snd_keeps | apply keyActive_keeps | apply modCph_keeps | apply modKterm_keeps | apply takeKey_keeps | apply mk_keeps
    | apply Keeps.pending | apply Keeps.dram | apply Keeps.flash | apply Keeps.hostMem | apply Keeps.regs | apply Keeps.shadow

theorem boundary_keeps {s₀ s : State} (n : Nat) (hk : Keeps s₀ s) : Keeps s₀ (boundary n s) := by
  unfold boundary
  repeat' with_reducible first
    | assumption | intro _ | extract_lets | apply ite_keeps | apply fst_ite_keeps | apply snd_ite_keeps | split | apply foldl_keeps
    | apply foldl_fst_keeps | apply foldl_snd_keeps | apply SMap.rising_filter | apply Memory.wf_filter | apply keyActive_keeps
    | apply mirrorSend_keeps | apply modCph_keeps | apply takeKey_keeps | refine okeeps_get (by assumption) ?_
    | refine opkeeps_get (by assumption) ?_ | refine pair_fst_keeps (by assumption) ?_ | refine pair_snd_keeps (by assumption) ?_
    | (dsimp +zetaDelta only; split) | apply mk_keeps | apply Keeps.pending | apply Keeps.dram | apply Keeps.flash
    | apply Keeps.hostMem | apply Keeps.regs | apply Keeps.shadow | contradiction

theorem bindApply_keeps {s₀ s : State} (b : Nat) (w : Nat) (hk : Keeps s₀ s) : Keeps s₀ (bindApply b w s) := by
  unfold bindApply
  repeat' with_reducible first
    | assumption | intro _ | extract_lets | apply ite_keeps | apply SMap.rising_put | apply SMap.rising_foldl | apply SMap.rising_del
    | apply modCph_keeps | apply mk_keeps | apply Keeps.pending | apply Keeps.dram | apply Keeps.flash | apply Keeps.hostMem
    | apply Keeps.regs | apply Keeps.shadow

theorem cphTick_keeps {s₀ s : State} (hk : Keeps s₀ s) : Keeps s₀ (cphTick s) := by
  unfold cphTick
  repeat' with_reducible first
    | assumption | intro _ | extract_lets | apply foldl_keeps | apply foldl_fst_keeps | apply foldl_snd_keeps
    | apply SMap.rising_filter | apply Memory.wf_filter | apply bindApply_keeps | apply boundary_keeps | apply dueImports_keeps
    | apply laneTick_keeps | apply modCph_keeps | apply mk_keeps | apply Keeps.pending | apply Keeps.dram | apply Keeps.flash
    | apply Keeps.hostMem | apply Keeps.regs | apply Keeps.shadow

theorem startImport_keeps {s₀ s : State} (typ : Nat) (slot : Nat) (wrap : Nat) (data : Bool) (hk : Keeps s₀ s) : Keeps s₀ (startImport typ slot wrap data s) := by
  unfold startImport
  repeat' with_reducible first
    | assumption | intro _ | apply ite_keeps | apply modCph_keeps | apply wr_keeps | apply wrap_keeps | apply mk_keeps
    | apply Keeps.pending | apply Keeps.dram | apply Keeps.flash | apply Keeps.hostMem | apply Keeps.regs | apply Keeps.shadow

theorem stageKey_keeps {s₀ s : State} (k : Nat) (key : List Nat) (hk : Keeps s₀ s) : Keeps s₀ (stageKey k key s) := by
  unfold stageKey
  repeat' with_reducible first
    | assumption | intro _ | apply ite_keeps | apply modKey_keeps | apply mk_keeps | apply Keeps.pending | apply Keeps.dram
    | apply Keeps.flash | apply Keeps.hostMem | apply Keeps.regs | apply Keeps.shadow

theorem finishImport_keeps {s₀ s : State} (key : List Nat) (hk : Keeps s₀ s) : Keeps s₀ (finishImport key s) := by
  unfold finishImport
  repeat' with_reducible first
    | assumption | intro _ | extract_lets | apply ite_keeps | apply fst_ite_keeps | apply snd_ite_keeps | split
    | apply importEnds_keeps | apply modCph_keeps | apply raise_keeps | apply setDefect_keeps | apply stageKey_keeps
    | refine okeeps_get (by assumption) ?_ | refine opkeeps_get (by assumption) ?_ | refine pair_fst_keeps (by assumption) ?_
    | refine pair_snd_keeps (by assumption) ?_ | apply mk_keeps | apply Keeps.pending | apply Keeps.dram | apply Keeps.flash
    | apply Keeps.hostMem | apply Keeps.regs | apply Keeps.shadow | contradiction

theorem reportRefused_keeps {s₀ s : State} (hk : Keeps s₀ s) : Keeps s₀ (reportRefused s) := by
  unfold reportRefused
  repeat' with_reducible first
    | assumption | intro _ | apply raise_keeps | apply sat_keeps

theorem keyReport_keeps {s₀ s : State} (n : Nat) (term : Nat) (index : Nat) (body : List Nat) (w : Win) (hk : Keeps s₀ s) : Keeps s₀ (keyReport n term index body w s).2 := by
  unfold keyReport
  repeat' with_reducible first
    | assumption | intro _ | extract_lets | apply ite_keeps | apply fst_ite_keeps | split | apply modCph_keeps | apply modKterm_keeps
    | apply reportRefused_keeps | apply mk_keeps | apply Keeps.pending | apply Keeps.dram | apply Keeps.flash | apply Keeps.hostMem
    | apply Keeps.regs | apply Keeps.shadow

theorem reportLost_keeps {s₀ s : State} (n : Nat) (term : Nat) (w : Win) (hk : Keeps s₀ s) : Keeps s₀ (reportLost n term w s) := by
  unfold reportLost
  repeat' with_reducible first
    | assumption | intro _ | apply countWithin_keeps | apply reportRefused_keeps | apply setDefect_keeps

theorem reportDone_keeps {s₀ s : State} (n : Nat) (term : Nat) (index : Nat) (field : List Nat) (w : Win) (key : List Nat) (hk : Keeps s₀ s) : Keeps s₀ (reportDone n term index field w key s) := by
  unfold reportDone
  repeat' with_reducible first
    | assumption | intro _ | extract_lets | apply ite_keeps | apply reportLost_keeps | apply setDefect_keeps | apply stageKey_keeps

theorem endBarred_keeps {s₀ s : State} (r : CipherReq) (hk : Keeps s₀ s) : Keeps s₀ (endBarred r s) := by
  unfold endBarred
  repeat' with_reducible first
    | assumption | intro _ | split | apply finishImport_keeps | apply reportLost_keeps | refine okeeps_get (by assumption) ?_
    | refine opkeeps_get (by assumption) ?_ | refine pair_fst_keeps (by assumption) ?_ | refine pair_snd_keeps (by assumption) ?_
    | contradiction

theorem takeLane_keeps {s₀ s : State} (r : CipherReq) (hk : Keeps s₀ s) : Keeps s₀ (takeLane r s) := by
  unfold takeLane
  repeat' with_reducible first
    | assumption | intro _ | extract_lets | apply ite_keeps | apply fst_ite_keeps | split | apply modCph_keeps | apply modTree_keeps
    | refine okeeps_get (by assumption) ?_ | refine opkeeps_get (by assumption) ?_ | refine pair_fst_keeps (by assumption) ?_
    | refine pair_snd_keeps (by assumption) ?_ | (dsimp +zetaDelta only; split) | apply mk_keeps | apply Keeps.pending
    | apply Keeps.dram | apply Keeps.flash | apply Keeps.hostMem | apply Keeps.regs | apply Keeps.shadow | contradiction

theorem startReq_keeps {s₀ s : State} (hk : Keeps s₀ s) : Keeps s₀ (startReq s) := by
  unfold startReq
  repeat' with_reducible first
    | assumption | intro _ | extract_lets | apply ite_keeps | split | apply endBarred_keeps | apply modCph_keeps
    | apply refuseReq_keeps | apply takeLane_keeps | apply wr_keeps | refine okeeps_get (by assumption) ?_
    | refine opkeeps_get (by assumption) ?_ | refine pair_fst_keeps (by assumption) ?_ | refine pair_snd_keeps (by assumption) ?_
    | apply mk_keeps | apply Keeps.pending | apply Keeps.dram | apply Keeps.flash | apply Keeps.hostMem | apply Keeps.regs
    | apply Keeps.shadow | contradiction

theorem doneReq_keeps {s₀ s : State} (i : Nat) (hk : Keeps s₀ s) : Keeps s₀ (doneReq i s) := by
  unfold doneReq
  repeat' with_reducible first
    | assumption | intro _ | extract_lets | apply ite_keeps | split | apply countUse_keeps | apply finishImport_keeps
    | apply hostDone_keeps | apply modCph_keeps | apply modFwd_keeps | apply passId_keeps | apply payloadDone_keeps
    | apply putFrame_keeps | apply reportDone_keeps | apply setDefect_keeps | apply showLanes_keeps
    | refine okeeps_get (by assumption) ?_ | refine opkeeps_get (by assumption) ?_ | refine pair_fst_keeps (by assumption) ?_
    | refine pair_snd_keeps (by assumption) ?_ | (dsimp +zetaDelta only; split) | apply mk_keeps | apply Keeps.pending
    | apply Keeps.dram | apply Keeps.flash | apply Keeps.hostMem | apply Keeps.regs | apply Keeps.shadow | contradiction

theorem endImport_keeps {s₀ s : State} (hk : Keeps s₀ s) : Keeps s₀ (endImport s) := by
  unfold endImport
  repeat' with_reducible first
    | assumption | intro _ | split | apply doneReq_keeps | refine okeeps_get (by assumption) ?_ | refine opkeeps_get (by assumption) ?_
    | refine pair_fst_keeps (by assumption) ?_ | refine pair_snd_keeps (by assumption) ?_ | contradiction

theorem eraseSlot_keeps {s₀ s : State} (k : Nat) (session : Bool) (hk : Keeps s₀ s) : Keeps s₀ (eraseSlot k session s) := by
  unfold eraseSlot
  repeat' with_reducible first
    | assumption | intro _ | extract_lets | apply ite_keeps | apply fst_ite_keeps | apply SMap.rising_filter | apply Memory.wf_filter
    | apply modCph_keeps | apply modKey_keeps | apply wr_keeps | apply mk_keeps | apply Keeps.pending | apply Keeps.dram
    | apply Keeps.flash | apply Keeps.hostMem | apply Keeps.regs | apply Keeps.shadow

theorem zeroizeSlot_keeps {s₀ s : State} (k : Nat) (hk : Keeps s₀ s) : Keeps s₀ (zeroizeSlot k s) := by
  unfold zeroizeSlot
  repeat' with_reducible first
    | assumption | intro _ | extract_lets | apply ite_keeps | apply modKey_keeps | apply modKterm_keeps | apply raise_keeps
    | apply mk_keeps | apply Keeps.pending | apply Keeps.dram | apply Keeps.flash | apply Keeps.hostMem | apply Keeps.regs
    | apply Keeps.shadow

theorem zeroizePrev_keeps {s₀ s : State} (k : Nat) (hk : Keeps s₀ s) : Keeps s₀ (zeroizePrev k s) := by
  unfold zeroizePrev
  repeat' with_reducible first
    | assumption | intro _ | apply ite_keeps | split | apply modKey_keeps | refine okeeps_get (by assumption) ?_
    | refine opkeeps_get (by assumption) ?_ | refine pair_fst_keeps (by assumption) ?_ | refine pair_snd_keeps (by assumption) ?_
    | apply mk_keeps | apply Keeps.pending | apply Keeps.dram | apply Keeps.flash | apply Keeps.hostMem | apply Keeps.regs
    | apply Keeps.shadow | contradiction

theorem zeroizeAll_keeps {s₀ s : State} (hk : Keeps s₀ s) : Keeps s₀ (zeroizeAll s) := by
  unfold zeroizeAll
  repeat' with_reducible first
    | assumption | intro _ | apply ite_keeps | apply fst_ite_keeps | apply snd_ite_keeps | apply SMap.rising_filter
    | apply Memory.wf_filter | apply modCph_keeps | apply mk_keeps | apply Keeps.pending | apply Keeps.dram | apply Keeps.flash
    | apply Keeps.hostMem | apply Keeps.regs | apply Keeps.shadow

theorem rootSlots_keeps {s₀ s : State} (hk : Keeps s₀ s) : Keeps s₀ (rootSlots s) := by
  unfold rootSlots
  repeat' with_reducible first
    | assumption | intro _ | apply ite_keeps | apply foldl_keeps | apply takeKey_keeps

theorem termCmd_keeps {s₀ s : State} (op : Nat) (x : Nat) (index : Nat) (hk : Keeps s₀ s) : Keeps s₀ (termCmd op x index s) := by
  unfold termCmd
  repeat' with_reducible first
    | assumption | intro _ | extract_lets | apply ite_keeps | apply modKterm_keeps | apply queueMsg_keeps | apply wr_keeps
    | apply mk_keeps | apply Keeps.pending | apply Keeps.dram | apply Keeps.flash | apply Keeps.hostMem | apply Keeps.regs
    | apply Keeps.shadow

theorem writeBind_keeps {s₀ s : State} (b : Nat) (w : Nat) (hk : Keeps s₀ s) : Keeps s₀ (writeBind b w s) := by
  unfold writeBind
  repeat' with_reducible first
    | assumption | intro _ | extract_lets | apply ite_keeps | apply modCph_keeps | apply raiseSec_keeps | apply wr_keeps
    | apply mk_keeps | apply Keeps.pending | apply Keeps.dram | apply Keeps.flash | apply Keeps.hostMem | apply Keeps.regs
    | apply Keeps.shadow

end Sys2Proof.Machine
end

