-- ==== Sys2Proof/Laws/KeepsUpstream.lean ====
section
/-! SUPPORT. Laws/KeepsUpstream.lean: every operation of Machine/Upstream.lean keeps the queue of commands and the canonical forms (Keeps). -/
namespace Sys2Proof.Machine

theorem resolve_keeps {s₀ s : State} (n : Nat) (w : Win) (l : List DelimMatch) (hk : Keeps s₀ s) :
    Keeps s₀ (resolve n w l s).2 := by
  induction l generalizing s with
  | nil => exact hk
  | cons c r ih =>
    unfold resolve
    repeat' with_reducible first
      | assumption | split | apply ih | apply winPm_keeps | apply winAdd_keeps

theorem takeStamp_keeps {s₀ s : State} (n : Nat) (w : Win) (a : Int) (term : Nat) (hk : Keeps s₀ s) : Keeps s₀ (takeStamp n w a term s) := by
  unfold takeStamp
  repeat' with_reducible first
    | assumption | intro _ | apply wr_keeps

theorem noteAmbiguous_keeps {s₀ s : State} (n : Nat) (w : Win) (c : DelimMatch) (k : Nat) (hk : Keeps s₀ s) : Keeps s₀ (noteAmbiguous n w c k s) := by
  unfold noteAmbiguous
  repeat' with_reducible first
    | assumption | intro _ | extract_lets | apply raiseSec_keeps | apply winAdd_keeps | apply wr_keeps

theorem confirmBurst_keeps {s₀ s : State} (n : Nat) (w : Win) (c : DelimMatch) (byFec : Bool) (k : Nat) (hk : Keeps s₀ s) : Keeps s₀ (confirmBurst n w c byFec k s) := by
  unfold confirmBurst
  repeat' with_reducible first
    | assumption | intro _ | extract_lets | apply ite_keeps | apply burstSeen_keeps | apply gasp_keeps | apply modWin_keeps
    | apply noteAmbiguous_keeps | apply ranged_keeps | apply sample_keeps | apply takeStamp_keeps | apply when_keeps
    | apply winAdd_keeps | apply winPm_keeps | apply mk_keeps | apply Keeps.pending | apply Keeps.dram | apply Keeps.flash
    | apply Keeps.hostMem | apply Keeps.regs | apply Keeps.shadow

theorem discover_keeps {s₀ s : State} (n : Nat) (w : Win) (k : Nat) (l : List DelimMatch) (got : Nat) (hk : Keeps s₀ s) :
    Keeps s₀ (discover n w k l got s) := by
  induction k generalizing s l got with
  | zero => unfold discover; exact hk
  | succ k ih =>
    cases l with
    | nil => exact hk
    | cons m r =>
      unfold discover
      repeat' with_reducible first
        | assumption | extract_lets | apply ite_keeps | apply ih | apply modTree_keeps | apply modWin_keeps | apply takeStamp_keeps
        | apply winAdd_keeps

theorem injectBurst_keeps {s₀ s : State} (n : Nat) (term : Nat) (selected : Bool) (hk : Keeps s₀ s) : Keeps s₀ (injectBurst n term selected s).2 := by
  unfold injectBurst
  repeat' with_reducible first
    | assumption | intro _ | extract_lets | apply ite_keeps | split | apply inject_keeps

theorem burst_keeps {s₀ s : State} (n : Nat) (l : List DelimMatch) (selected : Bool) (hk : Keeps s₀ s) : Keeps s₀ (burst n l selected s) := by
  unfold burst
  repeat' with_reducible first
    | assumption | intro _ | extract_lets | apply ite_keeps | apply fst_ite_keeps | apply snd_ite_keeps | split
    | apply SMap.rising_filter | apply Memory.wf_filter | apply confirmBurst_keeps | apply discover_keeps | apply injectBurst_keeps
    | apply modWin_keeps | apply resolve_keeps | refine okeeps_get (by assumption) ?_ | refine opkeeps_get (by assumption) ?_
    | refine pair_fst_keeps (by assumption) ?_ | refine pair_snd_keeps (by assumption) ?_ | (dsimp +zetaDelta only; split)
    | apply mk_keeps | apply Keeps.pending | apply Keeps.dram | apply Keeps.flash | apply Keeps.hostMem | apply Keeps.regs
    | apply Keeps.shadow | contradiction

theorem lockFail_keeps {s₀ s : State} (n : Nat) (hk : Keeps s₀ s) : Keeps s₀ (lockFail n s) := by
  unfold lockFail
  repeat' with_reducible first
    | assumption | intro _ | extract_lets | apply ite_keeps | apply modPort_keeps | apply raise_keeps | apply mk_keeps
    | apply Keeps.pending | apply Keeps.dram | apply Keeps.flash | apply Keeps.hostMem | apply Keeps.regs | apply Keeps.shadow

theorem classify_keeps {s₀ s : State} (n : Nat) (w : Win) (sd : Bool) (lock : Bool) (hk : Keeps s₀ s) : Keeps s₀ (classify n w sd lock s) := by
  unfold classify
  repeat' with_reducible first
    | assumption | intro _ | extract_lets | apply ite_keeps | apply lockFail_keeps | apply missedBurst_keeps | apply missing_keeps
    | apply rangeMissed_keeps | apply sat_keeps

theorem nextGap_keeps {s₀ s : State} (n : Nat) (w : Win) (hk : Keeps s₀ s) : Keeps s₀ (nextGap n w s) := by
  unfold nextGap
  repeat' with_reducible first
    | assumption | intro _ | extract_lets | split | apply raiseSec_keeps | apply sat_keeps | apply when_keeps
    | refine okeeps_get (by assumption) ?_ | refine opkeeps_get (by assumption) ?_ | refine pair_fst_keeps (by assumption) ?_
    | refine pair_snd_keeps (by assumption) ?_ | contradiction

theorem closeWindow_keeps {s₀ s : State} (n : Nat) (sd : Bool) (lock : Bool) (cut : Bool) (hk : Keeps s₀ s) : Keeps s₀ (closeWindow n sd lock cut s) := by
  unfold closeWindow
  repeat' with_reducible first
    | assumption | intro _ | extract_lets | apply ite_keeps | split | apply classify_keeps | apply countWin_keeps | apply modPort_keeps
    | apply modTree_keeps | apply nextGap_keeps | apply sat_keeps | apply when_keeps | apply wr_keeps | apply wrap_keeps
    | refine okeeps_get (by assumption) ?_ | refine opkeeps_get (by assumption) ?_ | refine pair_fst_keeps (by assumption) ?_
    | refine pair_snd_keeps (by assumption) ?_ | apply mk_keeps | apply Keeps.pending | apply Keeps.dram | apply Keeps.flash
    | apply Keeps.hostMem | apply Keeps.regs | apply Keeps.shadow | contradiction

theorem acceptUp_keeps {s₀ s : State} (n : Nat) (w : Win) (x : RxFrame) (hk : Keeps s₀ s) : Keeps s₀ (acceptUp n w x s) := by
  unfold acceptUp
  repeat' with_reducible first
    | assumption | intro _ | extract_lets | apply ite_keeps | apply fst_ite_keeps | apply snd_ite_keeps | apply modBpm_keeps
    | apply modPort_keeps | apply passStage_keeps | apply skimTag_keeps | apply mk_keeps | apply Keeps.pending | apply Keeps.dram
    | apply Keeps.flash | apply Keeps.hostMem | apply Keeps.regs | apply Keeps.shadow

theorem codeword_keeps {s₀ s : State} (n : Nat) (prev : Bool) (corr : Nat) (bad : Bool) (bits : Nat) (bytes : Nat) (reports : List (Nat × Nat)) (frames : List RxFrame) (hk : Keeps s₀ s) : Keeps s₀ (codeword n prev corr bad bits bytes reports frames s) := by
  unfold codeword
  repeat' with_reducible first
    | assumption | intro _ | extract_lets | apply ite_keeps | apply fst_ite_keeps | apply snd_ite_keeps | split | apply foldl_keeps
    | apply foldl_fst_keeps | apply foldl_snd_keeps | apply acceptUp_keeps | apply countLate_keeps | apply holdReport_keeps
    | apply modTerm_keeps | apply winAdd_keeps | apply winPm_keeps | apply wrap_keeps | refine okeeps_get (by assumption) ?_
    | refine opkeeps_get (by assumption) ?_ | refine pair_fst_keeps (by assumption) ?_ | refine pair_snd_keeps (by assumption) ?_
    | apply mk_keeps | apply Keeps.pending | apply Keeps.dram | apply Keeps.flash | apply Keeps.hostMem | apply Keeps.regs
    | apply Keeps.shadow | contradiction

theorem acknowledge_keeps {s₀ s : State} (n : Nat) (term : Nat) (body : List Nat) (hk : Keeps s₀ s) : Keeps s₀ (acknowledge n term body s) := by
  unfold acknowledge
  repeat' with_reducible first
    | assumption | intro _ | apply ite_keeps | split | apply modTerm_keeps | apply pushRx_keeps | apply rangingAck_keeps
    | refine okeeps_get (by assumption) ?_ | refine opkeeps_get (by assumption) ?_ | refine pair_fst_keeps (by assumption) ?_
    | refine pair_snd_keeps (by assumption) ?_ | apply mk_keeps | apply Keeps.pending | apply Keeps.dram | apply Keeps.flash
    | apply Keeps.hostMem | apply Keeps.regs | apply Keeps.shadow | contradiction

theorem countMsg_keeps {s₀ s : State} (n : Nat) (w : Win × Bool) (i : Nat) (hk : Keeps s₀ s) : Keeps s₀ (countMsg n w i s) := by
  unfold countMsg
  repeat' with_reducible first
    | assumption | intro _ | apply ite_keeps | apply fst_ite_keeps | apply snd_ite_keeps | apply countLate_keeps | apply winAdd_keeps

theorem routeMsg_keeps {s₀ s : State} (n : Nat) (w : Win × Bool) (term : Nat) (kind : Nat) (index : Nat) (body : List Nat) (hk : Keeps s₀ s) : Keeps s₀ (routeMsg n w term kind index body s) := by
  unfold routeMsg
  repeat' with_reducible first
    | assumption | intro _ | extract_lets | apply ite_keeps | apply fst_ite_keeps | apply snd_ite_keeps | apply SMap.rising_filter
    | apply Memory.wf_filter | apply acknowledge_keeps | apply countMsg_keeps | apply keyReport_keeps | apply pushRx_keeps
    | apply queueMsg_keeps | apply registration_keeps | apply setDefect_keeps

theorem upMsg_keeps {s₀ s0 : State} (n : Nat) (term : Nat) (kind : Nat) (mic : Nat) (index : Nat) (body : List Nat) (hk : Keeps s₀ s0) : Keeps s₀ (upMsg n term kind mic index body s0) := by
  unfold upMsg
  repeat' with_reducible first
    | assumption | intro _ | extract_lets | apply ite_keeps | split | apply askChecks_keeps | apply countMsg_keeps
    | apply routeMsg_keeps | apply setDefect_keeps | refine okeeps_get (by assumption) ?_ | refine opkeeps_get (by assumption) ?_
    | refine pair_fst_keeps (by assumption) ?_ | refine pair_snd_keeps (by assumption) ?_ | contradiction

end Sys2Proof.Machine
end

