-- ==== Sys2Proof/Laws/KeepsPort.lean ====
section
/-! SUPPORT. Laws/KeepsPort.lean: every operation of Machine/Port.lean keeps the queue of commands and the canonical forms (Keeps). -/
namespace Sys2Proof.Machine

theorem benOn_keeps {s₀ s : State} (n : Nat) (hk : Keeps s₀ s) : Keeps s₀ (benOn n s) := by
  unfold benOn
  repeat' with_reducible first
    | assumption | intro _ | apply modPort_keeps | apply wr_keeps | apply mk_keeps | apply Keeps.pending | apply Keeps.dram
    | apply Keeps.flash | apply Keeps.hostMem | apply Keeps.regs | apply Keeps.shadow

theorem benAssert_keeps {s₀ s : State} (n : Nat) (hk : Keeps s₀ s) : Keeps s₀ (benAssert n s) := by
  unfold benAssert
  repeat' with_reducible first
    | assumption | intro _ | apply ite_keeps | apply benOn_keeps

theorem leadEnd_keeps {s₀ s : State} (n : Nat) (hk : Keeps s₀ s) : Keeps s₀ (leadEnd n s) := by
  unfold leadEnd
  repeat' with_reducible first
    | assumption | intro _ | apply ite_keeps | apply fillBudget_keeps | apply wr_keeps

theorem askPort_keeps {s₀ s : State} (n : Nat) (hk : Keeps s₀ s) : Keeps s₀ (askPort n s) := by
  unfold askPort
  repeat' with_reducible first
    | assumption | intro _ | apply ite_keeps | apply bringUp_keeps

theorem portEnable_keeps {s₀ s : State} (n : Nat) (hk : Keeps s₀ s) : Keeps s₀ (portEnable n s) := by
  unfold portEnable
  repeat' with_reducible first
    | assumption | intro _ | extract_lets | apply ite_keeps | apply askPort_keeps | apply modPort_keeps | apply refuseMode_keeps
    | apply wr_keeps | apply mk_keeps | apply Keeps.pending | apply Keeps.dram | apply Keeps.flash | apply Keeps.hostMem
    | apply Keeps.regs | apply Keeps.shadow

theorem portDisable_keeps {s₀ s : State} (n : Nat) (hk : Keeps s₀ s) : Keeps s₀ (portDisable n s) := by
  unfold portDisable
  repeat' with_reducible first
    | assumption | intro _ | apply ite_keeps | apply dropBringUp_keeps | apply modPort_keeps | apply wr_keeps | apply mk_keeps
    | apply Keeps.pending | apply Keeps.dram | apply Keeps.flash | apply Keeps.hostMem | apply Keeps.regs | apply Keeps.shadow

theorem loopbackSet_keeps {s₀ s : State} (n : Nat) (v : Nat) (hk : Keeps s₀ s) : Keeps s₀ (loopbackSet n v s) := by
  unfold loopbackSet
  repeat' with_reducible first
    | assumption | intro _ | extract_lets | apply loopBen_keeps | apply wr_keeps

theorem stagOne_keeps {s₀ : State} (x : BringUp) (a : StagAcc) (hk : Keeps s₀ a.s) : Keeps s₀ (stagOne x a).s := by
  unfold stagOne
  split
  · exact hk
  · split
    · exact hk
    · split
      · exact beginTile_keeps _ hk
      · exact benOn_keeps _ hk
      · split
        · exact hk
        · exact menOn_keeps _ hk

theorem stagAll_keeps {s₀ : State} (l : List BringUp) (a : StagAcc) (hk : Keeps s₀ a.s) :
    Keeps s₀ (l.foldl (fun a x => stagOne x a) a).s := by
  induction l generalizing a with
  | nil => exact hk
  | cons x r ih => exact ih _ (stagOne_keeps x a hk)

theorem staggerTick_keeps {s₀ s : State} (hk : Keeps s₀ s) : Keeps s₀ (staggerTick s) := by
  unfold staggerTick
  exact showQueue_keeps (modPwr_keeps _ (stagAll_keeps _ ⟨s, [], 0, 0⟩ hk))

theorem opticsRelease_keeps {s₀ s : State} (hk : Keeps s₀ s) : Keeps s₀ (opticsRelease s) := by
  unfold opticsRelease
  repeat' with_reducible first
    | assumption | intro _ | extract_lets | apply ite_keeps | split | apply foldl_keeps | apply SMap.rising_filter
    | apply Memory.wf_filter | apply menOn_keeps | apply modPwr_keeps | apply showQueue_keeps | refine okeeps_get (by assumption) ?_
    | refine opkeeps_get (by assumption) ?_ | refine pair_fst_keeps (by assumption) ?_ | refine pair_snd_keeps (by assumption) ?_
    | apply mk_keeps | apply Keeps.pending | apply Keeps.dram | apply Keeps.flash | apply Keeps.hostMem | apply Keeps.regs
    | apply Keeps.shadow | contradiction

theorem portTick_keeps {s₀ s : State} (n : Nat) (hk : Keeps s₀ s) : Keeps s₀ (portTick n s) := by
  unfold portTick
  repeat' with_reducible first
    | assumption | intro _ | extract_lets | apply ite_keeps | apply fst_ite_keeps | apply snd_ite_keeps | apply foldl_keeps
    | apply foldl_fst_keeps | apply foldl_snd_keeps | apply SMap.rising_filter | apply Memory.wf_filter | apply modPort_keeps
    | apply portDown_keeps | apply mk_keeps | apply Keeps.pending | apply Keeps.dram | apply Keeps.flash | apply Keeps.hostMem
    | apply Keeps.regs | apply Keeps.shadow

theorem treeLos_keeps {s₀ s : State} (n : Nat) (hk : Keeps s₀ s) : Keeps s₀ (treeLos n s) := by
  unfold treeLos
  repeat' with_reducible first
    | assumption | intro _ | apply ite_keeps | apply raise_keeps | apply wr_keeps

theorem treeLosClear_keeps {s₀ s : State} (n : Nat) (hk : Keeps s₀ s) : Keeps s₀ (treeLosClear n s) := by
  unfold treeLosClear
  repeat' with_reducible first
    | assumption | intro _ | apply ite_keeps | apply fst_ite_keeps | apply modPort_keeps | apply raise_keeps | apply wr_keeps
    | apply mk_keeps | apply Keeps.pending | apply Keeps.dram | apply Keeps.flash | apply Keeps.hostMem | apply Keeps.regs
    | apply Keeps.shadow

theorem rogue_keeps {s₀ s : State} (n : Nat) (r : RogueLight) (hk : Keeps s₀ s) : Keeps s₀ (rogue n r s) := by
  unfold rogue
  repeat' with_reducible first
    | assumption | intro _ | extract_lets | apply ite_keeps | apply raiseSec_keeps | apply sat_keeps | apply wr_keeps

theorem modSubmit_keeps {s₀ s : State} (n : Nat) (read : Bool) (dev : Nat) (reg : Nat) (len : Nat) (khz : Nat) (hk : Keeps s₀ s) : Keeps s₀ (modSubmit n read dev reg len khz s) := by
  unfold modSubmit
  repeat' with_reducible first
    | assumption | intro _ | extract_lets | apply ite_keeps | apply snd_ite_keeps | apply foldl_keeps | apply foldl_snd_keeps
    | apply modPort_keeps | apply wr_keeps | apply mk_keeps | apply Keeps.pending | apply Keeps.dram | apply Keeps.flash
    | apply Keeps.hostMem | apply Keeps.regs | apply Keeps.shadow

theorem modEnd_keeps {s₀ s : State} (n : Nat) (status : Nat) (data : Nat) (hk : Keeps s₀ s) : Keeps s₀ (modEnd n status data s) := by
  unfold modEnd
  repeat' with_reducible first
    | assumption | intro _ | extract_lets | apply ite_keeps | apply snd_ite_keeps | split | apply modPort_keeps | apply raise_keeps
    | apply when_keeps | apply wr_keeps | refine okeeps_get (by assumption) ?_ | refine opkeeps_get (by assumption) ?_
    | refine pair_fst_keeps (by assumption) ?_ | refine pair_snd_keeps (by assumption) ?_ | apply mk_keeps | apply Keeps.pending
    | apply Keeps.dram | apply Keeps.flash | apply Keeps.hostMem | apply Keeps.regs | apply Keeps.shadow | contradiction

end Sys2Proof.Machine
end

