-- ==== Sys2Proof/Laws/KeepsObserve.lean ====
section
/-! SUPPORT. Laws/KeepsObserve.lean: every operation of Machine/Observe.lean keeps the queue of commands and the canonical forms (Keeps). -/
namespace Sys2Proof.Machine

theorem counterWrite_keeps {s₀ s : State} (i : Nat) (w : Nat) (incs : Nat) (hk : Keeps s₀ s) : Keeps s₀ (counterWrite i w incs s) := by
  unfold counterWrite
  repeat' with_reducible first
    | assumption | intro _ | extract_lets | apply ite_keeps | apply fst_ite_keeps | apply snd_ite_keeps | apply obsAdd_keeps
    | apply raiseSec_keeps | apply raise_keeps | apply when_keeps | apply wr_keeps

theorem latchHigh_keeps {s₀ s : State} (i : Nat) (hk : Keeps s₀ s) : Keeps s₀ (latchHigh i s) := by
  unfold latchHigh
  repeat' with_reducible first
    | assumption | intro _ | apply ite_keeps | apply wr_keeps

theorem snapTick_keeps {s₀ s : State} (second : Bool) (hk : Keeps s₀ s) : Keeps s₀ (snapTick second s) := by
  unfold snapTick
  repeat' with_reducible first
    | assumption | intro _ | apply ite_keeps | apply foldl_keeps | apply modObs_keeps | apply wr_keeps | apply wrap_keeps
    | apply mk_keeps | apply Keeps.pending | apply Keeps.dram | apply Keeps.flash | apply Keeps.hostMem | apply Keeps.regs
    | apply Keeps.shadow

theorem showSkim_keeps {s₀ s : State} (hk : Keeps s₀ s) : Keeps s₀ (showSkim s) := by
  unfold showSkim
  repeat' with_reducible first
    | assumption | intro _ | extract_lets | split | apply foldl_keeps | apply wr_keeps | refine okeeps_get (by assumption) ?_
    | refine opkeeps_get (by assumption) ?_ | refine pair_fst_keeps (by assumption) ?_ | refine pair_snd_keeps (by assumption) ?_
    | (dsimp +zetaDelta only; split) | contradiction

theorem skimSample_keeps {s₀ s : State} (r : SkimRec) (hk : Keeps s₀ s) : Keeps s₀ (skimSample r s) := by
  unfold skimSample
  repeat' with_reducible first
    | assumption | intro _ | extract_lets | apply foldl_keeps | apply SMap.rising_filter | apply Memory.wf_filter | apply histAdd_keeps

theorem skimRecord_keeps {s₀ s : State} (hk : Keeps s₀ s) : Keeps s₀ (skimRecord s) := by
  unfold skimRecord
  repeat' with_reducible first
    | assumption | intro _ | extract_lets | apply ite_keeps | split | apply modObs_keeps | apply raise_keeps | apply showSkim_keeps
    | apply skimSample_keeps | refine okeeps_get (by assumption) ?_ | refine opkeeps_get (by assumption) ?_
    | refine pair_fst_keeps (by assumption) ?_ | refine pair_snd_keeps (by assumption) ?_ | apply mk_keeps | apply Keeps.pending
    | apply Keeps.dram | apply Keeps.flash | apply Keeps.hostMem | apply Keeps.regs | apply Keeps.shadow | contradiction

theorem skimPop_keeps {s₀ s : State} (hk : Keeps s₀ s) : Keeps s₀ (skimPop s) := by
  unfold skimPop
  repeat' with_reducible first
    | assumption | intro _ | apply modObs_keeps | apply showSkim_keeps | apply mk_keeps | apply Keeps.pending | apply Keeps.dram
    | apply Keeps.flash | apply Keeps.hostMem | apply Keeps.regs | apply Keeps.shadow

theorem histWant_keeps {s₀ s : State} (h : Nat) (hk : Keeps s₀ s) : Keeps s₀ (histWant h s) := by
  unfold histWant
  repeat' with_reducible first
    | assumption | intro _ | apply modObs_keeps | apply mk_keeps | apply Keeps.pending | apply Keeps.dram | apply Keeps.flash
    | apply Keeps.hostMem | apply Keeps.regs | apply Keeps.shadow

theorem histTick_keeps {s₀ s : State} (hk : Keeps s₀ s) : Keeps s₀ (histTick s) := by
  unfold histTick
  repeat' with_reducible first
    | assumption | intro _ | apply foldl_keeps | apply histZero_keeps | apply modObs_keeps | apply mk_keeps | apply Keeps.pending
    | apply Keeps.dram | apply Keeps.flash | apply Keeps.hostMem | apply Keeps.regs | apply Keeps.shadow

theorem histCfgWrite_keeps {s₀ new : State} (h : Nat) (hk : Keeps s₀ new) : Keeps s₀ (histCfgWrite old new h) := by
  unfold histCfgWrite
  repeat' with_reducible first
    | assumption | intro _ | apply ite_keeps | apply histZero_keeps

theorem viewBind_keeps {s₀ s : State} (v : Nat) (k : Nat) (w : Nat) (hk : Keeps s₀ s) : Keeps s₀ (viewBind v k w s) := by
  unfold viewBind
  repeat' with_reducible first
    | assumption | intro _ | extract_lets | apply wr_keeps

theorem viewWrite_keeps {s₀ s : State} (v : Nat) (hk : Keeps s₀ s) : Keeps s₀ (viewWrite v s) := by
  unfold viewWrite
  repeat' with_reducible first
    | assumption | intro _ | apply raiseSec_keeps | apply sat_keeps

end Sys2Proof.Machine
end

