-- ==== Sys2Proof/Laws/KeepsUplink.lean ====
section
/-! SUPPORT. Laws/KeepsUplink.lean: every operation of Machine/Uplink.lean keeps the queue of commands and the canonical forms (Keeps). -/
namespace Sys2Proof.Machine

theorem showHrx_keeps {s₀ s : State} (hk : Keeps s₀ s) : Keeps s₀ (showHrx s) := by
  unfold showHrx
  repeat' with_reducible first
    | assumption | intro _ | extract_lets | apply wr_keeps

theorem toHost_keeps {s₀ s : State} (u : Nat) (kind : Nat) (bytes : List Nat) (hk : Keeps s₀ s) : Keeps s₀ (toHost u kind bytes s) := by
  unfold toHost
  repeat' with_reducible first
    | assumption | intro _ | extract_lets | apply ite_keeps | apply dramPut_keeps | apply draw_keeps | apply modHost_keeps
    | apply raiseSec_keeps | apply showHrx_keeps | apply uplCount_keeps | apply mk_keeps | apply Keeps.pending | apply Keeps.dram
    | apply Keeps.flash | apply Keeps.hostMem | apply Keeps.regs | apply Keeps.shadow

theorem htxPost_keeps {s₀ s : State} (slot : Nat) (port : Nat) (len : Nat) (hk : Keeps s₀ s) : Keeps s₀ (htxPost slot port len s) := by
  unfold htxPost
  repeat' with_reducible first
    | assumption | intro _ | extract_lets | apply ite_keeps | apply wr_keeps | apply mk_keeps | apply Keeps.pending | apply Keeps.dram
    | apply Keeps.flash | apply Keeps.hostMem | apply Keeps.regs | apply Keeps.shadow

theorem htxSend_keeps {s₀ s : State} (hk : Keeps s₀ s) : Keeps s₀ (htxSend s) := by
  unfold htxSend
  repeat' with_reducible first
    | assumption | intro _ | extract_lets | apply ite_keeps | apply fst_ite_keeps | apply snd_ite_keeps | split | apply dramGet_keeps
    | apply txFrame_keeps | apply wr_keeps | apply wrap_keeps | refine okeeps_get (by assumption) ?_
    | refine opkeeps_get (by assumption) ?_ | refine pair_fst_keeps (by assumption) ?_ | refine pair_snd_keeps (by assumption) ?_
    | apply mk_keeps | apply Keeps.pending | apply Keeps.dram | apply Keeps.flash | apply Keeps.hostMem | apply Keeps.regs
    | apply Keeps.shadow | contradiction

theorem passHeldFrames_keeps {s₀ s : State} (u : Nat) (hk : Keeps s₀ s) : Keeps s₀ (passHeldFrames u s).2 := by
  unfold passHeldFrames
  repeat' with_reducible first
    | assumption | intro _ | extract_lets | split | apply SMap.rising_filter | apply Memory.wf_filter | apply modUpl_keeps
    | apply mk_keeps | apply Keeps.pending | apply Keeps.dram | apply Keeps.flash | apply Keeps.hostMem | apply Keeps.regs
    | apply Keeps.shadow

theorem sendOn_keeps {s₀ s : State} (u : Nat) (h : HeldRx) (hk : Keeps s₀ s) : Keeps s₀ (sendOn u h s) := by
  unfold sendOn
  repeat' with_reducible first
    | assumption | intro _ | split | apply modBpm_keeps | apply toHost_keeps | refine okeeps_get (by assumption) ?_
    | refine opkeeps_get (by assumption) ?_ | refine pair_fst_keeps (by assumption) ?_ | refine pair_snd_keeps (by assumption) ?_
    | apply mk_keeps | apply Keeps.pending | apply Keeps.dram | apply Keeps.flash | apply Keeps.hostMem | apply Keeps.regs
    | apply Keeps.shadow | contradiction

theorem takeReleased_keeps {s₀ s : State} (hk : Keeps s₀ s) : Keeps s₀ (takeReleased s) := by
  unfold takeReleased
  repeat' with_reducible first
    | assumption | intro _ | apply foldl_keeps | apply foldl_fst_keeps | apply foldl_snd_keeps | apply modUpl_keeps
    | apply toHost_keeps | apply mk_keeps | apply Keeps.pending | apply Keeps.dram | apply Keeps.flash | apply Keeps.hostMem
    | apply Keeps.regs | apply Keeps.shadow

theorem toFwd_keeps {s₀ s : State} (u : Nat) (x : RxFrame) (hk : Keeps s₀ s) : Keeps s₀ (toFwd u x s).2 := by
  unfold toFwd
  repeat' with_reducible first
    | assumption | intro _ | extract_lets | apply ite_keeps | apply fst_ite_keeps | apply snd_ite_keeps | split | apply modUpl_keeps
    | apply passStage_keeps | apply skimTag_keeps | apply mk_keeps | apply Keeps.pending | apply Keeps.dram | apply Keeps.flash
    | apply Keeps.hostMem | apply Keeps.regs | apply Keeps.shadow

theorem sortFrame_keeps {s₀ s : State} (u : Nat) (kind : Nat) (x : RxFrame) (bytes : List Nat) (hk : Keeps s₀ s) : Keeps s₀ (sortFrame u kind x bytes s).2 := by
  unfold sortFrame
  repeat' with_reducible first
    | assumption | intro _ | extract_lets | apply ite_keeps | apply fst_ite_keeps | apply snd_ite_keeps | split | apply pfcRx_keeps
    | apply raiseSec_keeps | apply toFwd_keeps | apply uplCount_keeps

theorem rxFrame_keeps {s₀ s : State} (u : Nat) (kind : Nat) (x : RxFrame) (bytes : List Nat) (fcsBad : Bool) (corr : Nat) (uncorr : Nat) (selected : Bool) (hk : Keeps s₀ s) : Keeps s₀ (rxFrame u kind x bytes fcsBad corr uncorr selected s) := by
  unfold rxFrame
  repeat' with_reducible first
    | assumption | intro _ | extract_lets | apply ite_keeps | apply fst_ite_keeps | apply snd_ite_keeps | apply foldl_keeps
    | apply foldl_fst_keeps | apply foldl_snd_keeps | apply draw_keeps | apply inject_keeps | apply modUpl_keeps
    | apply passHeldFrames_keeps | apply raiseSec_keeps | apply sendOn_keeps | apply sortFrame_keeps | apply uplCount_keeps
    | apply when_keeps | apply mk_keeps | apply Keeps.pending | apply Keeps.dram | apply Keeps.flash | apply Keeps.hostMem
    | apply Keeps.regs | apply Keeps.shadow

theorem linkDown_keeps {s₀ s : State} (u : Nat) (hk : Keeps s₀ s) : Keeps s₀ (linkDown u s) := by
  unfold linkDown
  repeat' with_reducible first
    | assumption | intro _ | apply ite_keeps | apply raise_keeps | apply sat_keeps | apply wr_keeps

theorem linkUp_keeps {s₀ s : State} (u : Nat) (hk : Keeps s₀ s) : Keeps s₀ (linkUp u s) := by
  unfold linkUp
  repeat' with_reducible first
    | assumption | intro _ | apply ite_keeps | apply raise_keeps | apply wr_keeps

end Sys2Proof.Machine
end

