-- ==== Sys2Proof/Laws/KeepsHub.lean ====
section
/-! SUPPORT. Laws/KeepsHub.lean: every operation of Machine/Hub.lean keeps the queue of commands and the canonical forms (Keeps). -/
namespace Sys2Proof.Machine

theorem holdDue_keeps {s₀ s : State} (hk : Keeps s₀ s) : Keeps s₀ (holdDue s) := by
  unfold holdDue
  repeat' with_reducible first
    | assumption | intro _ | apply ite_keeps | apply modHub_keeps | apply mk_keeps | apply Keeps.pending | apply Keeps.dram
    | apply Keeps.flash | apply Keeps.hostMem | apply Keeps.regs | apply Keeps.shadow

theorem heldNow_keeps {s₀ s : State} (hk : Keeps s₀ s) : Keeps s₀ (heldNow s) := by
  unfold heldNow
  repeat' with_reducible first
    | assumption | intro _ | apply holdDue_keeps | apply when_keeps

theorem recordWrite_keeps {s₀ s : State} (hk : Keeps s₀ s) : Keeps s₀ (recordWrite s) := by
  unfold recordWrite
  repeat' with_reducible first
    | assumption | intro _ | extract_lets | apply ite_keeps | split | apply Memory.wf_writeBytes | apply Memory.wf_write
    | apply Memory.wf_foldl | apply holdDue_keeps | apply modHub_keeps | apply raise_keeps | apply sendMsix_keeps | apply when_keeps
    | apply wrap_keeps | refine okeeps_get (by assumption) ?_ | refine opkeeps_get (by assumption) ?_
    | refine pair_fst_keeps (by assumption) ?_ | refine pair_snd_keeps (by assumption) ?_ | apply mk_keeps | apply Keeps.pending
    | apply Keeps.dram | apply Keeps.flash | apply Keeps.hostMem | apply Keeps.regs | apply Keeps.shadow | contradiction

theorem recordDue_keeps {s₀ s : State} (src : Nat) (hk : Keeps s₀ s) : Keeps s₀ (recordDue src s) := by
  unfold recordDue
  repeat' with_reducible first
    | assumption | intro _ | extract_lets | apply ite_keeps | apply heldNow_keeps | apply modHub_keeps | apply mk_keeps
    | apply Keeps.pending | apply Keeps.dram | apply Keeps.flash | apply Keeps.hostMem | apply Keeps.regs | apply Keeps.shadow

theorem ringWrite_keeps {s₀ s0 : State} (w : Nat) (hk : Keeps s₀ s0) : Keeps s₀ (ringWrite w s0) := by
  unfold ringWrite
  repeat' with_reducible first
    | assumption | intro _ | extract_lets | apply heldNow_keeps | apply modHub_keeps | apply wr_keeps | apply mk_keeps
    | apply Keeps.pending | apply Keeps.dram | apply Keeps.flash | apply Keeps.hostMem | apply Keeps.regs | apply Keeps.shadow

theorem ciWrite_keeps {s₀ s : State} (v : Nat) (hk : Keeps s₀ s) : Keeps s₀ (ciWrite v s) := by
  unfold ciWrite
  repeat' with_reducible first
    | assumption | intro _ | extract_lets | apply heldNow_keeps | apply modHub_keeps | apply wr_keeps | apply mk_keeps
    | apply Keeps.pending | apply Keeps.dram | apply Keeps.flash | apply Keeps.hostMem | apply Keeps.regs | apply Keeps.shadow

theorem freezeEnd_keeps {s₀ s : State} (mask : Nat) (hk : Keeps s₀ s) : Keeps s₀ (freezeEnd mask s) := by
  unfold freezeEnd
  repeat' with_reducible first
    | assumption | intro _ | extract_lets | apply SMap.rising_filter | apply Memory.wf_filter | apply modHub_keeps | apply wr_keeps
    | apply mk_keeps | apply Keeps.pending | apply Keeps.dram | apply Keeps.flash | apply Keeps.hostMem | apply Keeps.regs
    | apply Keeps.shadow

theorem reflexCommit_keeps {s₀ s : State} (hk : Keeps s₀ s) : Keeps s₀ (reflexCommit old s) := by
  unfold reflexCommit
  repeat' with_reducible first
    | assumption | intro _ | extract_lets | apply ite_keeps | apply foldl_keeps | apply SMap.rising_del | apply modHub_keeps
    | apply wr_keeps | apply mk_keeps | apply Keeps.pending | apply Keeps.dram | apply Keeps.flash | apply Keeps.hostMem
    | apply Keeps.regs | apply Keeps.shadow

theorem pcieUp_keeps {s₀ s : State} (hk : Keeps s₀ s) : Keeps s₀ (pcieUp s) := by
  unfold pcieUp
  repeat' with_reducible first
    | assumption | intro _ | extract_lets | apply ite_keeps | apply draw_keeps | apply modHost_keeps | apply raise_keeps
    | apply sendPending_keeps | apply when_keeps | apply wr_keeps | apply mk_keeps | apply Keeps.pending | apply Keeps.dram
    | apply Keeps.flash | apply Keeps.hostMem | apply Keeps.regs | apply Keeps.shadow

theorem perst_keeps {s₀ s : State} (hk : Keeps s₀ s) : Keeps s₀ (perst s) := by
  unfold perst
  repeat' with_reducible first
    | assumption | intro _ | apply ite_keeps | apply modHost_keeps | apply modHub_keeps | apply pcieDown_keeps | apply wr_keeps
    | apply mk_keeps | apply Keeps.pending | apply Keeps.dram | apply Keeps.flash | apply Keeps.hostMem | apply Keeps.regs
    | apply Keeps.shadow

theorem spiCmd_keeps {s₀ s : State} (read : Bool) (opcode : Nat) (addrBytes : Nat) (dummy : Nat) (len : Nat) (quad : Bool) (hk : Keeps s₀ s) : Keeps s₀ (spiCmd read opcode addrBytes dummy len quad s) := by
  unfold spiCmd
  repeat' with_reducible first
    | assumption | intro _ | extract_lets | apply ite_keeps | apply modHost_keeps | apply wr_keeps | apply mk_keeps
    | apply Keeps.pending | apply Keeps.dram | apply Keeps.flash | apply Keeps.hostMem | apply Keeps.regs | apply Keeps.shadow

theorem spiDone_keeps {s₀ s : State} (data : List Nat) (writes : List (Nat × Nat)) (hk : Keeps s₀ s) : Keeps s₀ (spiDone data writes s) := by
  unfold spiDone
  repeat' with_reducible first
    | assumption | intro _ | extract_lets | apply ite_keeps | apply fst_ite_keeps | apply snd_ite_keeps | apply foldl_keeps
    | apply foldl_fst_keeps | apply foldl_snd_keeps | apply Memory.wf_writeBytes | apply Memory.wf_write | apply Memory.wf_foldl
    | apply modHost_keeps | apply raise_keeps | apply when_keeps | apply wr_keeps | apply mk_keeps | apply Keeps.pending
    | apply Keeps.dram | apply Keeps.flash | apply Keeps.hostMem | apply Keeps.regs | apply Keeps.shadow

end Sys2Proof.Machine
end

