-- ==== Sys2Proof/Laws/KeepsSync.lean ====
section
/-! SUPPORT. Laws/KeepsSync.lean: every operation of Machine/Sync.lean keeps the queue of commands and the canonical forms (Keeps). -/
namespace Sys2Proof.Machine

theorem modPtp_keeps {s₀ s : State} (u : Nat) (g : PtpPort → PtpPort) (hk : Keeps s₀ s) : Keeps s₀ (State.modPtp u g s) := by
  unfold State.modPtp
  repeat' with_reducible first
    | assumption | intro _ | apply SMap.rising_put | apply SMap.rising_foldl | apply modTsu_keeps | apply mk_keeps
    | apply Keeps.pending | apply Keeps.dram | apply Keeps.flash | apply Keeps.hostMem | apply Keeps.regs | apply Keeps.shadow

theorem setUnit_keeps {s₀ s : State} (ns : Nat) (hk : Keeps s₀ s) : Keeps s₀ (setUnit ns s) := by
  unfold setUnit
  repeat' with_reducible first
    | assumption | intro _ | apply modTsu_keeps | apply mk_keeps | apply Keeps.pending | apply Keeps.dram | apply Keeps.flash
    | apply Keeps.hostMem | apply Keeps.regs | apply Keeps.shadow

theorem staleTod_keeps {s₀ s : State} (hk : Keeps s₀ s) : Keeps s₀ (staleTod s) := by
  unfold staleTod
  repeat' with_reducible first
    | assumption | intro _ | apply when_keeps | apply wr_keeps

theorem setTodOfs_keeps {s₀ s : State} (ps : Int) (hk : Keeps s₀ s) : Keeps s₀ (setTodOfs ps s) := by
  unfold setTodOfs
  repeat' with_reducible first
    | assumption | intro _ | apply ite_keeps | apply staleTod_keeps | apply wr_keeps

theorem setServo_keeps {s₀ s : State} (st : Nat) (hk : Keeps s₀ s) : Keeps s₀ (setServo st s) := by
  unfold setServo
  repeat' with_reducible first
    | assumption | intro _ | extract_lets | apply ite_keeps | apply modTsu_keeps | apply raise_keeps | apply wr_keeps | apply mk_keeps
    | apply Keeps.pending | apply Keeps.dram | apply Keeps.flash | apply Keeps.hostMem | apply Keeps.regs | apply Keeps.shadow

theorem setFreq_keeps {s₀ s : State} (ask : Int) (hk : Keeps s₀ s) : Keeps s₀ (setFreq ask s) := by
  unfold setFreq
  repeat' with_reducible first
    | assumption | intro _ | extract_lets | apply ite_keeps | apply modTsu_keeps | apply wr_keeps | apply mk_keeps
    | apply Keeps.pending | apply Keeps.dram | apply Keeps.flash | apply Keeps.hostMem | apply Keeps.regs | apply Keeps.shadow

theorem steer_keeps {s₀ s : State} (ask : Int) (hk : Keeps s₀ s) : Keeps s₀ (steer ask s) := by
  unfold steer
  repeat' with_reducible first
    | assumption | intro _ | apply draw_keeps | apply raiseSec_keeps | apply setFreq_keeps | apply when_keeps

theorem holdFreq_keeps {s₀ s : State} (hk : Keeps s₀ s) : Keeps s₀ (holdFreq s) := by
  unfold holdFreq
  repeat' with_reducible first
    | assumption | intro _ | extract_lets | apply modTsu_keeps | apply setFreq_keeps | apply mk_keeps | apply Keeps.pending
    | apply Keeps.dram | apply Keeps.flash | apply Keeps.hostMem | apply Keeps.regs | apply Keeps.shadow

theorem sourceLost_keeps {s₀ s : State} (hk : Keeps s₀ s) : Keeps s₀ (sourceLost s) := by
  unfold sourceLost
  repeat' with_reducible first
    | assumption | intro _ | extract_lets | apply ite_keeps | apply holdFreq_keeps | apply raise_keeps | apply setServo_keeps
    | apply when_keeps

theorem phaseDelivers_keeps {s₀ s : State} (hk : Keeps s₀ s) : Keeps s₀ (phaseDelivers s) := by
  unfold phaseDelivers
  repeat' with_reducible first
    | assumption | intro _ | extract_lets | apply ite_keeps | apply setServo_keeps | apply wr_keeps

theorem intoServo_keeps {s₀ s : State} (ofs : Int) (hk : Keeps s₀ s) : Keeps s₀ (intoServo ofs s) := by
  unfold intoServo
  repeat' with_reducible first
    | assumption | intro _ | extract_lets | apply ite_keeps | apply draw_keeps | apply modTsu_keeps | apply setServo_keeps
    | apply steer_keeps | apply mk_keeps | apply Keeps.pending | apply Keeps.dram | apply Keeps.flash | apply Keeps.hostMem
    | apply Keeps.regs | apply Keeps.shadow

theorem clearJump_keeps {s₀ s : State} (cause : Nat) (hk : Keeps s₀ s) : Keeps s₀ (clearJump cause s) := by
  unfold clearJump
  repeat' with_reducible first
    | assumption | intro _ | apply modTsu_keeps | apply raise_keeps | apply wr_keeps | apply mk_keeps | apply Keeps.pending
    | apply Keeps.dram | apply Keeps.flash | apply Keeps.hostMem | apply Keeps.regs | apply Keeps.shadow

theorem countOutlier_keeps {s₀ s : State} (event : Bool) (hk : Keeps s₀ s) : Keeps s₀ (countOutlier event s) := by
  unfold countOutlier
  repeat' with_reducible first
    | assumption | intro _ | apply raiseSec_keeps | apply sat_keeps | apply when_keeps

theorem setPending_keeps {s₀ s : State} (r : List Int) (hk : Keeps s₀ s) : Keeps s₀ (setPending r s) := by
  unfold setPending
  repeat' with_reducible first
    | assumption | intro _ | extract_lets | apply ite_keeps | apply foldl_keeps | apply draw_keeps | apply modTsu_keeps
    | apply raise_keeps | apply wr_keeps | apply mk_keeps | apply Keeps.pending | apply Keeps.dram | apply Keeps.flash
    | apply Keeps.hostMem | apply Keeps.regs | apply Keeps.shadow

theorem judgePhase_keeps {s₀ s : State} (th : Nat) (ofs : Int) (hk : Keeps s₀ s) : Keeps s₀ (judgePhase th ofs s).1 := by
  unfold judgePhase
  repeat' with_reducible first
    | assumption | intro _ | extract_lets | apply ite_keeps | split | apply clearJump_keeps | apply countOutlier_keeps
    | apply intoServo_keeps | apply modTsu_keeps | apply setPending_keeps | apply when_keeps | refine okeeps_get (by assumption) ?_
    | refine opkeeps_get (by assumption) ?_ | refine pair_fst_keeps (by assumption) ?_ | refine pair_snd_keeps (by assumption) ?_
    | (dsimp +zetaDelta only; split) | apply mk_keeps | apply Keeps.pending | apply Keeps.dram | apply Keeps.flash
    | apply Keeps.hostMem | apply Keeps.regs | apply Keeps.shadow | contradiction

theorem fixGrid_keeps {s₀ s : State} (ofs : Int) (hk : Keeps s₀ s) : Keeps s₀ (fixGrid ofs s) := by
  unfold fixGrid
  repeat' with_reducible first
    | assumption | intro _ | extract_lets | apply draw_keeps | apply modTsu_keeps | apply setUnit_keeps | apply wr_keeps
    | apply mk_keeps | apply Keeps.pending | apply Keeps.dram | apply Keeps.flash | apply Keeps.hostMem | apply Keeps.regs
    | apply Keeps.shadow

theorem loadOffset_keeps {s₀ s : State} (ofs : Int) (hk : Keeps s₀ s) : Keeps s₀ (loadOffset ofs s) := by
  unfold loadOffset
  repeat' with_reducible first
    | assumption | intro _ | extract_lets | apply draw_keeps | apply modTsu_keeps | apply setTodOfs_keeps | apply mk_keeps
    | apply Keeps.pending | apply Keeps.dram | apply Keeps.flash | apply Keeps.hostMem | apply Keeps.regs | apply Keeps.shadow

theorem measure_keeps {s₀ s : State} (th : Nat) (ofs : Int) (hk : Keeps s₀ s) : Keeps s₀ (measure th ofs s).1 := by
  unfold measure
  repeat' with_reducible first
    | assumption | intro _ | extract_lets | apply ite_keeps | split | apply fixGrid_keeps | apply judgePhase_keeps
    | apply loadOffset_keeps | apply phaseDelivers_keeps

theorem phaseMeasurement_keeps {s₀ s : State} (hk : Keeps s₀ s) : Keeps s₀ (phaseMeasurement s) := by
  unfold phaseMeasurement
  repeat' with_reducible first
    | assumption | intro _ | split | apply measure_keeps | apply modTsu_keeps | refine okeeps_get (by assumption) ?_
    | refine opkeeps_get (by assumption) ?_ | refine pair_fst_keeps (by assumption) ?_ | refine pair_snd_keeps (by assumption) ?_
    | apply mk_keeps | apply Keeps.pending | apply Keeps.dram | apply Keeps.flash | apply Keeps.hostMem | apply Keeps.regs
    | apply Keeps.shadow | contradiction

theorem syncRx_keeps {s₀ s : State} (u : Nat) (domain : Nat) (t1 : Option Int) (t2 : Nat) (cs : Int) (hk : Keeps s₀ s) : Keeps s₀ (syncRx u domain t1 t2 cs s) := by
  unfold syncRx
  repeat' with_reducible first
    | assumption | intro _ | apply ite_keeps | apply modPtp_keeps | apply mk_keeps | apply Keeps.pending | apply Keeps.dram
    | apply Keeps.flash | apply Keeps.hostMem | apply Keeps.regs | apply Keeps.shadow

theorem delayReqTx_keeps {s₀ s : State} (u : Nat) (t3 : Nat) (hk : Keeps s₀ s) : Keeps s₀ (delayReqTx u t3 s) := by
  unfold delayReqTx
  repeat' with_reducible first
    | assumption | intro _ | apply ite_keeps | apply modPtp_keeps | apply mk_keeps | apply Keeps.pending | apply Keeps.dram
    | apply Keeps.flash | apply Keeps.hostMem | apply Keeps.regs | apply Keeps.shadow

theorem pairResp_keeps {s₀ s : State} (u : Nat) (t1 : Int) (t3 : Int) (t4 : Int) (cd : Int) (hk : Keeps s₀ s) : Keeps s₀ (pairResp u t1 t3 t4 cd s) := by
  unfold pairResp
  repeat' with_reducible first
    | assumption | intro _ | extract_lets | apply draw_keeps | apply modTsu_keeps | apply when_keeps | apply wr_keeps | apply mk_keeps
    | apply Keeps.pending | apply Keeps.dram | apply Keeps.flash | apply Keeps.hostMem | apply Keeps.regs | apply Keeps.shadow

theorem delayRespRx_keeps {s₀ s : State} (u : Nat) (t4 : PtpOrigin) (cd : Int) (hk : Keeps s₀ s) : Keeps s₀ (delayRespRx u t4 cd s) := by
  unfold delayRespRx
  repeat' with_reducible first
    | assumption | intro _ | extract_lets | apply ite_keeps | split | apply modPtp_keeps | apply pairResp_keeps
    | refine okeeps_get (by assumption) ?_ | refine opkeeps_get (by assumption) ?_ | refine pair_fst_keeps (by assumption) ?_
    | refine pair_snd_keeps (by assumption) ?_ | (dsimp +zetaDelta only; split) | apply mk_keeps | apply Keeps.pending
    | apply Keeps.dram | apply Keeps.flash | apply Keeps.hostMem | apply Keeps.regs | apply Keeps.shadow | contradiction

theorem followUpRx_keeps {s₀ s : State} (u : Nat) (t1 : PtpOrigin) (c : Int) (hk : Keeps s₀ s) : Keeps s₀ (followUpRx u t1 c s) := by
  unfold followUpRx
  repeat' with_reducible first
    | assumption | intro _ | extract_lets | apply ite_keeps | split | apply modPtp_keeps | apply pairResp_keeps
    | refine okeeps_get (by assumption) ?_ | refine opkeeps_get (by assumption) ?_ | refine pair_fst_keeps (by assumption) ?_
    | refine pair_snd_keeps (by assumption) ?_ | (dsimp +zetaDelta only; split) | apply mk_keeps | apply Keeps.pending
    | apply Keeps.dram | apply Keeps.flash | apply Keeps.hostMem | apply Keeps.regs | apply Keeps.shadow | contradiction

theorem delayReqRx_keeps {s₀ s : State} (u : Nat) (q : PtpRequest) (hk : Keeps s₀ s) : Keeps s₀ (delayReqRx u q s) := by
  unfold delayReqRx
  repeat' with_reducible first
    | assumption | intro _ | apply ite_keeps | apply modPtp_keeps | apply mk_keeps | apply Keeps.pending | apply Keeps.dram
    | apply Keeps.flash | apply Keeps.hostMem | apply Keeps.regs | apply Keeps.shadow

theorem syncTx_keeps {s₀ s : State} (u : Nat) (hk : Keeps s₀ s) : Keeps s₀ (syncTx u s) := by
  unfold syncTx
  repeat' with_reducible first
    | assumption | intro _ | apply ite_keeps | split | apply draw_keeps | apply modPtp_keeps | refine okeeps_get (by assumption) ?_
    | refine opkeeps_get (by assumption) ?_ | refine pair_fst_keeps (by assumption) ?_ | refine pair_snd_keeps (by assumption) ?_
    | apply mk_keeps | apply Keeps.pending | apply Keeps.dram | apply Keeps.flash | apply Keeps.hostMem | apply Keeps.regs
    | apply Keeps.shadow | contradiction

theorem ptpLost_keeps {s₀ s : State} (hk : Keeps s₀ s) : Keeps s₀ (ptpLost s) := by
  unfold ptpLost
  repeat' with_reducible first
    | assumption | intro _ | extract_lets | apply ite_keeps | apply modPtp_keeps | apply sourceLost_keeps | apply wr_keeps
    | apply mk_keeps | apply Keeps.pending | apply Keeps.dram | apply Keeps.flash | apply Keeps.hostMem | apply Keeps.regs
    | apply Keeps.shadow

theorem ppsEdge_keeps {s₀ s : State} (at_ : Nat) (since : Nat) (hk : Keeps s₀ s) : Keeps s₀ (ppsEdge at_ since s) := by
  unfold ppsEdge
  repeat' with_reducible first
    | assumption | intro _ | extract_lets | apply ite_keeps | apply fst_ite_keeps | apply snd_ite_keeps | split | apply measure_keeps
    | apply modTsu_keeps | apply wr_keeps | refine okeeps_get (by assumption) ?_ | refine opkeeps_get (by assumption) ?_
    | refine pair_fst_keeps (by assumption) ?_ | refine pair_snd_keeps (by assumption) ?_ | (dsimp +zetaDelta only; split)
    | apply mk_keeps | apply Keeps.pending | apply Keeps.dram | apply Keeps.flash | apply Keeps.hostMem | apply Keeps.regs
    | apply Keeps.shadow | contradiction

theorem ppsLost_keeps {s₀ s : State} (hk : Keeps s₀ s) : Keeps s₀ (ppsLost s) := by
  unfold ppsLost
  repeat' with_reducible first
    | assumption | intro _ | apply ite_keeps | apply modTsu_keeps | apply sourceLost_keeps | apply wr_keeps | apply mk_keeps
    | apply Keeps.pending | apply Keeps.dram | apply Keeps.flash | apply Keeps.hostMem | apply Keeps.regs | apply Keeps.shadow

theorem ppsOut_keeps {s₀ s : State} (hk : Keeps s₀ s) : Keeps s₀ (ppsOut s) := by
  unfold ppsOut
  repeat' with_reducible first
    | assumption | intro _ | apply ite_keeps | split | apply modTsu_keeps | refine okeeps_get (by assumption) ?_
    | refine opkeeps_get (by assumption) ?_ | refine pair_fst_keeps (by assumption) ?_ | refine pair_snd_keeps (by assumption) ?_
    | apply mk_keeps | apply Keeps.pending | apply Keeps.dram | apply Keeps.flash | apply Keeps.hostMem | apply Keeps.regs
    | apply Keeps.shadow | contradiction

theorem serTx_keeps {s₀ s : State} (hk : Keeps s₀ s) : Keeps s₀ (serTx s) := by
  unfold serTx
  repeat' with_reducible first
    | assumption | intro _ | apply ite_keeps | apply modTsu_keeps | apply mk_keeps | apply Keeps.pending | apply Keeps.dram
    | apply Keeps.flash | apply Keeps.hostMem | apply Keeps.regs | apply Keeps.shadow

theorem serRx_keeps {s₀ s : State} (bytes : List Nat) (hk : Keeps s₀ s) : Keeps s₀ (serRx bytes s) := by
  unfold serRx
  repeat' with_reducible first
    | assumption | intro _ | extract_lets | apply ite_keeps | split | apply modTsu_keeps | apply raiseSec_keeps
    | refine okeeps_get (by assumption) ?_ | refine opkeeps_get (by assumption) ?_ | refine pair_fst_keeps (by assumption) ?_
    | refine pair_snd_keeps (by assumption) ?_ | (dsimp +zetaDelta only; split) | apply mk_keeps | apply Keeps.pending
    | apply Keeps.dram | apply Keeps.flash | apply Keeps.hostMem | apply Keeps.regs | apply Keeps.shadow | contradiction

theorem synceLost_keeps {s₀ s : State} (hk : Keeps s₀ s) : Keeps s₀ (synceLost s) := by
  unfold synceLost
  repeat' with_reducible first
    | assumption | intro _ | apply ite_keeps | apply sourceLost_keeps | apply wr_keeps

theorem synceBack_keeps {s₀ s : State} (hk : Keeps s₀ s) : Keeps s₀ (synceBack s) := by
  unfold synceBack
  repeat' with_reducible first
    | assumption | intro _ | extract_lets | apply ite_keeps | apply setServo_keeps | apply wr_keeps

theorem jumpAccept_keeps {s₀ s : State} (hk : Keeps s₀ s) : Keeps s₀ (jumpAccept s) := by
  unfold jumpAccept
  repeat' with_reducible first
    | assumption | intro _ | extract_lets | apply ite_keeps | apply modTsu_keeps | apply wr_keeps | apply mk_keeps
    | apply Keeps.pending | apply Keeps.dram | apply Keeps.flash | apply Keeps.hostMem | apply Keeps.regs | apply Keeps.shadow

theorem jumpRebase_keeps {s₀ s : State} (hk : Keeps s₀ s) : Keeps s₀ (jumpRebase s) := by
  unfold jumpRebase
  repeat' with_reducible first
    | assumption | intro _ | extract_lets | apply ite_keeps | apply SMap.rising_put | apply SMap.rising_foldl | apply modTsu_keeps
    | apply wrShadow_keeps | apply wr_keeps | apply mk_keeps | apply Keeps.pending | apply Keeps.dram | apply Keeps.flash
    | apply Keeps.hostMem | apply Keeps.regs | apply Keeps.shadow

theorem jumpReject_keeps {s₀ s : State} (hk : Keeps s₀ s) : Keeps s₀ (jumpReject s) := by
  unfold jumpReject
  repeat' with_reducible first
    | assumption | intro _ | extract_lets | apply ite_keeps | apply clearJump_keeps | apply wr_keeps

theorem selectSource_keeps {s₀ s : State} (hk : Keeps s₀ s) : Keeps s₀ (selectSource old s) := by
  unfold selectSource
  repeat' with_reducible first
    | assumption | intro _ | extract_lets | apply ite_keeps | apply modTsu_keeps | apply setServo_keeps | apply wr_keeps
    | apply mk_keeps | apply Keeps.pending | apply Keeps.dram | apply Keeps.flash | apply Keeps.hostMem | apply Keeps.regs
    | apply Keeps.shadow

theorem tsuCommit_keeps {s₀ s : State} (hk : Keeps s₀ s) : Keeps s₀ (tsuCommit old s) := by
  unfold tsuCommit
  repeat' with_reducible first
    | assumption | intro _ | extract_lets | apply ite_keeps | apply clearJump_keeps | apply modTsu_keeps | apply selectSource_keeps
    | apply mk_keeps | apply Keeps.pending | apply Keeps.dram | apply Keeps.flash | apply Keeps.hostMem | apply Keeps.regs
    | apply Keeps.shadow

theorem todRequest_keeps {s₀ s : State} (n : Nat) (t : Nat) (ahead : Nat) (hk : Keeps s₀ s) : Keeps s₀ (todRequest n t ahead s) := by
  unfold todRequest
  repeat' with_reducible first
    | assumption | intro _ | extract_lets | apply ite_keeps | apply modTsu_keeps | apply wr_keeps | apply mk_keeps
    | apply Keeps.pending | apply Keeps.dram | apply Keeps.flash | apply Keeps.hostMem | apply Keeps.regs | apply Keeps.shadow

theorem snapTime_keeps {s₀ s : State} (hk : Keeps s₀ s) : Keeps s₀ (snapTime s) := by
  unfold snapTime
  repeat' with_reducible first
    | assumption | intro _ | extract_lets | apply draw_keeps | apply wr_keeps

theorem tsuTick_keeps {s₀ s : State} (hk : Keeps s₀ s) : Keeps s₀ (tsuTick s) := by
  unfold tsuTick
  repeat' with_reducible first
    | assumption | intro _ | extract_lets | apply ite_keeps | apply clearJump_keeps | apply modTsu_keeps | apply setTodOfs_keeps
    | apply setUnit_keeps | apply when_keeps | apply mk_keeps | apply Keeps.pending | apply Keeps.dram | apply Keeps.flash
    | apply Keeps.hostMem | apply Keeps.regs | apply Keeps.shadow

theorem tsuSecond_keeps {s₀ s : State} (hk : Keeps s₀ s) : Keeps s₀ (tsuSecond s) := by
  unfold tsuSecond
  repeat' with_reducible first
    | assumption | intro _ | apply ite_keeps | split | apply setFreq_keeps | apply steer_keeps | refine okeeps_get (by assumption) ?_
    | refine opkeeps_get (by assumption) ?_ | refine pair_fst_keeps (by assumption) ?_ | refine pair_snd_keeps (by assumption) ?_
    | contradiction

end Sys2Proof.Machine
end

