-- ==== Sys2Proof/Laws/KeepsDram.lean ====
section
/-! SUPPORT. Laws/KeepsDram.lean: every operation of Machine/Dram.lean keeps the queue of commands and the canonical forms (Keeps). -/
namespace Sys2Proof.Machine

theorem dramServed_keeps {s₀ s : State} (p : Nat) (notReady : List Nat) (act : Bool) (ecc : Nat) (drift : List (Nat × Int)) (hk : Keeps s₀ s) : Keeps s₀ (dramServed p notReady act ecc drift s) := by
  unfold dramServed
  repeat' with_reducible first
    | assumption | intro _ | apply ite_keeps | split | apply foldl_keeps | apply SMap.rising_filter | apply Memory.wf_filter
    | apply fwdEcc_keeps | apply issueReq_keeps | apply when_keeps | refine okeeps_get (by assumption) ?_
    | refine opkeeps_get (by assumption) ?_ | refine pair_fst_keeps (by assumption) ?_ | refine pair_snd_keeps (by assumption) ?_
    | contradiction

theorem agePromote_keeps {s₀ s : State} (p : Nat) (id : Nat) (hk : Keeps s₀ s) : Keeps s₀ (agePromote p id s) := by
  unfold agePromote
  repeat' with_reducible first
    | assumption | intro _ | apply ite_keeps | apply modPc_keeps | apply mk_keeps | apply Keeps.pending | apply Keeps.dram
    | apply Keeps.flash | apply Keeps.hostMem | apply Keeps.regs | apply Keeps.shadow

theorem panicLevel_keeps {s₀ s : State} (r : Nat) (level : Nat) (hk : Keeps s₀ s) : Keeps s₀ (panicLevel r level s) := by
  unfold panicLevel
  repeat' with_reducible first
    | assumption | intro _ | extract_lets | apply ite_keeps | apply modDrc_keeps | apply raiseSec_keeps | apply wr_keeps
    | apply mk_keeps | apply Keeps.pending | apply Keeps.dram | apply Keeps.flash | apply Keeps.hostMem | apply Keeps.regs
    | apply Keeps.shadow

theorem refreshBank_keeps {s₀ s : State} (p : Nat) (b : Nat) (hk : Keeps s₀ s) : Keeps s₀ (refreshBank p b s) := by
  unfold refreshBank
  repeat' with_reducible first
    | assumption | intro _ | apply ite_keeps | apply modPc_keeps | apply mk_keeps | apply Keeps.pending | apply Keeps.dram
    | apply Keeps.flash | apply Keeps.hostMem | apply Keeps.regs | apply Keeps.shadow

theorem refreshDue_keeps {s₀ s : State} (p : Nat) (busy : List Nat) (hk : Keeps s₀ s) : Keeps s₀ (refreshDue p busy s) := by
  unfold refreshDue
  repeat' with_reducible first
    | assumption | intro _ | apply ite_keeps | split | apply raiseSec_keeps | apply refreshBank_keeps | apply sat_keeps
    | apply wr_keeps | refine okeeps_get (by assumption) ?_ | refine opkeeps_get (by assumption) ?_
    | refine pair_fst_keeps (by assumption) ?_ | refine pair_snd_keeps (by assumption) ?_ | contradiction

theorem refreshRepay_keeps {s₀ s : State} (p : Nat) (busy : List Nat) (hk : Keeps s₀ s) : Keeps s₀ (refreshRepay p busy s) := by
  unfold refreshRepay
  repeat' with_reducible first
    | assumption | intro _ | apply ite_keeps | split | apply refreshBank_keeps | apply wr_keeps | refine okeeps_get (by assumption) ?_
    | refine opkeeps_get (by assumption) ?_ | refine pair_fst_keeps (by assumption) ?_ | refine pair_snd_keeps (by assumption) ?_
    | contradiction

theorem srEntry_keeps {s₀ s : State} (p : Nat) (hk : Keeps s₀ s) : Keeps s₀ (srEntry p s) := by
  unfold srEntry
  repeat' with_reducible first
    | assumption | intro _ | extract_lets | apply ite_keeps | apply modPc_keeps | apply sat_keeps | apply wr_keeps | apply mk_keeps
    | apply Keeps.pending | apply Keeps.dram | apply Keeps.flash | apply Keeps.hostMem | apply Keeps.regs | apply Keeps.shadow

theorem srExit_keeps {s₀ s : State} (p : Nat) (hk : Keeps s₀ s) : Keeps s₀ (srExit p s) := by
  unfold srExit
  repeat' with_reducible first
    | assumption | intro _ | extract_lets | apply ite_keeps | apply modPc_keeps | apply rehold_keeps | apply wr_keeps | apply mk_keeps
    | apply Keeps.pending | apply Keeps.dram | apply Keeps.flash | apply Keeps.hostMem | apply Keeps.regs | apply Keeps.shadow

theorem segZeroed_keeps {s₀ s : State} (hk : Keeps s₀ s) : Keeps s₀ (segZeroed s) := by
  unfold segZeroed
  repeat' with_reducible first
    | assumption | intro _ | extract_lets | apply ite_keeps | apply fst_ite_keeps | split | apply foldl_keeps | apply foldl_fst_keeps
    | apply SMap.rising_filter | apply Memory.wf_filter | apply modDrc_keeps | apply reholdAll_keeps | apply wake_keeps
    | apply wr_keeps | refine okeeps_get (by assumption) ?_ | refine opkeeps_get (by assumption) ?_
    | refine pair_fst_keeps (by assumption) ?_ | refine pair_snd_keeps (by assumption) ?_ | apply mk_keeps | apply Keeps.pending
    | apply Keeps.dram | apply Keeps.flash | apply Keeps.hostMem | apply Keeps.regs | apply Keeps.shadow | contradiction

theorem dramHolding_keeps {s₀ s : State} (hk : Keeps s₀ s) : Keeps s₀ (dramHolding s) := by
  unfold dramHolding
  repeat' with_reducible first
    | assumption | intro _ | apply foldl_keeps | apply modPc_keeps | apply releaseSegs_keeps | apply sat_keeps | apply when_keeps
    | apply wr_keeps | apply mk_keeps | apply Keeps.pending | apply Keeps.dram | apply Keeps.flash | apply Keeps.hostMem
    | apply Keeps.regs | apply Keeps.shadow

theorem rhWindowEnd_keeps {s₀ s : State} (hk : Keeps s₀ s) : Keeps s₀ (rhWindowEnd s) := by
  unfold rhWindowEnd
  repeat' with_reducible first
    | assumption | intro _ | apply ite_keeps | apply fst_ite_keeps | apply snd_ite_keeps | apply modDrc_keeps | apply wr_keeps
    | apply mk_keeps | apply Keeps.pending | apply Keeps.dram | apply Keeps.flash | apply Keeps.hostMem | apply Keeps.regs
    | apply Keeps.shadow

theorem patrolScrub_keeps {s₀ s0 : State} (ecc : Nat) (hk : Keeps s₀ s0) : Keeps s₀ (patrolScrub ecc s0) := by
  unfold patrolScrub
  repeat' with_reducible first
    | assumption | intro _ | extract_lets | apply ite_keeps | split | apply access_keeps | apply modDrc_keeps | apply when_keeps
    | refine okeeps_get (by assumption) ?_ | refine opkeeps_get (by assumption) ?_ | refine pair_fst_keeps (by assumption) ?_
    | refine pair_snd_keeps (by assumption) ?_ | (dsimp +zetaDelta only; split) | apply mk_keeps | apply Keeps.pending
    | apply Keeps.dram | apply Keeps.flash | apply Keeps.hostMem | apply Keeps.regs | apply Keeps.shadow | contradiction

theorem drcTick_keeps {s₀ s : State} (hk : Keeps s₀ s) : Keeps s₀ (drcTick s) := by
  unfold drcTick
  repeat' with_reducible first
    | assumption | intro _ | extract_lets | apply ite_keeps | apply fst_ite_keeps | apply snd_ite_keeps | apply SMap.rising_filter
    | apply Memory.wf_filter | apply modDrc_keeps | apply releaseSegs_keeps | apply retainSegs_keeps | apply sat_keeps
    | apply takeBase_keeps | apply when_keeps | apply mk_keeps | apply Keeps.pending | apply Keeps.dram | apply Keeps.flash
    | apply Keeps.hostMem | apply Keeps.regs | apply Keeps.shadow

end Sys2Proof.Machine
end

