-- ==== Sys2Proof/Laws/KeepsLoad.lean ====
section
/-! SUPPORT. Laws/KeepsLoad.lean: every operation of Machine/Load.lean keeps the queue of commands and the canonical forms (Keeps). -/
namespace Sys2Proof.Machine

theorem treeAway_keeps {s₀ s : State} (n : Nat) (hk : Keeps s₀ s) : Keeps s₀ (treeAway n s) := by
  unfold treeAway
  repeat' with_reducible first
    | assumption | intro _ | extract_lets | apply foldl_keeps | apply SMap.rising_filter | apply Memory.wf_filter
    | apply countWin_keeps | apply modTree_keeps | apply windowLost_keeps | apply mk_keeps | apply Keeps.pending | apply Keeps.dram
    | apply Keeps.flash | apply Keeps.hostMem | apply Keeps.regs | apply Keeps.shadow

theorem unprotJoin_keeps {s₀ s : State} (n : Nat) (hk : Keeps s₀ s) : Keeps s₀ (unprotJoin n s) := by
  unfold unprotJoin
  repeat' with_reducible first
    | assumption | intro _ | apply ite_keeps | apply modPrt_keeps | apply when_keeps | apply mk_keeps | apply Keeps.pending
    | apply Keeps.dram | apply Keeps.flash | apply Keeps.hostMem | apply Keeps.regs | apply Keeps.shadow

theorem followTile_keeps {s₀ s : State} (n : Nat) (hk : Keeps s₀ s) : Keeps s₀ (followTile old n s) := by
  unfold followTile
  repeat' with_reducible first
    | assumption | intro _ | extract_lets | apply ite_keeps | apply foldl_keeps | apply fwdDrain_keeps | apply fwdJoined_keeps
    | apply linkDown_keeps | apply mecFollow_keeps | apply ownerDefaults_keeps | apply queueDefaults_keeps | apply startSfc_keeps
    | apply treeAway_keeps | apply treeCommit_keeps | apply unprotJoin_keeps | apply when_keeps

theorem follow_keeps {s₀ s : State} (g : State → State) (hg : ∀ u : State, Keeps s₀ u → Keeps s₀ (g u)) (hk : Keeps s₀ s) : Keeps s₀ (follow g s) := by
  unfold follow
  repeat' with_reducible first
    | assumption | intro _ | extract_lets | apply foldl_keeps | apply followTile_keeps | apply hg

theorem refuseSlot_keeps {s₀ s : State} (k : Nat) (hk : Keeps s₀ s) : Keeps s₀ (refuseSlot k s) := by
  unfold refuseSlot
  repeat' with_reducible first
    | assumption | intro _ | apply raise_keeps | apply wr_keeps

theorem imgVerify_keeps {s₀ s : State} (k : Nat) (hk : Keeps s₀ s) : Keeps s₀ (imgVerify k s) := by
  unfold imgVerify
  repeat' with_reducible first
    | assumption | intro _ | extract_lets | apply ite_keeps | apply modSlot_keeps | apply refuseSlot_keeps | apply showBusy_keeps
    | apply wr_keeps | apply mk_keeps | apply Keeps.pending | apply Keeps.dram | apply Keeps.flash | apply Keeps.hostMem
    | apply Keeps.regs | apply Keeps.shadow

theorem imgInvalidate_keeps {s₀ s : State} (k : Nat) (hk : Keeps s₀ s) : Keeps s₀ (imgInvalidate k s) := by
  unfold imgInvalidate
  repeat' with_reducible first
    | assumption | intro _ | extract_lets | apply ite_keeps | apply refuseSlot_keeps | apply unverify_keeps | apply wr_keeps

theorem verificationEnd_keeps {s₀ s : State} (k : Nat) (hk : Keeps s₀ s) : Keeps s₀ (verificationEnd k s) := by
  unfold verificationEnd
  repeat' with_reducible first
    | assumption | intro _ | apply ite_keeps | apply endVerify_keeps | apply imageRead_keeps

theorem slotWritten_keeps {s₀ s : State} (k : Nat) (hk : Keeps s₀ s) : Keeps s₀ (slotWritten k s) := by
  unfold slotWritten
  repeat' with_reducible first
    | assumption | intro _ | extract_lets | apply ite_keeps | apply fst_ite_keeps | apply snd_ite_keeps | apply foldl_keeps
    | apply foldl_fst_keeps | apply foldl_snd_keeps | apply SMap.rising_filter | apply Memory.wf_filter | apply abandonReload_keeps
    | apply modSlot_keeps | apply raise_keeps | apply showBusy_keeps | apply unverify_keeps | apply when_keeps | apply wr_keeps
    | apply mk_keeps | apply Keeps.pending | apply Keeps.dram | apply Keeps.flash | apply Keeps.hostMem | apply Keeps.regs
    | apply Keeps.shadow

theorem countDiscard_keeps {s₀ s : State} (all : List (Nat × Nat)) (hk : Keeps s₀ s) : Keeps s₀ (countDiscard all s) := by
  unfold countDiscard
  repeat' with_reducible first
    | assumption | intro _ | apply raiseSec_keeps | apply sat_keeps | apply when_keeps

theorem slotsWritten_keeps {s₀ s : State} (ok : List (Nat × Nat)) (hk : Keeps s₀ s) : Keeps s₀ (slotsWritten ok s) := by
  unfold slotsWritten
  repeat' with_reducible first
    | assumption | intro _ | apply ite_keeps | apply fst_ite_keeps | apply foldl_keeps | apply foldl_fst_keeps
    | apply slotWritten_keeps

theorem bar2Write_keeps {s₀ s : State} (off : Nat) (bytes : List Nat) (hk : Keeps s₀ s) : Keeps s₀ (bar2Write off bytes s) := by
  unfold bar2Write
  repeat' with_reducible first
    | assumption | intro _ | extract_lets | apply countDiscard_keeps | apply dramPut_keeps | apply slotsWritten_keeps

theorem landRequest_keeps {s₀ s : State} (ok : List (Nat × Nat)) (hk : Keeps s₀ s) : Keeps s₀ (landRequest ok s) := by
  unfold landRequest
  repeat' with_reducible first
    | assumption | intro _ | split | apply dramRequest_keeps | apply slotsWritten_keeps | refine okeeps_get (by assumption) ?_
    | refine opkeeps_get (by assumption) ?_ | refine pair_fst_keeps (by assumption) ?_ | refine pair_snd_keeps (by assumption) ?_
    | contradiction

theorem bar2Request_keeps {s₀ s : State} (off : Nat) (data : Option (List Nat)) (hk : Keeps s₀ s) : Keeps s₀ (bar2Request off data s) := by
  unfold bar2Request
  repeat' with_reducible first
    | assumption | intro _ | extract_lets | split | apply countDiscard_keeps | apply dramRequest_keeps | apply landRequest_keeps
    | refine okeeps_get (by assumption) ?_ | refine opkeeps_get (by assumption) ?_ | refine pair_fst_keeps (by assumption) ?_
    | refine pair_snd_keeps (by assumption) ?_ | (dsimp +zetaDelta only; split) | contradiction

theorem reloadRequest_keeps {s₀ s : State} (tile : Nat) (slot : Nat) (pen : Bool) (partner : Nat) (gen : Nat) (hk : Keeps s₀ s) : Keeps s₀ (reloadRequest tile slot pen partner gen s) := by
  unfold reloadRequest
  repeat' with_reducible first
    | assumption | intro _ | extract_lets | apply ite_keeps | apply foldl_keeps | apply SMap.rising_put | apply SMap.rising_foldl
    | apply bringUp_keeps | apply modCfg_keeps | apply raise_keeps | apply showActive_keeps | apply wr_keeps | apply mk_keeps
    | apply Keeps.pending | apply Keeps.dram | apply Keeps.flash | apply Keeps.hostMem | apply Keeps.regs | apply Keeps.shadow

theorem queueReloads_keeps {s₀ s : State} (hk : Keeps s₀ s) : Keeps s₀ (queueReloads s) := by
  unfold queueReloads
  repeat' with_reducible first
    | assumption | intro _ | apply ite_keeps | apply fst_ite_keeps | apply foldl_keeps | apply foldl_fst_keeps | apply bringUp_keeps

theorem drainEnd_keeps {s₀ s : State} (n : Nat) (hk : Keeps s₀ s) : Keeps s₀ (drainEnd n s) := by
  unfold drainEnd
  repeat' with_reducible first
    | assumption | intro _ | apply ite_keeps | split | apply modCfg_keeps | apply showBusy_keeps | apply wr_keeps
    | refine okeeps_get (by assumption) ?_ | refine opkeeps_get (by assumption) ?_ | refine pair_fst_keeps (by assumption) ?_
    | refine pair_snd_keeps (by assumption) ?_ | apply mk_keeps | apply Keeps.pending | apply Keeps.dram | apply Keeps.flash
    | apply Keeps.hostMem | apply Keeps.regs | apply Keeps.shadow | contradiction

theorem sectionLoaded_keeps {s₀ s : State} (n : Nat) (hk : Keeps s₀ s) : Keeps s₀ (sectionLoaded n s) := by
  unfold sectionLoaded
  repeat' with_reducible first
    | assumption | intro _ | extract_lets | apply ite_keeps | split | apply SMap.rising_put | apply SMap.rising_foldl
    | apply abandonReload_keeps | apply fwdLoading_keeps | apply imageRead_keeps | apply modCfg_keeps | apply showBusy_keeps
    | refine okeeps_get (by assumption) ?_ | refine opkeeps_get (by assumption) ?_ | refine pair_fst_keeps (by assumption) ?_
    | refine pair_snd_keeps (by assumption) ?_ | (dsimp +zetaDelta only; split) | apply mk_keeps | apply Keeps.pending
    | apply Keeps.dram | apply Keeps.flash | apply Keeps.hostMem | apply Keeps.regs | apply Keeps.shadow | contradiction

theorem tileNegotiation_keeps {s₀ s : State} (n : Nat) (hk : Keeps s₀ s) : Keeps s₀ (tileNegotiation n s) := by
  unfold tileNegotiation
  repeat' with_reducible first
    | assumption | intro _ | apply ite_keeps | split | apply foldl_keeps | apply SMap.rising_put | apply SMap.rising_foldl
    | apply isolateTile_keeps | apply modCfg_keeps | refine okeeps_get (by assumption) ?_ | refine opkeeps_get (by assumption) ?_
    | refine pair_fst_keeps (by assumption) ?_ | refine pair_snd_keeps (by assumption) ?_ | apply mk_keeps | apply Keeps.pending
    | apply Keeps.dram | apply Keeps.flash | apply Keeps.hostMem | apply Keeps.regs | apply Keeps.shadow | contradiction

theorem reloadTimeout_keeps {s₀ s : State} (n : Nat) (hk : Keeps s₀ s) : Keeps s₀ (reloadTimeout n s) := by
  unfold reloadTimeout
  repeat' with_reducible first
    | assumption | intro _ | extract_lets | apply ite_keeps | split | apply abandonReload_keeps | refine okeeps_get (by assumption) ?_
    | refine opkeeps_get (by assumption) ?_ | refine pair_fst_keeps (by assumption) ?_ | refine pair_snd_keeps (by assumption) ?_
    | contradiction

theorem commitWrite_keeps {s₀ s : State} (link : Bool) (g : Nat) (gen : Nat) (hk : Keeps s₀ s) : Keeps s₀ (commitWrite link g gen s) := by
  unfold commitWrite
  repeat' with_reducible first
    | assumption | intro _ | extract_lets | apply ite_keeps | apply foldl_keeps | apply modCfg_keeps | apply refuseCommit_keeps
    | apply wr_keeps | apply mk_keeps | apply Keeps.pending | apply Keeps.dram | apply Keeps.flash | apply Keeps.hostMem
    | apply Keeps.regs | apply Keeps.shadow

theorem activate_keeps {s₀ s : State} (c : CommitReq) (hk : Keeps s₀ s) : Keeps s₀ (activate c s) := by
  unfold activate
  repeat' with_reducible first
    | assumption | intro _ | extract_lets | split | apply foldl_keeps | apply foldl_fst_keeps | apply foldl_snd_keeps
    | apply SMap.rising_filter | apply Memory.wf_filter | apply wr_keeps | refine okeeps_get (by assumption) ?_
    | refine opkeeps_get (by assumption) ?_ | refine pair_fst_keeps (by assumption) ?_ | refine pair_snd_keeps (by assumption) ?_
    | (dsimp +zetaDelta only; split) | apply mk_keeps | apply Keeps.pending | apply Keeps.dram | apply Keeps.flash
    | apply Keeps.hostMem | apply Keeps.regs | apply Keeps.shadow | contradiction

theorem groupHook_keeps {s₀ s : State} (g : Nat) (hk : Keeps s₀ s) : Keeps s₀ (groupHook old g s) := by
  unfold groupHook
  repeat' with_reducible first
    | assumption | intro _ | apply ite_keeps | split | apply fwdCommit_keeps | apply reflexCommit_keeps | apply showTree_keeps
    | apply tmgCommit_keeps | apply treeCommit_keeps | apply tsuCommit_keeps | refine okeeps_get (by assumption) ?_
    | refine opkeeps_get (by assumption) ?_ | refine pair_fst_keeps (by assumption) ?_ | refine pair_snd_keeps (by assumption) ?_
    | apply mk_keeps | apply Keeps.pending | apply Keeps.dram | apply Keeps.flash | apply Keeps.hostMem | apply Keeps.regs
    | apply Keeps.shadow | contradiction

theorem activateAll_keeps {s₀ s : State} (l : List CommitReq) (hk : Keeps s₀ s) : Keeps s₀ (activateAll l s) := by
  unfold activateAll
  repeat' with_reducible first
    | assumption | intro _ | apply foldl_keeps | apply activate_keeps | apply groupHook_keeps

theorem commitTick_keeps {s₀ s : State} (hk : Keeps s₀ s) : Keeps s₀ (commitTick s) := by
  unfold commitTick
  repeat' with_reducible first
    | assumption | intro _ | apply SMap.rising_filter | apply Memory.wf_filter | apply activateAll_keeps | apply modCfg_keeps
    | apply mk_keeps | apply Keeps.pending | apply Keeps.dram | apply Keeps.flash | apply Keeps.hostMem | apply Keeps.regs
    | apply Keeps.shadow

theorem ruleTick_keeps {s₀ s : State} (hk : Keeps s₀ s) : Keeps s₀ (ruleTick s) := by
  unfold ruleTick
  repeat' with_reducible first
    | assumption | intro _ | apply activateAll_keeps | apply modCfg_keeps | apply mk_keeps | apply Keeps.pending | apply Keeps.dram
    | apply Keeps.flash | apply Keeps.hostMem | apply Keeps.regs | apply Keeps.shadow

end Sys2Proof.Machine
end

