-- ==== Sys2Proof/Laws/KeepsPromotion.lean ====
section
/-! SUPPORT. Laws/KeepsPromotion.lean: every operation of Machine/Promotion.lean keeps the queue of commands and the canonical forms (Keeps). -/
namespace Sys2Proof.Machine

theorem openMaps_keeps {s₀ s : State} (hk : Keeps s₀ s) : Keeps s₀ (openMaps s) := by
  unfold openMaps
  repeat' with_reducible first
    | assumption | intro _ | apply ite_keeps | apply foldl_keeps | apply placeFixed_keeps | apply setStandby_keeps

theorem takeMode_keeps {s₀ s : State} (m : Nat) (hk : Keeps s₀ s) : Keeps s₀ (takeMode m s) := by
  unfold takeMode
  repeat' with_reducible first
    | assumption | intro _ | apply ite_keeps | apply abandonRecs_keeps | apply abortAll_keeps | apply openMaps_keeps
    | apply setMode_keeps | apply when_keeps

theorem coldTree_keeps {s₀ s : State} (n : Nat) (hk : Keeps s₀ s) : Keeps s₀ (coldTree n s) := by
  unfold coldTree
  repeat' with_reducible first
    | assumption | intro _ | apply foldl_keeps | apply SMap.rising_filter | apply Memory.wf_filter | apply releaseTerm_keeps

theorem warmTerm_keeps {s₀ s : State} (n : Nat) (t : Nat) (adj : Int) (hk : Keeps s₀ s) : Keeps s₀ (warmTerm n t adj s) := by
  unfold warmTerm
  repeat' with_reducible first
    | assumption | intro _ | extract_lets | apply ite_keeps | apply modTerm_keeps | apply setEqd_keeps | apply setTerm_keeps
    | apply mk_keeps | apply Keeps.pending | apply Keeps.dram | apply Keeps.flash | apply Keeps.hostMem | apply Keeps.regs
    | apply Keeps.shadow

theorem warmTree_keeps {s₀ s : State} (n : Nat) (hk : Keeps s₀ s) : Keeps s₀ (warmTree n s) := by
  unfold warmTree
  repeat' with_reducible first
    | assumption | intro _ | extract_lets | apply ite_keeps | apply foldl_keeps | apply queueMsg_keeps | apply warmTerm_keeps

theorem promoteTree_keeps {s₀ s : State} (cold : Bool) (n : Nat) (hk : Keeps s₀ s) : Keeps s₀ (promoteTree cold n s) := by
  unfold promoteTree
  repeat' with_reducible first
    | assumption | intro _ | extract_lets | apply ite_keeps | apply SMap.rising_filter | apply Memory.wf_filter | apply coldTree_keeps
    | apply modTree_keeps | apply warmTree_keeps | apply wr_keeps | apply writeCeiling_keeps | apply mk_keeps | apply Keeps.pending
    | apply Keeps.dram | apply Keeps.flash | apply Keeps.hostMem | apply Keeps.regs | apply Keeps.shadow

theorem takeOver_keeps {s₀ s : State} (v : Verdict) (hk : Keeps s₀ s) : Keeps s₀ (takeOver v s) := by
  unfold takeOver
  repeat' with_reducible first
    | assumption | intro _ | extract_lets | apply foldl_keeps | apply modPrt_keeps | apply promoteTree_keeps | apply setRole_keeps
    | apply wr_keeps | apply mk_keeps | apply Keeps.pending | apply Keeps.dram | apply Keeps.flash | apply Keeps.hostMem
    | apply Keeps.regs | apply Keeps.shadow

theorem promote_keeps {s₀ s : State} (v : Verdict) (hk : Keeps s₀ s) : Keeps s₀ (promote v s) := by
  unfold promote
  repeat' with_reducible first
    | assumption | intro _ | extract_lets | apply releaseBens_keeps | apply startBulk_keeps | apply takeMode_keeps
    | apply takeOver_keeps | apply when_keeps

theorem renameWait_keeps {s₀ s : State} (m : Nat) (hk : Keeps s₀ s) : Keeps s₀ (renameWait m s) := by
  unfold renameWait
  repeat' with_reducible first
    | assumption | intro _ | apply modPwr_keeps | apply mk_keeps | apply Keeps.pending | apply Keeps.dram | apply Keeps.flash
    | apply Keeps.hostMem | apply Keeps.regs | apply Keeps.shadow

theorem demote_keeps {s₀ s : State} (hk : Keeps s₀ s) : Keeps s₀ (demote s) := by
  unfold demote
  repeat' with_reducible first
    | assumption | intro _ | extract_lets | apply ite_keeps | apply modPrt_keeps | apply renameWait_keeps | apply setMirror_keeps
    | apply setRole_keeps | apply takeMode_keeps | apply wr_keeps | apply mk_keeps | apply Keeps.pending | apply Keeps.dram
    | apply Keeps.flash | apply Keeps.hostMem | apply Keeps.regs | apply Keeps.shadow

theorem fence_keeps {s₀ s : State} (hk : Keeps s₀ s) : Keeps s₀ (fence s) := by
  unfold fence
  repeat' with_reducible first
    | assumption | intro _ | extract_lets | apply ite_keeps | apply modPrt_keeps | apply renameWait_keeps | apply setRole_keeps
    | apply takeMode_keeps | apply when_keeps | apply wr_keeps | apply mk_keeps | apply Keeps.pending | apply Keeps.dram
    | apply Keeps.flash | apply Keeps.hostMem | apply Keeps.regs | apply Keeps.shadow

theorem actOn_keeps {s₀ s : State} (v : Verdict) (hk : Keeps s₀ s) : Keeps s₀ (actOn v s) := by
  unfold actOn
  repeat' with_reducible first
    | assumption | intro _ | apply ite_keeps | apply demote_keeps | apply fence_keeps | apply modPrt_keeps | apply promote_keeps
    | apply renameWait_keeps | apply setRole_keeps | apply takeOver_keeps | apply wr_keeps | apply mk_keeps | apply Keeps.pending
    | apply Keeps.dram | apply Keeps.flash | apply Keeps.hostMem | apply Keeps.regs | apply Keeps.shadow

theorem verdictApplied_keeps {s₀ s : State} (hk : Keeps s₀ s) : Keeps s₀ (verdictApplied s) := by
  unfold verdictApplied
  repeat' with_reducible first
    | assumption | intro _ | extract_lets | apply ite_keeps | split | apply actOn_keeps | apply modPrt_keeps | apply raise_keeps
    | apply wr_keeps | refine okeeps_get (by assumption) ?_ | refine opkeeps_get (by assumption) ?_
    | refine pair_fst_keeps (by assumption) ?_ | refine pair_snd_keeps (by assumption) ?_ | apply mk_keeps | apply Keeps.pending
    | apply Keeps.dram | apply Keeps.flash | apply Keeps.hostMem | apply Keeps.regs | apply Keeps.shadow | contradiction

theorem mirrorPage_keeps {s₀ s : State} (n : Nat) (ws : List (Nat × Nat)) (hk : Keeps s₀ s) : Keeps s₀ (mirrorPage n ws s) := by
  unfold mirrorPage
  repeat' with_reducible first
    | assumption | intro _ | extract_lets | apply ite_keeps | apply fst_ite_keeps | apply snd_ite_keeps | apply SMap.rising_filter
    | apply Memory.wf_filter | apply modTree_keeps | apply setStandby_keeps | apply mk_keeps | apply Keeps.pending | apply Keeps.dram
    | apply Keeps.flash | apply Keeps.hostMem | apply Keeps.regs | apply Keeps.shadow

theorem applyRec_keeps {s₀ s : State} (r : MirRec) (hk : Keeps s₀ s) : Keeps s₀ (applyRec r s) := by
  unfold applyRec
  repeat' with_reducible first
    | assumption | intro _ | extract_lets | apply ite_keeps | apply fst_ite_keeps | apply snd_ite_keeps | split | apply foldl_keeps
    | apply foldl_fst_keeps | apply foldl_snd_keeps | apply SMap.rising_put | apply SMap.rising_foldl | apply mirrorPage_keeps
    | apply modFlow_keeps | apply modKey_keeps | apply modKterm_keeps | apply modTerm_keeps | apply modTree_keeps
    | apply releaseTerm_keeps | apply setEqd_keeps | apply setRtd_keeps | apply setTerm_keeps | apply wr_keeps
    | refine okeeps_get (by assumption) ?_ | refine opkeeps_get (by assumption) ?_ | refine pair_fst_keeps (by assumption) ?_
    | refine pair_snd_keeps (by assumption) ?_ | apply mk_keeps | apply Keeps.pending | apply Keeps.dram | apply Keeps.flash
    | apply Keeps.hostMem | apply Keeps.regs | apply Keeps.shadow | contradiction

theorem mirrorRx_keeps {s₀ s : State} (mg : Nat) (r : MirRec) (hk : Keeps s₀ s) : Keeps s₀ (mirrorRx mg r s) := by
  unfold mirrorRx
  repeat' with_reducible first
    | assumption | intro _ | apply ite_keeps | apply applyRec_keeps | apply wr_keeps

end Sys2Proof.Machine
end

