-- ==== Sys2Proof/Laws/KeepsWarm.lean ====
section
/-! SUPPORT. Laws/KeepsWarm.lean: every operation of Machine/Warm.lean keeps the queue of commands and the canonical forms (Keeps). -/
namespace Sys2Proof.Machine

theorem takeProtRegion_keeps {s₀ s : State} (c : SaveSet) (hk : Keeps s₀ s) : Keeps s₀ (takeProtRegion c s) := by
  unfold takeProtRegion
  repeat' with_reducible first
    | assumption | intro _ | extract_lets | apply ite_keeps | apply modPrt_keeps | apply takeSaved_keeps | apply wr_keeps
    | apply mk_keeps | apply Keeps.pending | apply Keeps.dram | apply Keeps.flash | apply Keeps.hostMem | apply Keeps.regs
    | apply Keeps.shadow

theorem takeTimeRegion_keeps {s₀ s : State} (c : SaveSet) (hk : Keeps s₀ s) : Keeps s₀ (takeTimeRegion c s) := by
  unfold takeTimeRegion
  repeat' with_reducible first
    | assumption | intro _ | extract_lets | apply ite_keeps | apply modTsu_keeps | apply staleTod_keeps | apply takeSaved_keeps
    | apply mk_keeps | apply Keeps.pending | apply Keeps.dram | apply Keeps.flash | apply Keeps.hostMem | apply Keeps.regs
    | apply Keeps.shadow

theorem takeTime_keeps {s₀ s : State} (hk : Keeps s₀ s) : Keeps s₀ (takeTime s) := by
  unfold takeTime
  repeat' with_reducible first
    | assumption | intro _ | split | apply takeTimeRegion_keeps | refine okeeps_get (by assumption) ?_
    | refine opkeeps_get (by assumption) ?_ | refine pair_fst_keeps (by assumption) ?_ | refine pair_snd_keeps (by assumption) ?_
    | contradiction

theorem takeProtection_keeps {s₀ s : State} (hk : Keeps s₀ s) : Keeps s₀ (takeProtection s) := by
  unfold takeProtection
  repeat' with_reducible first
    | assumption | intro _ | split | apply takeProtRegion_keeps | refine okeeps_get (by assumption) ?_
    | refine opkeeps_get (by assumption) ?_ | refine pair_fst_keeps (by assumption) ?_ | refine pair_snd_keeps (by assumption) ?_
    | contradiction

theorem returnSaved_keeps {s₀ s : State} (p : Nat → Bool) (c : SaveSet) (hk : Keeps s₀ s) : Keeps s₀ (returnSaved p c s) := by
  unfold returnSaved
  repeat' with_reducible first
    | assumption | intro _ | apply ite_keeps | apply fst_ite_keeps | apply snd_ite_keeps | split | apply foldl_keeps
    | apply foldl_fst_keeps | apply foldl_snd_keeps | apply SMap.rising_del | apply wr_keeps | refine okeeps_get (by assumption) ?_
    | refine opkeeps_get (by assumption) ?_ | refine pair_fst_keeps (by assumption) ?_ | refine pair_snd_keeps (by assumption) ?_
    | apply mk_keeps | apply Keeps.pending | apply Keeps.dram | apply Keeps.flash | apply Keeps.hostMem | apply Keeps.regs
    | apply Keeps.shadow | contradiction

theorem returnAhead_keeps {s₀ s : State} (hk : Keeps s₀ s) : Keeps s₀ (returnAhead s) := by
  unfold returnAhead
  repeat' with_reducible first
    | assumption | intro _ | extract_lets | apply ite_keeps | split | apply modTsu_keeps | apply returnSaved_keeps
    | apply staleTod_keeps | refine okeeps_get (by assumption) ?_ | refine opkeeps_get (by assumption) ?_
    | refine pair_fst_keeps (by assumption) ?_ | refine pair_snd_keeps (by assumption) ?_ | apply mk_keeps | apply Keeps.pending
    | apply Keeps.dram | apply Keeps.flash | apply Keeps.hostMem | apply Keeps.regs | apply Keeps.shadow | contradiction

theorem restoreTerm_keeps {s₀ s : State} (n : Nat) (c : SaveSet) (t : Nat) (hk : Keeps s₀ s) : Keeps s₀ (restoreTerm n c t s) := by
  unfold restoreTerm
  repeat' with_reducible first
    | assumption | intro _ | extract_lets | apply ite_keeps | apply modTerm_keeps | apply setTerm_keeps | apply wr_keeps
    | apply mk_keeps | apply Keeps.pending | apply Keeps.dram | apply Keeps.flash | apply Keeps.hostMem | apply Keeps.regs
    | apply Keeps.shadow

theorem restoreTeq_keeps {s₀ s : State} (n : Nat) (hk : Keeps s₀ s) : Keeps s₀ (restoreTeq n s) := by
  unfold restoreTeq
  repeat' with_reducible first
    | assumption | intro _ | extract_lets | apply ite_keeps | apply modTree_keeps | apply wr_keeps | apply mk_keeps
    | apply Keeps.pending | apply Keeps.dram | apply Keeps.flash | apply Keeps.hostMem | apply Keeps.regs | apply Keeps.shadow

theorem restoreTree_keeps {s₀ s : State} (c : SaveSet) (time : Nat) (n : Nat) (hk : Keeps s₀ s) : Keeps s₀ (restoreTree c time s n) := by
  unfold restoreTree
  repeat' with_reducible first
    | assumption | intro _ | extract_lets | apply ite_keeps | apply foldl_keeps | apply SMap.rising_filter | apply Memory.wf_filter
    | apply modTree_keeps | apply noteRtd_keeps | apply restoreTeq_keeps | apply restoreTerm_keeps | apply takeSaved_keeps
    | apply wr_keeps | apply writeCeiling_keeps | apply mk_keeps | apply Keeps.pending | apply Keeps.dram | apply Keeps.flash
    | apply Keeps.hostMem | apply Keeps.regs | apply Keeps.shadow

theorem restoreEnable_keeps {s₀ s : State} (c : SaveSet) (n : Nat) (hk : Keeps s₀ s) : Keeps s₀ (restoreEnable c s n) := by
  unfold restoreEnable
  repeat' with_reducible first
    | assumption | intro _ | apply ite_keeps | apply portDisable_keeps | apply portEnable_keeps

theorem restoreWarm_keeps {s₀ t : State} (k : SaveCopy) (hk : Keeps s₀ t) : Keeps s₀ (restoreWarm k t) := by
  unfold restoreWarm
  repeat' with_reducible first
    | assumption | intro _ | extract_lets | split | apply foldl_keeps | apply foldl_fst_keeps | apply foldl_snd_keeps
    | apply SMap.rising_filter | apply Memory.wf_filter | apply modKey_keeps | apply modKterm_keeps | apply restoreEnable_keeps
    | apply restoreTree_keeps | apply takeProtRegion_keeps | apply takeSaved_keeps | apply takeTimeRegion_keeps | apply when_keeps
    | apply wr_keeps | refine okeeps_get (by assumption) ?_ | refine opkeeps_get (by assumption) ?_
    | refine pair_fst_keeps (by assumption) ?_ | refine pair_snd_keeps (by assumption) ?_ | apply mk_keeps | apply Keeps.pending
    | apply Keeps.dram | apply Keeps.flash | apply Keeps.hostMem | apply Keeps.regs | apply Keeps.shadow | contradiction

theorem showWarm_keeps {s₀ s : State} (older : Bool) (hk : Keeps s₀ s) : Keeps s₀ (showWarm older s) := by
  unfold showWarm
  repeat' with_reducible first
    | assumption | intro _ | apply wr_keeps

theorem showCold_keeps {s₀ s0 : State} (code : Nat) (hk : Keeps s₀ s0) : Keeps s₀ (showCold code s0) := by
  unfold showCold
  repeat' with_reducible first
    | assumption | intro _ | extract_lets | apply returnAhead_keeps | apply wr_keeps

theorem resumeWork_keeps {s₀ s : State} (err : Bool) (hk : Keeps s₀ s) : Keeps s₀ (resumeWork err s) := by
  unfold resumeWork
  repeat' with_reducible first
    | assumption | intro _ | extract_lets | apply ite_keeps | split | apply restoreWarm_keeps | apply showCold_keeps
    | apply showWarm_keeps | refine okeeps_get (by assumption) ?_ | refine opkeeps_get (by assumption) ?_
    | refine pair_fst_keeps (by assumption) ?_ | refine pair_snd_keeps (by assumption) ?_ | (dsimp +zetaDelta only; split)
    | contradiction

end Sys2Proof.Machine
end

