-- ==== Sys2Proof/Laws/KeepsBoot.lean ====
section
/-! SUPPORT. Laws/KeepsBoot.lean: every operation of Machine/Boot.lean keeps the queue of commands and the canonical forms (Keeps). -/
namespace Sys2Proof.Machine

theorem showMem_keeps {s₀ s : State} (k : Nat) (hk : Keeps s₀ s) : Keeps s₀ (showMem k s) := by
  unfold showMem
  repeat' with_reducible first
    | assumption | intro _ | apply wr_keeps

theorem setMem_keeps_boot {s₀ s : State} (k : Nat) (g : StepMem → StepMem) (hk : Keeps s₀ s) : Keeps s₀ (setMem k g s) := by
  unfold setMem
  repeat' with_reducible first
    | assumption | intro _ | apply modCfg_keeps | apply showMem_keeps | apply mk_keeps | apply Keeps.pending | apply Keeps.dram
    | apply Keeps.flash | apply Keeps.hostMem | apply Keeps.regs | apply Keeps.shadow

theorem keepMem_keeps {s₀ s : State} (hk : Keeps s₀ s) : Keeps s₀ (keepMem s) := by
  unfold keepMem
  repeat' with_reducible first
    | assumption | intro _ | apply ite_keeps | apply writeCtrl_keeps

theorem keepCommand_keeps {s₀ s : State} (g : CtrlCopy → CtrlCopy) (hk : Keeps s₀ s) : Keeps s₀ (keepCommand g s) := by
  unfold keepCommand
  repeat' with_reducible first
    | assumption | intro _ | apply ite_keeps | apply keepMem_keeps | apply modStore_keeps

theorem commandMem_keeps {s₀ s : State} (k : Nat) (g : StepMem → StepMem) (hk : Keeps s₀ s) : Keeps s₀ (commandMem k g s) := by
  unfold commandMem
  repeat' with_reducible first
    | assumption | intro _ | apply keepCommand_keeps | apply setMem_keeps | apply setMem_keeps_boot | apply mk_keeps
    | apply Keeps.pending | apply Keeps.dram | apply Keeps.flash | apply Keeps.hostMem | apply Keeps.regs | apply Keeps.shadow

theorem pickImage_keeps {s₀ s : State} (alternate : Bool) (hk : Keeps s₀ s) : Keeps s₀ (pickImage alternate s) := by
  unfold pickImage
  repeat' with_reducible first
    | assumption | intro _ | extract_lets | apply ite_keeps | apply modCfg_keeps | apply wr_keeps | apply mk_keeps
    | apply Keeps.pending | apply Keeps.dram | apply Keeps.flash | apply Keeps.hostMem | apply Keeps.regs | apply Keeps.shadow

theorem deliverEarly_keeps {s₀ s : State} (hk : Keeps s₀ s) : Keeps s₀ (deliverEarly s) := by
  unfold deliverEarly
  repeat' with_reducible first
    | assumption | intro _ | apply foldl_keeps | apply foldl_fst_keeps | apply foldl_snd_keeps | apply deliver_keeps
    | apply modCfg_keeps | apply modHub_keeps | apply mk_keeps | apply Keeps.pending | apply Keeps.dram | apply Keeps.flash
    | apply Keeps.hostMem | apply Keeps.regs | apply Keeps.shadow

theorem applyRoute_keeps {s₀ s : State} (sec : List Byte) (hk : Keeps s₀ s) : Keeps s₀ (applyRoute sec s) := by
  unfold applyRoute
  repeat' with_reducible first
    | assumption | intro _ | extract_lets | apply foldl_keeps | apply deliverEarly_keeps | apply wr_keeps

theorem setRule_keeps {s₀ s : State} (e : Nat × Nat) (hk : Keeps s₀ s) : Keeps s₀ (setRule s e) := by
  unfold setRule
  repeat' with_reducible first
    | assumption | intro _ | extract_lets | apply wr_keeps

theorem applyProtection_keeps {s₀ s : State} (sec : List Byte) (hk : Keeps s₀ s) : Keeps s₀ (applyProtection sec s) := by
  unfold applyProtection
  repeat' with_reducible first
    | assumption | intro _ | extract_lets | apply foldl_keeps | apply foldl_fst_keeps | apply foldl_snd_keeps | apply wr_keeps

theorem applySections_keeps {s₀ s : State} (hk : Keeps s₀ s) : Keeps s₀ (applySections s) := by
  unfold applySections
  repeat' with_reducible first
    | assumption | intro _ | extract_lets | apply ite_keeps | apply foldl_keeps | apply applyProtection_keeps | apply applyRoute_keeps
    | apply applyWrites_keeps | apply reflexCommit_keeps | apply selectSource_keeps | apply setRule_keeps

theorem loadTiles_keeps {s₀ s : State} (hk : Keeps s₀ s) : Keeps s₀ (loadTiles s) := by
  unfold loadTiles
  repeat' with_reducible first
    | assumption | intro _ | extract_lets | apply foldl_keeps | apply foldl_fst_keeps | apply SMap.rising_filter
    | apply Memory.wf_filter | apply SMap.rising_put | apply SMap.rising_foldl | apply bringUp_keeps | apply modCfg_keeps
    | apply showActive_keeps | apply wr_keeps | apply mk_keeps | apply Keeps.pending | apply Keeps.dram | apply Keeps.flash
    | apply Keeps.hostMem | apply Keeps.regs | apply Keeps.shadow

theorem adoptImage_keeps {s₀ s : State} (hk : Keeps s₀ s) : Keeps s₀ (adoptImage s) := by
  unfold adoptImage
  repeat' with_reducible first
    | assumption | intro _ | extract_lets | apply applyWrites_keeps | apply dramRun_keeps | apply endVerify_keeps
    | apply fillStore_keeps | apply imageRead_keeps | apply modCfg_keeps | apply showUplinks_keeps | apply wr_keeps | apply mk_keeps
    | apply Keeps.pending | apply Keeps.dram | apply Keeps.flash | apply Keeps.hostMem | apply Keeps.regs | apply Keeps.shadow

theorem trained_keeps {s₀ s : State} (hk : Keeps s₀ s) : Keeps s₀ (trained s) := by
  unfold trained
  repeat' with_reducible first
    | assumption | intro _ | extract_lets | apply ite_keeps | apply draw_keeps | apply modDrc_keeps | apply modStore_keeps
    | apply wr_keeps | apply mk_keeps | apply Keeps.pending | apply Keeps.dram | apply Keeps.flash | apply Keeps.hostMem
    | apply Keeps.regs | apply Keeps.shadow

theorem writePattern_keeps {s₀ s : State} (hk : Keeps s₀ s) : Keeps s₀ (writePattern s) := by
  unfold writePattern
  repeat' with_reducible first
    | assumption | intro _ | extract_lets | apply foldl_keeps | apply Memory.wf_writeBytes | apply Memory.wf_write
    | apply Memory.wf_foldl | apply mk_keeps | apply Keeps.pending | apply Keeps.dram | apply Keeps.flash | apply Keeps.hostMem
    | apply Keeps.regs | apply Keeps.shadow

theorem trainStored_keeps {s₀ s : State} (hk : Keeps s₀ s) : Keeps s₀ (trainStored s) := by
  unfold trainStored
  repeat' with_reducible first
    | assumption | intro _ | extract_lets | apply ite_keeps | apply modDrc_keeps | apply trained_keeps | apply wr_keeps
    | apply writePattern_keeps | apply mk_keeps | apply Keeps.pending | apply Keeps.dram | apply Keeps.flash | apply Keeps.hostMem
    | apply Keeps.regs | apply Keeps.shadow

theorem openJournal_keeps {s₀ s : State} (hk : Keeps s₀ s) : Keeps s₀ (openJournal s) := by
  unfold openJournal
  repeat' with_reducible first
    | assumption | intro _ | extract_lets | apply ite_keeps | apply fst_ite_keeps | apply snd_ite_keeps | split | apply foldl_keeps
    | apply foldl_fst_keeps | apply foldl_snd_keeps | apply SMap.rising_filter | apply Memory.wf_filter | apply SMap.rising_put
    | apply SMap.rising_foldl | apply modCfg_keeps | apply modStore_keeps | apply raise_keeps | apply sat_keeps
    | apply showLatest_keeps | apply showMem_keeps | apply when_keeps | apply wr_keeps | apply writeCtrl_keeps
    | refine okeeps_get (by assumption) ?_ | refine opkeeps_get (by assumption) ?_ | refine pair_fst_keeps (by assumption) ?_
    | refine pair_snd_keeps (by assumption) ?_ | (dsimp +zetaDelta only; split) | apply mk_keeps | apply Keeps.pending
    | apply Keeps.dram | apply Keeps.flash | apply Keeps.hostMem | apply Keeps.regs | apply Keeps.shadow | contradiction

theorem holdJournal_keeps {s₀ s : State} (hk : Keeps s₀ s) : Keeps s₀ (holdJournal s) := by
  unfold holdJournal
  repeat' with_reducible first
    | assumption | intro _ | extract_lets | apply ite_keeps | apply foldl_keeps | apply journalFault_keeps | apply modCfg_keeps
    | apply setMem_keeps | apply setMem_keeps_boot | apply wr_keeps | apply mk_keeps | apply Keeps.pending | apply Keeps.dram
    | apply Keeps.flash | apply Keeps.hostMem | apply Keeps.regs | apply Keeps.shadow

theorem stepBegins_keeps {s₀ s : State} (k : Nat) (alternate : Bool) (hk : Keeps s₀ s) : Keeps s₀ (stepBegins k alternate s) := by
  unfold stepBegins
  repeat' with_reducible first
    | assumption | intro _ | apply ite_keeps | apply foldl_keeps | apply applySections_keeps | apply askPort_keeps | apply follow_keeps
    | apply loadTiles_keeps | apply modTsu_keeps | apply pickImage_keeps | apply takeProtection_keeps | apply takeTime_keeps
    | apply mk_keeps | apply Keeps.pending | apply Keeps.dram | apply Keeps.flash | apply Keeps.hostMem | apply Keeps.regs
    | apply Keeps.shadow

theorem chooseRole_keeps {s₀ s0 : State} (skipped : Bool) (hk : Keeps s₀ s0) : Keeps s₀ (chooseRole skipped s0) := by
  unfold chooseRole
  repeat' with_reducible first
    | assumption | intro _ | extract_lets | apply ite_keeps | apply modPrt_keeps | apply setMirror_keeps | apply setRole_keeps
    | apply trigger_keeps | apply wr_keeps | apply mk_keeps | apply Keeps.pending | apply Keeps.dram | apply Keeps.flash
    | apply Keeps.hostMem | apply Keeps.regs | apply Keeps.shadow

theorem imageInArea_keeps {s₀ s : State} (hk : Keeps s₀ s) : Keeps s₀ (State.imageInArea s) := by
  unfold State.imageInArea
  repeat' with_reducible first
    | assumption | intro _ | apply modArea_keeps | apply mk_keeps | apply Keeps.pending | apply Keeps.dram | apply Keeps.flash
    | apply Keeps.hostMem | apply Keeps.regs | apply Keeps.shadow

theorem reportWait_keeps {s₀ s : State} (m : Nat) (hk : Keeps s₀ s) : Keeps s₀ (reportWait m s) := by
  unfold reportWait
  repeat' with_reducible first
    | assumption | intro _ | extract_lets | apply raise_keeps | apply refuseMode_keeps | apply when_keeps | apply wr_keeps

theorem equalShadows_keeps {s₀ s : State} (hk : Keeps s₀ s) : Keeps s₀ (equalShadows s) :=
  ⟨hk.pending, fun h => ⟨hk.dram h, hk.flash h, hk.hostMem h, hk.regs h, rfl⟩⟩

theorem firstGens_keeps {s₀ s : State} (hk : Keeps s₀ s) : Keeps s₀ (firstGens s) := by
  unfold firstGens
  repeat' with_reducible first
    | assumption | intro _ | apply foldl_keeps | apply wr_keeps

theorem serviceEnable_keeps {s₀ s : State} (hk : Keeps s₀ s) : Keeps s₀ (serviceEnable s) := by
  unfold serviceEnable
  repeat' with_reducible first
    | assumption | intro _ | extract_lets | apply closeStart_keeps | apply equalShadows_keeps | apply modArea_keeps
    | apply modPwr_keeps | apply raise_keeps | apply reportWait_keeps | apply wr_keeps | apply mk_keeps | apply Keeps.pending
    | apply Keeps.dram | apply Keeps.flash | apply Keeps.hostMem | apply Keeps.regs | apply Keeps.shadow

theorem warmDone_keeps {s₀ s : State} (hk : Keeps s₀ s) : Keeps s₀ (warmDone s) := by
  unfold warmDone
  repeat' with_reducible first
    | assumption | intro _ | extract_lets | apply ite_keeps | apply modArea_keeps | apply raise_keeps | apply mk_keeps
    | apply Keeps.pending | apply Keeps.dram | apply Keeps.flash | apply Keeps.hostMem | apply Keeps.regs | apply Keeps.shadow

theorem stepDone_keeps {s₀ s : State} (k : Nat) (skipped : Bool) (alternate : Bool) (hk : Keeps s₀ s) : Keeps s₀ (stepDone k skipped alternate s) := by
  unfold stepDone
  repeat' with_reducible first
    | assumption | intro _ | extract_lets | apply ite_keeps | apply chooseRole_keeps | apply draw_keeps | apply firstGens_keeps
    | apply holdJournal_keeps | apply imageInArea_keeps | apply modArea_keeps | apply modCfg_keeps | apply modCph_keeps
    | apply modHost_keeps | apply modPwr_keeps | apply modTsu_keeps | apply openJournal_keeps | apply rootSlots_keeps
    | apply serviceEnable_keeps | apply showCold_keeps | apply warmDone_keeps | apply wr_keeps | apply writeCtrl_keeps | apply mk_keeps
    | apply Keeps.pending | apply Keeps.dram | apply Keeps.flash | apply Keeps.hostMem | apply Keeps.regs | apply Keeps.shadow

theorem startOver_keeps {s₀ s : State} (cause : Nat) (hk : Keeps s₀ s) : Keeps s₀ (startOver cause s) := by
  unfold startOver
  refine raise_keeps _ (journal_keeps _ (wr_keeps _ _ (wr_keeps _ _ (wr_keeps _ _ (wr_keeps _ _ (wr_keeps _ _ (wr_keeps _ _ (wr_keeps _ _
    (wr_keeps _ _ (wr_keeps _ _ ?_))))))))))
  exact ⟨hk.pending, fun h => ⟨rfl, hk.flash h, hk.hostMem h, SMap.rising_filter (hk.regs h) _, rfl⟩⟩

theorem beginAttempt_keeps {s₀ s : State} (k : Nat) (alternate : Bool) (attempt : Nat) (direct : Bool) (hk : Keeps s₀ s) : Keeps s₀ (beginAttempt k alternate attempt direct s) := by
  unfold beginAttempt
  repeat' with_reducible first
    | assumption | intro _ | extract_lets | apply ite_keeps | apply journal_keeps | apply modCfg_keeps | apply sat_keeps
    | apply stepBegins_keeps | apply wr_keeps | apply mk_keeps | apply Keeps.pending | apply Keeps.dram | apply Keeps.flash
    | apply Keeps.hostMem | apply Keeps.regs | apply Keeps.shadow

theorem haltStep_keeps {s₀ s : State} (k : Nat) (hk : Keeps s₀ s) : Keeps s₀ (haltStep k s) := by
  unfold haltStep
  repeat' with_reducible first
    | assumption | intro _ | extract_lets | apply closeStart_keeps | apply journal_keeps | apply modCfg_keeps | apply modTsu_keeps
    | apply raise_keeps | apply wr_keeps | apply mk_keeps | apply Keeps.pending | apply Keeps.dram | apply Keeps.flash
    | apply Keeps.hostMem | apply Keeps.regs | apply Keeps.shadow

theorem readEntry_keeps {s₀ s : State} (k : Nat) (hk : Keeps s₀ s) : Keeps s₀ (readEntry k s) := by
  unfold readEntry
  repeat' with_reducible first
    | assumption | intro _ | apply ite_keeps | apply journal_keeps | apply modCfg_keeps | apply raise_keeps | apply mk_keeps
    | apply Keeps.pending | apply Keeps.dram | apply Keeps.flash | apply Keeps.hostMem | apply Keeps.regs | apply Keeps.shadow

theorem escalate_keeps_of {s₀ s : State} (n k act : Nat) (direct : Bool)
    (ih : ∀ k' (u : State), Keeps s₀ u → Keeps s₀ (runStep n k' u)) (hk : Keeps s₀ s) : Keeps s₀ (runStep.escalate n k act direct s) := by
  unfold runStep.escalate
  repeat' with_reducible first
    | assumption | extract_lets | apply ite_keeps | apply ih | apply stepDone_keeps | apply modCfg_keeps | apply raise_keeps
    | apply journal_keeps | apply wr_keeps | apply beginAttempt_keeps | apply haltStep_keeps

theorem runStep_keeps {s₀ s : State} (n k : Nat) (hk : Keeps s₀ s) : Keeps s₀ (runStep n k s) := by
  induction n generalizing s k with
  | zero => unfold runStep; exact hk
  | succ n ih =>
    have h0 : Keeps s₀ (readEntry k (s.wr F.CFG_BOOT_STAT_STEP k)) := readEntry_keeps _ (wr_keeps _ _ hk)
    unfold runStep
    dsimp only
    split
    · exact hk
    · split
      · exact escalate_keeps_of _ _ _ _ (fun k' u hu => ih k' hu) (keepMem_keeps (setMem_keeps_boot _ _ (wr_keeps _ _ h0)))
      · apply beginAttempt_keeps
        split
        · exact keepMem_keeps (setMem_keeps_boot _ _ h0)
        · exact h0

theorem escalate_keeps {s₀ s : State} (n k act : Nat) (direct : Bool) (hk : Keeps s₀ s) : Keeps s₀ (runStep.escalate n k act direct s) :=
  escalate_keeps_of n k act direct (fun k' _ hu => runStep_keeps n k' hu) hk

theorem stepOver_keeps {s₀ s : State} (k : Nat) (alternate : Bool) (hk : Keeps s₀ s) : Keeps s₀ (stepOver k alternate s) := by
  unfold stepOver
  repeat' with_reducible first
    | assumption | intro _ | extract_lets | apply ite_keeps | apply modCfg_keeps | apply runStep_keeps | apply stepDone_keeps
    | apply mk_keeps | apply Keeps.pending | apply Keeps.dram | apply Keeps.flash | apply Keeps.hostMem | apply Keeps.regs
    | apply Keeps.shadow

theorem seqRestart_keeps {s₀ s : State} (hk : Keeps s₀ s) : Keeps s₀ (seqRestart s) := by
  unfold seqRestart
  repeat' with_reducible first
    | assumption | intro _ | apply closeStart_keeps | apply raise_keeps | apply startOver_keeps

theorem endAttempt_keeps {s₀ s : State} (r : RunStep) (outcome : Nat) (detail : Nat) (mask : Nat) (hk : Keeps s₀ s) : Keeps s₀ (endAttempt r outcome detail mask s) := by
  unfold endAttempt
  repeat' with_reducible first
    | assumption | intro _ | extract_lets | apply ite_keeps | apply beginAttempt_keeps | apply escalate_keeps | apply journal_keeps
    | apply keepMem_keeps | apply modCfg_keeps | apply raise_keeps | apply runStep_keeps | apply seqRestart_keeps | apply setMem_keeps
    | apply setMem_keeps_boot | apply stepOver_keeps | apply wr_keeps | apply mk_keeps | apply Keeps.pending | apply Keeps.dram
    | apply Keeps.flash | apply Keeps.hostMem | apply Keeps.regs | apply Keeps.shadow

theorem bootStepEnd_keeps {s₀ s : State} (ok : Bool) (detail : Nat) (mask : Nat) (hk : Keeps s₀ s) : Keeps s₀ (bootStepEnd ok detail mask s) := by
  unfold bootStepEnd
  repeat' with_reducible first
    | assumption | intro _ | extract_lets | apply ite_keeps | split | apply foldl_keeps | apply SMap.rising_filter
    | apply Memory.wf_filter | apply adoptImage_keeps | apply endAttempt_keeps | apply modCfg_keeps | apply modPwr_keeps
    | apply portDisable_keeps | apply restoreWarm_keeps | apply resumeWork_keeps | apply showWarm_keeps | apply trainStored_keeps
    | apply trained_keeps | apply wr_keeps | refine okeeps_get (by assumption) ?_ | refine opkeeps_get (by assumption) ?_
    | refine pair_fst_keeps (by assumption) ?_ | refine pair_snd_keeps (by assumption) ?_ | (dsimp +zetaDelta only; split)
    | apply mk_keeps | apply Keeps.pending | apply Keeps.dram | apply Keeps.flash | apply Keeps.hostMem | apply Keeps.regs
    | apply Keeps.shadow | contradiction

theorem bootStepTimeout_keeps {s₀ s : State} (hk : Keeps s₀ s) : Keeps s₀ (bootStepTimeout s) := by
  unfold bootStepTimeout
  repeat' with_reducible first
    | assumption | intro _ | split | apply endAttempt_keeps | refine okeeps_get (by assumption) ?_
    | refine opkeeps_get (by assumption) ?_ | refine pair_fst_keeps (by assumption) ?_ | refine pair_snd_keeps (by assumption) ?_
    | contradiction

theorem interruptStart_keeps {s₀ s : State} (hk : Keeps s₀ s) : Keeps s₀ (interruptStart s) := by
  unfold interruptStart
  repeat' with_reducible first
    | assumption | intro _ | extract_lets | apply ite_keeps | split | apply closeStart_keeps | apply journal_keeps | apply modCfg_keeps
    | apply raise_keeps | apply when_keeps | apply wr_keeps | refine okeeps_get (by assumption) ?_
    | refine opkeeps_get (by assumption) ?_ | refine pair_fst_keeps (by assumption) ?_ | refine pair_snd_keeps (by assumption) ?_
    | apply mk_keeps | apply Keeps.pending | apply Keeps.dram | apply Keeps.flash | apply Keeps.hostMem | apply Keeps.regs
    | apply Keeps.shadow | contradiction

theorem bootRestart_keeps {s₀ s : State} (hk : Keeps s₀ s) : Keeps s₀ (bootRestart s) := by
  unfold bootRestart
  repeat' with_reducible first
    | assumption | intro _ | apply ite_keeps | apply startOver_keeps

theorem clearStreak_keeps {s₀ s : State} (k : Nat) (hk : Keeps s₀ s) : Keeps s₀ (clearStreak k s) := by
  unfold clearStreak
  repeat' with_reducible first
    | assumption | intro _ | extract_lets | apply ite_keeps | apply commandMem_keeps | apply wr_keeps | apply mk_keeps
    | apply Keeps.pending | apply Keeps.dram | apply Keeps.flash | apply Keeps.hostMem | apply Keeps.regs | apply Keeps.shadow

theorem forceNormal_keeps {s₀ s : State} (k : Nat) (hk : Keeps s₀ s) : Keeps s₀ (forceNormal k s) := by
  unfold forceNormal
  repeat' with_reducible first
    | assumption | intro _ | extract_lets | apply ite_keeps | apply commandMem_keeps | apply wr_keeps | apply mk_keeps
    | apply Keeps.pending | apply Keeps.dram | apply Keeps.flash | apply Keeps.hostMem | apply Keeps.regs | apply Keeps.shadow

theorem bootSelWrite_keeps {s₀ s : State} (w : Nat) (hk : Keeps s₀ s) : Keeps s₀ (bootSelWrite w s) := by
  unfold bootSelWrite
  repeat' with_reducible first
    | assumption | intro _ | apply keepCommand_keeps | apply wr_keeps | apply mk_keeps | apply Keeps.pending | apply Keeps.dram
    | apply Keeps.flash | apply Keeps.hostMem | apply Keeps.regs | apply Keeps.shadow

theorem perstN_keeps {s₀ s : State} (hk : Keeps s₀ s) : Keeps s₀ (perstN s) := by
  unfold perstN
  repeat' with_reducible first
    | assumption | intro _ | extract_lets | apply ite_keeps | split | apply endAttempt_keeps | apply perst_keeps
    | refine okeeps_get (by assumption) ?_ | refine opkeeps_get (by assumption) ?_ | refine pair_fst_keeps (by assumption) ?_
    | refine pair_snd_keeps (by assumption) ?_ | (dsimp +zetaDelta only; split) | contradiction

theorem serviceModeTaken_keeps {s₀ s : State} (hk : Keeps s₀ s) : Keeps s₀ (serviceModeTaken s) := by
  unfold serviceModeTaken
  repeat' with_reducible first
    | assumption | intro _ | extract_lets | apply ite_keeps | split | apply modPwr_keeps | apply releaseBens_keeps
    | apply takeMode_keeps | apply when_keeps | apply wr_keeps | refine okeeps_get (by assumption) ?_
    | refine opkeeps_get (by assumption) ?_ | refine pair_fst_keeps (by assumption) ?_ | refine pair_snd_keeps (by assumption) ?_
    | apply mk_keeps | apply Keeps.pending | apply Keeps.dram | apply Keeps.flash | apply Keeps.hostMem | apply Keeps.regs
    | apply Keeps.shadow | contradiction

end Sys2Proof.Machine
end

