-- ==== Sys2Proof/Laws/KeepsPower.lean ====
section
/-! SUPPORT. Laws/KeepsPower.lean: every operation of Machine/Power.lean keeps the queue of commands and the canonical forms (Keeps). -/
namespace Sys2Proof.Machine

theorem showHold_keeps {s₀ s : State} (mv : Nat) (hk : Keeps s₀ s) : Keeps s₀ (showHold mv s) := by
  unfold showHold
  repeat' with_reducible first
    | assumption | intro _ | extract_lets | apply wr_keeps

theorem vinRise_keeps {s₀ s : State} (hk : Keeps s₀ s) : Keeps s₀ (vinRise s) := by
  unfold vinRise
  repeat' with_reducible first
    | assumption | intro _ | apply ite_keeps | apply modPwr_keeps | apply mk_keeps | apply Keeps.pending | apply Keeps.dram
    | apply Keeps.flash | apply Keeps.hostMem | apply Keeps.regs | apply Keeps.shadow

theorem resetRelease_keeps {s₀ s : State} (vinMv : Nat) (holdMv : Nat) (scanLow : Bool) (hk : Keeps s₀ s) : Keeps s₀ (resetRelease vinMv holdMv scanLow s) := by
  unfold resetRelease
  repeat' with_reducible first
    | assumption | intro _ | apply ite_keeps | apply modCfg_keeps | apply startOver_keeps | apply wr_keeps | apply mk_keeps
    | apply Keeps.pending | apply Keeps.dram | apply Keeps.flash | apply Keeps.hostMem | apply Keeps.regs | apply Keeps.shadow

theorem tearRecord_keeps {s₀ s : State} (hk : Keeps s₀ s) : Keeps s₀ (tearRecord s) := by
  unfold tearRecord
  repeat' with_reducible first
    | assumption | intro _ | apply ite_keeps | apply fst_ite_keeps | apply snd_ite_keeps | apply modArea_keeps | apply mk_keeps
    | apply Keeps.pending | apply Keeps.dram | apply Keeps.flash | apply Keeps.hostMem | apply Keeps.regs | apply Keeps.shadow

theorem tearFault_keeps {s₀ s : State} (hk : Keeps s₀ s) : Keeps s₀ (tearFault s) := by
  unfold tearFault
  repeat' with_reducible first
    | assumption | intro _ | apply SMap.rising_del | apply modStore_keeps | apply mk_keeps | apply Keeps.pending | apply Keeps.dram
    | apply Keeps.flash | apply Keeps.hostMem | apply Keeps.regs | apply Keeps.shadow

theorem tear_keeps {s₀ s : State} (rec : Bool) (fault : Bool) (hk : Keeps s₀ s) : Keeps s₀ (tear rec fault s) := by
  unfold tear
  repeat' with_reducible first
    | assumption | intro _ | apply tearFault_keeps | apply tearRecord_keeps | apply when_keeps

theorem holdReset_keeps {s₀ s : State} (hk : Keeps s₀ s) : Keeps s₀ (holdReset s) := by
  unfold holdReset
  repeat' with_reducible first
    | assumption | intro _ | apply modPwr_keeps | apply mk_keeps | apply Keeps.pending | apply Keeps.dram | apply Keeps.flash
    | apply Keeps.hostMem | apply Keeps.regs | apply Keeps.shadow

theorem boardReset_keeps {s₀ s : State} (rec : Bool) (fault : Bool) (hk : Keeps s₀ s) : Keeps s₀ (boardReset rec fault s) := by
  unfold boardReset
  repeat' with_reducible first
    | assumption | intro _ | apply ite_keeps | apply holdReset_keeps | apply modPwr_keeps | apply tear_keeps | apply mk_keeps
    | apply Keeps.pending | apply Keeps.dram | apply Keeps.flash | apply Keeps.hostMem | apply Keeps.regs | apply Keeps.shadow

theorem unpower_keeps {s₀ s : State} (rec fault : Bool) (hk : Keeps s₀ s) : Keeps s₀ (unpower rec fault s) := by
  have ht := tear_keeps rec fault hk
  exact ⟨ht.pending, fun h => ⟨rfl, ht.flash h, ht.hostMem h, SMap.rising_filter (ht.regs h) _, rfl⟩⟩

theorem quiesce_keeps {s₀ s : State} (hk : Keeps s₀ s) : Keeps s₀ (quiesce s) := by
  unfold quiesce
  repeat' with_reducible first
    | assumption | intro _ | extract_lets | apply benOff_keeps | apply lockInjection_keeps | apply modPwr_keeps | apply pcieDown_keeps
    | apply phasesDown_keeps | apply showQueue_keeps | apply stopAll_keeps | apply uplinksOff_keeps | apply mk_keeps
    | apply Keeps.pending | apply Keeps.dram | apply Keeps.flash | apply Keeps.hostMem | apply Keeps.regs | apply Keeps.shadow

theorem enterAsleep_keeps {s₀ s : State} (fromHolding : Bool) (hk : Keeps s₀ s) : Keeps s₀ (enterAsleep fromHolding s) := by
  have h1 := takeMode_keeps mAsleep (zeroizeAll_keeps (pcieDown_keeps hk))
  unfold enterAsleep
  extract_lets s1 s2
  have h2 : Keeps s₀ s2 := foldl_keeps (fun _ _ h => portDown_keeps _ h) h1
  have h3 : Keeps s₀ { s2 with dram := [] } := ⟨h2.pending, fun h => ⟨rfl, h2.flash h, h2.hostMem h, h2.regs h, h2.shadow h⟩⟩
  repeat' with_reducible first
    | assumption | extract_lets | apply ite_keeps | apply holdReset_keeps | apply modPwr_keeps | apply modHost_keeps | apply wr_keeps

theorem modSave_keeps {s₀ s : State} (g : SaveRun → SaveRun) (hk : Keeps s₀ s) : Keeps s₀ (State.modSave g s) := by
  unfold State.modSave
  repeat' with_reducible first
    | assumption | intro _ | apply modPwr_keeps | apply mk_keeps | apply Keeps.pending | apply Keeps.dram | apply Keeps.flash
    | apply Keeps.hostMem | apply Keeps.regs | apply Keeps.shadow

theorem openSave_keeps {s₀ s : State} (brownout : Bool) (cause : Nat) (after : SaveThen) (journalOnly : Bool) (hk : Keeps s₀ s) : Keeps s₀ (openSave brownout cause after journalOnly s) := by
  unfold openSave
  repeat' with_reducible first
    | assumption | intro _ | extract_lets | apply modPwr_keeps | apply wr_keeps | apply mk_keeps | apply Keeps.pending
    | apply Keeps.dram | apply Keeps.flash | apply Keeps.hostMem | apply Keeps.regs | apply Keeps.shadow

theorem startSave_keeps {s₀ s : State} (cause : Nat) (after : SaveThen) (hk : Keeps s₀ s) : Keeps s₀ (startSave cause after s) := by
  unfold startSave
  repeat' with_reducible first
    | assumption | intro _ | apply ite_keeps | split | apply modSave_keeps | apply openSave_keeps | apply wr_keeps
    | refine okeeps_get (by assumption) ?_ | refine opkeeps_get (by assumption) ?_ | refine pair_fst_keeps (by assumption) ?_
    | refine pair_snd_keeps (by assumption) ?_ | apply mk_keeps | apply Keeps.pending | apply Keeps.dram | apply Keeps.flash
    | apply Keeps.hostMem | apply Keeps.regs | apply Keeps.shadow | contradiction

theorem dropLeaving_keeps {s₀ s : State} (code : Nat) (hk : Keeps s₀ s) : Keeps s₀ (dropLeaving code s) := by
  unfold dropLeaving
  repeat' with_reducible first
    | assumption | intro _ | apply ite_keeps | apply modPwr_keeps | apply refuseMode_keeps | apply mk_keeps | apply Keeps.pending
    | apply Keeps.dram | apply Keeps.flash | apply Keeps.hostMem | apply Keeps.regs | apply Keeps.shadow

theorem dropSaving_keeps {s₀ s : State} (code : Nat) (hk : Keeps s₀ s) : Keeps s₀ (dropSaving code s) := by
  unfold dropSaving
  repeat' with_reducible first
    | assumption | intro _ | apply ite_keeps | split | apply modSave_keeps | apply refuseMode_keeps
    | refine okeeps_get (by assumption) ?_ | refine opkeeps_get (by assumption) ?_ | refine pair_fst_keeps (by assumption) ?_
    | refine pair_snd_keeps (by assumption) ?_ | apply mk_keeps | apply Keeps.pending | apply Keeps.dram | apply Keeps.flash
    | apply Keeps.hostMem | apply Keeps.regs | apply Keeps.shadow | contradiction

theorem enterHolding_keeps {s₀ s : State} (crossed : Bool) (hk : Keeps s₀ s) : Keeps s₀ (enterHolding crossed s) := by
  unfold enterHolding
  repeat' with_reducible first
    | assumption | intro _ | extract_lets | apply ite_keeps | apply fst_ite_keeps | apply snd_ite_keeps | apply foldl_keeps
    | apply foldl_fst_keeps | apply foldl_snd_keeps | apply abandonReload_keeps | apply dropLeaving_keeps | apply dropRequest_keeps
    | apply dropSaving_keeps | apply follow_keeps | apply gasp_keeps | apply modPwr_keeps | apply openSave_keeps | apply raise_keeps
    | apply takeMode_keeps | apply when_keeps | apply mk_keeps | apply Keeps.pending | apply Keeps.dram | apply Keeps.flash
    | apply Keeps.hostMem | apply Keeps.regs | apply Keeps.shadow

theorem vWarnCross_keeps {s₀ s : State} (hk : Keeps s₀ s) : Keeps s₀ (vWarnCross s) := by
  unfold vWarnCross
  repeat' with_reducible first
    | assumption | intro _ | extract_lets | apply ite_keeps | apply enterHolding_keeps | apply modPwr_keeps | apply raise_keeps
    | apply mk_keeps | apply Keeps.pending | apply Keeps.dram | apply Keeps.flash | apply Keeps.hostMem | apply Keeps.regs
    | apply Keeps.shadow

theorem railUv_keeps {s₀ s : State} (hk : Keeps s₀ s) : Keeps s₀ (railUv s) := by
  unfold railUv
  repeat' with_reducible first
    | assumption | intro _ | extract_lets | apply ite_keeps | apply enterHolding_keeps | apply raise_keeps | apply wr_keeps

theorem holdSwitch_keeps {s₀ s : State} (holdMv : Nat) (hk : Keeps s₀ s) : Keeps s₀ (holdSwitch holdMv s) := by
  unfold holdSwitch
  repeat' with_reducible first
    | assumption | intro _ | extract_lets | apply ite_keeps | apply modPwr_keeps | apply modSave_keeps | apply quiesce_keeps
    | apply showHold_keeps | apply wr_keeps | apply mk_keeps | apply Keeps.pending | apply Keeps.dram | apply Keeps.flash
    | apply Keeps.hostMem | apply Keeps.regs | apply Keeps.shadow

theorem takeCapture_keeps {s₀ s : State} (hk : Keeps s₀ s) : Keeps s₀ (takeCapture s) := by
  unfold takeCapture
  repeat' with_reducible first
    | assumption | intro _ | apply mk_keeps | apply Keeps.pending | apply Keeps.dram | apply Keeps.flash | apply Keeps.hostMem
    | apply Keeps.regs | apply Keeps.shadow

theorem captureFrozen_keeps {s₀ s : State} (hk : Keeps s₀ s) : Keeps s₀ (captureFrozen s) := by
  unfold captureFrozen
  repeat' with_reducible first
    | assumption | intro _ | apply ite_keeps | split | apply SMap.rising_filter | apply Memory.wf_filter | apply Memory.wf_writeBytes
    | apply Memory.wf_write | apply Memory.wf_foldl | apply dramHolding_keeps | apply modPwr_keeps | apply modSave_keeps
    | apply takeCapture_keeps | apply when_keeps | apply zeroizeAll_keeps | refine okeeps_get (by assumption) ?_
    | refine opkeeps_get (by assumption) ?_ | refine pair_fst_keeps (by assumption) ?_ | refine pair_snd_keeps (by assumption) ?_
    | apply mk_keeps | apply Keeps.pending | apply Keeps.dram | apply Keeps.flash | apply Keeps.hostMem | apply Keeps.regs
    | apply Keeps.shadow | contradiction

theorem stageSet_keeps {s₀ s : State} (hk : Keeps s₀ s) : Keeps s₀ (stageSet s) := by
  unfold stageSet
  repeat' with_reducible first
    | assumption | intro _ | extract_lets | apply ite_keeps | apply dramRun_keeps

theorem saveTick_keeps {s₀ s : State} (hk : Keeps s₀ s) : Keeps s₀ (saveTick s) := by
  unfold saveTick
  repeat' with_reducible first
    | assumption | intro _ | apply ite_keeps | split | apply Memory.wf_writeBytes | apply Memory.wf_write | apply Memory.wf_foldl
    | apply modSave_keeps | apply takeCapture_keeps | apply when_keeps | refine okeeps_get (by assumption) ?_
    | refine opkeeps_get (by assumption) ?_ | refine pair_fst_keeps (by assumption) ?_ | refine pair_snd_keeps (by assumption) ?_
    | apply mk_keeps | apply Keeps.pending | apply Keeps.dram | apply Keeps.flash | apply Keeps.hostMem | apply Keeps.regs
    | apply Keeps.shadow | contradiction

theorem saveStaged_keeps {s₀ s : State} (hk : Keeps s₀ s) : Keeps s₀ (saveStaged s) := by
  unfold saveStaged
  repeat' with_reducible first
    | assumption | intro _ | apply ite_keeps | split | apply Memory.wf_writeBytes | apply Memory.wf_write | apply Memory.wf_foldl
    | apply modSave_keeps | apply stageSet_keeps | apply when_keeps | refine okeeps_get (by assumption) ?_
    | refine opkeeps_get (by assumption) ?_ | refine pair_fst_keeps (by assumption) ?_ | refine pair_snd_keeps (by assumption) ?_
    | apply mk_keeps | apply Keeps.pending | apply Keeps.dram | apply Keeps.flash | apply Keeps.hostMem | apply Keeps.regs
    | apply Keeps.shadow | contradiction

theorem endSave_keeps {s₀ s : State} (ok : Bool) (us : Nat) (hk : Keeps s₀ s) : Keeps s₀ (endSave ok us s) := by
  unfold endSave
  repeat' with_reducible first
    | assumption | intro _ | extract_lets | apply ite_keeps | split | apply enterAsleep_keeps | apply interruptStart_keeps
    | apply journal_keeps | apply modPwr_keeps | apply quiesce_keeps | apply raise_keeps | apply when_keeps | apply wr_keeps
    | refine okeeps_get (by assumption) ?_ | refine opkeeps_get (by assumption) ?_ | refine pair_fst_keeps (by assumption) ?_
    | refine pair_snd_keeps (by assumption) ?_ | (dsimp +zetaDelta only; split) | apply mk_keeps | apply Keeps.pending
    | apply Keeps.dram | apply Keeps.flash | apply Keeps.hostMem | apply Keeps.regs | apply Keeps.shadow | contradiction

theorem blockWritten_keeps {s₀ s : State} (good : Bool) (us : Nat) (hk : Keeps s₀ s) : Keeps s₀ (blockWritten good us s) := by
  unfold blockWritten
  repeat' with_reducible first
    | assumption | intro _ | extract_lets | apply ite_keeps | split | apply Memory.wf_writeBytes | apply Memory.wf_write
    | apply Memory.wf_foldl | apply endSave_keeps | apply modSave_keeps | apply modStore_keeps | apply sat_keeps
    | refine okeeps_get (by assumption) ?_ | refine opkeeps_get (by assumption) ?_ | refine pair_fst_keeps (by assumption) ?_
    | refine pair_snd_keeps (by assumption) ?_ | apply mk_keeps | apply Keeps.pending | apply Keeps.dram | apply Keeps.flash
    | apply Keeps.hostMem | apply Keeps.regs | apply Keeps.shadow | contradiction

theorem headerWritten_keeps {s₀ s : State} (hk : Keeps s₀ s) : Keeps s₀ (headerWritten s) := by
  unfold headerWritten
  repeat' with_reducible first
    | assumption | intro _ | extract_lets | apply ite_keeps | split | apply Memory.wf_writeBytes | apply Memory.wf_write
    | apply Memory.wf_foldl | apply modSave_keeps | apply modStore_keeps | apply showLatest_keeps
    | refine okeeps_get (by assumption) ?_ | refine opkeeps_get (by assumption) ?_ | refine pair_fst_keeps (by assumption) ?_
    | refine pair_snd_keeps (by assumption) ?_ | apply mk_keeps | apply Keeps.pending | apply Keeps.dram | apply Keeps.flash
    | apply Keeps.hostMem | apply Keeps.regs | apply Keeps.shadow | contradiction

theorem saveDone_keeps {s₀ s : State} (us : Nat) (hk : Keeps s₀ s) : Keeps s₀ (saveDone us s) := by
  unfold saveDone
  repeat' with_reducible first
    | assumption | intro _ | apply ite_keeps | split | apply Memory.wf_writeBytes | apply Memory.wf_write | apply Memory.wf_foldl
    | apply endSave_keeps | refine okeeps_get (by assumption) ?_ | refine opkeeps_get (by assumption) ?_
    | refine pair_fst_keeps (by assumption) ?_ | refine pair_snd_keeps (by assumption) ?_ | contradiction

theorem holdingTimeout_keeps {s₀ s : State} (hk : Keeps s₀ s) : Keeps s₀ (holdingTimeout s) := by
  unfold holdingTimeout
  repeat' with_reducible first
    | assumption | intro _ | apply ite_keeps | split | apply endSave_keeps | refine okeeps_get (by assumption) ?_
    | refine opkeeps_get (by assumption) ?_ | refine pair_fst_keeps (by assumption) ?_ | refine pair_snd_keeps (by assumption) ?_
    | contradiction

theorem vSagCross_keeps {s₀ s : State} (hk : Keeps s₀ s) : Keeps s₀ (vSagCross s) := by
  unfold vSagCross
  repeat' with_reducible first
    | assumption | intro _ | apply ite_keeps | apply modPwr_keeps | apply raise_keeps | apply mk_keeps | apply Keeps.pending
    | apply Keeps.dram | apply Keeps.flash | apply Keeps.hostMem | apply Keeps.regs | apply Keeps.shadow

theorem rearm_keeps {s₀ s : State} (sag : Bool) (hk : Keeps s₀ s) : Keeps s₀ (rearm sag s) := by
  unfold rearm
  repeat' with_reducible first
    | assumption | intro _ | apply ite_keeps | apply modPwr_keeps | apply mk_keeps | apply Keeps.pending | apply Keeps.dram
    | apply Keeps.flash | apply Keeps.hostMem | apply Keeps.regs | apply Keeps.shadow

theorem vinRecovered_keeps {s₀ s : State} (hk : Keeps s₀ s) : Keeps s₀ (vinRecovered s) := by
  unfold vinRecovered
  repeat' with_reducible first
    | assumption | intro _ | apply ite_keeps | apply modPwr_keeps | apply raise_keeps | apply mk_keeps | apply Keeps.pending
    | apply Keeps.dram | apply Keeps.flash | apply Keeps.hostMem | apply Keeps.regs | apply Keeps.shadow

theorem autoResume_keeps {s₀ s : State} (hk : Keeps s₀ s) : Keeps s₀ (autoResume s) := by
  unfold autoResume
  repeat' with_reducible first
    | assumption | intro _ | apply ite_keeps | apply startOver_keeps

theorem ilimOn_keeps {s₀ s : State} (hk : Keeps s₀ s) : Keeps s₀ (ilimOn s) := by
  unfold ilimOn
  repeat' with_reducible first
    | assumption | intro _ | apply ite_keeps | apply raise_keeps | apply wr_keeps

theorem belowFloor_keeps {s₀ s : State} (hk : Keeps s₀ s) : Keeps s₀ (belowFloor s) := by
  unfold belowFloor
  repeat' with_reducible first
    | assumption | intro _ | apply ite_keeps | apply raise_keeps | apply wr_keeps

theorem chargerRestart_keeps {s₀ s : State} (hk : Keeps s₀ s) : Keeps s₀ (chargerRestart s) := by
  unfold chargerRestart
  repeat' with_reducible first
    | assumption | intro _ | apply ite_keeps | apply modPwr_keeps | apply wr_keeps | apply mk_keeps | apply Keeps.pending
    | apply Keeps.dram | apply Keeps.flash | apply Keeps.hostMem | apply Keeps.regs | apply Keeps.shadow

theorem chargerFault_keeps {s₀ s : State} (hk : Keeps s₀ s) : Keeps s₀ (chargerFault s) := by
  unfold chargerFault
  repeat' with_reducible first
    | assumption | intro _ | apply ite_keeps | apply modPwr_keeps | apply raise_keeps | apply wr_keeps | apply mk_keeps
    | apply Keeps.pending | apply Keeps.dram | apply Keeps.flash | apply Keeps.hostMem | apply Keeps.regs | apply Keeps.shadow

theorem modeReqFields_keeps {s₀ s : State} (target : Nat) (promoteTo : Nat) (hk : Keeps s₀ s) : Keeps s₀ (modeReqFields target promoteTo s) := by
  unfold modeReqFields
  repeat' with_reducible first
    | assumption | intro _ | apply wr_keeps

theorem leaveRequest_keeps {s₀ s : State} (target : Nat) (cause : Nat) (after : SaveThen) (hk : Keeps s₀ s) : Keeps s₀ (leaveRequest target cause after s) := by
  unfold leaveRequest
  repeat' with_reducible first
    | assumption | intro _ | apply ite_keeps | apply noPending_keeps | apply pendMode_keeps | apply startSave_keeps

theorem asleepSupply_keeps {s₀ s : State} (hk : Keeps s₀ s) : Keeps s₀ (asleepSupply s) := by
  unfold asleepSupply
  repeat' with_reducible first
    | assumption | intro _ | extract_lets | apply draw_keeps | apply showHold_keeps | apply when_keeps | apply wr_keeps

theorem target1_keeps {s₀ s : State} (hk : Keeps s₀ s) : Keeps s₀ (target1 s) := by
  unfold target1
  repeat' with_reducible first
    | assumption | intro _ | extract_lets | apply ite_keeps | apply asleepSupply_keeps | apply leaveRequest_keeps
    | apply refuseMode_keeps | apply startOver_keeps

theorem provKey_keeps {s₀ s : State} (key : Nat) (hk : Keeps s₀ s) : Keeps s₀ (provKey key s) := by
  unfold provKey
  repeat' with_reducible first
    | assumption | intro _ | apply ite_keeps | apply modPwr_keeps | apply mk_keeps | apply Keeps.pending | apply Keeps.dram
    | apply Keeps.flash | apply Keeps.hostMem | apply Keeps.regs | apply Keeps.shadow

theorem target7_keeps {s₀ s : State} (hk : Keeps s₀ s) : Keeps s₀ (target7 s) := by
  unfold target7
  repeat' with_reducible first
    | assumption | intro _ | extract_lets | apply ite_keeps | apply modPwr_keeps | apply refuseMode_keeps | apply requestMode_keeps
    | apply mk_keeps | apply Keeps.pending | apply Keeps.dram | apply Keeps.flash | apply Keeps.hostMem | apply Keeps.regs
    | apply Keeps.shadow

theorem modeReqWrite_keeps {s₀ s : State} (w : Nat) (hk : Keeps s₀ s) : Keeps s₀ (modeReqWrite w s) := by
  unfold modeReqWrite
  repeat' with_reducible first
    | assumption | intro _ | extract_lets | apply ite_keeps | apply modeReqFields_keeps | apply provKey_keeps | apply requestMode_keeps
    | apply target1_keeps | apply target7_keeps

theorem sleepRequest_keeps {s₀ s : State} (hk : Keeps s₀ s) : Keeps s₀ (sleepRequest s) := by
  unfold sleepRequest
  repeat' with_reducible first
    | assumption | intro _ | apply ite_keeps | apply leaveRequest_keeps | apply refuseMode_keeps

theorem saveCmdWrite_keeps {s₀ s : State} (w : Nat) (hk : Keeps s₀ s) : Keeps s₀ (saveCmdWrite w s) := by
  unfold saveCmdWrite
  repeat' with_reducible first
    | assumption | intro _ | apply sleepRequest_keeps | apply startSave_keeps | apply when_keeps

theorem disarmKey_keeps {s₀ s : State} (key : Nat) (late : Bool) (hk : Keeps s₀ s) : Keeps s₀ (disarmKey key late s) := by
  unfold disarmKey
  repeat' with_reducible first
    | assumption | intro _ | extract_lets | apply ite_keeps | apply draw_keeps | apply modPwr_keeps | apply raise_keeps
    | apply wr_keeps | apply mk_keeps | apply Keeps.pending | apply Keeps.dram | apply Keeps.flash | apply Keeps.hostMem
    | apply Keeps.regs | apply Keeps.shadow

theorem armSave_keeps {s₀ s : State} (hk : Keeps s₀ s) : Keeps s₀ (armSave s) := by
  unfold armSave
  repeat' with_reducible first
    | assumption | intro _ | apply disarmKey_keeps | apply modPwr_keeps | apply wr_keeps | apply mk_keeps | apply Keeps.pending
    | apply Keeps.dram | apply Keeps.flash | apply Keeps.hostMem | apply Keeps.regs | apply Keeps.shadow

theorem saveArmWrite_keeps {s₀ s : State} (w : Nat) (late : Bool) (hk : Keeps s₀ s) : Keeps s₀ (saveArmWrite w late s) := by
  unfold saveArmWrite
  repeat' with_reducible first
    | assumption | intro _ | apply armSave_keeps | apply disarmKey_keeps | apply when_keeps | apply wr_keeps

theorem sagCfgWrite_keeps {s₀ s : State} (w : Nat) (hk : Keeps s₀ s) : Keeps s₀ (sagCfgWrite w s) := by
  unfold sagCfgWrite
  repeat' with_reducible first
    | assumption | intro _ | extract_lets | apply ite_keeps | apply raise_keeps | apply wr_keeps

theorem ssDataRead_keeps {s₀ s : State} (hk : Keeps s₀ s) : Keeps s₀ (ssDataRead s).1 := by
  unfold ssDataRead
  repeat' with_reducible first
    | assumption | intro _ | extract_lets | apply ite_keeps | split | apply wr_keeps

end Sys2Proof.Machine
end

