-- ==== Sys2Proof/Laws/KeepsSage.lean ====
section
/-! SUPPORT. Laws/KeepsSage.lean: every operation of Machine/Sage.lean keeps the queue of commands and the canonical forms (Keeps). -/
namespace Sys2Proof.Machine

theorem eyesSecond_keeps {s₀ s : State} (l : List (Nat × Nat)) (hk : Keeps s₀ s) : Keeps s₀ (eyesSecond l s) := by
  unfold eyesSecond
  repeat' with_reducible first
    | assumption | intro _ | extract_lets | apply ite_keeps | apply fst_ite_keeps | apply snd_ite_keeps | apply foldl_keeps
    | apply foldl_fst_keeps | apply foldl_snd_keeps | apply SMap.rising_filter | apply Memory.wf_filter | apply modPrt_keeps
    | apply mk_keeps | apply Keeps.pending | apply Keeps.dram | apply Keeps.flash | apply Keeps.hostMem | apply Keeps.regs
    | apply Keeps.shadow

theorem sageReport_keeps {s₀ s00 : State} (r : SageIn) (hk : Keeps s₀ s00) : Keeps s₀ (sageReport r s00) := by
  unfold sageReport
  repeat' with_reducible first
    | assumption | intro _ | extract_lets | apply ite_keeps | apply foldl_keeps | apply eyesSecond_keeps | apply modDrc_keeps
    | apply modPrt_keeps | apply raise_keeps | apply when_keeps | apply wr_keeps | apply mk_keeps | apply Keeps.pending
    | apply Keeps.dram | apply Keeps.flash | apply Keeps.hostMem | apply Keeps.regs | apply Keeps.shadow

end Sys2Proof.Machine
end

