-- ==== Sys2Proof/Laws/KeepsTime.lean ====
section
/-! SUPPORT. Laws/KeepsTime.lean: every operation of Machine/Time.lean keeps the queue of commands and the canonical forms (Keeps). -/
namespace Sys2Proof.Machine

theorem floorTick_keeps {s₀ s : State} (hk : Keeps s₀ s) : Keeps s₀ (floorTick s) := by
  unfold floorTick
  repeat' with_reducible first
    | assumption | intro _ | apply ite_keeps | split | apply modPwr_keeps | apply wr_keeps | refine okeeps_get (by assumption) ?_
    | refine opkeeps_get (by assumption) ?_ | refine pair_fst_keeps (by assumption) ?_ | refine pair_snd_keeps (by assumption) ?_
    | apply mk_keeps | apply Keeps.pending | apply Keeps.dram | apply Keeps.flash | apply Keeps.hostMem | apply Keeps.regs
    | apply Keeps.shadow | contradiction

theorem supplyTick_keeps {s₀ s : State} (u : Supply) (hk : Keeps s₀ s) : Keeps s₀ (supplyTick u s) := by
  unfold supplyTick
  repeat' with_reducible first
    | assumption | intro _ | extract_lets | apply ite_keeps | apply floorTick_keeps | apply modPwr_keeps | apply sat_keeps
    | apply showHold_keeps | apply when_keeps | apply wr_keeps | apply mk_keeps | apply Keeps.pending | apply Keeps.dram
    | apply Keeps.flash | apply Keeps.hostMem | apply Keeps.regs | apply Keeps.shadow

theorem reachMode_keeps {s₀ s : State} (t : Nat) (hk : Keeps s₀ s) : Keeps s₀ (reachMode t s) := by
  unfold reachMode
  repeat' with_reducible first
    | assumption | intro _ | extract_lets | apply ite_keeps | apply demote_keeps | apply releaseBens_keeps | apply takeMode_keeps

theorem modeTick_keeps {s₀ s0 : State} (promoting : Bool) (hk : Keeps s₀ s0) : Keeps s₀ (modeTick promoting s0) := by
  unfold modeTick
  repeat' with_reducible first
    | assumption | intro _ | extract_lets | apply ite_keeps | split | apply dropRequest_keeps | apply dropSaving_keeps
    | apply modPwr_keeps | apply noPending_keeps | apply reachMode_keeps | apply refuseMode_keeps | apply startSave_keeps
    | apply when_keeps | refine okeeps_get (by assumption) ?_ | refine opkeeps_get (by assumption) ?_
    | refine pair_fst_keeps (by assumption) ?_ | refine pair_snd_keeps (by assumption) ?_ | (dsimp +zetaDelta only; split)
    | apply mk_keeps | apply Keeps.pending | apply Keeps.dram | apply Keeps.flash | apply Keeps.hostMem | apply Keeps.regs
    | apply Keeps.shadow | contradiction

theorem verdictDue_keeps {s₀ s : State} (hk : Keeps s₀ s) : Keeps s₀ (verdictDue s) := by
  unfold verdictDue
  repeat' with_reducible first
    | assumption | intro _ | apply ite_keeps | apply modPrt_keeps | apply mk_keeps | apply Keeps.pending | apply Keeps.dram
    | apply Keeps.flash | apply Keeps.hostMem | apply Keeps.regs | apply Keeps.shadow

theorem dropFiring_keeps {s₀ s : State} (r : Nat) (hk : Keeps s₀ s) : Keeps s₀ (dropFiring r s) := by
  unfold dropFiring
  repeat' with_reducible first
    | assumption | intro _ | apply raise_keeps | apply sat_keeps | apply wr_keeps

theorem freezeTree_keeps {s₀ s : State} (n : Nat) (hk : Keeps s₀ s) : Keeps s₀ (freezeTree n s) := by
  unfold freezeTree
  repeat' with_reducible first
    | assumption | intro _ | apply modHub_keeps | apply wr_keeps | apply mk_keeps | apply Keeps.pending | apply Keeps.dram
    | apply Keeps.flash | apply Keeps.hostMem | apply Keeps.regs | apply Keeps.shadow

theorem suppressed_keeps {s₀ s : State} (f : Firing) (hk : Keeps s₀ s) : Keeps s₀ (suppressed f s) := by
  unfold suppressed
  repeat' with_reducible first
    | assumption | intro _ | apply ite_keeps | apply raise_keeps | apply wr_keeps

theorem modeFirings_keeps {s₀ s : State} (outranked : Bool) (l : List Firing) (hk : Keeps s₀ s) : Keeps s₀ (modeFirings outranked l s) := by
  unfold modeFirings
  repeat' with_reducible first
    | assumption | intro _ | extract_lets | apply ite_keeps | split | apply foldl_keeps | apply dropFiring_keeps
    | apply requestMode_keeps | refine okeeps_get (by assumption) ?_ | refine opkeeps_get (by assumption) ?_
    | refine pair_fst_keeps (by assumption) ?_ | refine pair_snd_keeps (by assumption) ?_ | (dsimp +zetaDelta only; split)
    | contradiction

theorem verdictFirings_keeps {s₀ s : State} (l : List Firing) (hk : Keeps s₀ s) : Keeps s₀ (verdictFirings l s) := by
  unfold verdictFirings
  repeat' with_reducible first
    | assumption | intro _ | apply ite_keeps | apply foldl_keeps | apply dropFiring_keeps | apply trigger_keeps | apply when_keeps

theorem actFirings_keeps {s₀ s : State} (l : List Firing) (hk : Keeps s₀ s) : Keeps s₀ (actFirings l s) := by
  unfold actFirings
  repeat' with_reducible first
    | assumption | intro _ | extract_lets | apply ite_keeps | apply foldl_keeps | apply SMap.rising_filter | apply Memory.wf_filter
    | apply freezeTree_keeps | apply portDisable_keeps | apply verdictFirings_keeps

theorem reflexTick_keeps {s₀ s : State} (l : List Firing) (due : Bool) (outranked : Bool) (hk : Keeps s₀ s) : Keeps s₀ (reflexTick l due outranked s) := by
  unfold reflexTick
  repeat' with_reducible first
    | assumption | intro _ | extract_lets | apply ite_keeps | apply foldl_keeps | apply SMap.rising_filter | apply Memory.wf_filter
    | apply actFirings_keeps | apply modHub_keeps | apply modeFirings_keeps | apply startSave_keeps | apply suppressed_keeps
    | apply when_keeps | apply mk_keeps | apply Keeps.pending | apply Keeps.dram | apply Keeps.flash | apply Keeps.hostMem
    | apply Keeps.regs | apply Keeps.shadow

theorem verdictTick_keeps {s₀ s : State} (hk : Keeps s₀ s) : Keeps s₀ (verdictTick s) := by
  unfold verdictTick
  repeat' with_reducible first
    | assumption | intro _ | extract_lets | apply ite_keeps | apply foldl_keeps | apply actFirings_keeps | apply modHub_keeps
    | apply suppressed_keeps | apply verdictApplied_keeps | apply mk_keeps | apply Keeps.pending | apply Keeps.dram | apply Keeps.flash
    | apply Keeps.hostMem | apply Keeps.regs | apply Keeps.shadow

theorem gntView_keeps {s₀ s : State} (hk : Keeps s₀ s) : Keeps s₀ (gntView s) := by
  unfold gntView
  repeat' with_reducible first
    | assumption | intro _ | apply ite_keeps | apply fst_ite_keeps | apply SMap.rising_filter | apply Memory.wf_filter | apply mk_keeps
    | apply Keeps.pending | apply Keeps.dram | apply Keeps.flash | apply Keeps.hostMem | apply Keeps.regs | apply Keeps.shadow

theorem tickOpens_keeps {s₀ s : State} (u : Supply) (hk : Keeps s₀ s) : Keeps s₀ (tickOpens u s) := by
  unfold tickOpens
  repeat' with_reducible first
    | assumption | intro _ | extract_lets | apply modPrt_keeps | apply modPwr_keeps | apply supplyTick_keeps | apply tsuTick_keeps
    | apply verdictDue_keeps | apply wr_keeps | apply mk_keeps | apply Keeps.pending | apply Keeps.dram | apply Keeps.flash
    | apply Keeps.hostMem | apply Keeps.regs | apply Keeps.shadow

theorem treeTicks_keeps {s₀ s : State} (hk : Keeps s₀ s) : Keeps s₀ (treeTicks s) := by
  unfold treeTicks
  repeat' with_reducible first
    | assumption | intro _ | extract_lets | apply foldl_keeps | apply frameTick_keeps | apply gntView_keeps | apply grantTick_keeps
    | apply mirrorSend_keeps | apply portTick_keeps | apply rangingTick_keeps | apply staggerTick_keeps

theorem blockTicks_keeps {s₀ s : State} (hk : Keeps s₀ s) : Keeps s₀ (blockTicks s) := by
  unfold blockTicks
  repeat' with_reducible first
    | assumption | intro _ | extract_lets | apply ite_keeps | apply bucketTick_keeps | apply cphTick_keeps | apply drcTick_keeps
    | apply endCycle_keeps | apply fwdTick_keeps | apply histTick_keeps | apply injectTick_keeps | apply mapTick_keeps
    | apply snapTick_keeps | apply takeReleased_keeps | apply tmgTick_keeps

theorem tick_keeps {s₀ s : State} (u : Supply) (hk : Keeps s₀ s) : Keeps s₀ (tick u s) := by
  unfold tick
  repeat' with_reducible first
    | assumption | intro _ | extract_lets | apply ite_keeps | apply foldl_keeps | apply blockTicks_keeps | apply commitTick_keeps
    | apply dropLeaving_keeps | apply enterAsleep_keeps | apply follow_keeps | apply hostReq_keeps | apply loadTick_keeps
    | apply modHub_keeps | apply modeTick_keeps | apply outTick_keeps | apply queueReloads_keeps | apply reflexTick_keeps
    | apply ruleTick_keeps | apply saveTick_keeps | apply sendPages_keeps | apply startOver_keeps | apply tickOpens_keeps
    | apply treeTicks_keeps | apply when_keeps | apply mk_keeps | apply Keeps.pending | apply Keeps.dram | apply Keeps.flash
    | apply Keeps.hostMem | apply Keeps.regs | apply Keeps.shadow

theorem powerSecond_keeps {s₀ s : State} (hk : Keeps s₀ s) : Keeps s₀ (powerSecond s) := by
  unfold powerSecond
  repeat' with_reducible first
    | assumption | intro _ | extract_lets | apply ite_keeps | split | apply modPwr_keeps | apply raise_keeps | apply reportWait_keeps
    | apply when_keeps | apply wr_keeps | refine okeeps_get (by assumption) ?_ | refine opkeeps_get (by assumption) ?_
    | refine pair_fst_keeps (by assumption) ?_ | refine pair_snd_keeps (by assumption) ?_ | (dsimp +zetaDelta only; split)
    | apply mk_keeps | apply Keeps.pending | apply Keeps.dram | apply Keeps.flash | apply Keeps.hostMem | apply Keeps.regs
    | apply Keeps.shadow | contradiction

theorem limitsSecond_keeps {s₀ s : State} (hk : Keeps s₀ s) : Keeps s₀ (limitsSecond s) := by
  unfold limitsSecond
  repeat' with_reducible first
    | assumption | intro _ | extract_lets | apply modCfg_keeps | apply modHub_keeps | apply mk_keeps | apply Keeps.pending
    | apply Keeps.dram | apply Keeps.flash | apply Keeps.hostMem | apply Keeps.regs | apply Keeps.shadow

theorem treesSecond_keeps {s₀ s : State} (hk : Keeps s₀ s) : Keeps s₀ (treesSecond s) := by
  unfold treesSecond
  repeat' with_reducible first
    | assumption | intro _ | extract_lets | apply foldl_keeps | apply foldl_fst_keeps | apply errorSecond_keeps | apply latchTree_keeps
    | apply stbySecond_keeps

theorem oneSecond_keeps {s₀ s : State} (r : SageIn) (hk : Keeps s₀ s) : Keeps s₀ (oneSecond r s) := by
  unfold oneSecond
  repeat' with_reducible first
    | assumption | intro _ | extract_lets | apply ite_keeps | apply fwdSecond_keeps | apply holdoffSecond_keeps
    | apply laneSecond_keeps | apply limitsSecond_keeps | apply powerSecond_keeps | apply sageReport_keeps | apply sageTasks_keeps
    | apply snapTick_keeps | apply treesSecond_keeps | apply tsuSecond_keeps

end Sys2Proof.Machine
end

