-- ==== Sys2Proof/Laws/KeepsAccess.lean ====
section
/-! SUPPORT. Laws/KeepsAccess.lean: every operation of Machine/Access.lean keeps the queue of commands and the canonical forms (Keeps). -/
namespace Sys2Proof.Machine

theorem writePwr_keeps {s₀ s : State} (b : Nat) (w : Nat) (hk : Keeps s₀ s) : OKeeps s₀ (writePwr b w s) := by
  unfold writePwr
  repeat' with_reducible first
    | assumption | intro _ | apply okeeps_none | apply okeeps_some | apply okeeps_ite | apply ite_keeps | apply modeReqWrite_keeps
    | apply sagCfgWrite_keeps | apply saveArmWrite_keeps | apply saveCmdWrite_keeps

theorem writeCfg_keeps {s₀ s : State} (b : Nat) (w : Nat) (hk : Keeps s₀ s) : OKeeps s₀ (writeCfg b w s) := by
  unfold writeCfg
  repeat' with_reducible first
    | assumption | intro _ | apply okeeps_none | apply okeeps_some | apply okeeps_ite | extract_lets | apply ite_keeps
    | apply bootRestart_keeps | apply bootSelWrite_keeps | apply clearStreak_keeps | apply commitWrite_keeps | apply forceNormal_keeps
    | apply imgInvalidate_keeps | apply imgVerify_keeps | apply reloadRequest_keeps | apply when_keeps | apply wr_keeps

theorem writeTree_keeps {s₀ s : State} (b : Nat) (n : Nat) (w : Nat) (hk : Keeps s₀ s) : OKeeps s₀ (writeTree b n w s) := by
  unfold writeTree
  repeat' with_reducible first
    | assumption | intro _ | apply okeeps_none | apply okeeps_some | apply okeeps_ite | extract_lets | apply ite_keeps
    | apply allocRead_keeps | apply allocWrite_keeps | apply loopbackSet_keeps | apply modSubmit_keeps | apply popRx_keeps
    | apply portDisable_keeps | apply portEnable_keeps | apply rngSubmit_keeps | apply selectPm_keeps | apply submitMsg_keeps
    | apply wantDiscovery_keeps

theorem writeHif_keeps {s₀ s : State} (part : Nat) (b : Nat) (w : Nat) (hk : Keeps s₀ s) : OKeeps s₀ (writeHif part b w s) := by
  unfold writeHif
  repeat' with_reducible first
    | assumption | intro _ | apply okeeps_none | apply okeeps_some | apply okeeps_ite | apply ite_keeps | apply baseWrite_keeps
    | apply ciWrite_keeps | apply freezeEnd_keeps | apply ringWrite_keeps | apply spiCmd_keeps

theorem writeMec_keeps {s₀ s : State} (lo : Bool) (b : Nat) (n : Nat) (w : Nat) (hk : Keeps s₀ s) : OKeeps s₀ (writeMec lo b n w s) := by
  unfold writeMec
  repeat' with_reducible first
    | assumption | intro _ | apply okeeps_none | apply okeeps_some | apply okeeps_ite | apply ite_keeps | apply draw_keeps
    | apply engineStart_keeps | apply engineStop_keeps | apply hostTask_keeps | apply openLoad_keeps

theorem writeTables_keeps {s₀ s : State} (b : Nat) (w : Nat) (hk : Keeps s₀ s) : OKeeps s₀ (writeTables b w s) := by
  unfold writeTables
  repeat' with_reducible first
    | assumption | intro _ | apply okeeps_none | apply okeeps_some | apply okeeps_ite | apply ite_keeps | apply cellFree_keeps
    | apply tblCmd_keeps | apply tmgRead_keeps | apply tmgWrite_keeps

theorem writeCph_keeps {s₀ s : State} (lo : Bool) (b : Nat) (n : Nat) (w : Nat) (hk : Keeps s₀ s) : OKeeps s₀ (writeCph lo b n w s) := by
  unfold writeCph
  repeat' with_reducible first
    | assumption | intro _ | apply okeeps_none | apply okeeps_some | apply okeeps_ite | apply ite_keeps | apply eraseSlot_keeps
    | apply hostReq_keeps | apply startImport_keeps | apply termCmd_keeps | apply writeBind_keeps

theorem writeTimes_keeps {s₀ s : State} (b : Nat) (w : Nat) (hk : Keeps s₀ s) : OKeeps s₀ (writeTimes b w s) := by
  unfold writeTimes
  repeat' with_reducible first
    | assumption | intro _ | apply okeeps_none | apply okeeps_some | apply okeeps_ite | apply ite_keeps | apply jumpAccept_keeps
    | apply jumpRebase_keeps | apply jumpReject_keeps | apply todRequest_keeps | apply wr_keeps

theorem writePeer_keeps {s₀ s : State} (b : Nat) (w : Nat) (hk : Keeps s₀ s) : OKeeps s₀ (writePeer b w s) := by
  unfold writePeer
  repeat' with_reducible first
    | assumption | intro _ | apply okeeps_none | apply okeeps_some | apply okeeps_ite | apply ite_keeps | apply htxPost_keeps
    | apply modPrt_keeps | apply showHrx_keeps | apply showKapTx_keeps | apply submitKap_keeps | apply trigger_keeps | apply mk_keeps
    | apply Keeps.pending | apply Keeps.dram | apply Keeps.flash | apply Keeps.hostMem | apply Keeps.regs | apply Keeps.shadow

theorem writeObs_keeps {s₀ s : State} (b : Nat) (n : Nat) (k : Nat) (w : Nat) (hk : Keeps s₀ s) : OKeeps s₀ (writeObs b n k w s) := by
  unfold writeObs
  repeat' with_reducible first
    | assumption | intro _ | apply okeeps_none | apply okeeps_some | apply okeeps_ite | apply ite_keeps | apply armInjection_keeps
    | apply counterWrite_keeps | apply modObs_keeps | apply skimPop_keeps | apply unlockKey_keeps | apply viewBind_keeps
    | apply when_keeps | apply wr_keeps | apply mk_keeps | apply Keeps.pending | apply Keeps.dram | apply Keeps.flash
    | apply Keeps.hostMem | apply Keeps.regs | apply Keeps.shadow

theorem special_keeps {s₀ s : State} (part : Nat) (w : Nat) (r : RegRef) (hk : Keeps s₀ s) : OKeeps s₀ (special part w r s) := by
  unfold special
  repeat' with_reducible first
    | assumption | intro _ | apply okeeps_none | apply okeeps_some | apply okeeps_ite | extract_lets | apply ite_keeps
    | apply writeCfg_keeps | apply writeCph_keeps | apply writeHif_keeps | apply writeMec_keeps | apply writeObs_keeps
    | apply writePeer_keeps | apply writePwr_keeps | apply writeTables_keeps | apply writeTimes_keeps | apply writeTree_keeps

theorem writeFollows_keeps {s₀ s : State} (w : Nat) (r : RegRef) (hk : Keeps s₀ s) : Keeps s₀ (writeFollows old w r s) := by
  unfold writeFollows
  repeat' with_reducible first
    | assumption | intro _ | extract_lets | apply ite_keeps | apply backPressure_keeps | apply histCfgWrite_keeps
    | apply histWant_keeps | apply msgRxAgain_keeps | apply showHold_keeps | apply when_keeps

theorem hostWrite_keeps {s₀ s : State} (part : Nat) (w : Nat) (r : RegRef) (hk : Keeps s₀ s) : Keeps s₀ (hostWrite part w r s) := by
  unfold hostWrite
  repeat' with_reducible first
    | assumption | intro _ | extract_lets | apply ite_keeps | split | apply special_keeps | apply tileAccess_keeps
    | apply writeFollows_keeps | apply writeReg_keeps | refine okeeps_get (by assumption) ?_ | refine opkeeps_get (by assumption) ?_
    | refine pair_fst_keeps (by assumption) ?_ | refine pair_snd_keeps (by assumption) ?_ | (dsimp +zetaDelta only; split)
    | contradiction

theorem sideRead_keeps {s₀ s : State} (r : RegRef) (hk : Keeps s₀ s) : Keeps s₀ (sideRead r s).1 := by
  unfold sideRead
  repeat' with_reducible first
    | assumption | intro _ | extract_lets | apply ite_keeps | split | apply clearRead_keeps | apply hostAlloc_keeps
    | apply latchHigh_keeps | apply readResult_keeps | apply readTaskResult_keeps | apply snapTime_keeps | apply ssDataRead_keeps

theorem msixWrite_keeps {s₀ s : State} (o : Nat) (v : Nat) (hk : Keeps s₀ s) : Keeps s₀ (msixWrite o v s) := by
  unfold msixWrite
  repeat' with_reducible first
    | assumption | intro _ | extract_lets | apply ite_keeps | apply SMap.rising_put | apply SMap.rising_foldl | apply modHub_keeps
    | apply mk_keeps | apply Keeps.pending | apply Keeps.dram | apply Keeps.flash | apply Keeps.hostMem | apply Keeps.regs
    | apply Keeps.shadow

theorem spanWrite_keeps {s₀ s : State} (wide : Bool) (a : Nat) (v : Nat) (hk : Keeps s₀ s) : Keeps s₀ (spanWrite wide a v s) := by
  unfold spanWrite
  repeat' with_reducible first
    | assumption | intro _ | apply ite_keeps | apply msixWrite_keeps | apply viewWrite_keeps

theorem flushPath_keeps {s₀ s : State} (p : Path) (hk : Keeps s₀ s) : Keeps s₀ (flushPath p s) := by
  unfold flushPath
  repeat' with_reducible first
    | assumption | intro _ | split | apply hostWrite_keeps | apply setMem_keeps | apply setMem_keeps_boot
    | refine okeeps_get (by assumption) ?_ | refine opkeeps_get (by assumption) ?_ | refine pair_fst_keeps (by assumption) ?_
    | refine pair_snd_keeps (by assumption) ?_ | contradiction

theorem readHalf_keeps {s₀ s : State} (p : Path) (r : RegRef) (upper : Bool) (hk : Keeps s₀ s) : Keeps s₀ (readHalf p r upper s).1 := by
  unfold readHalf
  repeat' with_reducible first
    | assumption | intro _ | extract_lets | apply ite_keeps | apply fst_ite_keeps | apply snd_ite_keeps | split | apply clearRead_keeps
    | apply setMem_keeps | apply setMem_keeps_boot | apply sideRead_keeps | apply tileAccess_keeps

theorem read4_keeps {s₀ s : State} (p : Path) (a : Nat) (hk : Keeps s₀ s) : Keeps s₀ (read4 p a s).1 := by
  unfold read4
  repeat' with_reducible first
    | assumption | intro _ | extract_lets | apply ite_keeps | split | apply flushPath_keeps | apply readHalf_keeps | apply setMem_keeps
    | apply setMem_keeps_boot | refine okeeps_get (by assumption) ?_ | refine opkeeps_get (by assumption) ?_
    | refine pair_fst_keeps (by assumption) ?_ | refine pair_snd_keeps (by assumption) ?_ | (dsimp +zetaDelta only; split)
    | contradiction

theorem read8_keeps {s₀ s : State} (p : Path) (a : Nat) (hk : Keeps s₀ s) : Keeps s₀ (read8 p a s).1 := by
  have h1 := read4_keeps p a hk
  have h2 := read4_keeps p (a + 4) h1
  unfold read8
  split
  · dsimp only
    split
    · exact tileAccess_keeps (flushPath_keeps _ hk)
    · exact sideRead_keeps _ (flushPath_keeps _ hk)
  · generalize read4 p a s = x at h1 h2 ⊢
    dsimp only
    generalize read4 p (a + 4) x.1 = y at h2 ⊢
    exact h2

theorem holdUpper_keeps {s₀ s : State} (p : Path) (r : RegRef) (v : Nat) (hk : Keeps s₀ s) : Keeps s₀ (holdUpper p r v s) := by
  unfold holdUpper
  repeat' with_reducible first
    | assumption | intro _ | apply ite_keeps | apply flushPath_keeps | apply setMem_keeps | apply setMem_keeps_boot

theorem write4_keeps {s₀ s : State} (p : Path) (a : Nat) (v : Nat) (hk : Keeps s₀ s) : Keeps s₀ (write4 p a v s) := by
  unfold write4
  repeat' with_reducible first
    | assumption | intro _ | apply ite_keeps | split | apply flushPath_keeps | apply holdUpper_keeps | apply hostWrite_keeps
    | apply setMem_keeps | apply setMem_keeps_boot | apply spanWrite_keeps | refine okeeps_get (by assumption) ?_
    | refine opkeeps_get (by assumption) ?_ | refine pair_fst_keeps (by assumption) ?_ | refine pair_snd_keeps (by assumption) ?_
    | contradiction

theorem write8_keeps {s₀ s : State} (p : Path) (a : Nat) (v : Nat) (hk : Keeps s₀ s) : Keeps s₀ (write8 p a v s) := by
  unfold write8
  repeat' with_reducible first
    | assumption | intro _ | apply ite_keeps | split | apply SMap.rising_filter | apply Memory.wf_filter | apply flushPath_keeps
    | apply hostWrite_keeps | apply spanWrite_keeps | apply write4_keeps | refine okeeps_get (by assumption) ?_
    | refine opkeeps_get (by assumption) ?_ | refine pair_fst_keeps (by assumption) ?_ | refine pair_snd_keeps (by assumption) ?_
    | contradiction

theorem unsupported_keeps {s₀ s : State} (hk : Keeps s₀ s) : Keeps s₀ (unsupported s) := by
  unfold unsupported
  repeat' with_reducible first
    | assumption | intro _ | apply modHost_keeps | apply mk_keeps | apply Keeps.pending | apply Keeps.dram | apply Keeps.flash
    | apply Keeps.hostMem | apply Keeps.regs | apply Keeps.shadow

theorem hostRead_keeps {s₀ s : State} (wide : Bool) (a : Nat) (hk : Keeps s₀ s) : Keeps s₀ (hostRead wide a s) := by
  unfold hostRead
  repeat' with_reducible first
    | assumption | intro _ | extract_lets | apply ite_keeps | apply fst_ite_keeps | apply snd_ite_keeps | apply answer_keeps
    | apply read4_keeps | apply read8_keeps | apply unsupported_keeps

theorem hostStore_keeps {s₀ s : State} (wide : Bool) (a : Nat) (v : Nat) (hk : Keeps s₀ s) : Keeps s₀ (hostStore wide a v s) := by
  unfold hostStore
  repeat' with_reducible first
    | assumption | intro _ | apply ite_keeps | apply unsupported_keeps | apply write4_keeps | apply write8_keeps

theorem i2cAccess_keeps {s₀ s : State} (write : Bool) (a : Nat) (v : Nat) (hk : Keeps s₀ s) : Keeps s₀ (i2cAccess write a v s) := by
  unfold i2cAccess
  repeat' with_reducible first
    | assumption | intro _ | extract_lets | apply ite_keeps | apply fst_ite_keeps | apply snd_ite_keeps | apply answer_keeps
    | apply asleepSupply_keeps | apply modHost_keeps | apply raiseSec_keeps | apply read4_keeps | apply sat_keeps | apply write4_keeps
    | apply mk_keeps | apply Keeps.pending | apply Keeps.dram | apply Keeps.flash | apply Keeps.hostMem | apply Keeps.regs
    | apply Keeps.shadow

end Sys2Proof.Machine
end

