-- ==== Sys2Proof/Laws/KeepsCommands.lean ====
section
/-! SUPPORT. Laws/KeepsCommands.lean: every operation of Machine/Commands.lean keeps the queue of commands and the canonical forms (Keeps). -/
namespace Sys2Proof.Machine

theorem hostCmd_keeps {s₀ s : State} (p : Path) (addr : Nat) (g : State → State) (hg : ∀ u : State, Keeps s₀ u → Keeps s₀ (g u)) (hk : Keeps s₀ s) : Keeps s₀ (hostCmd p addr g s) := by
  unfold hostCmd
  repeat' with_reducible first
    | assumption | intro _ | extract_lets | apply ite_keeps | apply flushPath_keeps | apply tileAccess_keeps | apply hg

theorem submitRow_keeps {s₀ s : State} (row : Nat) (hk : Keeps s₀ s) : Keeps s₀ (submitRow row s) := by
  unfold submitRow
  repeat' with_reducible first
    | assumption | intro _ | extract_lets | apply ite_keeps | apply hostCmd_keeps | apply submitKap_keeps

end Sys2Proof.Machine
end

