-- ==== Sys2Proof/WellFormed.lean ====
section
/-! DEFINITION. WellFormed.lean: the ranges of the commands' operands: a tree or port below 32, a terminal below 512, an engine below 64,
an uplink port below 16, and each value within the field that the spec's command register gives it. A command outside its ranges is no
command of the hardware; the machine gives it a meaning all the same (see Instr). -/
namespace Sys2Proof

/-- Each byte of a list is below 256. -/
def byteBounds (l : List Nat) : List (Nat × Nat) := l.map fun b => (b, 256)

/-- The bounded operands of a command, each with the bound it stays below. -/
def Instr.bounds : Instr → List (Nat × Nat)
  | .tick _ => []
  | .oneSecondBoundary _ => []
  | .vinRise => []
  | .powerOnResetRelease _ _ _ => []
  | .boardReset _ _ => []
  | .registerWrite _ addr _ => [(addr, 67108864)]
  | .readClearAccess _ addr => [(addr, 67108864)]
  | .upperWordWrite addr value => [(addr, 67108864), (value, 4294967296)]
  | .unsupportedRequest addr _ => [(addr, 67108864)]
  | .vWarnCross => []
  | .holdSwitchClose _ => []
  | .captureFrozen => []
  | .wheyBlockWritten _ _ => []
  | .saveHeaderWritten => []
  | .saveDone _ => []
  | .holdingTimeout => []
  | .vSagCross => []
  | .vWarnRearm _ => []
  | .vinRecovered => []
  | .autoResume => []
  | .railUv => []
  | .ilim => []
  | .vinBelowFloor => []
  | .chargerRestart => []
  | .chgFault => []
  | .modeRequest _ target promoteTo => [(target, 8), (promoteTo, 8)]
  | .wake _ => []
  | .orderlyRestart _ promoteTo => [(promoteTo, 8)]
  | .provingUnlockKey _ key target promoteTo => [(key, 65536), (target, 8), (promoteTo, 8)]
  | .provingRequest _ promoteTo => [(promoteTo, 8)]
  | .provingUnlockExpire => []
  | .saveCmd => []
  | .sleepCmd => []
  | .saveStaged => []
  | .saveArm _ => []
  | .saveDisarmKey key _ _ => [(key, 65536)]
  | .sagCfgWrite word => [(word, 4294967296)]
  | .ssDataRead _ => []
  | .opticsGroupRelease => []
  | .serviceModeTaken => []
  | .bootStepEnd _ _ _ => []
  | .bootStepTimeout => []
  | .bootRestart => []
  | .clearStreak k => [(k, 16)]
  | .forceNormal k => [(k, 16)]
  | .imgVerify slot => [(slot, 2)]
  | .imgInvalidate slot => [(slot, 2)]
  | .verificationEnd slot => [(slot, 2)]
  | .bar2Write _ bytes => byteBounds bytes
  | .reloadRequest tile slot _ partner gen => [(tile, 64), (slot, 2), (partner, 64), (gen, 65536)]
  | .drainEnd n => [(n, 64)]
  | .sectionLoaded n => [(n, 64)]
  | .tileNegotiation n => [(n, 64)]
  | .reloadTimeout n => [(n, 64)]
  | .commit group gen => [(group, 64), (gen, 65536)]
  | .commitLink group gen => [(group, 64), (gen, 65536)]
  | .portEnable n => [(n, 32)]
  | .portDisable n => [(n, 32)]
  | .loopbackSet n v => [(n, 32), (v, 4)]
  | .benAssert n => [(n, 32)]
  | .leadEnd n => [(n, 32)]
  | .upstreamBurst n _ _ => [(n, 32)]
  | .burstWindowClose n _ _ _ => [(n, 32)]
  | .codewordDecoded n _ _ _ _ _ _ _ => [(n, 32)]
  | .treeLos n => [(n, 32)]
  | .treeLosClear n => [(n, 32)]
  | .rogueLight n r => [(n, 32), (r.ofs, 125000)]
  | .moduleRead n dev reg len khz => [(n, 32), (dev, 128), (reg, 256), (len, 4), (khz, 2)]
  | .moduleWrite n dev reg len khz => [(n, 32), (dev, 128), (reg, 256), (len, 4), (khz, 2)]
  | .moduleTxnEnd n _ _ => [(n, 32)]
  | .moduleStretchTimeout n => [(n, 32)]
  | .msgSelect n => [(n, 32)]
  | .payloadPrefetch n _ => [(n, 32)]
  | .mapFreeze n _ => [(n, 32)]
  | .mapLate n => [(n, 32)]
  | .frameHandoff n _ _ => [(n, 32)]
  | .msgTxSubmit n term => [(n, 32), (term, 512)]
  | .upstreamMessage n term _ _ _ body => [(n, 32), (term, 512)] ++ byteBounds body
  | .msgRxPop n => [(n, 32)]
  | .pmLatched => []
  | .pmSelect n term _ => [(n, 32), (term, 512)]
  | .sfcCeilingWrite n => [(n, 32)]
  | .discoveryPeriod n => [(n, 32)]
  | .discoveryNow n => [(n, 32)]
  | .quietWindowBegin n => [(n, 32)]
  | .discoveryResponse n => [(n, 32)]
  | .rangingTimeResend n t => [(n, 32), (t, 512)]
  | .correctionResend n t => [(n, 32), (t, 512)]
  | .verifyTimeout n t => [(n, 32), (t, 512)]
  | .accept n t => [(n, 32), (t, 512)]
  | .rerange n t => [(n, 32), (t, 512)]
  | .release n t => [(n, 32), (t, 512)]
  | .retry n t => [(n, 32), (t, 512)]
  | .snAdmit n t => [(n, 32), (t, 512)]
  | .snDrop n => [(n, 32)]
  | .snReserve n t => [(n, 32), (t, 512)]
  | .recomputationStart n => [(n, 32)]
  | .deadlineNear n => [(n, 32)]
  | .treeDone n c => [(n, 32), (c, 187500)]
  | .recomputationDeadline n => [(n, 32)]
  | .insertion n _ => [(n, 32)]
  | .allocRead n i => [(n, 32), (i, 4096)]
  | .allocWrite n i => [(n, 32), (i, 4096)]
  | .profileHoldEnd n p => [(n, 32), (p, 4)]
  | .opNext e _ => [(e, 64)]
  | .opJump e _ => [(e, 64)]
  | .opBranch e _ => [(e, 64)]
  | .opCall e _ => [(e, 64)]
  | .opReturn e _ => [(e, 64)]
  | .opWait e _ => [(e, 64)]
  | .opLoop e _ => [(e, 64)]
  | .opSpanOpen e _ => [(e, 64)]
  | .opSpanClose e _ => [(e, 64)]
  | .opDone e _ => [(e, 64)]
  | .opHret e _ => [(e, 64)]
  | .opHook e _ => [(e, 64)]
  | .opIdle e _ => [(e, 64)]
  | .trap e _ => [(e, 64)]
  | .opAdd e _ => [(e, 64)]
  | .opSub e _ => [(e, 64)]
  | .opAnd e _ => [(e, 64)]
  | .opOr e _ => [(e, 64)]
  | .opXor e _ => [(e, 64)]
  | .opShl e _ => [(e, 64)]
  | .opShr e _ => [(e, 64)]
  | .opSar e _ => [(e, 64)]
  | .opMin e _ => [(e, 64)]
  | .opMax e _ => [(e, 64)]
  | .opMinu e _ => [(e, 64)]
  | .opMaxu e _ => [(e, 64)]
  | .opMul e _ => [(e, 64)]
  | .opMulhu e _ => [(e, 64)]
  | .opCmp e _ => [(e, 64)]
  | .opAddi e _ => [(e, 64)]
  | .opMovi e _ => [(e, 64)]
  | .opShlor e _ => [(e, 64)]
  | .opLd e _ => [(e, 64)]
  | .opSt e _ => [(e, 64)]
  | .opLdl e _ => [(e, 64)]
  | .opStl e _ => [(e, 64)]
  | .lineLands e _ => [(e, 64)]
  | .opAllocRd e _ => [(e, 64)]
  | .opRpt e _ => [(e, 64)]
  | .opWsa e _ => [(e, 64)]
  | .opSize e _ => [(e, 64)]
  | .opIns e _ => [(e, 64)]
  | .opAcc e _ => [(e, 64)]
  | .opAccRd e _ => [(e, 64)]
  | .opBar e _ => [(e, 64)]
  | .opDiv e _ => [(e, 64)]
  | .assistResult e _ => [(e, 64)]
  | .spanCap e _ => [(e, 64)]
  | .hookTimeout e _ => [(e, 64)]
  | .engineStop e _ => [(e, 64)]
  | .engineStart e => [(e, 64)]
  | .openLoadShadow => []
  | .openLoadSlot slot => [(slot, 2)]
  | .openCheckEnd => []
  | .openLoaded => []
  | .taskPost typ engine tag arg => [(typ, 256), (engine, 128), (tag, 65536), (arg, 4294967296)]
  | .taskStart e _ => [(e, 64)]
  | .taskTimeout e _ => [(e, 64)]
  | .taskResultRead => []
  | .uplinkRxFrame u _ _ bytes _ _ _ _ => [(u, 16)] ++ byteBounds bytes
  | .pfcRx u classes zero => [(u, 16), (classes, 256), (zero, 256)]
  | .pauseExpire u c => [(u, 16), (c, 8)]
  | .linkDown u => [(u, 16)]
  | .linkUp u => [(u, 16)]
  | .frameLookup _ _ _ => []
  | .learnCommit k => [(k, 4)]
  | .churnVisit k _ => [(k, 4)]
  | .tableRead table key => [(table, 8), (key, 18446744073709551616)]
  | .tableWrite table key _ _ => [(table, 8), (key, 18446744073709551616)]
  | .tableDelete table key => [(table, 8), (key, 18446744073709551616)]
  | .flushOwner table key => [(table, 8), (key, 18446744073709551616)]
  | .flushDone k => [(k, 4)]
  | .cellAlloc => []
  | .cellFree c x => [(c, 33554432), (x, 16777216)]
  | .hostCellAlloc => []
  | .hostCellFree c => [(c, 33554432)]
  | .pauseRefresh u => [(u, 16)]
  | .uplinkTxSelect u => [(u, 16)]
  | .tmgTableRead table index => [(table, 8), (index, 1048576)]
  | .tmgTableWrite table index => [(table, 8), (index, 1048576)]
  | .cipherRequestStart => []
  | .cipherRequestDone _ => []
  | .hreqCtr _ a tag len => [(a, 256), (tag, 65536), (len, 131072)]
  | .hreqCbc _ a tag len => [(a, 256), (tag, 65536), (len, 131072)]
  | .hreqCfb _ a tag len => [(a, 256), (tag, 65536), (len, 131072)]
  | .hreqCmac _ a tag len => [(a, 256), (tag, 65536), (len, 131072)]
  | .hreqResultRead => []
  | .importSession slot wrap => [(slot, 65536), (wrap, 256)]
  | .importData slot wrap => [(slot, 65536), (wrap, 256)]
  | .importGroup slot wrap => [(slot, 65536), (wrap, 256)]
  | .importAuth slot wrap _ => [(slot, 65536), (wrap, 256)]
  | .importEnd => []
  | .prevKeyZeroize k => [(k, 65536)]
  | .slotErase k _ => [(k, 65536)]
  | .slotZeroized k => [(k, 65536)]
  | .keyControlSend x index => [(x, 16384), (index, 2)]
  | .dsIndexSwitch x index => [(x, 16384), (index, 2)]
  | .bindWrite b w => [(b, 2048), (w, 4294967296)]
  | .dramRequest r addr _ => [(r, 14), (addr, 34359738368)]
  | .dramRequestServed p _ _ ecc _ => [(p, 32), (ecc, 65536)]
  | .agePromote p _ => [(p, 32)]
  | .panic r _ => [(r, 2)]
  | .refreshDue p _ => [(p, 32)]
  | .refreshRepay p _ => [(p, 32)]
  | .selfRefreshEntry p => [(p, 32)]
  | .selfRefreshExit p => [(p, 32)]
  | .segmentZeroed => []
  | .rhWindowEnd => []
  | .patrolScrub ecc => [(ecc, 3)]
  | .ptpSyncRx u _ _ t2 _ => [(u, 16), (t2, 8192000000)]
  | .ptpFollowUpRx u _ _ => [(u, 16)]
  | .ptpDelayRespRx u _ _ => [(u, 16)]
  | .phaseMeasurement => []
  | .ptpDelayReqRx u q => [(u, 16), (q.at_, 8192000000)]
  | .ptpSyncTx u => [(u, 16)]
  | .ptpDelayReqTx u t3 => [(u, 16), (t3, 8192000000)]
  | .ptpSourceLost => []
  | .ppsSourceLost => []
  | .synceLost => []
  | .ppsInEdge at_ _ => [(at_, 8192000000)]
  | .ppsOut => []
  | .serTodTx => []
  | .serTodRx bytes => byteBounds bytes
  | .jumpAccept => []
  | .jumpRebase => []
  | .jumpReject => []
  | .todRequest n t ahead => [(n, 32), (t, 512), (ahead, 8192)]
  | .timeSnapRead => []
  | .heartbeatTx path _ => [(path, 2)]
  | .heartbeatRx path beat _ _ => [(path, 2)] ++ byteBounds beat
  | .pathLost path => [(path, 2)]
  | .verdictRequestHost => []
  | .verdictTimeout => []
  | .promote => []
  | .demote => []
  | .verdictHold => []
  | .fence => []
  | .verdictApplied => []
  | .arbGntVerdict _ => []
  | .kapTxPop => []
  | .oxlLinkTrained _ _ _ _ => []
  | .mirrorRecordRx _ _ => []
  | .bulkCopyDone => []
  | .revertRequest => []
  | .hostRxPop => []
  | .hostTxPost slot port len => [(slot, 64), (port, 16), (len, 4096)]
  | .hostTxSend => []
  | .perst => []
  | .pcieLinkDown => []
  | .bar2BaseWrite base => [(base, 64)]
  | .apiMinorSelect minor => [(minor, 256)]
  | .i2cTransaction _ addr value => [(addr, 4294967296), (value, 4294967296)]
  | .spiRead opcode addrBytes dummy len _ => [(opcode, 256), (addrBytes, 4), (dummy, 16), (len, 512)]
  | .spiWrite opcode addrBytes dummy len _ => [(opcode, 256), (addrBytes, 4), (dummy, 16), (len, 512)]
  | .spiDone _ _ => []
  | .eventOccurrence id => [(id, 2048)]
  | .recordDue src => [(src, 2048)]
  | .recordWrite => []
  | .evtRingWrite w => [(w, 18446744073709551616)]
  | .evtCiWrite v => [(v, 4294967296)]
  | .freezeEnd mask => [(mask, 4294967296)]
  | .counterWrite i w _ => [(i, 512), (w, 18446744073709551616)]
  | .chainedCounterRead i => [(i, 512)]
  | .snapshot => []
  | .skimRecord => []
  | .skimPop => []
  | .histClear h => [(h, 32)]
  | .viewBind v k w => [(v, 16), (k, 512), (w, 18446744073709551616)]
  | .viewWrite v => [(v, 16)]
  | .injUnlockKey l key => [(l, 64), (key, 65536)]
  | .injExpired l => [(l, 51)]
  | .injCfgWrite l w => [(l, 51), (w, 18446744073709551616)]
  | .deviceUnpowered _ _ => []
  | .pcieLinkUp => []
  | .synceRestored => []
  | .busMasterEnable => []

/-- Every operand lies in its range. -/
def Instr.wf (i : Instr) : Bool := i.bounds.all fun b => decide (b.1 < b.2)

end Sys2Proof
end

