-- ==== Sys2Proof/Tests/Slice0.lean ====
section
/-! SUPPORT. Tests/Slice0.lean: the model's own tests: the ill-formed commands that WellFormed refuses, the state after reset, examples worked out
by hand from the spec's tables and from the standards it cites, and, for each statement with hypotheses, concrete states and operands that meet
them (`test_wit_…`, one per clause). -/
set_option Elab.async false
namespace Sys2Proof.Tests
open Sys2Proof Sys2Proof.Machine

/-! Small states. -/

/-- A small state in service: BALANCED, tiles of tree 0 and of the shared blocks JOINED, the PCIe link up. -/
def lite : State :=
  let s := State.reset
  let s := { s with cfg := { s.cfg with run := none, routed := true, tiles := [(0, ⟨1, 0, 1, [1, 0xFF, 0, 2, 0, 0x10, 0, 0, 0, 0x80, 0, 0] ++ List.replicate 40 0⟩)] } }
  let s := (s.wr F.PWR_MODE_CUR 3).wr F.CFG_BOOT_STAT_STEP 15
  let s := [0, 32, 40, 44, 45, 46, 47].foldl (fun a n => a.wr (F.CFG_TILE_STAT_STATE n) 3) s
  let s := s.wr F.PRT_STAT_ROLE 1
  { s with hostIf := { s.hostIf with endpoint := true, pcieLive := true } }
/-- A brown-out save that has just begun. -/
def run0 : SaveRun :=
  { brownout := true, cause := 1, after := .resume, journalOnly := false, noStore := false, lowHold := false, target := 1, captured := false,
    staging := false, block := 0, mism := 0, rewrites := 0, header := false }
/-- HOLDING with a brown-out save. -/
def darkR (r : SaveRun) : State :=
  (lite.wr F.PWR_MODE_CUR mHolding).modPwr fun p => { p with save := some r }
def dark : State := darkR run0
/-- `lite` with an image of one empty TILE section for tile 0 in slot 0, VERIFIED, and an image without GLOBAL and KEY_FMT running. -/
def imaged : State :=
  let b := 0x280000000
  let m : Memory := [(b + 12, 1), (b + 45, 1), (b + 0x100, 0x10), (b + 0x105, 0x10), (b + 0x10C, 3), (b + 0x10D, 5), (b + 0x1000, 1),
    (b + 0x1002, 3), (b + 0x1003, 5), (b + 0x100C, 1), (b + 0x100D, 0xFF)]
  let s := { lite with dram := m, cfg := { lite.cfg with running := some ⟨0, 0, 0, [], [], []⟩, runSlot := 1 } }
  s.wr (F.CFG_IMG_STAT_VERIFIED 0) 1
/-- `imaged` with a reload of tile 0 in hand. -/
def reload0 : Reload := ⟨0, 1, none, false, 0, 0, false, none, false, (0, 0), [], [], [], [], []⟩
def reloading (st : Nat) (r : Reload) : State :=
  { imaged with cfg := { imaged.cfg with loads := [(0, r)] } }.wr (F.CFG_TILE_STAT_STATE 0) st
/-- The boot at a step's attempt. -/
def booting (k a : Nat) : State :=
  ((lite.modCfg fun c => { c with run := some ⟨k, false, a, false⟩ }).wr F.CFG_BOOT_STAT_STEP k).wr F.PWR_MODE_CUR 1
/-- The boot at step 13, with a valid copy of a save of its own and an image that resumes warm. -/
def warming : State :=
  let s := booting 13 1
  let i : ImageMeta := ⟨0, 0, 0, [], [], []⟩
  { s with
    cfg := { s.cfg with policy := { s.cfg.policy with warm := 1 }, picked := some i, mem := List.replicate 14 ⟨0, 0, false, false⟩ }
    store := { s.store with copyA := ⟨true, true, 1, 1, 1, 0, some { captureSet State.initial with gkDigest := i.gkDigest }⟩ } }
/-- Nothing declines a copy of the known schema and the same GLOBAL and KEY_FMT when the step that reads the time did not lock. -/
theorem warmCode5_none_declines (s : State) (k : SaveCopy) (hw : s.cfg.policy.warm = 1) (hs : k.schema = 1)
    (hd : k.content.map SaveSet.gkDigest = s.cfg.picked.map ImageMeta.gkDigest) (hl : s.lockedStart = false) : warmCode5 s (some k) = 0 := by
  simp [warmCode5, warmCode4, hw, hs, hd, hl]
def sage0 : SageIn := ⟨[], none⟩
/-- `lite` with tree port 0 sending. -/
def sendg : State := ((lite.wr (F.TPA_CTRL_ENABLE 0) 1).wr (F.TPA_STAT_MEN 0) 1).wr (F.TPA_STAT_BEN 0) 1
/-- A data window of terminal 5 of tree 0 that opens and closes in the frame of tick 0. -/
def win0 : Win :=
  { frame := 0, term := 5, kind := 0, rate := 3, fec := false, wide := false, sOfs := 0, p := 1000, opens := 0, closes := 1000, half := 200,
    confirmed := false, accepted := 0, resume := 0, lost := false, light := false, held := [], heldPm := TermPm.zero }
/-- `lite` with windows of tree 0. -/
def winning (l : List Win) : State := lite.modTree 0 fun t => { t with wins := l }
/-- `lite` with terminal 5 of tree 0 in a state, held under serial number 77. -/
def termAt (st cause : Nat) : State :=
  ((lite.wr (F.RNG_TERM_STAT_STATE 0 5) st).wr (F.RNG_TERM_STAT_CAUSE 0 5) cause).wr (F.RNG_TERM_SN_SERIAL 0 5) 77
/-- An ALU slot's 32 bits, and a microword's 128. -/
def slotBits (op dst s1 s2 imm : Nat) : Nat := op * 2 ^ 26 + dst * 2 ^ 20 + s1 * 2 ^ 14 + s2 * 2 ^ 8 + imm
def wordBits (ctl cond target asOp asReg memOp memReg memBase memOfs a b : Nat) : Nat :=
  ctl * 2 ^ 124 + cond * 2 ^ 120 + target * 2 ^ 104 + asOp * 2 ^ 98 + asReg * 2 ^ 92 + memOp * 2 ^ 89 + memReg * 2 ^ 83 +
    memBase * 2 ^ 77 + memOfs * 2 ^ 64 + a * 2 ^ 32 + b
/-- An engine at word 0x100 with 0xFFFFFFFF in G32, 3 in G33, 0x40 in G34 and 2 in G61. -/
def engAt : Engine :=
  { Engine.initial with pc := 0x100, regs := [(32, 0xFFFFFFFF), (33, 3), (34, 0x40), (35, 5), (36, 0x10000000), (60, 0x200), (61, 2)] }
/-- `lite` with engine 0, of tree 0, before a word at 0x100. -/
def atWord (word : Nat) (x : Engine) : State :=
  { lite with mec := { lite.mec with vendor := [(0x100, word)], map := [(0, 0)], engines := [(0, x)] } }
def start0 : Start := ⟨0, 0, 1, 1, 1, 1000, 0, 0, false⟩
def spanOf (x : Engine) : Engine := { x with span := some ⟨0xF0, 90, x.regs, [.scratch 0x80 7, .ins 1 2]⟩ }
/-- `lite` with an image whose one section is an open partition of one word, a NEXT, in slot 0, VERIFIED. -/
def openImg : State :=
  let b := 0x280000000
  let m : Memory := [(b + 12, 1), (b + 45, 1), (b + 0x100, 6), (b + 0x105, 0x10), (b + 0x10C, 0x10)]
  { lite with dram := m }.wr (F.CFG_IMG_STAT_VERIFIED 0) 1
/-- `lite` with uplink port 0 up and pool 0 open. -/
def upl0 : State :=
  [(F.UPL_PORT_STAT_WIDTH 0, 1), (F.UPL_PORT_STAT_LINK 0, 1), (F.UPL_PORT_CFG_MAX_FRAME 0, 2000), (F.BPM_POOL_THR_WARN 0, 60),
    (F.BPM_POOL_THR_THROTTLE 0, 80), (F.BPM_POOL_THR_STOP 0, 100), (F.BPM_FS_STAT_FREE, 1000), (F.BPM_FS_STAT_LOW_WATER, 1000),
    (F.FWD_PART_STAT_BR_LOG2 0, 12)].foldl (fun a e => a.wr e.1 e.2) lite
def rxf (len : Nat) : RxFrame := ⟨len, 0x111, 0x222, false, 0, 0, 100, 0, false, [], 0⟩
/-- A frame of one cell, number 7. -/
def frame7 (up : Bool) (src : Nat) : Frame :=
  { up := up, src := src, len := 100, dst := 0x111, smac := 0x222, tagged := false, vid := 0, pcp := 0, tport := 100, term := 5, key := 0,
    sfc := 0, flow := 0, cells := [7], pool := 0, red := false, inner := [], pos := 0, icb := none, tags := [], copies := false, marks := none }
/-- `upl0` with frame 7 in the ingress stage, domain 5 in partition 0 with uplink 0, flow context 400 of terminal 5 and class 2, and
downstream queue 3 of tree 0. -/
def fwd0 (up : Bool) (src : Nat) : State :=
  let s := (upl0.modBpm fun b => { b with cells := [(7, ⟨0, 1, tagIngress src, false, 0⟩)], frames := [(7, frame7 up src)] }).modFwd fun f =>
    { f with ingress := [7], flows := [(400, { FlowCtx.empty with w0 := 15 + 5 * 2 ^ 4 + 5 * 2 ^ 18, w1 := 3 + 2 * 2 ^ 40 })],
             domains := [(5, 1)], vlans := [(0, 2 ^ 14 + 5)] }
  (s.modQueue 3 fun q => { q with w0 := 1 + 5 * 2, w1 := 0 }).wr (F.BPM_POOL_STAT_IN_USE 0) 1
def bentry (mac owner flow : Nat) : BEntry := ⟨mac, 5, false, flow, 0, 0, owner, false, false, false, 0, 0, 0, false⟩
/-- A state with a bridge entry for a MAC in domain 5 at the first way of its bucket. -/
def withEntry (e : BEntry) (s : State) : State :=
  s.setEntry ((s.bucketKeys 0 (s.bucketOf 0 5 e.mac)).headD 0) (some e)
def keyOf (s : State) (mac : Nat) : Nat := (s.bucketKeys 0 (s.bucketOf 0 5 mac)).headD 0
/-- A host request for CMAC of no bytes under authentication slot 5, and a downstream payload request of frame 7. -/
def hreq0 : CipherReq :=
  { prio := 5, slot := 36869, blocks := 1, sfc := 0, frame := 0, flow := 0, tag := 0, mode := 4, decrypt := false, htag := 9, len := 0,
    src := 0x300000000, dst := 0x300000000, iv := 0, icb := 0, job := .data }
def kslot0 : KeySlot := { KeySlot.initial with state := 2, key := some (List.replicate 16 0), data := true }
/-- `upl0` with a key in authentication slot 5. -/
def cph0 : State := upl0.modKey 36869 fun _ => kslot0
def payReq : CipherReq := { hreq0 with prio := 1, slot := 10, blocks := 7, frame := 7, len := 100, decrypt := true, mode := 0, htag := 0 }
def dreq (id r addr : Nat) (b : Option (List Nat)) : DramReq := ⟨id, r, addr, b, 5, 0, 10, false⟩
/-- A verdict message of a code with EPOCH 5 for the device with every identifier 0, and a state that holds it in PRT_KAP_RX. -/
def kapMsg (code : Nat) : List Nat := withCrc ([2, 2, 0, 0, 0, 0, 0, 0, 0, 0, 0, 0, 5, 0, 0, 0, code, 0, 0, 0] ++ List.replicate 40 0)
def withKap (code : Nat) : State :=
  (List.range 16).foldl (fun a i => a.wr (F.PRT_KAP_RX_BYTES i) (ofLe ((kapMsg code).extract (4 * i) (4 * i + 4))))
    (((lite.wr F.PRT_CFG_CLASS 1).wr (F.CFG_VER_AGREED 3) 2).wr F.PWR_VIN_VIN_MV 12000)
/-- A beat of a STANDBY peer with every identifier 0. -/
def beatOf (flags : Nat) : List Nat :=
  let b := [0x48, flags, 0, 0x20, 0, 0, 0, 0, 0, 0, 0, 0, 4, 0]
  b ++ leNats 2 (crc16 b)
/-- `lite` with uplink port 0 up as a PTP slave. -/
def tsu0 : State :=
  [(F.UPL_PORT_STAT_LINK 0, 1), (F.TSU_PORT_CFG_ROLE 0, 1), (F.UPL_PORT_STAT_WIDTH 0, 1), (F.TSU_CTRL_SRC_MODE, 1)].foldl
    (fun a e => a.wr e.1 e.2) lite


/-! WellFormed: an ill-formed command for each bound is refused. -/

theorem test_wf_refuses_0 : ([
    .registerWrite false 67108864 0, .readClearAccess false 67108864, .upperWordWrite 67108864 0, .upperWordWrite 0 4294967296,
    .unsupportedRequest 67108864 0, .modeRequest false 8 0, .modeRequest false 0 8, .orderlyRestart false 8,
    .provingUnlockKey false 65536 0 0, .provingUnlockKey false 0 8 0, .provingUnlockKey false 0 0 8, .provingRequest false 8,
    .saveDisarmKey 65536 false false, .sagCfgWrite 4294967296, .clearStreak 16, .forceNormal 16, .imgVerify 2, .imgInvalidate 2,
    .verificationEnd 2, .bar2Write 0 [256], .reloadRequest 64 0 false 0 0, .reloadRequest 0 2 false 0 0, .reloadRequest 0 0 false 64 0,
    .reloadRequest 0 0 false 0 65536, .drainEnd 64, .sectionLoaded 64, .tileNegotiation 64, .reloadTimeout 64, .commit 64 0,
    .commit 0 65536] : List Instr).all (fun c => !c.wf) = true := by decide +kernel

theorem test_wf_refuses_1 : ([
    .commitLink 64 0, .commitLink 0 65536, .portEnable 32, .portDisable 32, .loopbackSet 32 0, .loopbackSet 0 4, .benAssert 32,
    .leadEnd 32, .upstreamBurst 32 [] false, .burstWindowClose 32 false false false, .codewordDecoded 32 false 0 false 0 0 [] [],
    .treeLos 32, .treeLosClear 32, .rogueLight 32 ⟨0, 0⟩, .moduleRead 32 0 0 0 0, .moduleRead 0 128 0 0 0, .moduleRead 0 0 256 0 0,
    .moduleRead 0 0 0 4 0, .moduleRead 0 0 0 0 2, .moduleWrite 32 0 0 0 0, .moduleWrite 0 128 0 0 0, .moduleWrite 0 0 256 0 0,
    .moduleWrite 0 0 0 4 0, .moduleWrite 0 0 0 0 2, .moduleTxnEnd 32 false 0, .moduleStretchTimeout 32, .msgSelect 32,
    .payloadPrefetch 32 0, .mapFreeze 32 false, .mapLate 32] : List Instr).all (fun c => !c.wf) = true := by decide +kernel

theorem test_wf_refuses_2 : ([
    .frameHandoff 32 0 false, .msgTxSubmit 32 0, .msgTxSubmit 0 512, .upstreamMessage 32 0 0 0 0 [], .upstreamMessage 0 512 0 0 0 [],
    .upstreamMessage 0 0 0 0 0 [256], .msgRxPop 32, .pmSelect 32 0 false, .pmSelect 0 512 false, .sfcCeilingWrite 32,
    .discoveryPeriod 32, .discoveryNow 32, .quietWindowBegin 32, .discoveryResponse 32, .rangingTimeResend 32 0,
    .rangingTimeResend 0 512, .correctionResend 32 0, .correctionResend 0 512, .verifyTimeout 32 0, .verifyTimeout 0 512, .accept 32 0,
    .accept 0 512, .rerange 32 0, .rerange 0 512, .release 32 0, .release 0 512, .retry 32 0, .retry 0 512, .snAdmit 32 0,
    .snAdmit 0 512] : List Instr).all (fun c => !c.wf) = true := by decide +kernel

theorem test_wf_refuses_3 : ([
    .snDrop 32, .snReserve 32 0, .snReserve 0 512, .recomputationStart 32, .deadlineNear 32, .treeDone 32 0, .treeDone 0 187500,
    .recomputationDeadline 32, .insertion 32 0, .allocRead 32 0, .allocRead 0 4096, .allocWrite 32 0, .allocWrite 0 4096,
    .profileHoldEnd 32 0, .profileHoldEnd 0 4, .opNext 64 0, .opJump 64 0, .opBranch 64 0, .opCall 64 0, .opReturn 64 0, .opWait 64 0,
    .opLoop 64 0, .opSpanOpen 64 0, .opSpanClose 64 0, .opDone 64 0, .opHret 64 0, .opHook 64 0, .opIdle 64 0, .trap 64 0, .opAdd 64 0] : List Instr).all (fun c => !c.wf) = true := by decide +kernel

theorem test_wf_refuses_4 : ([
    .opSub 64 0, .opAnd 64 0, .opOr 64 0, .opXor 64 0, .opShl 64 0, .opShr 64 0, .opSar 64 0, .opMin 64 0, .opMax 64 0, .opMinu 64 0,
    .opMaxu 64 0, .opMul 64 0, .opMulhu 64 0, .opCmp 64 0, .opAddi 64 0, .opMovi 64 0, .opShlor 64 0, .opLd 64 0, .opSt 64 0,
    .opLdl 64 0, .opStl 64 0, .lineLands 64 0, .opAllocRd 64 0, .opRpt 64 0, .opWsa 64 0, .opSize 64 0, .opIns 64 0, .opAcc 64 0,
    .opAccRd 64 0, .opBar 64 0] : List Instr).all (fun c => !c.wf) = true := by decide +kernel

theorem test_wf_refuses_5 : ([
    .opDiv 64 0, .assistResult 64 0, .spanCap 64 0, .hookTimeout 64 0, .engineStop 64 0, .engineStart 64, .openLoadSlot 2,
    .taskPost 256 0 0 0, .taskPost 0 128 0 0, .taskPost 0 0 65536 0, .taskPost 0 0 0 4294967296, .taskStart 64 0, .taskTimeout 64 0,
    .uplinkRxFrame 16 0 (rxf 64) [] false 0 0 false, .uplinkRxFrame 0 0 (rxf 64) [256] false 0 0 false, .pfcRx 16 0 0, .pfcRx 0 256 0,
    .pfcRx 0 0 256, .pauseExpire 16 0, .pauseExpire 0 8, .linkDown 16, .linkUp 16, .learnCommit 4, .churnVisit 4 false, .tableRead 8 0,
    .tableRead 0 18446744073709551616, .tableWrite 8 0 false false, .tableWrite 0 18446744073709551616 false false, .tableDelete 8 0,
    .tableDelete 0 18446744073709551616] : List Instr).all (fun c => !c.wf) = true := by decide +kernel

theorem test_wf_refuses_6 : ([
    .flushOwner 8 0, .flushOwner 0 18446744073709551616, .flushDone 4, .cellFree 33554432 0, .cellFree 0 16777216,
    .hostCellFree 33554432, .pauseRefresh 16, .uplinkTxSelect 16, .tmgTableRead 8 0, .tmgTableRead 0 1048576, .tmgTableWrite 8 0,
    .tmgTableWrite 0 1048576, .hreqCtr false 256 0 0, .hreqCtr false 0 65536 0, .hreqCtr false 0 0 131072, .hreqCbc false 256 0 0,
    .hreqCbc false 0 65536 0, .hreqCbc false 0 0 131072, .hreqCfb false 256 0 0, .hreqCfb false 0 65536 0, .hreqCfb false 0 0 131072,
    .hreqCmac false 256 0 0, .hreqCmac false 0 65536 0, .hreqCmac false 0 0 131072, .importSession 65536 0, .importSession 0 256,
    .importData 65536 0, .importData 0 256, .importGroup 65536 0, .importGroup 0 256] : List Instr).all (fun c => !c.wf) = true := by decide +kernel

theorem test_wf_refuses_7 : ([
    .importAuth 65536 0 false, .importAuth 0 256 false, .prevKeyZeroize 65536, .slotErase 65536 false, .slotZeroized 65536,
    .keyControlSend 16384 0, .keyControlSend 0 2, .dsIndexSwitch 16384 0, .dsIndexSwitch 0 2, .bindWrite 2048 0,
    .bindWrite 0 4294967296, .dramRequest 14 0 none, .dramRequest 0 34359738368 none, .dramRequestServed 32 [] false 0 [],
    .dramRequestServed 0 [] false 65536 [], .agePromote 32 0, .panic 2 0, .refreshDue 32 [], .refreshRepay 32 [], .selfRefreshEntry 32,
    .selfRefreshExit 32, .patrolScrub 3, .ptpSyncRx 16 0 none 0 0, .ptpSyncRx 0 0 none 8192000000 0, .ptpFollowUpRx 16 ⟨0, 0⟩ 0,
    .ptpDelayRespRx 16 ⟨0, 0⟩ 0, .ptpDelayReqRx 16 ⟨0, 0⟩, .ptpSyncTx 16, .ptpDelayReqTx 16 0, .ptpDelayReqTx 0 8192000000] : List Instr).all (fun c => !c.wf) = true := by decide +kernel

theorem test_wf_refuses_8 : ([
    .ppsInEdge 8192000000 0, .serTodRx [256], .todRequest 32 0 0, .todRequest 0 512 0, .todRequest 0 0 8192, .heartbeatTx 2 false,
    .heartbeatRx 2 [] false 0, .heartbeatRx 0 [256] false 0, .pathLost 2, .hostTxPost 64 0 0, .hostTxPost 0 16 0, .hostTxPost 0 0 4096,
    .bar2BaseWrite 64, .apiMinorSelect 256, .i2cTransaction false 4294967296 0, .i2cTransaction false 0 4294967296,
    .spiRead 256 0 0 0 false, .spiRead 0 4 0 0 false, .spiRead 0 0 16 0 false, .spiRead 0 0 0 512 false, .spiWrite 256 0 0 0 false,
    .spiWrite 0 4 0 0 false, .spiWrite 0 0 16 0 false, .spiWrite 0 0 0 512 false, .eventOccurrence 2048, .recordDue 2048,
    .evtRingWrite 18446744073709551616, .evtCiWrite 4294967296, .freezeEnd 4294967296, .counterWrite 512 0 0] : List Instr).all (fun c => !c.wf) = true := by decide +kernel

theorem test_wf_refuses_9 : ([
    .counterWrite 0 18446744073709551616 0, .chainedCounterRead 512, .histClear 32, .viewBind 16 0 0, .viewBind 0 512 0,
    .viewBind 0 0 18446744073709551616, .viewWrite 16, .injUnlockKey 64 0, .injUnlockKey 0 65536, .injExpired 51, .injCfgWrite 51 0,
    .injCfgWrite 0 18446744073709551616, .rogueLight 0 ⟨125000, 0⟩, .ptpDelayReqRx 0 ⟨0, 8192000000⟩] : List Instr).all (fun c => !c.wf) = true := by decide +kernel

theorem test_wf_accepts : ([.portEnable 31, .taskPost 255 127 65535 4294967295, .hreqCmac true 255 65535 131071, .importAuth 65535 255 true,
    .rogueLight 31 ⟨124999, 0⟩, .commit 63 65535, .injCfgWrite 50 0] : List Instr).all Instr.wf = true := by decide +kernel

/-! Worked examples. -/

/-- The reference cabinet's TP8 (F50) and TP24 (X10), as the worked examples of the spec set them. -/
def cabinet : State :=
  [(F.TPA_STAT_RATE_CLASS 8, 1), (F.TPA_TX_DLY_D_TX_PS 8, 384000), (F.TPA_TX_DLY_D_TX_PS 24, 512000), (F.RNG_TEQ_T_EQ_NS 8, 234384),
    (F.RNG_TEQ_T_EQ_NS 24, 234512), (F.RNG_REACH_CFG_MAX_REACH 8, 200), (F.RNG_REACH_CFG_MAX_REACH 24, 200),
    (F.GNT_PROF_CFG_RATE 24 0, 3), (F.GNT_PROF_CFG_FEC 24 0, 1), (F.GNT_PROF_CFG_DEL64 24 0, 1), (F.GNT_PROF_CFG_PRE_WORDS 24 0, 8),
    (F.TSU_TREE_CFG_TREE_OFS_PS 8, 1250), (F.TSU_TREE_CFG_ASYM_PPM 8, 150), (F.TSU_TREE_CFG_RESP_NS 8, 3500)].foldl
      (fun a e => a.wr e.1 e.2) lite
/-- Entry of the map of "Worked example: one map for TP24" (08_grant_engine.md). -/
def mapEntry (alloc term start len : Nat) (first wide : Bool) : Entry := ⟨alloc, term, 0, first, false, false, 0, wide, start, len, len⟩
/-- 08_grant_engine.md, example: the guards are 16 MU between terminals in service and 32 MU beside a guarded one. -/
theorem test_example_guards :
    guardMu cabinet 24 ⟨0, 0, 3, cabinet.widthRu 24 3 false, false⟩ ⟨0, 0, 3, cabinet.widthRu 24 3 false, false⟩ = 16 ∧
    guardMu cabinet 24 ⟨0, 0, 3, cabinet.widthRu 24 3 false, false⟩ ⟨0, 0, 3, cabinet.widthRu 24 3 true, false⟩ = 32 := by decide +kernel
/-- 08_grant_engine.md, example: terminal 20's window of map M opens at tick M+1 + 111.0240 µs and closes at + 111.4240 µs; terminal 12's
closes at + 110.9840 µs. -/
theorem test_example_windows :
    (cabinet.windows 24 0 [mapEntry 41 12 156 200 true false, mapEntry 42 12 356 100 false false, mapEntry 60 20 498 80 true true]).map
      (fun w => (w.term, w.opens, w.closes)) = [(12, 234976, 235984), (20, 236024, 236424)] := by decide +kernel
/-- 07_activation_ranging.md, examples: T_EQ of TP8 and TP24, and terminal 90's EqD of 47,855,368 RU at an RTD of 113.800 µs. -/
theorem test_example_teq : cabinet.teqWanted 8 = 234384000 ∧ cabinet.teqWanted 24 = 234512000 := by decide +kernel
theorem test_example_eqd : near8 (cabinet.teqSpan 8 - 113800000 * 49766400) 125000000 = 47855368 := by decide +kernel
/-- 05_tree_ports.md and 06_framer.md, examples: the stamps of terminal 90's bursts. -/
theorem test_example_stamp :
    cabinet.stampOf 8 ⟨0x2A40, 90, 0, 2, true, false, 0, 15925248, 0, 0, 0, false, 0, 0, false, false, [], TermPm.zero⟩ 15925248 90 = 0x005A2A4018798000 ∧
    cabinet.stampOf 8 ⟨0x2B00, 90, 0, 2, true, false, 0, 15925248, 0, 0, 0, false, 0, 0, false, false, [], TermPm.zero⟩ (15925248 + 120 * 16) 90 % 2 ^ 26 = 0x7983C0 := by
  decide +kernel
/-- 14_time_sync.md, example: the time of day of terminal 17 on TP8, with the boundary of frame N read at AHEAD = 1,000. -/
theorem test_example_time_of_day :
    ((((cabinet.wr (F.RNG_TERM_EQD_RTD_RU 8 17) 23688806).wr F.TSU_TOD_OFS_OFS_PS (2 ^ 64 - 12500)).modTsu
      fun t => { t with sec := 4, ns := 875250000 }).todTerm
      8 17 1000).toNat % (65536 * 1000000000) = 250376 * 65536 + 0x6CCD := by decide +kernel
/-- 17_observation_injection.md, example: an interval of 95,384 ns falls in bin 50 of a unit with UNIT_LOG2 4, and word 0 of the record reads
0x0620_1048_0100_0041. -/
theorem test_example_histogram : histBin 4 95384 = 50 := by decide +kernel
theorem test_example_skim_record :
    ofLe ((SkimRec.bytes ⟨0x41, 1, flowIndex 8 0x412 0, 6, 1518, 3, [0x2000EA60]⟩).take 8) = 0x0620104801000041 := by decide +kernel
/-- 18_address_map_events.md, example: ROGUE_LIGHT on TP8 is event 200. -/
theorem test_example_event_id : (E.TPA_ROGUE_LIGHT 8).id = 200 := by decide +kernel
/-- 08_grant_engine.md, example: GNT_MAP_STAT[24] reads 0x0000_02A8_0000_4005. -/
theorem test_example_map_stat :
    (hostRead true 0x1F00050 ([(F.GNT_MAP_STAT_ENTRIES 24, 5), (F.GNT_MAP_STAT_BURSTS 24, 4), (F.GNT_MAP_STAT_END_MU 24, 680),
      (F.CFG_TILE_STAT_STATE 24, 3)].foldl (fun a e => a.wr e.1 e.2) lite)).hostIf.lastRead = 0x000002A800004005 := by decide +kernel
/-- 04_boot_and_restart.md, example: CFG_BOOT_STEP[7] reads 0x0102_0162. -/
theorem test_example_boot_step :
    (hostRead false (F.CFG_BOOT_STEP_OUTCOME 7).addr ([(F.CFG_BOOT_STEP_OUTCOME 7, 2), (F.CFG_BOOT_STEP_ACTION 7, 2), (F.CFG_BOOT_STEP_DIRECT 7, 1),
      (F.CFG_BOOT_STEP_ATTEMPTS 7, 1), (F.CFG_BOOT_STEP_STREAK 7, 2), (F.CFG_BOOT_STEP_DIRECT_CNT 7, 1)].foldl
        (fun a e => a.wr e.1 e.2) lite)).hostIf.lastRead = 0x01020162 := by decide +kernel
/-- FIPS 197, appendix C.1, and RFC 4493, example 1. -/
theorem test_aes_fips197 : aesEnc (List.range 16) ((List.range 16).map fun i => 17 * i) =
    [0x69, 0xC4, 0xE0, 0xD8, 0x6A, 0x7B, 0x04, 0x30, 0xD8, 0xCD, 0xB7, 0x80, 0x70, 0xB4, 0xC5, 0x5A] := by decide +kernel
theorem test_cmac_rfc4493 :
    cmac [0x2B, 0x7E, 0x15, 0x16, 0x28, 0xAE, 0xD2, 0xA6, 0xAB, 0xF7, 0x15, 0x88, 0x09, 0xCF, 0x4F, 0x3C] [] =
      [0xBB, 0x1D, 0x69, 0x29, 0xE9, 0x59, 0x37, 0x28, 0x7F, 0xA3, 0x7D, 0x12, 0x9B, 0x75, 0x67, 0x46] := by decide +kernel
/-- The check values of the four CRCs over the digits 1 to 9. -/
theorem test_crc_check_values : crc32 ((List.range 9).map (· + 0x31)) = 0xCBF43926 ∧ crc32c 0xFFFFFFFF ((List.range 9).map (· + 0x31)) = 0xE3069283 ∧
    crc16 ((List.range 9).map (· + 0x31)) = 0x29B1 ∧ crc8 ((List.range 9).map (· + 0x31)) = 0xF4 := by decide +kernel

/-! Reset. -/

/-- The state after reset is the first start of the machine as R39 and R101 describe it, at step 1 of the sequencer. -/
theorem test_reset_start : State.reset.mode = mStarting ∧ State.reset.rd F.CFG_BOOT_STAT_STEP = 1 ∧ State.reset.pending = [] := by decide +kernel

/-! States and operands that meet the statements' hypotheses. -/

theorem test_wit_EmptyQueueIdles :
    (∃ (s : State), s.pending = []) :=
    ⟨State.reset, by decide +kernel⟩

theorem test_wit_SupplyAndReset :
    (∃ (s : State), s.pwr.phase = .unpowered) ∧
    (∃ (s : State) (vin : Nat), (s.pwr.phase = .vauxUp ∨ s.pwr.phase = PowerPhase.resetHeld) ∧ 4500 ≤ vin ∧ (s.pwr.nextCause = 1 ∨
      s.pwr.nextCause = 6)) ∧
    (∃ (s : State), s.pwr.phase = .running ∧ s.mode ≠ mHolding) ∧
    (∃ (s : State), s.pwr.phase = .running ∧ s.mode = mHolding) :=
  ⟨
    ⟨State.initial, by decide +kernel⟩,
    ⟨({ State.initial with pwr := { Pwr.initial with phase := .vauxUp } }), 12000, by decide +kernel⟩,
    ⟨lite, by decide +kernel⟩,
    ⟨(lite.wr F.PWR_MODE_CUR mHolding), by decide +kernel⟩⟩

theorem test_wit_BrownOutSave :
    (∃ (s : State), s.awake = true ∧ isService s.mode = true ∧ s.on F.PWR_SAVE_ARM_ARMED = true ∧ s.pwr.warnReady = true) ∧
    (∃ (s : State) (mv : Nat), s.awake = true ∧ s.holdingSave = true ∧ s.pwr.quiesced = false ∧ mv < 65536) ∧
    (∃ (s : State) (r : SaveRun), s.awake = true ∧ s.holdingSave = true ∧ s.pwr.quiesced = true ∧ s.pwr.save = some r ∧ r.captured =
      false) ∧
    (∃ (s : State) (r : SaveRun), s.awake = true ∧ s.pwr.save = some r ∧ r.writes = true ∧ r.captured = true ∧ r.block < 785) ∧
    (∃ (s : State) (r : SaveRun), s.awake = true ∧ s.pwr.save = some r ∧ r.writes = true ∧ r.captured = true ∧ r.block < 785 ∧ r.mism <
      2) ∧
    (∃ (s : State) (r : SaveRun), s.awake = true ∧ s.pwr.save = some r ∧ r.writes = true ∧ r.captured = true ∧ r.block < 785 ∧ r.mism = 2
      ∧ r.brownout = true ∧ s.pwr.resetWaits = false ∧ s.mode = mHolding) ∧
    (∃ (s : State) (r : SaveRun), s.awake = true ∧ s.pwr.save = some r ∧ r.writes = true ∧ r.block = 785 ∧ r.header = false) ∧
    (∃ (s : State) (r : SaveRun), s.awake = true ∧ s.pwr.save = some r ∧ r.brownout = true ∧ r.captured = true ∧ r.header = true ∧
      s.pwr.resetWaits = false ∧ s.mode = mHolding) ∧
    (∃ (s : State) (r : SaveRun), s.awake = true ∧ s.holdingSave = true ∧ s.pwr.save = some r ∧ s.pwr.resetWaits = false) :=
  ⟨
    ⟨(lite.wr F.PWR_SAVE_ARM_ARMED 1), by decide +kernel⟩,
    ⟨dark, 9000, by decide +kernel⟩,
    ⟨(dark.modPwr fun p => { p with quiesced := true }), run0, by decide +kernel⟩,
    ⟨(darkR { run0 with captured := true }), ({ run0 with captured := true }), by decide +kernel⟩,
    ⟨(darkR { run0 with captured := true }), ({ run0 with captured := true }), by decide +kernel⟩,
    ⟨(darkR { run0 with captured := true, mism := 2 }), ({ run0 with captured := true, mism := 2 }), by decide +kernel⟩,
    ⟨(darkR { run0 with captured := true, block := 785 }), ({ run0 with captured := true, block := 785 }), by decide +kernel⟩,
    ⟨(darkR { run0 with captured := true, header := true }), ({ run0 with captured := true, header := true }), by decide +kernel⟩,
    ⟨dark, run0, by decide +kernel⟩⟩

theorem test_wit_SupplyEvents :
    (∃ (s : State), s.awake = true ∧ s.pwr.sagReady = true) ∧
    (∃ (s : State), s.awake = true) ∧
    (∃ (s : State), s.awake = true ∧ s.pwr.recoverOwed = true) ∧
    (∃ (s : State), s.awake = true ∧ s.mode = mAsleep ∧ s.pwr.fromHolding = true ∧ s.on F.PWR_SAVE_ARM_AUTO_RESUME = true) ∧
    (∃ (s : State), s.awake = true ∧ isService s.mode = true ∧ s.on F.PWR_SAVE_ARM_ARMED = false) ∧
    (∃ (s : State), s.awake = true ∧ isService s.mode = true ∧ s.on F.PWR_SAVE_ARM_ARMED = true) ∧
    (∃ (s : State), s.awake = true ∧ s.on F.PWR_IIN_ILIM = false) ∧
    (∃ (s : State), s.works = true ∧ 8 ≤ s.pwr.belowTicks ∧ s.on F.PWR_MODE_STAT_BELOW_FLOOR = false) ∧
    (∃ (s : State), s.works = true ∧ s.on F.PWR_HOLD_CHG_ON = false) ∧
    (∃ (s : State), s.works = true ∧ s.on F.PWR_HOLD_CHG_ON = true ∧ s.on F.PWR_HOLD_HOLD_OK = false ∧ s.pwr.chgFaulted = false ∧ 8 *
      s.rd F.PWR_HOLD_CFG_CHG_TIMEOUT_MS ≤ s.pwr.chgTicks) :=
  ⟨
    ⟨lite, by decide +kernel⟩,
    ⟨lite, by decide +kernel⟩,
    ⟨(lite.modPwr fun p => { p with recoverOwed := true }), by decide +kernel⟩,
    ⟨(((lite.wr F.PWR_MODE_CUR 0).wr F.PWR_SAVE_ARM_AUTO_RESUME 1).modPwr fun p => { p with fromHolding := true }), by decide +kernel⟩,
    ⟨(lite.wr F.PWR_SAVE_ARM_ARMED 0), by decide +kernel⟩,
    ⟨(lite.wr F.PWR_SAVE_ARM_ARMED 1), by decide +kernel⟩,
    ⟨lite, by decide +kernel⟩,
    ⟨(lite.modPwr fun p => { p with belowTicks := 8 }), by decide +kernel⟩,
    ⟨lite, by decide +kernel⟩,
    ⟨(((lite.wr F.PWR_HOLD_CHG_ON 1).wr F.PWR_HOLD_CFG_CHG_TIMEOUT_MS 1).modPwr fun p => { p with chgTicks := 8 }), by decide +kernel⟩⟩

theorem test_wit_ModeRequests :
    (∃ (s : State) (m : Nat), s.hostReady = true ∧ isService s.mode = true ∧ isService m = true ∧ m ≠ s.mode ∧ s.floorMet m = true ∧ (m =
      mLean → s.leanFits = true)) ∧
    (∃ (s : State) (m : Nat), s.hostReady = true ∧ isService s.mode = true ∧ m = s.mode) ∧
    (∃ (s : State), s.awake = true ∧ s.hostIf.i2cMem = .none ∧ s.mode = mAsleep) ∧
    (∃ (s : State), s.awake = true ∧ s.hostIf.i2cMem = .none ∧ s.mode = mHolding) ∧
    (∃ (s : State), s.hostReady = true ∧ s.mode ≠ mAsleep ∧ s.mode ≠ mHolding ∧ s.pwr.save = none ∧ s.on F.CFG_BOOT_STAT_HALTED = false ∧
      s.floorMet mStarting = true) ∧
    (∃ (s : State), s.hostReady = true ∧ s.mode ≠ mAsleep ∧ s.mode ≠ mHolding ∧ s.on F.CFG_BOOT_STAT_HALTED = false ∧ s.floorMet
      mStarting = false) ∧
    (∃ (s : State) (r : SaveRun), s.hostReady = true ∧ s.mode ≠ mAsleep ∧ s.mode ≠ mHolding ∧ s.pwr.save = some r ∧ s.on
      F.CFG_BOOT_STAT_HALTED = false ∧ s.floorMet mStarting = true) ∧
    (∃ (s : State) (k : Nat), s.hostReady = true ∧ k < 65536 ∧ k ≠ 0) ∧
    (∃ (s : State), s.hostReady = true ∧ s.pwr.provKeys ≠ 2) ∧
    (∃ (s : State), s.hostReady = true ∧ s.pwr.provKeys = 2 ∧ isService s.mode = true ∧ s.unprotected = true ∧ s.floorMet mProving =
      true) ∧
    (∃ (s : State), s.awake = true) :=
  ⟨
    ⟨(lite.wr F.PWR_VIN_VIN_MV 12000), mPeak, by decide +kernel⟩,
    ⟨lite, 3, by decide +kernel⟩,
    ⟨(lite.wr F.PWR_MODE_CUR 0), by decide +kernel⟩,
    ⟨dark, by decide +kernel⟩,
    ⟨(lite.wr F.PWR_VIN_VIN_MV 4500), by decide +kernel⟩,
    ⟨(lite.wr F.PWR_VIN_VIN_MV 4499), by decide +kernel⟩,
    ⟨((lite.wr F.PWR_VIN_VIN_MV 12000).modPwr fun p => { p with save := some { run0 with brownout := false } }),
      ({ run0 with brownout := false }), by decide +kernel⟩,
    ⟨lite, 0x7A0B, by decide +kernel⟩,
    ⟨lite, by decide +kernel⟩,
    ⟨((lite.wr F.PWR_VIN_VIN_MV 12000).modPwr fun p => { p with provKeys := 2 }), by decide +kernel⟩,
    ⟨lite, by decide +kernel⟩⟩

theorem test_wit_InServiceSave :
    (∃ (s : State), s.hostReady = true ∧ s.works = true ∧ s.pwr.save = none) ∧
    (∃ (s : State) (r : SaveRun), s.hostReady = true ∧ s.pwr.save = some r) ∧
    (∃ (s : State), s.hostReady = true ∧ s.mode ≠ mAsleep ∧ s.mode ≠ mHolding ∧ s.pwr.save = none) ∧
    (∃ (s : State) (r : SaveRun), s.hostReady = true ∧ s.mode ≠ mAsleep ∧ s.mode ≠ mHolding ∧ s.pwr.save = some r) ∧
    (∃ (s : State), s.hostReady = true ∧ s.mode = mHolding) ∧
    (∃ (s : State) (r : SaveRun), s.awake = true ∧ s.pwr.save = some r ∧ r.brownout = false ∧ r.staging = true ∧ r.captured = false ∧
      (r.writes && s.works) = false) ∧
    (∃ (s : State), s.hostReady = true) ∧
    (∃ (s : State), s.hostReady = true) ∧
    (∃ (s : State), s.hostReady = true ∧ s.pwr.disarmKey = true ∧ s.nowNs ≤ s.pwr.disarmAt + 1000000 ∧ s.on F.PWR_SAVE_ARM_ARMED = true) ∧
    (∃ (s : State) (warn : Nat) (sag : Nat), s.hostReady = true ∧ s.mode ≠ mHolding ∧ 4400 ≤ warn ∧ warn ≤ 16000 ∧ 4200 ≤ sag ∧ sag ≤
      15000 ∧ sag + 200 ≤ warn) ∧
    (∃ (s : State) (warn : Nat) (sag : Nat), s.hostReady = true ∧ warn < 65536 ∧ sag < 65536 ∧ (warn < 4400 ∨ 16000 < warn ∨ sag < 4200 ∨
      15000 < sag ∨ warn < sag + 200)) ∧
    (∃ (s : State), s.hostReady = true ∧ s.mode ≠ mHolding) ∧
    (∃ (s : State) (r : SaveRun), s.awake = true ∧ s.works = true ∧ s.pwr.save = some r ∧ r.brownout = false ∧ r.staging = true ∧
      r.captured = false ∧ r.writes = true ∧ (∀ p < 32, (s.pc p).queue = [])) ∧
    (∃ (s : State) (k : Nat) (late : Bool), s.hostReady = true ∧ k < 65536 ∧ k ≠ 0x9E3A ∧ (k ≠ 0x61C5 ∨ s.pwr.disarmKey = false ∨
      s.pwr.disarmAt + 1000000 < s.nowNs ∨ late = true)) :=
  ⟨
    ⟨lite, by decide +kernel⟩,
    ⟨({ dark with hostIf := lite.hostIf }), run0, by decide +kernel⟩,
    ⟨lite, by decide +kernel⟩,
    ⟨(lite.modPwr fun p => { p with save := some { run0 with brownout := false } }), ({ run0 with brownout := false }), by decide +kernel⟩,
    ⟨({ dark with hostIf := lite.hostIf }), by decide +kernel⟩,
    ⟨(lite.modPwr fun p => { p with save := some { run0 with brownout := false, staging := true, noStore := true } }),
      ({ run0 with brownout := false, staging := true, noStore := true }), by decide +kernel⟩,
    ⟨lite, by decide +kernel⟩,
    ⟨lite, by decide +kernel⟩,
    ⟨((lite.wr F.PWR_SAVE_ARM_ARMED 1).modPwr fun p => { p with disarmKey := true, disarmAt := lite.nowNs }), by decide +kernel,
      by decide +kernel, Nat.le_add_right _ _, by decide +kernel⟩,
    ⟨lite, 4400, 4200, by decide +kernel⟩,
    ⟨lite, 4399, 4200, by decide +kernel⟩,
    ⟨lite, by decide +kernel⟩,
    ⟨(lite.modPwr fun p => { p with save := some { run0 with brownout := false, staging := true } }),
      ({ run0 with brownout := false, staging := true }), by decide +kernel⟩,
    ⟨(lite.wr F.PWR_SAVE_ARM_ARMED 1), 0x61C5, true, by decide +kernel⟩⟩

theorem test_wit_BootSteps :
    (∃ (s : State) (a : Nat) (mask : Nat), s.works = true ∧ s.cfg.run = some ⟨1, false, a, false⟩ ∧ s.vinUsable = true ∧ 50 ≤ mask ∧ mask
      ≤ 8000) ∧
    (∃ (s : State) (ok : Bool) (a : Nat) (mask : Nat), s.works = true ∧ s.cfg.run = some ⟨1, false, a, false⟩ ∧ a < 3 ∧ (ok = false ∨
      s.vinUsable = false ∨ mask < 50 ∨ 8000 < mask)) ∧
    (∃ (s : State) (ok : Bool) (mask : Nat), s.works = true ∧ s.cfg.run = some ⟨1, false, 3, false⟩ ∧ (ok = false ∨ s.vinUsable = false ∨
      mask < 50 ∨ 8000 < mask)) ∧
    (∃ (s : State) (a : Nat), s.works = true ∧ s.cfg.run = some ⟨1, false, a, false⟩ ∧ a < 3) ∧
    (∃ (s : State), s.hostReady = true ∧ s.on F.CFG_BOOT_STAT_HALTED = true) ∧
    (∃ (s : State), s.hostReady = true ∧ s.on F.CFG_BOOT_STAT_HALTED = false) ∧
    (∃ (s : State) (k : Nat), s.hostReady = true ∧ 1 ≤ k ∧ k ≤ 14) ∧
    (∃ (s : State) (k : Nat), s.hostReady = true ∧ 1 ≤ k ∧ k ≤ 14) ∧
    (∃ (s : State) (m : Nat), s.works = true ∧ s.mode = mStarting ∧ s.pwr.waiting = some m ∧ isService m = true ∧ waitMet s m = true) :=
  ⟨
    ⟨((booting 1 1).wr F.PWR_VIN_VIN_MV 4500), 1, 50, by decide +kernel⟩,
    ⟨((booting 1 2).wr F.PWR_VIN_VIN_MV 18000), true, 2, 8001, by decide +kernel⟩,
    ⟨((booting 1 3).wr F.PWR_VIN_VIN_MV 4499), true, 50, by decide +kernel⟩,
    ⟨(booting 1 2), 2, by decide +kernel⟩,
    ⟨(lite.wr F.CFG_BOOT_STAT_HALTED 1), by decide +kernel⟩,
    ⟨lite, by decide +kernel⟩,
    ⟨lite, 14, by decide +kernel⟩,
    ⟨lite, 1, by decide +kernel⟩,
    ⟨(((((booting 14 1).modPwr fun p => { p with waiting := some 3 }).wr F.PWR_HOLD_HOLD_OK 1).wr F.PWR_VIN_VIN_MV 12000)), 3,
      by decide +kernel⟩⟩

theorem test_wit_TickAndSecond :
    (∃ (s : State), s.ticking = true ∧ s.pwr.leaving ≠ SaveThen.restart) ∧
    (∃ (s : State), s.ticking = true ∧ s.mode = mHolding ∧ s.pwr.leaving = SaveThen.resume) ∧
    (∃ (s : State), s.ticking = true ∧ s.tsu.ns ≠ 0) ∧
    (∃ (s : State), s.ticking = true ∧ s.tsu.ns = 0 ∧ s.tsu.stepped = false ∧ s.ticks ≠ 0 ∧ s.secondAt ≠ s.ticks) :=
  ⟨
    ⟨lite, by decide +kernel⟩,
    ⟨dark, by decide +kernel⟩,
    ⟨({ lite with tsu := { lite.tsu with ns := 125000 } }), by decide +kernel⟩,
    ⟨({ lite with ticks := 8000 }), by decide +kernel⟩⟩

theorem test_wit_HostAccess :
    (∃ (s : State) (v : Nat), s.hostReady = true ∧ v < 2 ^ 32) ∧
    (∃ (s : State) (g : Nat) (v : Nat), s.hostReady = true ∧ g < 48 ∧ v < 2 ^ 32 ∧ s.locked 48 = false) ∧
    (∃ (s : State) (g : Nat) (v : Nat), s.hostReady = true ∧ g < 48 ∧ v < 2 ^ 32 ∧ s.locked 48 = true) ∧
    (∃ (s : State) (r : Nat) (v : Nat), s.hostReady = true ∧ r < 256 ∧ v < 2 ^ 32) ∧
    (∃ (s : State) (r : Nat) (hi : Nat) (v : Nat), s.reach .pcie = true ∧ s.hostIf.pcieMem = .heldUpper (0x4000 + 8 * r) hi ∧ r < 256 ∧
      hi < 2 ^ 32 ∧ v < 2 ^ 32 ∧ s.locked 49 = false ∧ 1 ≤ s.minor) ∧
    (∃ (s : State), s.hostReady = true ∧ s.rdShadow F.HIF_ERR_STAT_TILE_ACC < 1024 ∧ s.rdShadow F.HIF_ERR_STAT_BAR2_DISCARD < 1024 ∧
      s.rdShadow F.HIF_ERR_STAT_I2C_REFUSED < 1024) ∧
    (∃ (s : State) (a : Nat) (n : Nat), s.reach .pcie = true ∧ goodAccess a n = false) ∧
    (∃ (a : Nat) (n : Nat), goodAccess a n = true) ∧
    (∃ (s : State), s.awake = true ∧ s.hostIf.i2cMem = .none ∧ s.mode ≠ mAsleep) ∧
    (∃ (s : State), s.awake = true ∧ s.hostIf.i2cMem = .none ∧ s.mode = mAsleep) ∧
    (∃ (s : State) (a : Nat), s.awake = true ∧ i2cReads a = false ∧ i2cWrites a = false) ∧
    (∃ (s : State) (v : Nat), s.awake = true ∧ s.hostIf.i2cMem = .none ∧ v < 2 ^ 32) :=
  ⟨
    ⟨lite, 0x12345678, by decide +kernel⟩,
    ⟨lite, 47, 0xFFFFFFFF, by decide +kernel⟩,
    ⟨(lite.modCfg fun c => { c with commits := [⟨48, 1⟩] }), 0, 1, by decide +kernel⟩,
    ⟨lite, 255, 7, by decide +kernel⟩,
    ⟨({ lite with hostIf := { lite.hostIf with pcieMem := .heldUpper 0x4000 0x10002 } }.wr F.HIF_API_VER_SEL_MINOR 4), 0, 0x10002,
      0x1805, by decide +kernel⟩,
    ⟨(lite.wr F.HIF_ERR_STAT_BAR2_DISCARD 5), by decide +kernel⟩,
    ⟨lite, 2, 4, by decide +kernel⟩,
    ⟨0x3FFFFF8, 8, by decide +kernel⟩,
    ⟨lite, by decide +kernel⟩,
    ⟨(lite.wr F.PWR_MODE_CUR mAsleep), by decide +kernel⟩,
    ⟨lite, 0x100008, by decide +kernel⟩,
    ⟨lite, 0x12345678, by decide +kernel⟩⟩

theorem test_wit_ImageSlots :
    (∃ (s : State) (k : Nat), s.hostReady = true ∧ k < 2 ∧ s.slotRead k = false) ∧
    (∃ (s : State) (k : Nat), s.hostReady = true ∧ k < 2 ∧ s.slotRead k = true) ∧
    (∃ (s : State) (k : Nat), s.hostReady = true ∧ k < 2 ∧ s.slotRead k = false ∧ (s.cfg.running = none ∨ s.cfg.runSlot ≠ k)) ∧
    (∃ (s : State) (u : State) (k : Nat), s.works = true ∧ k < 2 ∧ (s.slot k).verifying = true ∧ u = imageRead (s.slotBase k)
      (verifyReads (s.slotImg k)) s) ∧
    (∃ (s : State) (off : Nat) (a : Nat) (bytes : List Nat), s.reach .pcie = true ∧ a = min 56 (s.hostIf.baseWait.getD (s.rd
      F.HIF_BAR2_CFG_BASE)) * 0x20000000 + off % 2 ^ 32 ∧ a + bytes.length ≤ 2 ^ 35 ∧ (∀ i < bytes.length, s.bar2May (a + i) = true) ∧ (∀
      i < bytes.length, s.releasedSeg (segOf (a + i)) = false ∧ s.unzeroedSeg (segOf (a + i)) = false)) ∧
    (∃ (s : State) (off : Nat) (a : Nat) (bytes : List Nat), s.reach .pcie = true ∧ a = min 56 (s.hostIf.baseWait.getD (s.rd
      F.HIF_BAR2_CFG_BASE)) * 0x20000000 + off % 2 ^ 32 ∧ a + bytes.length ≤ 2 ^ 35 ∧ bytes ≠ [] ∧ (∀ i < bytes.length, s.bar2May (a + i)
      = false)) :=
  ⟨
    ⟨imaged, 0, by decide +kernel⟩,
    ⟨(reloading 2 reload0), 0, by decide +kernel⟩,
    ⟨imaged, 0, by decide +kernel⟩,
    ⟨(imaged.modSlot 0 fun x => { x with verifying := true }), _, 0, by decide +kernel, by decide +kernel, by decide +kernel, rfl⟩,
    ⟨(imaged.wr F.HIF_BAR2_CFG_BASE 20), 16, 0x280000010, ([1, 2]), by decide +kernel⟩,
    ⟨(imaged.wr F.HIF_BAR2_CFG_BASE 0), 16, 16, ([1, 2]), by decide +kernel⟩⟩

theorem test_wit_TileReloads :
    (∃ (s : State) (n : Nat) (slot : Nat) (p : Nat) (gen : Nat), s.hostReady = true ∧ n < 48 ∧ slot < 2 ∧ p < 64 ∧ gen < 65536 ∧
      reloadCode s [n] slot gen = 0 ∧ s.locked n = false) ∧
    (∃ (s : State) (n : Nat) (slot : Nat) (p : Nat) (gen : Nat), s.hostReady = true ∧ n < 64 ∧ slot < 2 ∧ p < 64 ∧ gen < 65536 ∧
      reloadCode s [n] slot gen ≠ 0) ∧
    (∃ (s : State) (n : Nat) (r : Reload), s.works = true ∧ n < 48 ∧ SMap.find? s.cfg.loads n = some r ∧ s.rd (F.CFG_TILE_STAT_STATE n) =
      1 ∧ r.drainLeft = 0 ∧ s.quietOver n = true) ∧
    (∃ (s : State) (u : State) (n : Nat) (r : Reload) (x : Sect), s.works = true ∧ n < 32 ∧ SMap.find? s.cfg.loads n = some r ∧ s.rd
      (F.CFG_TILE_STAT_STATE n) = 2 ∧ r.read = false ∧ tileSect n (s.slotImg r.slot).sects = some x ∧ (s.slotImg r.slot).crc x.off x.len
      = x.crc ∧ u = imageRead (s.slotBase r.slot + x.off) x.len s) ∧
    (∃ (s : State) (n : Nat) (v : Nat) (r : Reload), s.works = true ∧ n < 48 ∧ SMap.find? s.cfg.loads n = some r ∧ r.read = true ∧
      r.negotiated = none ∧ agree r.range (s0Range (tileType n)) = some v) ∧
    (∃ (s : State) (n : Nat) (r : Reload), s.works = true ∧ n < 48 ∧ SMap.find? s.cfg.loads n = some r ∧ r.full = false ∧ r.partner =
      none ∧ (s.rd (F.CFG_TILE_STAT_STATE n) = 1 ∨ s.rd (F.CFG_TILE_STAT_STATE n) = 2) ∧ 64 ≤ r.ticks) ∧
    (∃ (s : State) (n : Nat) (r : Reload), s.works = true ∧ n < 48 ∧ SMap.find? s.cfg.loads n = some r ∧ r.read = true ∧ r.negotiated =
      none ∧ r.partner = none ∧ agree r.range (s0Range (tileType n)) = none) ∧
    (∃ (s : State) (n : Nat) (v : Nat) (r : Reload), n < 32 ∧ v < 16 ∧ r.slot < 2 ∧ r.full = false ∧ r.defaults = [] ∧ SMap.rising
      s.cfg.loads = true) :=
  ⟨
    ⟨imaged, 0, 0, 0, 2, by decide +kernel⟩,
    ⟨imaged, 63, 0, 0, 1, by decide +kernel⟩,
    ⟨(reloading 1 reload0), 0, reload0, by decide +kernel⟩,
    ⟨(reloading 2 reload0), _, 0, reload0, (⟨0x10, 0, 0x1000, 0, 3, 5, 0, 0⟩), by decide +kernel, by decide +kernel, by decide +kernel,
      by decide +kernel, by decide +kernel, by decide +kernel, by decide +kernel, rfl⟩,
    ⟨(reloading 2 { reload0 with read := true, range := (3, 5) }), 0, 5, ({ reload0 with read := true, range := (3, 5) }),
      by decide +kernel⟩,
    ⟨(reloading 2 { reload0 with ticks := 64 }), 0, ({ reload0 with ticks := 64 }), by decide +kernel⟩,
    ⟨(reloading 2 { reload0 with read := true, range := (200, 255) }), 0, ({ reload0 with read := true, range := (200, 255) }),
      by decide +kernel⟩,
    ⟨(reloading 2 reload0), 0, 5, reload0, by decide +kernel⟩⟩

theorem test_wit_Commits :
    (∃ (s : State) (g : Nat) (gen : Nat), s.hostReady = true ∧ g < 52 ∧ gen < 65536 ∧ s.mode ≠ mHolding ∧ s.on (F.CFG_GEN_FROZEN g) =
      false ∧ s.locked g = false ∧ aheadOf 16 gen (s.rd (F.CFG_GEN_CUR g)) = true ∧ s.cfg.linked.length < 8) ∧
    (∃ (s : State) (g : Nat) (gen : Nat), s.hostReady = true ∧ g < 52 ∧ gen < 65536 ∧ s.mode ≠ mHolding ∧ s.on (F.CFG_GEN_FROZEN g) =
      false ∧ s.locked g = false ∧ aheadOf 16 gen (s.rd (F.CFG_GEN_CUR g)) = true ∧ s.cfg.linked.length < 8) ∧
    (∃ (s : State) (g : Nat) (gen : Nat), s.hostReady = true ∧ g < 64 ∧ gen < 65536 ∧ commitCode s g gen ≠ 0) ∧
    (∃ (s : State) (g : Nat) (gen : Nat), s.hostReady = true ∧ g < 64 ∧ gen < 65536 ∧ commitCode s g gen ≠ 0) :=
  ⟨
    ⟨lite, 51, 32767, by decide +kernel⟩,
    ⟨lite, 0, 2, by decide +kernel⟩,
    ⟨lite, 52, 1, by decide +kernel⟩,
    ⟨lite, 52, 1, by decide +kernel⟩⟩

theorem test_wit_PortBringUp :
    (∃ (s : State) (n : Nat), s.hostReady = true ∧ n < 32 ∧ s.on (F.TPA_CTRL_ENABLE n) = false ∧ s.mode ≠ mLean) ∧
    (∃ (s : State) (n : Nat), s.hostReady = true ∧ n < 32 ∧ s.on (F.TPA_CTRL_ENABLE n) = false ∧ s.mode = mLean ∧ (s.wr
      (F.TPA_CTRL_ENABLE n) 1).leanFits = false) ∧
    (∃ (s : State) (n : Nat), s.hostReady = true ∧ n < 32 ∧ s.on (F.TPA_CTRL_ENABLE n) = true) ∧
    (∃ (s : State) (t0 : Nat) (l : List Nat), s.works = true ∧ s.pwr.opticsAt = some t0 ∧ t0 + 8 * max 2 (s.rd
      F.PWR_STAGGER_CFG_OPT_GAP_MS) ≤ s.ticks ∧ l = (leadingMens (s.pwr.queue.filter s.stillWanted)).take (min s.optGroup (s.perTick -
      s.pwr.begun)) ∧ (∀ p ∈ l, p < 32)) ∧
    (∃ (s : State) (n : Nat), n < 32 ∧ s.benMay n = true ∧ s.on (F.TPA_STAT_BEN n) = false ∧ s.pwr.queue.contains (.ben n) = false) ∧
    (∃ (s : State) (n : Nat), s.works = true ∧ n < 32 ∧ s.rd (F.TPA_STAT_PHASE n) = 2 ∧ (s.port n).lead = 0) ∧
    (∃ (s : State) (n : Nat) (v : Nat), s.hostReady = true ∧ n < 32 ∧ v < 4) :=
  ⟨
    ⟨lite, 31, by decide +kernel⟩,
    ⟨((((List.range 16).foldl (fun a p => (a.wr (F.TPA_CTRL_ENABLE p) 1).wr (F.TPA_STAT_RATE_CLASS p) 1) lite).wr (F.TPA_STAT_RATE_CLASS
      20) 1).wr F.PWR_MODE_CUR mLean), 20, by decide +kernel⟩,
    ⟨sendg, 0, by decide +kernel⟩,
    ⟨({ lite.wr (F.TPA_CTRL_ENABLE 0) 1 with ticks := 100 }.modPwr fun p => { p with opticsAt := some 0, queue := [.men 3, .men 0] }), 0,
      [0], by decide +kernel⟩,
    ⟨((sendg.wr (F.TPA_STAT_BEN 0) 0).modPort 0 fun p => { p with menTicks := 200 }), 0, by decide +kernel⟩,
    ⟨(sendg.wr (F.TPA_STAT_PHASE 0) 2), 0, by decide +kernel⟩,
    ⟨(sendg.wr F.PWR_MODE_CUR 7), 0, 1, by decide +kernel⟩⟩

theorem test_wit_PortLightAndModule :
    (∃ (s : State) (n : Nat), s.receives n = true ∧ n < 32 ∧ s.losFrames n ≤ (s.port n).losRun ∧ s.on (F.TPA_STAT_LOS n) = false) ∧
    (∃ (s : State) (n : Nat), s.receives n = true ∧ n < 32 ∧ s.on (F.TPA_STAT_LOS n) = true) ∧
    (∃ (s : State) (n : Nat) (ofs : Nat) (tenths : Nat), s.receives n = true ∧ n < 32 ∧ ofs < 125000 ∧ s.rogueTenths n < tenths) ∧
    (∃ (s : State) (n : Nat) (tenths : Nat), n < 32 ∧ tenths ≤ s.rogueTenths n) ∧
    (∃ (s : State) (n : Nat) (dev : Nat) (reg : Nat) (len : Nat), s.hostReady = true ∧ n < 32 ∧ dev < 128 ∧ reg < 256 ∧ len < 4 ∧ s.on
      (F.TPA_STAT_MEN n) = true ∧ (s.port n).modCmd = none) ∧
    (∃ (s : State) (n : Nat), s.hostReady = true ∧ n < 32 ∧ s.on (F.TPA_STAT_MEN n) = false) ∧
    (∃ (s : State) (n : Nat), s.hostReady = true ∧ n < 32 ∧ s.on (F.TPA_STAT_MEN n) = true ∧ (s.port n).modCmd.isSome = true) ∧
    (∃ (s : State) (n : Nat) (dev : Nat) (reg : Nat) (len : Nat), s.hostReady = true ∧ n < 32 ∧ dev < 128 ∧ reg < 256 ∧ len < 4 ∧ s.on
      (F.TPA_STAT_MEN n) = true ∧ (s.port n).modCmd = none) ∧
    (∃ (s : State) (n : Nat), s.hostReady = true ∧ n < 32 ∧ s.on (F.TPA_STAT_MEN n) = false) ∧
    (∃ (s : State) (n : Nat), s.hostReady = true ∧ n < 32 ∧ s.on (F.TPA_STAT_MEN n) = true ∧ (s.port n).modCmd.isSome = true) ∧
    (∃ (s : State) (n : Nat) (c : ModCmd), s.ticking = true ∧ n < 32 ∧ (s.port n).modCmd = some c ∧ (∀ x ∈ s.masterCmds (n / 8), c.order
      ≤ x.2.order)) ∧
    (∃ (s : State) (n : Nat) (c : ModCmd), s.ticking = true ∧ n < 32 ∧ (s.port n).modCmd = some c ∧ (∀ x ∈ s.masterCmds (n / 8), c.order
      ≤ x.2.order)) ∧
    (∃ (s : State) (n : Nat) (c : ModCmd), s.ticking = true ∧ n < 32 ∧ (s.port n).modCmd = some c ∧ (∀ x ∈ s.masterCmds (n / 8), c.order
      ≤ x.2.order)) :=
  ⟨
    ⟨(lite.modPort 0 fun p => { p with losRun := 32 }), 0, by decide +kernel⟩,
    ⟨(lite.wr (F.TPA_STAT_LOS 0) 1), 0, by decide +kernel⟩,
    ⟨lite, 0, 77, 99999, by decide +kernel⟩,
    ⟨lite, 0, 1, by decide +kernel⟩,
    ⟨sendg, 0, 80, 3, 3, by decide +kernel⟩,
    ⟨lite, 0, by decide +kernel⟩,
    ⟨(sendg.modPort 0 fun p => { p with modCmd := some ⟨80, true, 3, 2, 0, 0⟩ }), 0, by decide +kernel⟩,
    ⟨sendg, 0, 80, 3, 3, by decide +kernel⟩,
    ⟨lite, 0, by decide +kernel⟩,
    ⟨(sendg.modPort 0 fun p => { p with modCmd := some ⟨80, true, 3, 2, 0, 0⟩ }), 0, by decide +kernel⟩,
    ⟨(sendg.modPort 0 fun p => { p with modCmd := some ⟨80, true, 3, 2, 0, 0⟩ }), 0, (⟨80, true, 3, 2, 0, 0⟩), by decide +kernel⟩,
    ⟨(sendg.modPort 0 fun p => { p with modCmd := some ⟨80, true, 3, 2, 0, 0⟩ }), 0, (⟨80, true, 3, 2, 0, 0⟩), by decide +kernel⟩,
    ⟨(sendg.modPort 0 fun p => { p with modCmd := some ⟨80, true, 3, 2, 0, 0⟩ }), 0, (⟨80, true, 3, 2, 0, 0⟩), by decide +kernel⟩⟩

theorem test_wit_UpstreamReception :
    (∃ (s : State) (n : Nat) (w : Win) (m : DelimMatch), s.receives n = true ∧ n < 32 ∧ s.curWin n = some w ∧ w.kind ≠ 2 ∧ w.confirmed =
      false ∧ w.lost = false ∧ s.on (F.OBS_INJ_STAT_ARMED n) = false ∧ s.matchesIn n w [m] = [m] ∧ m.raw = some w.term ∧ w.term < 512) ∧
    (∃ (s : State) (n : Nat) (w : Win) (r : List Win), s.receives n = true ∧ n < 32 ∧ (s.tree n).wins = w :: r ∧ w.closedBy s.ticks =
      true ∧ s.rd (F.TPA_BURST_OK_LOCKED n) < 2 ^ 32) ∧
    (∃ (s : State) (n : Nat) (prev : Bool) (x : RxFrame) (w : Win), s.receives n = true ∧ n < 32 ∧ s.cwWin n prev = some w ∧ w.confirmed
      = true ∧ s.mode ≠ mStandby ∧ x.len ≤ 9728 ∧ s.rd (F.TPA_FEC_CW_UNCORR_CW n) < 2 ^ 32 ∧ s.rd (F.TPA_FEC_CW_CORR_CW n) < 2 ^ 32) ∧
    (∃ (s : State) (n : Nat) (term : Nat) (kind : Nat) (mic : Nat) (index : Nat) (body : List Nat) (w : Win), s.receives n = true ∧
      s.mode ≠ mStandby ∧ n < 32 ∧ term < 512 ∧ s.msgWin n term kind = some (w, false) ∧ mic ≠ s.upMic n term kind index body) ∧
    (∃ (s : State) (n : Nat) (term : Nat) (kind : Nat) (mic : Nat) (index : Nat) (body : List Nat) (w : Win), s.receives n = true ∧
      s.mode ≠ mStandby ∧ n < 32 ∧ term < 512 ∧ s.msgWin n term kind = some (w, true) ∧ mic ≠ s.upMic n term kind index body) ∧
    (∃ (s : State) (n : Nat) (term : Nat) (w : Win), s.receives n = true ∧ s.mode ≠ mStandby ∧ n < 32 ∧ term < 512 ∧ s.msgWin n term 1 =
      some (w, false) ∧ (s.tree n).rxq.length < 64) ∧
    (∃ (s : State) (n : Nat) (term : Nat) (kind : Nat), s.receives n = true ∧ n < 32 ∧ s.msgWin n term kind = none) :=
  ⟨
    ⟨(winning [win0]), 0, win0, (⟨0, 0, true, some 5, none, false, 0, 0⟩), by decide +kernel⟩,
    ⟨(winning [win0]), 0, win0, [], by decide +kernel⟩,
    ⟨(winning [{ win0 with confirmed := true }]), 0, false, (⟨100, 1, 2, false, 0, 0, 7, 0, false, [], 0⟩),
      ({ win0 with confirmed := true }), by decide +kernel⟩,
    ⟨(winning [{ win0 with confirmed := true }]), 0, 5, 3, ((winning [{ win0 with confirmed := true }]).upMic 0 5 3 0 [1] + 1), 0, [1],
      ({ win0 with confirmed := true }), by decide +kernel, by decide +kernel, by decide +kernel, by decide +kernel, by decide +kernel,
      Nat.succ_ne_self _⟩,
    ⟨(lite.modTree 0 fun t => { t with closed := some { win0 with confirmed := true } }), 0, 5, 3, ((lite.modTree 0 fun t =>
      { t with closed := some { win0 with confirmed := true } }).upMic 0 5 3 0 [1] + 1), 0, [1], ({ win0 with confirmed := true }),
      by decide +kernel, by decide +kernel, by decide +kernel, by decide +kernel, by decide +kernel, Nat.succ_ne_self _⟩,
    ⟨(winning [{ win0 with confirmed := true }]), 0, 5, ({ win0 with confirmed := true }), by decide +kernel⟩,
    ⟨lite, 0, 5, 1, by decide +kernel⟩⟩

theorem test_wit_DownstreamFrame :
    (∃ (s : State) (n : Nat) (l : List Msg), n < 32 ∧ s.sending n = true ∧ (s.tree n).selected = false ∧ (l = (byOrigin (s.tree
      n).msgs).filter fun m => m.kind != 10 || s.nextServes n)) ∧
    (∃ (s : State) (n : Nat), n < 32 ∧ s.works = true ∧ buildsMaps s.mode = true ∧ s.carries n = true ∧ (s.tree n).frozen = false ∧
      (s.tree n).late = false) ∧
    (∃ (s : State) (n : Nat), n < 32 ∧ s.works = true ∧ buildsMaps s.mode = true ∧ s.carries n = true ∧ (s.tree n).frozen = false ∧
      (s.tree n).late = false) ∧
    (∃ (s : State) (n : Nat), n < 32 ∧ s.sending n = true ∧ (s.tree n).frozen = false ∧ (s.tree n).late = false) ∧
    (∃ (s : State) (n : Nat), n < 32 ∧ s.sending n = true ∧ (s.tree n).handed = false ∧ ((s.tree n).frozen = true ∨ (s.tree n).late =
      true)) ∧
    (∃ (s : State) (n : Nat), s.sending n = true ∧ (s.tree n).handed = false ∧ ((s.tree n).frozen = true ∨ (s.tree n).late = true)) ∧
    (∃ (s : State) (n : Nat) (f : DsFrame), (s.tree n).onAir = some f ∧ f.fill = false) :=
  ⟨
    ⟨(sendg.modTree 0 fun t => { t with msgs := [⟨3, 11, 5, 0, []⟩, ⟨0, 3, 5, 0, []⟩] }), 0, _, by decide +kernel, by decide +kernel,
      by decide +kernel, rfl⟩,
    ⟨lite, 0, by decide +kernel⟩,
    ⟨lite, 0, by decide +kernel⟩,
    ⟨sendg, 0, by decide +kernel⟩,
    ⟨(sendg.modTree 0 fun t => { t with frozen := true }), 0, by decide +kernel⟩,
    ⟨(sendg.modTree 0 fun t => { t with frozen := true }), 0, by decide +kernel⟩,
    ⟨(sendg.modTree 0 fun t => { t with onAir := some ⟨[], [], 100, 12, false, false⟩ }), 0, (⟨[], [], 100, 12, false, false⟩),
      by decide +kernel⟩⟩

theorem test_wit_FrameHostSide :
    (∃ (s : State) (n : Nat) (term : Nat), s.hostReady = true ∧ n < 32 ∧ s.joined n = true ∧ term < 512 ∧ (s.tree n).hostQueued < 64) ∧
    (∃ (s : State) (n : Nat), s.hostReady = true ∧ n < 32 ∧ s.joined n = true ∧ 64 ≤ (s.tree n).hostQueued) ∧
    (∃ (s : State) (n : Nat), s.hostReady = true ∧ n < 32 ∧ s.joined n = true) ∧
    (∃ (s : State) (n : Nat) (term : Nat), s.hostReady = true ∧ n < 32 ∧ s.joined n = true ∧ term < 512) ∧
    (∃ (s : State) (n : Nat) (term : Nat), s.hostReady = true ∧ n < 32 ∧ s.joined n = true ∧ term < 512) ∧
    (∃ (s : State) (n : Nat), s.ticking = true ∧ n < 32 ∧ (s.tree n).latching = true) ∧
    (∃ (s : State) (n : Nat), s.ticking = true ∧ n < 32 ∧ ceilingDue s n = true ∧ s.cfg.scan = false) :=
  ⟨
    ⟨lite, 0, 5, by decide +kernel⟩,
    ⟨(lite.modTree 0 fun t => { t with msgs := List.replicate 64 ⟨3, 11, 5, 0, []⟩ }), 0, by decide +kernel⟩,
    ⟨(lite.modTree 0 fun t => { t with rxq := [(5, [1]), (6, [2])] }), 0, by decide +kernel⟩,
    ⟨lite, 0, 5, by decide +kernel⟩,
    ⟨lite, 0, 5, by decide +kernel⟩,
    ⟨(lite.modTree 3 fun t => { t with latching := true }), 3, by decide +kernel⟩,
    ⟨(lite.modTree 0 fun t => { t with sfcOn := true }), 0, by decide +kernel⟩⟩

theorem test_wit_RangingCommands :
    (∃ (s : State) (n : Nat) (x : Nat), s.hostReady = true ∧ n < 32 ∧ s.joined n = true ∧ x < s.maxTerms n ∧ x < 512 ∧ (s.tree n).cmd =
      none ∧ s.tst n x = tsGuarded ∧ s.tcause n x ≠ 2) ∧
    (∃ (s : State) (n : Nat) (x : Nat), s.hostReady = true ∧ n < 32 ∧ s.joined n = true ∧ x < s.maxTerms n ∧ x < 512 ∧ (s.tree n).cmd =
      none ∧ (s.tst n x = tsService ∨ s.tst n x = tsGuarded ∨ s.tst n x = tsVerifying)) ∧
    (∃ (s : State) (n : Nat) (x : Nat), s.hostReady = true ∧ n < 32 ∧ s.joined n = true ∧ x < s.maxTerms n ∧ x < 512 ∧ (s.tree n).cmd =
      none ∧ s.tst n x ≠ tsFree) ∧
    (∃ (s : State) (n : Nat) (x : Nat), s.hostReady = true ∧ n < 32 ∧ s.joined n = true ∧ x < s.maxTerms n ∧ x < 512 ∧ (s.tree n).cmd =
      none ∧ s.tst n x = tsFailed) ∧
    (∃ (s : State) (n : Nat) (x : Nat) (sn : Nat) (est : Int) (r : List (Nat × Int)), s.hostReady = true ∧ n < 32 ∧ s.joined n = true ∧ x
      < s.maxTerms n ∧ x < 512 ∧ (s.tree n).cmd = none ∧ (s.tree n).pend = (sn, est) :: r ∧ s.holder n sn = none ∧ s.tst n x = tsFree) ∧
    (∃ (s : State) (n : Nat), s.hostReady = true ∧ n < 32 ∧ s.joined n = true ∧ (s.tree n).cmd = none ∧ (s.tree n).pend ≠ []) ∧
    (∃ (s : State) (n : Nat) (x : Nat), s.hostReady = true ∧ n < 32 ∧ s.joined n = true ∧ x < s.maxTerms n ∧ x < 512 ∧ (s.tree n).cmd =
      none ∧ s.holder n (s.rd (F.RNG_SN_DATA_SERIAL n)) = none ∧ s.tst n x = tsFree) ∧
    (∃ (s : State) (n : Nat) (x : Nat), s.hostReady = true ∧ n < 32 ∧ s.joined n = true ∧ x < 512 ∧ s.maxTerms n ≤ x) ∧
    (∃ (s : State) (n : Nat), s.hostReady = true ∧ n < 32 ∧ s.joined n = true) ∧
    (∃ (s : State) (n : Nat), s.works = true ∧ n < 32 ∧ periodDue s n = true) ∧
    (∃ (s : State) (n : Nat) (x : Nat), s.hostReady = true ∧ n < 32 ∧ s.joined n = true ∧ x < 512) ∧
    (∃ (s : State) (n : Nat) (x : Nat), s.hostReady = true ∧ n < 32 ∧ s.joined n = true ∧ x < 512) ∧
    (∃ (s : State) (n : Nat) (x : Nat), s.hostReady = true ∧ n < 32 ∧ s.joined n = true ∧ x < 512) ∧
    (∃ (s : State) (n : Nat) (x : Nat), s.hostReady = true ∧ n < 32 ∧ s.joined n = true ∧ x < 512) ∧
    (∃ (s : State) (n : Nat) (x : Nat), s.hostReady = true ∧ n < 32 ∧ s.joined n = true ∧ x < 512) ∧
    (∃ (s : State) (n : Nat) (x : Nat), s.hostReady = true ∧ n < 32 ∧ s.joined n = true ∧ x < 512) ∧
    (∃ (s : State) (n : Nat), s.hostReady = true ∧ n < 32 ∧ s.joined n = true) :=
  ⟨
    ⟨(termAt 4 1), 0, 5, by decide +kernel⟩,
    ⟨(termAt 3 0), 0, 5, by decide +kernel⟩,
    ⟨(termAt 7 0), 0, 5, by decide +kernel⟩,
    ⟨(termAt 7 0), 0, 5, by decide +kernel⟩,
    ⟨(lite.modTree 0 fun t => { t with pend := [(77, 100)] }), 0, 5, 77, 100, [], by decide +kernel⟩,
    ⟨(lite.modTree 0 fun t => { t with pend := [(77, 100)] }), 0, by decide +kernel⟩,
    ⟨(lite.wr (F.RNG_SN_DATA_SERIAL 0) 99), 0, 5, by decide +kernel⟩,
    ⟨({ lite with cfg := { lite.cfg with tiles := [] } }), 0, 511, by decide +kernel⟩,
    ⟨lite, 0, by decide +kernel⟩,
    ⟨((lite.wr (F.RNG_DISC_CFG_PERIOD_MS 0) 1).modTree 0 fun t => { t with discTicks := some 8 }), 0, by decide +kernel⟩,
    ⟨(termAt 4 2), 0, 5, by decide +kernel⟩,
    ⟨(termAt 7 0), 0, 5, by decide +kernel⟩,
    ⟨lite, 0, 5, by decide +kernel⟩,
    ⟨(termAt 3 0), 0, 5, by decide +kernel⟩,
    ⟨((termAt 3 0).modTree 0 fun t => { t with pend := [(77, 100)] }), 0, 5, by decide +kernel⟩,
    ⟨((termAt 3 0).modTree 0 fun t => { t with pend := [(77, 100)] }), 0, 5, by decide +kernel⟩,
    ⟨lite, 0, by decide +kernel⟩⟩

theorem test_wit_RangingEvents :
    (∃ (s : State) (n : Nat) (sn : Nat) (win : Nat) (rtd : Int) (r : List (Nat × Int × Nat)), s.works = true ∧ n < 32 ∧ (s.tree n).resps
      = (sn, rtd, win) :: r ∧ (s.tree n).discOpen win = false ∧ (∀ q ∈ r, q.1 = sn → q.2.2 ≠ win) ∧ s.holder n sn = none ∧ s.on
      (F.RNG_DISC_CFG_AUTO_ASSIGN n) = false ∧ (s.tree n).pend.length < 16) ∧
    (∃ (s : State) (n : Nat) (x : Nat), s.works = true ∧ n < 32 ∧ x < 512 ∧ s.tst n x = tsRanging ∧ 16 ≤ (s.term n x).rtTicks ∧ s.mode ≠
      mStandby ∧ 1 ≤ (s.term n x).rtSends ∧ (s.term n x).rtSends < 3) ∧
    (∃ (s : State) (n : Nat) (x : Nat), s.works = true ∧ n < 32 ∧ x < 512 ∧ s.tst n x = tsRanging ∧ 16 ≤ (s.term n x).rtTicks ∧ s.mode ≠
      mStandby ∧ 3 ≤ (s.term n x).rtSends) ∧
    (∃ (s : State) (n : Nat) (x : Nat), s.works = true ∧ n < 32 ∧ x < 512 ∧ (s.term n x).corr ≠ none ∧ 64 ≤ (s.term n x).corrBursts ∧
      (s.term n x).corrSends < 2 ∧ (s.tst n x = tsGuarded → (s.term n x).accepting = true) ∧ s.mode ≠ mStandby) ∧
    (∃ (s : State), s.mode = mStandby) ∧
    (∃ (s : State) (n : Nat) (x : Nat), s.works = true ∧ n < 32 ∧ x < 512 ∧ s.tst n x = tsVerifying ∧ s.verifyFrames n ≤ (s.term n
      x).vFrames) ∧
    (∃ (s : State) (n : Nat), n < 32 ∧ s.mayQuiet n = true ∧ (s.tree n).frozen = false ∧ hasBit s.hub.mapFrozen n = false ∧ (s.tree
      n).quiet = [] ∧ s.nextQuiet n = some (0x1FF, s.discWinNs n) ∧ s.discWinNs n ≤ (s.tree n).budget ∧ (s.tree n).waiting = none ∧ s.rd
      F.RNG_DEV_STAT_BEGUN + s.waitersReady < s.devWin) ∧
    (∃ (s : State), s.mode = mStandby) ∧
    (∃ (s : State) (n : Nat) (x : Nat), s.works = true ∧ n < 32 ∧ x < 512 ∧ (s.term n x).corr ≠ none ∧ 64 ≤ (s.term n x).corrBursts ∧
      (s.term n x).corrSends < 2 ∧ s.tst n x = tsGuarded ∧ (s.term n x).accepting = false ∧ s.mode ≠ mStandby) :=
  ⟨
    ⟨((lite.wr (F.RNG_DISC_CFG_AUTO_ASSIGN 0) 0).modTree 0 fun t => { t with resps := [(77, 1000, 4)] }), 0, 77, 4, 1000, [],
      by decide +kernel⟩,
    ⟨((termAt 2 0).modTerm 0 5 fun x => { x with rtSends := 1, rtTicks := 16 }), 0, 5, by decide +kernel⟩,
    ⟨((termAt 2 0).modTerm 0 5 fun x => { x with rtSends := 3, rtTicks := 16 }), 0, 5, by decide +kernel⟩,
    ⟨((termAt 3 0).modTerm 0 5 fun x => { x with corr := some 8, corrBursts := 64, corrSends := 1 }), 0, 5, by decide +kernel⟩,
    ⟨(lite.wr F.PWR_MODE_CUR mStandby), by decide +kernel⟩,
    ⟨((termAt 5 0).modTerm 0 5 fun x => { x with vFrames := 100000 }), 0, 5, by decide +kernel⟩,
    ⟨((sendg.wr (F.TPA_STAT_PHASE 0) 3).modTree 0 fun t => { t with discWanted := true, budget := 100000000 }), 0, by decide +kernel⟩,
    ⟨(lite.wr F.PWR_MODE_CUR mStandby), by decide +kernel⟩,
    ⟨((termAt 4 2).modTerm 0 5 fun x => { x with corr := some 8, corrBursts := 64, corrSends := 1 }), 0, 5, by decide +kernel⟩⟩

theorem test_wit_AluResults :
    (∃ (s : State) (e : Nat) (c : Nat) (w : MWord) (x : AluSlot) (a : Word) (b : Word), s.executes e c w = true ∧ s.quietEng e = true ∧ x
      ∈ [w.a, w.b] ∧ x.op = 1 ∧ a = BitVec.ofNat 32 (s.readG e c x.src1) ∧ b = BitVec.ofNat 32 (s.readG e c x.src2) ∧ 1 ≤ x.dst ∧ x.dst ≤
      61 ∧ (¬ (w.memOp = 1 ∧ w.memReg = x.dst)) ∧ (¬ (w.ctl = 3 ∧ x.dst = 60)) ∧ (¬ (w.ctl = 6 ∧ x.dst = 61)) ∧ (¬ (w.ctl = 4 ∧ (s.eng
      e).hook.isSome)) ∧ w.ctl ≠ 11 ∧ w.ctl ≠ 12) ∧
    (∃ (s : State) (e : Nat) (c : Nat) (w : MWord) (x : AluSlot) (a : Word) (b : Word), s.executes e c w = true ∧ s.quietEng e = true ∧ x
      ∈ [w.a, w.b] ∧ x.op = 2 ∧ a = BitVec.ofNat 32 (s.readG e c x.src1) ∧ b = BitVec.ofNat 32 (s.readG e c x.src2) ∧ 1 ≤ x.dst ∧ x.dst ≤
      61 ∧ (¬ (w.memOp = 1 ∧ w.memReg = x.dst)) ∧ (¬ (w.ctl = 3 ∧ x.dst = 60)) ∧ (¬ (w.ctl = 6 ∧ x.dst = 61)) ∧ (¬ (w.ctl = 4 ∧ (s.eng
      e).hook.isSome)) ∧ w.ctl ≠ 11 ∧ w.ctl ≠ 12) ∧
    (∃ (s : State) (e : Nat) (c : Nat) (w : MWord) (x : AluSlot) (a : Word) (b : Word), s.executes e c w = true ∧ s.quietEng e = true ∧ x
      ∈ [w.a, w.b] ∧ x.op = 3 ∧ a = BitVec.ofNat 32 (s.readG e c x.src1) ∧ b = BitVec.ofNat 32 (s.readG e c x.src2) ∧ 1 ≤ x.dst ∧ x.dst ≤
      61 ∧ (¬ (w.memOp = 1 ∧ w.memReg = x.dst)) ∧ (¬ (w.ctl = 3 ∧ x.dst = 60)) ∧ (¬ (w.ctl = 6 ∧ x.dst = 61)) ∧ (¬ (w.ctl = 4 ∧ (s.eng
      e).hook.isSome)) ∧ w.ctl ≠ 11 ∧ w.ctl ≠ 12) ∧
    (∃ (s : State) (e : Nat) (c : Nat) (w : MWord) (x : AluSlot) (a : Word) (b : Word), s.executes e c w = true ∧ s.quietEng e = true ∧ x
      ∈ [w.a, w.b] ∧ x.op = 4 ∧ a = BitVec.ofNat 32 (s.readG e c x.src1) ∧ b = BitVec.ofNat 32 (s.readG e c x.src2) ∧ 1 ≤ x.dst ∧ x.dst ≤
      61 ∧ (¬ (w.memOp = 1 ∧ w.memReg = x.dst)) ∧ (¬ (w.ctl = 3 ∧ x.dst = 60)) ∧ (¬ (w.ctl = 6 ∧ x.dst = 61)) ∧ (¬ (w.ctl = 4 ∧ (s.eng
      e).hook.isSome)) ∧ w.ctl ≠ 11 ∧ w.ctl ≠ 12) ∧
    (∃ (s : State) (e : Nat) (c : Nat) (w : MWord) (x : AluSlot) (a : Word) (b : Word), s.executes e c w = true ∧ s.quietEng e = true ∧ x
      ∈ [w.a, w.b] ∧ x.op = 5 ∧ a = BitVec.ofNat 32 (s.readG e c x.src1) ∧ b = BitVec.ofNat 32 (s.readG e c x.src2) ∧ 1 ≤ x.dst ∧ x.dst ≤
      61 ∧ (¬ (w.memOp = 1 ∧ w.memReg = x.dst)) ∧ (¬ (w.ctl = 3 ∧ x.dst = 60)) ∧ (¬ (w.ctl = 6 ∧ x.dst = 61)) ∧ (¬ (w.ctl = 4 ∧ (s.eng
      e).hook.isSome)) ∧ w.ctl ≠ 11 ∧ w.ctl ≠ 12) ∧
    (∃ (s : State) (e : Nat) (c : Nat) (w : MWord) (x : AluSlot) (a : Word) (b : Word), s.executes e c w = true ∧ s.quietEng e = true ∧ x
      ∈ [w.a, w.b] ∧ x.op = 6 ∧ a = BitVec.ofNat 32 (s.readG e c x.src1) ∧ b = BitVec.ofNat 32 (s.readG e c x.src2) ∧ 1 ≤ x.dst ∧ x.dst ≤
      61 ∧ (¬ (w.memOp = 1 ∧ w.memReg = x.dst)) ∧ (¬ (w.ctl = 3 ∧ x.dst = 60)) ∧ (¬ (w.ctl = 6 ∧ x.dst = 61)) ∧ (¬ (w.ctl = 4 ∧ (s.eng
      e).hook.isSome)) ∧ w.ctl ≠ 11 ∧ w.ctl ≠ 12) ∧
    (∃ (s : State) (e : Nat) (c : Nat) (w : MWord) (x : AluSlot) (a : Word) (b : Word), s.executes e c w = true ∧ s.quietEng e = true ∧ x
      ∈ [w.a, w.b] ∧ x.op = 7 ∧ a = BitVec.ofNat 32 (s.readG e c x.src1) ∧ b = BitVec.ofNat 32 (s.readG e c x.src2) ∧ 1 ≤ x.dst ∧ x.dst ≤
      61 ∧ (¬ (w.memOp = 1 ∧ w.memReg = x.dst)) ∧ (¬ (w.ctl = 3 ∧ x.dst = 60)) ∧ (¬ (w.ctl = 6 ∧ x.dst = 61)) ∧ (¬ (w.ctl = 4 ∧ (s.eng
      e).hook.isSome)) ∧ w.ctl ≠ 11 ∧ w.ctl ≠ 12) ∧
    (∃ (s : State) (e : Nat) (c : Nat) (w : MWord) (x : AluSlot) (a : Word) (b : Word), s.executes e c w = true ∧ s.quietEng e = true ∧ x
      ∈ [w.a, w.b] ∧ x.op = 8 ∧ a = BitVec.ofNat 32 (s.readG e c x.src1) ∧ b = BitVec.ofNat 32 (s.readG e c x.src2) ∧ 1 ≤ x.dst ∧ x.dst ≤
      61 ∧ (¬ (w.memOp = 1 ∧ w.memReg = x.dst)) ∧ (¬ (w.ctl = 3 ∧ x.dst = 60)) ∧ (¬ (w.ctl = 6 ∧ x.dst = 61)) ∧ (¬ (w.ctl = 4 ∧ (s.eng
      e).hook.isSome)) ∧ w.ctl ≠ 11 ∧ w.ctl ≠ 12) ∧
    (∃ (s : State) (e : Nat) (c : Nat) (w : MWord) (x : AluSlot) (a : Word) (b : Word), s.executes e c w = true ∧ s.quietEng e = true ∧ x
      ∈ [w.a, w.b] ∧ x.op = 9 ∧ a = BitVec.ofNat 32 (s.readG e c x.src1) ∧ b = BitVec.ofNat 32 (s.readG e c x.src2) ∧ 1 ≤ x.dst ∧ x.dst ≤
      61 ∧ (¬ (w.memOp = 1 ∧ w.memReg = x.dst)) ∧ (¬ (w.ctl = 3 ∧ x.dst = 60)) ∧ (¬ (w.ctl = 6 ∧ x.dst = 61)) ∧ (¬ (w.ctl = 4 ∧ (s.eng
      e).hook.isSome)) ∧ w.ctl ≠ 11 ∧ w.ctl ≠ 12) ∧
    (∃ (s : State) (e : Nat) (c : Nat) (w : MWord) (x : AluSlot) (a : Word) (b : Word), s.executes e c w = true ∧ s.quietEng e = true ∧ x
      ∈ [w.a, w.b] ∧ x.op = 10 ∧ a = BitVec.ofNat 32 (s.readG e c x.src1) ∧ b = BitVec.ofNat 32 (s.readG e c x.src2) ∧ 1 ≤ x.dst ∧ x.dst
      ≤ 61 ∧ (¬ (w.memOp = 1 ∧ w.memReg = x.dst)) ∧ (¬ (w.ctl = 3 ∧ x.dst = 60)) ∧ (¬ (w.ctl = 6 ∧ x.dst = 61)) ∧ (¬ (w.ctl = 4 ∧ (s.eng
      e).hook.isSome)) ∧ w.ctl ≠ 11 ∧ w.ctl ≠ 12) ∧
    (∃ (s : State) (e : Nat) (c : Nat) (w : MWord) (x : AluSlot) (a : Word) (b : Word), s.executes e c w = true ∧ s.quietEng e = true ∧ x
      ∈ [w.a, w.b] ∧ x.op = 11 ∧ a = BitVec.ofNat 32 (s.readG e c x.src1) ∧ b = BitVec.ofNat 32 (s.readG e c x.src2) ∧ 1 ≤ x.dst ∧ x.dst
      ≤ 61 ∧ (¬ (w.memOp = 1 ∧ w.memReg = x.dst)) ∧ (¬ (w.ctl = 3 ∧ x.dst = 60)) ∧ (¬ (w.ctl = 6 ∧ x.dst = 61)) ∧ (¬ (w.ctl = 4 ∧ (s.eng
      e).hook.isSome)) ∧ w.ctl ≠ 11 ∧ w.ctl ≠ 12) ∧
    (∃ (s : State) (e : Nat) (c : Nat) (w : MWord) (x : AluSlot) (a : Word) (b : Word), s.executes e c w = true ∧ s.quietEng e = true ∧ x
      ∈ [w.a, w.b] ∧ x.op = 12 ∧ a = BitVec.ofNat 32 (s.readG e c x.src1) ∧ b = BitVec.ofNat 32 (s.readG e c x.src2) ∧ 1 ≤ x.dst ∧ x.dst
      ≤ 61 ∧ (¬ (w.memOp = 1 ∧ w.memReg = x.dst)) ∧ (¬ (w.ctl = 3 ∧ x.dst = 60)) ∧ (¬ (w.ctl = 6 ∧ x.dst = 61)) ∧ (¬ (w.ctl = 4 ∧ (s.eng
      e).hook.isSome)) ∧ w.ctl ≠ 11 ∧ w.ctl ≠ 12) ∧
    (∃ (s : State) (e : Nat) (c : Nat) (w : MWord) (x : AluSlot) (a : Word) (b : Word), s.executes e c w = true ∧ s.quietEng e = true ∧ x
      ∈ [w.a, w.b] ∧ x.op = 13 ∧ a = BitVec.ofNat 32 (s.readG e c x.src1) ∧ b = BitVec.ofNat 32 (s.readG e c x.src2) ∧ 1 ≤ x.dst ∧ x.dst
      ≤ 61 ∧ (¬ (w.memOp = 1 ∧ w.memReg = x.dst)) ∧ (¬ (w.ctl = 3 ∧ x.dst = 60)) ∧ (¬ (w.ctl = 6 ∧ x.dst = 61)) ∧ (¬ (w.ctl = 4 ∧ (s.eng
      e).hook.isSome)) ∧ w.ctl ≠ 11 ∧ w.ctl ≠ 12) ∧
    (∃ (s : State) (e : Nat) (c : Nat) (w : MWord) (x : AluSlot) (a : Word) (b : Word), s.executes e c w = true ∧ s.quietEng e = true ∧ x
      ∈ [w.a, w.b] ∧ x.op = 14 ∧ a = BitVec.ofNat 32 (s.readG e c x.src1) ∧ b = BitVec.ofNat 32 (s.readG e c x.src2) ∧ 1 ≤ x.dst ∧ x.dst
      ≤ 61 ∧ (¬ (w.memOp = 1 ∧ w.memReg = x.dst)) ∧ (¬ (w.ctl = 3 ∧ x.dst = 60)) ∧ (¬ (w.ctl = 6 ∧ x.dst = 61)) ∧ (¬ (w.ctl = 4 ∧ (s.eng
      e).hook.isSome)) ∧ w.ctl ≠ 11 ∧ w.ctl ≠ 12) ∧
    (∃ (s : State) (e : Nat) (c : Nat) (w : MWord) (x : AluSlot) (a : Word) (b : Word), s.executes e c w = true ∧ s.quietEng e = true ∧ x
      ∈ [w.a, w.b] ∧ x.op = 16 ∧ a = BitVec.ofNat 32 (s.readG e c x.src1) ∧ b = BitVec.ofNat 32 (s.readG e c x.src2) ∧ 1 ≤ x.dst ∧ x.dst
      ≤ 61 ∧ (¬ (w.memOp = 1 ∧ w.memReg = x.dst)) ∧ (¬ (w.ctl = 3 ∧ x.dst = 60)) ∧ (¬ (w.ctl = 6 ∧ x.dst = 61)) ∧ (¬ (w.ctl = 4 ∧ (s.eng
      e).hook.isSome)) ∧ w.ctl ≠ 11 ∧ w.ctl ≠ 12) ∧
    (∃ (s : State) (e : Nat) (c : Nat) (w : MWord) (x : AluSlot) (a : Word) (b : Word), s.executes e c w = true ∧ s.quietEng e = true ∧ x
      ∈ [w.a, w.b] ∧ x.op = 17 ∧ a = BitVec.ofNat 32 (s.readG e c x.src1) ∧ b = BitVec.ofNat 32 (s.readG e c x.src2) ∧ 1 ≤ x.dst ∧ x.dst
      ≤ 61 ∧ (¬ (w.memOp = 1 ∧ w.memReg = x.dst)) ∧ (¬ (w.ctl = 3 ∧ x.dst = 60)) ∧ (¬ (w.ctl = 6 ∧ x.dst = 61)) ∧ (¬ (w.ctl = 4 ∧ (s.eng
      e).hook.isSome)) ∧ w.ctl ≠ 11 ∧ w.ctl ≠ 12) ∧
    (∃ (s : State) (e : Nat) (c : Nat) (w : MWord) (x : AluSlot) (a : Word) (b : Word), s.executes e c w = true ∧ s.quietEng e = true ∧ x
      ∈ [w.a, w.b] ∧ x.op = 18 ∧ a = BitVec.ofNat 32 (s.readG e c x.src1) ∧ b = BitVec.ofNat 32 (s.readG e c x.src2) ∧ 1 ≤ x.dst ∧ x.dst
      ≤ 61 ∧ (¬ (w.memOp = 1 ∧ w.memReg = x.dst)) ∧ (¬ (w.ctl = 3 ∧ x.dst = 60)) ∧ (¬ (w.ctl = 6 ∧ x.dst = 61)) ∧ (¬ (w.ctl = 4 ∧ (s.eng
      e).hook.isSome)) ∧ w.ctl ≠ 11 ∧ w.ctl ≠ 12) ∧
    (∃ (s : State) (e : Nat) (c : Nat) (w : MWord) (x : AluSlot) (a : Word) (b : Word), s.executes e c w = true ∧ s.quietEng e = true ∧ x
      ∈ [w.a, w.b] ∧ x.op = 15 ∧ a = BitVec.ofNat 32 (s.readG e c x.src1) ∧ b = BitVec.ofNat 32 (s.readG e c x.src2)) ∧
    (∃ (s : State) (e : Nat) (c : Nat) (w : MWord) (x : AluSlot) (r : Nat), s.executes e c w = true ∧ s.quietEng e = true ∧ w.memOp = 0 ∧
      w.asOp = 0 ∧ w.ctl = 0 ∧ w.a = x ∧ x.op = 1 ∧ w.b.op = 0 ∧ ((x.dst = 0 ∨ x.dst = 62 ∨ x.dst = 63) ∨ r ≠ x.dst)) ∧
    (∃ (s : State) (e : Nat) (c : Nat) (w : MWord) (i : Instr), s.executes e c w = true ∧ s.quietEng e = true ∧ w.memOp = 0 ∧ w.asOp = 0
      ∧ w.ctl < 3 ∧ i ∈ [.opAdd e c, .opSub e c, .opAnd e c, .opOr e c, .opXor e c, .opShl e c, .opShr e c, .opSar e c, .opMin e c,
      .opMax e c, .opMinu e c, .opMaxu e c, .opMul e c, .opMulhu e c, .opAddi e c, .opMovi e c, .opShlor e c, .opCmp e c]) ∧
    (∃ (s : State) (e : Nat) (c : Nat) (w : MWord) (i : Instr) (r : Nat), s.executes e c w = true ∧ s.quietEng e = true ∧ w.memOp = 0 ∧
      w.asOp = 0 ∧ w.ctl < 3 ∧ i ∈ [.opAdd e c, .opSub e c, .opAnd e c, .opOr e c, .opXor e c, .opShl e c, .opShr e c, .opSar e c, .opMin
      e c, .opMax e c, .opMinu e c, .opMaxu e c, .opMul e c, .opMulhu e c, .opAddi e c, .opMovi e c, .opShlor e c, .opCmp e c] ∧ (∀ x ∈
      [w.a, w.b], x.dst = r → x.op = 0 ∨ x.op = 15 ∨ r = 0 ∨ r = 62 ∨ r = 63)) :=
  ⟨
    ⟨(atWord (wordBits 0 0 0 0 0 0 0 0 0 (slotBits 1 40 32 33 9) 0) (engAt)), 0, 100, (MWord.ofBits (wordBits 0 0 0 0 0 0 0 0 0 (slotBits
      1 40 32 33 9) 0)), (AluSlot.ofBits (slotBits 1 40 32 33 9)), 0xFFFFFFFF#32, 3#32, by decide +kernel⟩,
    ⟨(atWord (wordBits 0 0 0 0 0 0 0 0 0 0 (slotBits 2 40 32 33 9)) (engAt)), 0, 100, (MWord.ofBits (wordBits 0 0 0 0 0 0 0 0 0 0
      (slotBits 2 40 32 33 9))), (AluSlot.ofBits (slotBits 2 40 32 33 9)), 0xFFFFFFFF#32, 3#32, by decide +kernel⟩,
    ⟨(atWord (wordBits 0 0 0 0 0 0 0 0 0 (slotBits 3 40 32 33 9) 0) (engAt)), 0, 100, (MWord.ofBits (wordBits 0 0 0 0 0 0 0 0 0 (slotBits
      3 40 32 33 9) 0)), (AluSlot.ofBits (slotBits 3 40 32 33 9)), 0xFFFFFFFF#32, 3#32, by decide +kernel⟩,
    ⟨(atWord (wordBits 0 0 0 0 0 0 0 0 0 0 (slotBits 4 40 32 33 9)) (engAt)), 0, 100, (MWord.ofBits (wordBits 0 0 0 0 0 0 0 0 0 0
      (slotBits 4 40 32 33 9))), (AluSlot.ofBits (slotBits 4 40 32 33 9)), 0xFFFFFFFF#32, 3#32, by decide +kernel⟩,
    ⟨(atWord (wordBits 0 0 0 0 0 0 0 0 0 (slotBits 5 40 32 33 9) 0) (engAt)), 0, 100, (MWord.ofBits (wordBits 0 0 0 0 0 0 0 0 0 (slotBits
      5 40 32 33 9) 0)), (AluSlot.ofBits (slotBits 5 40 32 33 9)), 0xFFFFFFFF#32, 3#32, by decide +kernel⟩,
    ⟨(atWord (wordBits 0 0 0 0 0 0 0 0 0 0 (slotBits 6 40 32 33 9)) (engAt)), 0, 100, (MWord.ofBits (wordBits 0 0 0 0 0 0 0 0 0 0
      (slotBits 6 40 32 33 9))), (AluSlot.ofBits (slotBits 6 40 32 33 9)), 0xFFFFFFFF#32, 3#32, by decide +kernel⟩,
    ⟨(atWord (wordBits 0 0 0 0 0 0 0 0 0 (slotBits 7 40 32 33 9) 0) (engAt)), 0, 100, (MWord.ofBits (wordBits 0 0 0 0 0 0 0 0 0 (slotBits
      7 40 32 33 9) 0)), (AluSlot.ofBits (slotBits 7 40 32 33 9)), 0xFFFFFFFF#32, 3#32, by decide +kernel⟩,
    ⟨(atWord (wordBits 0 0 0 0 0 0 0 0 0 0 (slotBits 8 40 32 33 9)) (engAt)), 0, 100, (MWord.ofBits (wordBits 0 0 0 0 0 0 0 0 0 0
      (slotBits 8 40 32 33 9))), (AluSlot.ofBits (slotBits 8 40 32 33 9)), 0xFFFFFFFF#32, 3#32, by decide +kernel⟩,
    ⟨(atWord (wordBits 0 0 0 0 0 0 0 0 0 (slotBits 9 40 32 33 9) 0) (engAt)), 0, 100, (MWord.ofBits (wordBits 0 0 0 0 0 0 0 0 0 (slotBits
      9 40 32 33 9) 0)), (AluSlot.ofBits (slotBits 9 40 32 33 9)), 0xFFFFFFFF#32, 3#32, by decide +kernel⟩,
    ⟨(atWord (wordBits 0 0 0 0 0 0 0 0 0 0 (slotBits 10 40 32 33 9)) (engAt)), 0, 100, (MWord.ofBits (wordBits 0 0 0 0 0 0 0 0 0 0
      (slotBits 10 40 32 33 9))), (AluSlot.ofBits (slotBits 10 40 32 33 9)), 0xFFFFFFFF#32, 3#32, by decide +kernel⟩,
    ⟨(atWord (wordBits 0 0 0 0 0 0 0 0 0 (slotBits 11 40 32 33 9) 0) (engAt)), 0, 100, (MWord.ofBits (wordBits 0 0 0 0 0 0 0 0 0
      (slotBits 11 40 32 33 9) 0)), (AluSlot.ofBits (slotBits 11 40 32 33 9)), 0xFFFFFFFF#32, 3#32, by decide +kernel⟩,
    ⟨(atWord (wordBits 0 0 0 0 0 0 0 0 0 0 (slotBits 12 40 32 33 9)) (engAt)), 0, 100, (MWord.ofBits (wordBits 0 0 0 0 0 0 0 0 0 0
      (slotBits 12 40 32 33 9))), (AluSlot.ofBits (slotBits 12 40 32 33 9)), 0xFFFFFFFF#32, 3#32, by decide +kernel⟩,
    ⟨(atWord (wordBits 0 0 0 0 0 0 0 0 0 (slotBits 13 40 32 33 9) 0) (engAt)), 0, 100, (MWord.ofBits (wordBits 0 0 0 0 0 0 0 0 0
      (slotBits 13 40 32 33 9) 0)), (AluSlot.ofBits (slotBits 13 40 32 33 9)), 0xFFFFFFFF#32, 3#32, by decide +kernel⟩,
    ⟨(atWord (wordBits 0 0 0 0 0 0 0 0 0 0 (slotBits 14 40 32 33 9)) (engAt)), 0, 100, (MWord.ofBits (wordBits 0 0 0 0 0 0 0 0 0 0
      (slotBits 14 40 32 33 9))), (AluSlot.ofBits (slotBits 14 40 32 33 9)), 0xFFFFFFFF#32, 3#32, by decide +kernel⟩,
    ⟨(atWord (wordBits 0 0 0 0 0 0 0 0 0 (slotBits 16 40 32 33 9) 0) (engAt)), 0, 100, (MWord.ofBits (wordBits 0 0 0 0 0 0 0 0 0
      (slotBits 16 40 32 33 9) 0)), (AluSlot.ofBits (slotBits 16 40 32 33 9)), 0xFFFFFFFF#32, 3#32, by decide +kernel⟩,
    ⟨(atWord (wordBits 0 0 0 0 0 0 0 0 0 0 (slotBits 17 40 32 33 9)) (engAt)), 0, 100, (MWord.ofBits (wordBits 0 0 0 0 0 0 0 0 0 0
      (slotBits 17 40 32 33 9))), (AluSlot.ofBits (slotBits 17 40 32 33 9)), 0xFFFFFFFF#32, 3#32, by decide +kernel⟩,
    ⟨(atWord (wordBits 0 0 0 0 0 0 0 0 0 (slotBits 18 40 32 33 9) 0) (engAt)), 0, 100, (MWord.ofBits (wordBits 0 0 0 0 0 0 0 0 0
      (slotBits 18 40 32 33 9) 0)), (AluSlot.ofBits (slotBits 18 40 32 33 9)), 0xFFFFFFFF#32, 3#32, by decide +kernel⟩,
    ⟨(atWord (wordBits 0 0 0 0 0 0 0 0 0 (slotBits 15 40 32 33 9) 0) (engAt)), 0, 100, (MWord.ofBits (wordBits 0 0 0 0 0 0 0 0 0
      (slotBits 15 40 32 33 9) 0)), (AluSlot.ofBits (slotBits 15 40 32 33 9)), 0xFFFFFFFF#32, 3#32, by decide +kernel⟩,
    ⟨(atWord (wordBits 0 0 0 0 0 0 0 0 0 (slotBits 1 40 32 33 9) 0) (engAt)), 0, 100, (MWord.ofBits (wordBits 0 0 0 0 0 0 0 0 0 (slotBits
      1 40 32 33 9) 0)), (AluSlot.ofBits (slotBits 1 40 32 33 9)), 62, by decide +kernel⟩,
    ⟨(atWord (wordBits 0 0 0 0 0 0 0 0 0 (slotBits 1 40 32 33 9) 0) (engAt)), 0, 100, (MWord.ofBits (wordBits 0 0 0 0 0 0 0 0 0 (slotBits
      1 40 32 33 9) 0)), (.opAdd 0 100), by decide +kernel⟩,
    ⟨(atWord (wordBits 0 0 0 0 0 0 0 0 0 (slotBits 1 40 32 33 9) 0) (engAt)), 0, 100, (MWord.ofBits (wordBits 0 0 0 0 0 0 0 0 0 (slotBits
      1 40 32 33 9) 0)), (.opAdd 0 100), 62, by decide +kernel⟩⟩

theorem test_wit_ThymeControl :
    (∃ (s : State) (e : Nat) (c : Nat) (w : MWord), s.executes e c w = true ∧ s.quietEng e = true ∧ w.ctl = 0 ∧ w.asOp = 0 ∧ w.memOp = 0) ∧
    (∃ (s : State) (e : Nat) (c : Nat) (w : MWord), s.executes e c w = true ∧ s.quietEng e = true ∧ w.ctl = 0) ∧
    (∃ (s : State) (e : Nat) (c : Nat) (w : MWord), s.executes e c w = true ∧ s.quietEng e = true ∧ w.ctl = 1) ∧
    (∃ (s : State) (e : Nat) (c : Nat) (f : Nat) (w : MWord) (b : Bool), s.executes e c w = true ∧ s.quietEng e = true ∧ w.ctl = 2 ∧ f =
      (s.eng e).flags ∧ w.cond ≤ 8 ∧ b = [true, hasBit f 3, !hasBit f 3, hasBit f 2 != hasBit f 0, hasBit f 2 == hasBit f 0, !hasBit f 1,
      hasBit f 1, (s.eng e).insCode == 0, (s.eng e).insCode != 0].getD w.cond false) ∧
    (∃ (s : State) (e : Nat) (c : Nat) (w : MWord), s.executes e c w = true ∧ s.quietEng e = true ∧ w.ctl = 3) ∧
    (∃ (s : State) (e : Nat) (c : Nat) (w : MWord), s.executes e c w = true ∧ s.quietEng e = true ∧ w.ctl = 4 ∧ (s.eng e).hook = none) ∧
    (∃ (s : State) (e : Nat) (c : Nat) (w : MWord) (h : HookCall), s.executes e c w = true ∧ s.quietEng e = true ∧ w.ctl = 4 ∧ w.memOp =
      0 ∧ w.asOp = 0 ∧ (s.eng e).hook = some h ∧ h.depth = 0) ∧
    (∃ (s : State) (e : Nat) (c : Nat) (w : MWord), s.executes e c w = true ∧ s.quietEng e = true ∧ w.ctl = 5) ∧
    (∃ (s : State) (e : Nat) (c : Nat) (w : MWord), s.wordAt e = w ∧ s.canRun e c = true ∧ s.overrun e c = false ∧ s.trapCode e c w =
      none ∧ s.stalls e c w = false ∧ w.ctl = 5 ∧ w.cond ≠ 3 ∧ s.waitHolds e c w = false) ∧
    (∃ (s : State) (e : Nat) (c : Nat) (w : MWord), s.executes e c w = true ∧ s.quietEng e = true ∧ w.ctl = 6) ∧
    (∃ (s : State) (e : Nat) (c : Nat) (w : MWord), s.executes e c w = true ∧ s.quietEng e = true ∧ w.ctl = 7) ∧
    (∃ (s : State) (e : Nat) (c : Nat) (w : MWord) (p : AtomSpan) (n : Nat), s.executes e c w = true ∧ s.quietEng e = true ∧ w.ctl = 8 ∧
      w.memOp = 0 ∧ w.asOp = 0 ∧ (s.eng e).span = some p ∧ s.engKey e = some n) ∧
    (∃ (s : State) (e : Nat) (c : Nat) (w : MWord) (st : Start), s.executes e c w = true ∧ s.quietEng e = true ∧ w.ctl = 9 ∧ (s.eng
      e).work = .recomp st) ∧
    (∃ (s : State) (e : Nat) (c : Nat) (w : MWord) (t0 : SlowTask) (b : Nat) (st : Nat), s.executes e c w = true ∧ s.quietEng e = true ∧
      w.ctl = 9 ∧ w.memOp = 0 ∧ w.asOp = 0 ∧ (s.eng e).work = .task t0 b st ∧ t0.sage = false ∧ s.mec.results.length < 256) ∧
    (∃ (s : State) (e : Nat) (c : Nat) (w : MWord) (k : Nat) (a : Nat), s.executes e c w = true ∧ s.quietEng e = true ∧ w.ctl = 10 ∧
      (s.eng e).handler = some (k, a) ∧ 3 ≤ k ∧ (k = 3 → (s.eng e).caps < 4)) ∧
    (∃ (s : State) (e : Nat) (c : Nat) (w : MWord) (a : Nat), s.executes e c w = true ∧ s.quietEng e = true ∧ w.ctl = 10 ∧ (s.eng
      e).handler = some (3, a) ∧ 4 ≤ (s.eng e).caps ∧ s.rd (F.MEC_ENG_CNT_SPAN_ABORTS e) < 2 ^ (F.MEC_ENG_CNT_SPAN_ABORTS e).width - 1) ∧
    (∃ (s : State) (e : Nat) (c : Nat) (w : MWord) (a : Nat), s.executes e c w = true ∧ s.quietEng e = true ∧ w.ctl = 10 ∧ w.asOp = 0 ∧
      w.memOp = 0 ∧ (s.eng e).handler = some (0, a)) ∧
    (∃ (s : State) (e : Nat) (c : Nat) (w : MWord), s.executes e c w = true ∧ s.quietEng e = true ∧ w.ctl = 11 ∧ hasBit (s.rd
      F.MEC_OPEN_CFG_HOOK_EN) (w.target % 4) = true ∧ ((s.allowance e (w.target % 4)).all (fun m => decide ((s.eng e).openUsed < m)) =
      true)) ∧
    (∃ (s : State) (e : Nat) (c : Nat) (w : MWord), s.executes e c w = true ∧ s.quietEng e = true ∧ w.ctl = 11 ∧ w.memOp = 0 ∧ w.asOp = 0
      ∧ hasBit (s.rd F.MEC_OPEN_CFG_HOOK_EN) (w.target % 4) = false) ∧
    (∃ (s : State) (e : Nat) (c : Nat) (w : MWord) (st : Start) (r : List Start), s.executes e c w = true ∧ s.quietEng e = true ∧ w.ctl =
      12 ∧ w.memOp = 0 ∧ w.asOp = 0 ∧ (s.eng e).starts = st :: r ∧ (s.eng e).hook = none) ∧
    (∃ (s : State) (e : Nat) (c : Nat) (w : MWord) (k : Nat), s.wordAt e = w ∧ s.canRun e c = true ∧ s.overrun e c = false ∧ s.stalls e c
      w = false ∧ s.trapCode e c w = some k ∧ k < 16 ∧ (s.eng e).hook = none ∧ (s.eng e).handler = none) :=
  ⟨
    ⟨(atWord (wordBits 0 0 0 0 0 0 0 0 0 0 0) (engAt)), 0, 100, (MWord.ofBits (wordBits 0 0 0 0 0 0 0 0 0 0 0)), by decide +kernel⟩,
    ⟨(atWord (wordBits 0 0 0 0 0 0 0 0 0 0 0) (engAt)), 0, 100, (MWord.ofBits (wordBits 0 0 0 0 0 0 0 0 0 0 0)), by decide +kernel⟩,
    ⟨(atWord (wordBits 1 0 768 0 0 0 0 0 0 0 0) (engAt)), 0, 100, (MWord.ofBits (wordBits 1 0 768 0 0 0 0 0 0 0 0)), by decide +kernel⟩,
    ⟨(atWord (wordBits 2 1 768 0 0 0 0 0 0 0 0) ({ engAt with flags := 8 })), 0, 100, 8, (MWord.ofBits (wordBits 2 1 768 0 0 0 0 0 0 0
      0)), true, by decide +kernel⟩,
    ⟨(atWord (wordBits 3 0 768 0 0 0 0 0 0 0 0) (engAt)), 0, 100, (MWord.ofBits (wordBits 3 0 768 0 0 0 0 0 0 0 0)), by decide +kernel⟩,
    ⟨(atWord (wordBits 4 0 0 0 0 0 0 0 0 0 0) (engAt)), 0, 100, (MWord.ofBits (wordBits 4 0 0 0 0 0 0 0 0 0 0)), by decide +kernel⟩,
    ⟨((let a := atWord 0 ({ engAt with hook := some ⟨1, 0x180, 95, [1, 2, 3, 4, 5, 6, 7, 8], 0⟩, pc := 0xC010 });
      { a with mec := { a.mec with openA := [(0xC010, wordBits 4 0 0 0 0 0 0 0 0 0 0)] } })), 0, 100, (MWord.ofBits (wordBits 4 0 0 0 0 0
      0 0 0 0 0)), (⟨1, 0x180, 95, [1, 2, 3, 4, 5, 6, 7, 8], 0⟩), by decide +kernel⟩,
    ⟨(atWord (wordBits 5 0 0 0 0 0 0 0 0 0 0) (engAt)), 0, 100, (MWord.ofBits (wordBits 5 0 0 0 0 0 0 0 0 0 0)), by decide +kernel⟩,
    ⟨(atWord (wordBits 5 7 0 0 0 0 0 32 0 0 0) (engAt)), 0, 100, (MWord.ofBits (wordBits 5 7 0 0 0 0 0 32 0 0 0)), by decide +kernel⟩,
    ⟨(atWord (wordBits 6 0 768 0 0 0 0 0 0 0 0) (engAt)), 0, 100, (MWord.ofBits (wordBits 6 0 768 0 0 0 0 0 0 0 0)), by decide +kernel⟩,
    ⟨(atWord (wordBits 7 0 0 0 0 0 0 0 0 0 0) (engAt)), 0, 100, (MWord.ofBits (wordBits 7 0 0 0 0 0 0 0 0 0 0)), by decide +kernel⟩,
    ⟨(atWord (wordBits 8 0 0 0 0 0 0 0 0 0 0) (spanOf engAt)), 0, 100, (MWord.ofBits (wordBits 8 0 0 0 0 0 0 0 0 0 0)), (⟨0xF0, 90,
      engAt.regs, [.scratch 0x80 7, .ins 1 2]⟩), 0, by decide +kernel⟩,
    ⟨(atWord (wordBits 9 0 0 0 0 0 0 0 0 0 0) ({ engAt with state := 1, work := .recomp start0 })), 0, 100, (MWord.ofBits (wordBits 9 0 0
      0 0 0 0 0 0 0 0)), start0, by decide +kernel⟩,
    ⟨(atWord (wordBits 9 0 0 0 0 0 0 0 0 0 0) ({ engAt with state := 2, work := .task ⟨1, 64, 9, 3, false⟩ 50 0 })), 0, 100,
      (MWord.ofBits (wordBits 9 0 0 0 0 0 0 0 0 0 0)), (⟨1, 64, 9, 3, false⟩), 50, 0, by decide +kernel⟩,
    ⟨(atWord (wordBits 10 0 0 0 0 0 0 0 0 0 0) ({ engAt with state := 3, handler := some (4, 0x150) })), 0, 100, (MWord.ofBits (wordBits
      10 0 0 0 0 0 0 0 0 0 0)), 4, 0x150, by decide +kernel⟩,
    ⟨(atWord (wordBits 10 0 0 0 0 0 0 0 0 0 0) ({ engAt with state := 3, handler := some (3, 0x150), caps := 4 })), 0, 100, (MWord.ofBits
      (wordBits 10 0 0 0 0 0 0 0 0 0 0)), 0x150, by decide +kernel⟩,
    ⟨(atWord (wordBits 10 0 0 0 0 0 0 0 0 0 0) ({ engAt with state := 3, handler := some (0, 0x150) })), 0, 100, (MWord.ofBits (wordBits
      10 0 0 0 0 0 0 0 0 0 0)), 0x150, by decide +kernel⟩,
    ⟨((atWord (wordBits 11 0 1 0 0 0 0 0 0 0 0) engAt).wr F.MEC_OPEN_CFG_HOOK_EN 15), 0, 100, (MWord.ofBits (wordBits 11 0 1 0 0 0 0 0 0
      0 0)), by decide +kernel⟩,
    ⟨(atWord (wordBits 11 0 1 0 0 0 0 0 0 0 0) (engAt)), 0, 100, (MWord.ofBits (wordBits 11 0 1 0 0 0 0 0 0 0 0)), by decide +kernel⟩,
    ⟨(atWord (wordBits 12 0 0 0 0 0 0 0 0 0 0) ({ engAt with starts := [start0] })), 0, 100, (MWord.ofBits (wordBits 12 0 0 0 0 0 0 0 0 0
      0)), start0, [], by decide +kernel⟩,
    ⟨(atWord (wordBits 15 0 0 0 0 0 0 0 0 0 0) (engAt)), 0, 100, (MWord.ofBits (wordBits 15 0 0 0 0 0 0 0 0 0 0)), 7, by decide +kernel⟩⟩

theorem test_wit_ThymeMemory :
    (∃ (s : State) (e : Nat) (c : Nat) (w : MWord) (a : Nat), s.executes e c w = true ∧ s.quietEng e = true ∧ w.ctl = 0 ∧ w.asOp = 0 ∧
      w.memOp = 1 ∧ 1 ≤ w.memReg ∧ w.memReg ≤ 61 ∧ a = (s.readG e c w.memBase + 4 * w.memOfs) % 2 ^ 32) ∧
    (∃ (s : State) (e : Nat) (c : Nat) (w : MWord) (a : Nat), s.executes e c w = true ∧ s.quietEng e = true ∧ w.asOp = 0 ∧ w.ctl = 0 ∧
      w.memOp = 2 ∧ (s.eng e).span = none ∧ a = (s.readG e c w.memBase + 4 * w.memOfs) % 2 ^ 32) ∧
    (∃ (s : State) (e : Nat) (c : Nat) (w : MWord) (a : Nat) (p : AtomSpan), s.executes e c w = true ∧ s.quietEng e = true ∧ w.asOp = 0 ∧
      w.ctl = 0 ∧ w.memOp = 2 ∧ (s.eng e).span = some p ∧ a = (s.readG e c w.memBase + 4 * w.memOfs) % 2 ^ 32) ∧
    (∃ (s : State) (e : Nat) (c : Nat) (w : MWord) (k : Nat), s.executes e c w = true ∧ s.quietEng e = true ∧ w.asOp = 0 ∧ w.ctl = 0 ∧
      w.memOp = 3 ∧ k = s.winKeyOf e (s.readG e c w.memBase) ∧ (s.eng e).hasLine k (s.readG e c w.memReg / 64) = false) ∧
    (∃ (s : State) (e : Nat) (c : Nat) (w : MWord), s.executes e c w = true ∧ s.quietEng e = true ∧ w.asOp = 0 ∧ w.ctl = 0 ∧ w.memOp = 3
      ∧ (s.eng e).hasLine (s.winKeyOf e (s.readG e c w.memBase)) (s.readG e c w.memReg / 64) = true) ∧
    (∃ (s : State) (e : Nat) (c : Nat) (w : MWord) (n : Nat) (win : Nat), s.executes e c w = true ∧ s.quietEng e = true ∧ w.asOp = 0 ∧
      w.ctl = 0 ∧ w.memOp = 4 ∧ (s.eng e).span = none ∧ s.engTree e = some n ∧ win = s.readG e c w.memBase ∧ s.workAddr n win % 64 = 0 ∧
      s.workAddr n win + 64 ≤ 2 ^ 35 ∧ s.stackCalm (s.workAddr n win) = true) ∧
    (∃ (s : State) (e : Nat) (c : Nat) (w : MWord) (p : AtomSpan), s.executes e c w = true ∧ s.quietEng e = true ∧ w.asOp = 0 ∧ w.ctl = 0
      ∧ w.memOp = 4 ∧ (s.eng e).span = some p) ∧
    (∃ (s : State) (e : Nat) (i : Nat) (win : Nat) (line : Nat), s.works = true ∧ (s.eng e).lines[i]? = some (win, some line)) ∧
    (∃ (win : Nat), winNum (win % 2 ^ 32) ≠ 0) ∧
    (∃ (s : State) (win : Nat) (a : Nat), winNum (win % 2 ^ 32) = 0 ∧ a = s.workAddr (win / 2 ^ 32) (win % 2 ^ 32) ∧ a % 64 = 0 ∧
      s.stackCalm a = true) :=
  ⟨
    ⟨(atWord (wordBits 0 0 0 0 0 1 40 33 1 0 0) ({ engAt with scratch := [(7, 5)], regs := SMap.put engAt.regs 33 3 })), 0, 100,
      (MWord.ofBits (wordBits 0 0 0 0 0 1 40 33 1 0 0)), 7, by decide +kernel⟩,
    ⟨(atWord (wordBits 0 0 0 0 0 2 32 33 1 0 0) (engAt)), 0, 100, (MWord.ofBits (wordBits 0 0 0 0 0 2 32 33 1 0 0)), 7, by decide +kernel⟩,
    ⟨(atWord (wordBits 0 0 0 0 0 2 32 33 1 0 0) (spanOf engAt)), 0, 100, (MWord.ofBits (wordBits 0 0 0 0 0 2 32 33 1 0 0)), 7, (⟨0xF0,
      90, engAt.regs, [.scratch 0x80 7, .ins 1 2]⟩), by decide +kernel⟩,
    ⟨(atWord (wordBits 0 0 0 0 0 3 34 36 0 0 0) (engAt)), 0, 100, (MWord.ofBits (wordBits 0 0 0 0 0 3 34 36 0 0 0)), 0x10000000,
      by decide +kernel⟩,
    ⟨(atWord (wordBits 0 0 0 0 0 3 34 36 0 0 0) ({ engAt with lines := [(0x10000000, some 1)] })), 0, 100, (MWord.ofBits (wordBits 0 0 0
      0 0 3 34 36 0 0 0)), by decide +kernel⟩,
    ⟨(atWord (wordBits 0 0 0 0 0 4 34 37 0 0 0) ({ engAt with scratch := [(64, 9)] })), 0, 100, (MWord.ofBits (wordBits 0 0 0 0 0 4 34 37
      0 0 0)), 0, 0, by decide +kernel⟩,
    ⟨(atWord (wordBits 0 0 0 0 0 4 34 37 0 0 0) (spanOf engAt)), 0, 100, (MWord.ofBits (wordBits 0 0 0 0 0 4 34 37 0 0 0)), (⟨0xF0, 90,
      engAt.regs, [.scratch 0x80 7, .ins 1 2]⟩), by decide +kernel⟩,
    ⟨(atWord 0 { engAt with lines := [(0x10000000, some 1)] }), 0, 0, 0x10000000, 1, by decide +kernel⟩,
    ⟨0x10000000, by decide +kernel⟩,
    ⟨lite, 0, (lite.workAddr 0 0), by decide +kernel⟩⟩

theorem test_wit_ThymeAssists :
    (∃ (s : State) (e : Nat) (c : Nat) (w : MWord) (n : Nat) (m : Nat) (g0 : Nat) (g1 : Nat) (g2 : Nat) (g3 : Nat), s.executes e c w =
      true ∧ s.quietEng e = true ∧ w.asOp = 1 ∧ w.ctl = 0 ∧ w.memOp = 0 ∧ s.engTree e = some n ∧ m = recKey n (s.eng e).joins ∧ g0 =
      s.readG e c w.asReg ∧ g1 = s.readG e c (w.asReg + 1) ∧ g2 = s.readG e c (w.asReg + 2) ∧ g3 = s.readG e c (w.asReg + 3)) ∧
    (∃ (s : State) (e : Nat) (c : Nat) (w : MWord) (n : Nat) (m : Nat) (g0 : Nat) (g1 : Nat) (g2 : Nat) (g3 : Nat), s.executes e c w =
      true ∧ s.quietEng e = true ∧ w.asOp = 2 ∧ w.ctl = 0 ∧ w.memOp = 0 ∧ s.engTree e = some n ∧ m = recKey n (s.eng e).joins ∧ g0 =
      s.readG e c w.asReg ∧ g1 = s.readG e c (w.asReg + 1) ∧ g2 = s.readG e c (w.asReg + 2) ∧ g3 = s.readG e c (w.asReg + 3)) ∧
    (∃ (s : State) (e : Nat) (c : Nat) (w : MWord) (n : Nat) (m : Nat) (g0 : Nat) (g1 : Nat) (g2 : Nat) (g3 : Nat), s.executes e c w =
      true ∧ s.quietEng e = true ∧ w.asOp = 3 ∧ w.ctl = 0 ∧ w.memOp = 0 ∧ s.engTree e = some n ∧ m = recKey n (s.eng e).joins ∧ g0 =
      s.readG e c w.asReg ∧ g1 = s.readG e c (w.asReg + 1) ∧ g2 = s.readG e c (w.asReg + 2) ∧ g3 = s.readG e c (w.asReg + 3)) ∧
    (∃ (s : State) (e : Nat) (c : Nat) (w : MWord) (n : Nat) (m : Nat) (g0 : Nat) (g1 : Nat) (g2 : Nat) (g3 : Nat), s.executes e c w =
      true ∧ s.quietEng e = true ∧ w.asOp = 4 ∧ w.ctl = 0 ∧ w.memOp = 0 ∧ s.engTree e = some n ∧ m = recKey n (s.eng e).joins ∧ g0 =
      s.readG e c w.asReg ∧ g1 = s.readG e c (w.asReg + 1) ∧ g2 = s.readG e c (w.asReg + 2) ∧ g3 = s.readG e c (w.asReg + 3)) ∧
    (∃ (s : State) (e : Nat) (c : Nat) (w : MWord) (n : Nat) (m : Nat) (g0 : Nat) (g1 : Nat) (g2 : Nat) (g3 : Nat), s.executes e c w =
      true ∧ s.quietEng e = true ∧ w.asOp = 7 ∧ w.ctl = 0 ∧ w.memOp = 0 ∧ s.engTree e = some n ∧ m = recKey n (s.eng e).joins ∧ g0 =
      s.readG e c w.asReg ∧ g1 = s.readG e c (w.asReg + 1) ∧ g2 = s.readG e c (w.asReg + 2) ∧ g3 = s.readG e c (w.asReg + 3)) ∧
    (∃ (s : State) (e : Nat) (c : Nat) (w : MWord) (n : Nat) (m : Nat) (g0 : Nat) (g1 : Nat) (g2 : Nat) (g3 : Nat), s.executes e c w =
      true ∧ s.quietEng e = true ∧ w.asOp = 9 ∧ w.ctl = 0 ∧ w.memOp = 0 ∧ s.engTree e = some n ∧ m = recKey n (s.eng e).joins ∧ g0 =
      s.readG e c w.asReg ∧ g1 = s.readG e c (w.asReg + 1) ∧ g2 = s.readG e c (w.asReg + 2) ∧ g3 = s.readG e c (w.asReg + 3)) ∧
    (∃ (s : State) (e : Nat) (c : Nat) (w : MWord) (n : Nat) (m : Nat) (g0 : Nat) (g1 : Nat) (g2 : Nat) (g3 : Nat), s.executes e c w =
      true ∧ s.quietEng e = true ∧ w.asOp = 5 ∧ w.ctl = 0 ∧ w.memOp = 0 ∧ s.engTree e = some n ∧ m = recKey n (s.eng e).joins ∧ g0 =
      s.readG e c w.asReg ∧ g1 = s.readG e c (w.asReg + 1) ∧ g2 = s.readG e c (w.asReg + 2) ∧ g3 = s.readG e c (w.asReg + 3) ∧ (s.eng
      e).span = none) ∧
    (∃ (s : State) (e : Nat) (c : Nat) (w : MWord) (n : Nat) (m : Nat) (g0 : Nat) (g1 : Nat) (g2 : Nat) (g3 : Nat) (p : AtomSpan),
      s.executes e c w = true ∧ s.quietEng e = true ∧ w.asOp = 5 ∧ w.ctl = 0 ∧ w.memOp = 0 ∧ s.engTree e = some n ∧ m = recKey n (s.eng
      e).joins ∧ g0 = s.readG e c w.asReg ∧ g1 = s.readG e c (w.asReg + 1) ∧ g2 = s.readG e c (w.asReg + 2) ∧ g3 = s.readG e c (w.asReg +
      3) ∧ (s.eng e).span = some p) ∧
    (∃ (s : State) (e : Nat) (c : Nat) (w : MWord) (n : Nat) (m : Nat) (g0 : Nat) (g1 : Nat) (g2 : Nat) (g3 : Nat), s.executes e c w =
      true ∧ s.quietEng e = true ∧ w.asOp = 6 ∧ w.ctl = 0 ∧ w.memOp = 0 ∧ s.engTree e = some n ∧ m = recKey n (s.eng e).joins ∧ g0 =
      s.readG e c w.asReg ∧ g1 = s.readG e c (w.asReg + 1) ∧ g2 = s.readG e c (w.asReg + 2) ∧ g3 = s.readG e c (w.asReg + 3) ∧ (s.eng
      e).span = none) ∧
    (∃ (s : State) (e : Nat) (c : Nat) (w : MWord) (n : Nat) (m : Nat) (g0 : Nat) (g1 : Nat) (g2 : Nat) (g3 : Nat), s.executes e c w =
      true ∧ s.quietEng e = true ∧ w.asOp = 8 ∧ w.ctl = 0 ∧ w.memOp = 0 ∧ s.engTree e = some n ∧ m = recKey n (s.eng e).joins ∧ g0 =
      s.readG e c w.asReg ∧ g1 = s.readG e c (w.asReg + 1) ∧ g2 = s.readG e c (w.asReg + 2) ∧ g3 = s.readG e c (w.asReg + 3)) ∧
    (∃ (s : State) (e : Nat) (c : Nat) (v : Nat) (r : Nat) (p : Pending), s.works = true ∧ c < 187500 ∧ ((s.eng e).assists.find? (fun p
      => decide (p.due ≤ s.cycle c)) = some p) ∧ p.values = [v] ∧ p.reg = r ∧ 1 ≤ r ∧ r ≤ 61) :=
  ⟨
    ⟨(atWord (wordBits 0 0 0 1 33 0 0 0 0 0 0) (engAt)), 0, 100, (MWord.ofBits (wordBits 0 0 0 1 33 0 0 0 0 0 0)), 0, 0, ((atWord
      (wordBits 0 0 0 1 33 0 0 0 0 0 0) (engAt)).readG 0 100 33), ((atWord (wordBits 0 0 0 1 33 0 0 0 0 0 0) (engAt)).readG 0 100 34),
      ((atWord (wordBits 0 0 0 1 33 0 0 0 0 0 0) (engAt)).readG 0 100 35), ((atWord (wordBits 0 0 0 1 33 0 0 0 0 0 0) (engAt)).readG 0
      100 36), by decide +kernel⟩,
    ⟨(atWord (wordBits 0 0 0 2 34 0 0 0 0 0 0) (engAt)), 0, 100, (MWord.ofBits (wordBits 0 0 0 2 34 0 0 0 0 0 0)), 0, 0, ((atWord
      (wordBits 0 0 0 2 34 0 0 0 0 0 0) (engAt)).readG 0 100 34), ((atWord (wordBits 0 0 0 2 34 0 0 0 0 0 0) (engAt)).readG 0 100 35),
      ((atWord (wordBits 0 0 0 2 34 0 0 0 0 0 0) (engAt)).readG 0 100 36), ((atWord (wordBits 0 0 0 2 34 0 0 0 0 0 0) (engAt)).readG 0
      100 37), by decide +kernel⟩,
    ⟨(atWord (wordBits 0 0 0 3 33 0 0 0 0 0 0) (engAt)), 0, 100, (MWord.ofBits (wordBits 0 0 0 3 33 0 0 0 0 0 0)), 0, 0, ((atWord
      (wordBits 0 0 0 3 33 0 0 0 0 0 0) (engAt)).readG 0 100 33), ((atWord (wordBits 0 0 0 3 33 0 0 0 0 0 0) (engAt)).readG 0 100 34),
      ((atWord (wordBits 0 0 0 3 33 0 0 0 0 0 0) (engAt)).readG 0 100 35), ((atWord (wordBits 0 0 0 3 33 0 0 0 0 0 0) (engAt)).readG 0
      100 36), by decide +kernel⟩,
    ⟨(atWord (wordBits 0 0 0 4 33 0 0 0 0 0 0) (engAt)), 0, 100, (MWord.ofBits (wordBits 0 0 0 4 33 0 0 0 0 0 0)), 0, 0, ((atWord
      (wordBits 0 0 0 4 33 0 0 0 0 0 0) (engAt)).readG 0 100 33), ((atWord (wordBits 0 0 0 4 33 0 0 0 0 0 0) (engAt)).readG 0 100 34),
      ((atWord (wordBits 0 0 0 4 33 0 0 0 0 0 0) (engAt)).readG 0 100 35), ((atWord (wordBits 0 0 0 4 33 0 0 0 0 0 0) (engAt)).readG 0
      100 36), by decide +kernel⟩,
    ⟨(atWord (wordBits 0 0 0 7 33 0 0 0 0 0 0) (engAt)), 0, 100, (MWord.ofBits (wordBits 0 0 0 7 33 0 0 0 0 0 0)), 0, 0, ((atWord
      (wordBits 0 0 0 7 33 0 0 0 0 0 0) (engAt)).readG 0 100 33), ((atWord (wordBits 0 0 0 7 33 0 0 0 0 0 0) (engAt)).readG 0 100 34),
      ((atWord (wordBits 0 0 0 7 33 0 0 0 0 0 0) (engAt)).readG 0 100 35), ((atWord (wordBits 0 0 0 7 33 0 0 0 0 0 0) (engAt)).readG 0
      100 36), by decide +kernel⟩,
    ⟨(atWord (wordBits 0 0 0 9 33 0 0 0 0 0 0) (engAt)), 0, 100, (MWord.ofBits (wordBits 0 0 0 9 33 0 0 0 0 0 0)), 0, 0, ((atWord
      (wordBits 0 0 0 9 33 0 0 0 0 0 0) (engAt)).readG 0 100 33), ((atWord (wordBits 0 0 0 9 33 0 0 0 0 0 0) (engAt)).readG 0 100 34),
      ((atWord (wordBits 0 0 0 9 33 0 0 0 0 0 0) (engAt)).readG 0 100 35), ((atWord (wordBits 0 0 0 9 33 0 0 0 0 0 0) (engAt)).readG 0
      100 36), by decide +kernel⟩,
    ⟨(atWord (wordBits 0 0 0 5 33 0 0 0 0 0 0) (engAt)), 0, 100, (MWord.ofBits (wordBits 0 0 0 5 33 0 0 0 0 0 0)), 0, 0, ((atWord
      (wordBits 0 0 0 5 33 0 0 0 0 0 0) (engAt)).readG 0 100 33), ((atWord (wordBits 0 0 0 5 33 0 0 0 0 0 0) (engAt)).readG 0 100 34),
      ((atWord (wordBits 0 0 0 5 33 0 0 0 0 0 0) (engAt)).readG 0 100 35), ((atWord (wordBits 0 0 0 5 33 0 0 0 0 0 0) (engAt)).readG 0
      100 36), by decide +kernel⟩,
    ⟨(atWord (wordBits 0 0 0 5 33 0 0 0 0 0 0) (spanOf engAt)), 0, 100, (MWord.ofBits (wordBits 0 0 0 5 33 0 0 0 0 0 0)), 0, 0, ((atWord
      (wordBits 0 0 0 5 33 0 0 0 0 0 0) (spanOf engAt)).readG 0 100 33), ((atWord (wordBits 0 0 0 5 33 0 0 0 0 0 0) (spanOf engAt)).readG
      0 100 34), ((atWord (wordBits 0 0 0 5 33 0 0 0 0 0 0) (spanOf engAt)).readG 0 100 35), ((atWord (wordBits 0 0 0 5 33 0 0 0 0 0 0)
      (spanOf engAt)).readG 0 100 36), (⟨0xF0, 90, engAt.regs, [.scratch 0x80 7, .ins 1 2]⟩), by decide +kernel⟩,
    ⟨(atWord (wordBits 0 0 0 6 32 0 0 0 0 0 0) (engAt)), 0, 100, (MWord.ofBits (wordBits 0 0 0 6 32 0 0 0 0 0 0)), 0, 0, ((atWord
      (wordBits 0 0 0 6 32 0 0 0 0 0 0) (engAt)).readG 0 100 32), ((atWord (wordBits 0 0 0 6 32 0 0 0 0 0 0) (engAt)).readG 0 100 33),
      ((atWord (wordBits 0 0 0 6 32 0 0 0 0 0 0) (engAt)).readG 0 100 34), ((atWord (wordBits 0 0 0 6 32 0 0 0 0 0 0) (engAt)).readG 0
      100 35), by decide +kernel⟩,
    ⟨(atWord (wordBits 0 0 0 8 33 0 0 0 0 0 0) (engAt)), 0, 100, (MWord.ofBits (wordBits 0 0 0 8 33 0 0 0 0 0 0)), 0, 0, ((atWord
      (wordBits 0 0 0 8 33 0 0 0 0 0 0) (engAt)).readG 0 100 33), ((atWord (wordBits 0 0 0 8 33 0 0 0 0 0 0) (engAt)).readG 0 100 34),
      ((atWord (wordBits 0 0 0 8 33 0 0 0 0 0 0) (engAt)).readG 0 100 35), ((atWord (wordBits 0 0 0 8 33 0 0 0 0 0 0) (engAt)).readG 0
      100 36), by decide +kernel⟩,
    ⟨(atWord 0 { engAt with assists := [⟨106, 40, [7], false, false, none⟩] }), 0, 106, 7, 40, (⟨106, 40, [7], false, false, none⟩),
      by decide +kernel⟩⟩

theorem test_wit_EngineLimitsAndControl :
    (∃ (s : State) (e : Nat) (c : Nat) (p : AtomSpan), s.canRun e c = true ∧ (s.eng e).span = some p ∧ p.start + 512 ≤ s.cycle c ∧
      s.quietEng e = true ∧ (s.eng e).handler = none ∧ s.stalls e c (s.wordAt e) = false) ∧
    (∃ (s : State) (e : Nat) (c : Nat) (h : HookCall), s.canRun e c = true ∧ s.quietEng e = true ∧ (s.eng e).hook = some h ∧ h.start +
      max 16 (s.rd F.MEC_OPEN_CFG_HOOK_MAX) < s.cycle c) ∧
    (∃ (s : State) (e : Nat) (c : Nat) (b : Nat) (st : Nat) (k : SlowTask), s.canRun e c = true ∧ (s.eng e).work = .task k b st ∧ b +
      2048 < s.cycle c ∧ (s.eng e).handler = none) ∧
    (∃ (s : State) (e : Nat) (c : Nat), s.hostReady = true ∧ e < 64 ∧ (s.eng e).state ≠ 4 ∧ (s.eng e).pend = 0 ∧ s.stalls e c (s.wordAt
      e) = false) ∧
    (∃ (s : State) (e : Nat), s.hostReady = true ∧ e < 64 ∧ (s.eng e).state = 4) ∧
    (∃ (s : State) (e : Nat), s.hostReady = true ∧ e < 64 ∧ s.joined 47 = true ∧ (s.eng e).state = 4) :=
  ⟨
    ⟨(atWord 0 (spanOf engAt)), 0, 700, (⟨0xF0, 90, engAt.regs, [.scratch 0x80 7, .ins 1 2]⟩), by decide +kernel⟩,
    ⟨(atWord 0 ({ engAt with hook := some ⟨1, 0x180, 95, [1, 2, 3, 4, 5, 6, 7, 8], 0⟩, pc := 0xC010 })), 0, 2000, (⟨1, 0x180, 95, [1, 2,
      3, 4, 5, 6, 7, 8], 0⟩), by decide +kernel⟩,
    ⟨(atWord 0 { engAt with state := 2, work := .task ⟨1, 64, 9, 3, false⟩ 50 0 }), 0, 3000, 50, 0, (⟨1, 64, 9, 3, false⟩),
      by decide +kernel⟩,
    ⟨(atWord 0 engAt), 0, 100, by decide +kernel⟩,
    ⟨(atWord 0 { engAt with state := 4 }), 0, by decide +kernel⟩,
    ⟨(atWord 0 { engAt with state := 4 }), 0, by decide +kernel⟩⟩

theorem test_wit_OpenPartitionAndTasks :
    (∃ (s : State), s.hostReady = true ∧ s.rd F.MEC_OPEN_STAT_STATE = 0 ∧ s.joined 47 = true ∧ s.mode ≠ mAsleep ∧ s.mode ≠ mStarting ∧
      s.mode ≠ mHolding) ∧
    (∃ (s : State), s.hostReady = true ∧ s.rd F.MEC_OPEN_STAT_STATE ≠ 0) ∧
    (∃ (s : State) (u : State) (k : Nat), s.hostReady = true ∧ k < 2 ∧ s.rd F.MEC_OPEN_STAT_STATE = 0 ∧ s.joined 47 = true ∧ s.mode ≠
      mAsleep ∧ s.mode ≠ mStarting ∧ s.mode ≠ mHolding ∧ s.on (F.CFG_IMG_STAT_VERIFIED k) = true ∧ (ofType 6 (s.slotImg k).sects) ≠ [] ∧
      (tileSect 47 (s.slotImg k).sects) = none ∧ ((s.slotImg k).section 6).length ≤ 262144 ∧ u = imageRead (s.slotBase k + (((ofType 6
      (s.slotImg k).sects).head?.map Sect.off).getD 0)) ((s.slotImg k).section 6).length s) ∧
    (∃ (s : State) (k : Nat), s.hostReady = true ∧ k < 2 ∧ s.rd F.MEC_OPEN_STAT_STATE = 0 ∧ s.joined 47 = true ∧ s.mode ≠ mAsleep ∧
      s.mode ≠ mStarting ∧ s.mode ≠ mHolding ∧ s.on (F.CFG_IMG_STAT_VERIFIED k) = false) ∧
    (∃ (s : State), s.works = true ∧ s.rd F.MEC_OPEN_STAT_STATE = 1 ∧ ((s.openBank (1 - s.bank)).all (fun x => openCheck x.2 == 0) =
      true)) ∧
    (∃ (s : State), s.works = true ∧ s.rd F.MEC_OPEN_STAT_STATE = 2 ∧ s.joined 47 = true ∧ s.pwr.cadence % cadenceOf s.mode = 0 ∧
      s.atTick = true ∧ (s.mec.engines.all (fun x => x.2.hook.isNone) = true) ∧ s.bank < 2) ∧
    (∃ (s : State) (y : Nat) (g : Nat) (a : Nat) (b : Nat), s.hostReady = true ∧ y < 256 ∧ g < 128 ∧ a < 65536 ∧ b < 2 ^ 32 ∧
      s.mec.tasks.length < 256) ∧
    (∃ (s : State), s.hostReady = true ∧ 256 ≤ s.mec.tasks.length) ∧
    (∃ (s : State) (e : Nat) (c : Nat) (k : SlowTask), s.canRun e c = true ∧ (s.eng e).state = 0 ∧ (s.wordAt e).ctl = 12 ∧ (s.eng
      e).starts = [] ∧ (s.eng e).result = none ∧ s.taskFor e = some k ∧ (k.typ = 1 ∨ k.typ = 2 ∨ 128 ≤ k.typ) ∧ ((s.cyclesToStart e
      c).all (fun d => decide (2048 ≤ d)) = true)) ∧
    (∃ (s : State) (x : TaskResult) (r : List TaskResult), s.hostReady = true ∧ s.mec.results = x :: r ∧ (s.mec.engines.all (fun y =>
      y.2.result.isNone) = true)) ∧
    (∃ (s : State) (x : Nat × Nat), s.works = true ∧ s.rd F.MEC_OPEN_STAT_STATE = 1 ∧ (List.find? (fun (y : Nat × Nat) => openCheck y.2
      != 0) (s.openBank (1 - s.bank)) = some x) ∧ x.1 < 65536) ∧
    (∃ (s : State) (k : Nat), s.hostReady = true ∧ k < 2 ∧ s.rd F.MEC_OPEN_STAT_STATE = 0 ∧ s.joined 47 = true ∧ s.mode ≠ mAsleep ∧
      s.mode ≠ mStarting ∧ s.mode ≠ mHolding ∧ s.on (F.CFG_IMG_STAT_VERIFIED k) = true ∧ (ofType 6 (s.slotImg k).sects) = []) :=
  ⟨
    ⟨lite, by decide +kernel⟩,
    ⟨(lite.wr F.MEC_OPEN_STAT_STATE 1), by decide +kernel⟩,
    ⟨openImg, _, 0, by decide +kernel, by decide +kernel, by decide +kernel, by decide +kernel, by decide +kernel, by decide +kernel,
      by decide +kernel, by decide +kernel, by decide +kernel, by decide +kernel, by decide +kernel, rfl⟩,
    ⟨lite, 0, by decide +kernel⟩,
    ⟨(lite.wr F.MEC_OPEN_STAT_STATE 1), by decide +kernel⟩,
    ⟨(lite.wr F.MEC_OPEN_STAT_STATE 2), by decide +kernel⟩,
    ⟨lite, 1, 64, 65535, 4294967295, by decide +kernel⟩,
    ⟨({ lite with mec := { lite.mec with tasks := List.replicate 256 ⟨1, 64, 0, 0, false⟩ } }), by decide +kernel⟩,
    ⟨((let a := atWord (wordBits 12 0 0 0 0 0 0 0 0 0 0) engAt; { a with mec := { a.mec with tasks := [⟨1, 64, 9, 3, false⟩] } })), 0,
      10000, (⟨1, 64, 9, 3, false⟩), by decide +kernel⟩,
    ⟨({ lite with mec := { lite.mec with results := [⟨1, 2, 0, 3⟩] } }), (⟨1, 2, 0, 3⟩), [], by decide +kernel⟩,
    ⟨(({ lite with mec := { lite.mec with openB := [(0xC000, 0), (0xC001, wordBits 1 0 0x100 0 0 0 0 0 0 0 0)] } }).wr
      F.MEC_OPEN_STAT_STATE 1), ((0xC001, wordBits 1 0 0x100 0 0 0 0 0 0 0 0)), by decide +kernel⟩,
    ⟨(imaged.wr (F.CFG_IMG_STAT_VERIFIED 0) 1), 0, by decide +kernel⟩⟩

theorem test_wit_Recomputations :
    (∃ (s : State) (n : Nat) (r : Recomp) (s1 : State) (es : List Nat), n < 32 ∧ s.works = true ∧ startRecomp n (closeReports n (s.ticks
      + 1) s) = some (r, s1) ∧ es = s.enginesOf n ∧ es ≠ [] ∧ (∀ e ∈ es, (s.eng e).state ≠ 4)) ∧
    (∃ (s : State) (n : Nat) (j : Bool), n < 32 ∧ s.works = true ∧ (s.mecTree (recKey n j)).near = false ∧ (s.mecTree (recKey n
      j)).running ≠ [] ∧ (((s.tree n).work j).any (fun r => r.deadline == s.ticks && !r.done) = true) ∧ (s.mecTree (recKey n
      (!j))).running = [] ∧ (s.mecTree (recKey n j)).engines = []) ∧
    (∃ (s : State) (n : Nat) (j : Bool) (e : Nat), n < 32 ∧ s.works = true ∧ (s.mecTree (recKey n j)).near = false ∧ (s.mecTree (recKey n
      j)).running ≠ [] ∧ (((s.tree n).work j).any (fun r => r.deadline == s.ticks && !r.done) = true) ∧ (s.mecTree (recKey n
      (!j))).running = [] ∧ (s.mecTree (recKey n j)).engines = [e] ∧ (s.eng e).state ≠ 4 ∧ s.quietEng e = true ∧ s.stalls e 165000
      (s.wordAt e) = false ∧ (s.eng e).handler = none ∧ (s.eng e).span = none ∧ (s.eng e).hook = none) ∧
    (∃ (s : State) (n : Nat) (d : Nat) (j : Bool) (r : Recomp), n < 32 ∧ s.works = true ∧ (s.tree n).work j = some r ∧ r.done = false ∧
      (s.mecTree (recKey n j)).doneAt = some d ∧ d ≤ r.deadline * 187500 + 176999 ∧ (j = false → (s.mecTree (recKey n true)).doneAt =
      none)) ∧
    (∃ (s : State) (n : Nat) (r : Recomp), n < 32 ∧ s.works = true ∧ (s.tree n).recomp = some r ∧ (s.tree n).joinRec = none ∧ r.deadline
      = s.ticks ∧ r.done = true ∧ hasBit s.hub.mapFrozen n = false) ∧
    (∃ (s : State) (n : Nat) (r : Recomp), n < 32 ∧ s.works = true ∧ (s.tree n).recomp = some r ∧ (s.tree n).joinRec = none ∧ r.deadline
      = s.ticks ∧ r.done = false ∧ r.join = false ∧ hasBit s.hub.mapFrozen n = false) ∧
    (∃ (s : State) (n : Nat) (c : Nat) (key : Nat) (e : Nat) (j : Bool) (g : List (Nat × Nat)) (r : List (Nat × Nat × List (Nat × Nat))),
      n < 32 ∧ s.works = true ∧ c < 187500 ∧ j = s.nextGroup n ∧ (s.mecTree (recKey n j)).queue = (key, e, g) :: r ∧ key ≤ s.cycle c ∧
      s.quietEng e = true ∧ (((s.tree n).work j).all (fun x => x.misses key) = true) ∧ g ≠ []) ∧
    (∃ (s : State) (n : Nat) (c : Nat) (key : Nat) (e : Nat) (j : Bool) (g : List (Nat × Nat)) (r : List (Nat × Nat × List (Nat × Nat)))
      (x : Recomp) (i : Nat × Nat), n < 32 ∧ s.works = true ∧ c < 187500 ∧ j = s.nextGroup n ∧ (s.mecTree (recKey n j)).queue = (key, e,
      g) :: r ∧ key ≤ s.cycle c ∧ s.quietEng e = true ∧ (s.tree n).work j = some x ∧ x.misses key = false ∧ g = [i] ∧ (insOfWords
      i).start ≠ 0xFFFFFF) ∧
    (∃ (s : State) (n : Nat) (i : Nat), s.hostReady = true ∧ n < 32 ∧ s.joined n = true ∧ i < s.maxAllocs n) ∧
    (∃ (s : State) (n : Nat) (i : Nat) (a : Alloc), s.hostReady = true ∧ n < 32 ∧ s.joined n = true ∧ a = Alloc.ofWords Alloc.empty (s.rd
      (F.GNT_ALLOC_DATA_WORD n 0)) (s.rd (F.GNT_ALLOC_DATA_WORD n 1)) ∧ i < s.maxAllocs n ∧ a.term < s.maxTerms n ∧ ((s.tree
      n).written.all (fun x => x.1 == i || !x.2.valid || x.2.allocId != a.allocId) = true)) ∧
    (∃ (s : State) (n : Nat) (i : Nat), s.hostReady = true ∧ n < 32 ∧ s.joined n = true ∧ s.maxAllocs n ≤ i) ∧
    (∃ (s : State) (n : Nat) (p : Nat), s.works = true ∧ n < 32 ∧ p < 4 ∧ hasBit (s.rd (F.GNT_PROF_STAT_HELD n)) p = true ∧ SMap.getD
      (s.tree n).hold p 0 ≤ s.ticks) :=
  ⟨
    ⟨(atWord 0 engAt), 0, (((startRecomp 0 (closeReports 0 1 (atWord 0 engAt))).getD (⟨0, 0, false, [], [], false⟩, lite)).1),
      (((startRecomp 0 (closeReports 0 1 (atWord 0 engAt))).getD (⟨0, 0, false, [], [], false⟩, lite)).2), [0], by decide +kernel⟩,
    ⟨((atWord 0 engAt).modTree 0 (fun t => { t with recomp := some ⟨0, 0, false, [], [], false⟩ }) |>.modMecTree 0 fun t =>
      { t with running := [0] }), 0, false, by decide +kernel⟩,
    ⟨((atWord 0 engAt).modTree 0 (fun t => { t with recomp := some ⟨0, 0, false, [], [], false⟩ }) |>.modMecTree 0 fun t =>
      { t with running := [0], engines := [0] }), 0, false, 0, by decide +kernel⟩,
    ⟨((atWord 0 engAt).modTree 0 (fun t => { t with recomp := some ⟨0, 0, false, [], [], false⟩ }) |>.modMecTree 0 fun t =>
      { t with doneAt := some 165001 }), 0, 165001, false, (⟨0, 0, false, [], [], false⟩), by decide +kernel⟩,
    ⟨((atWord 0 engAt).modTree 0 (fun t => { t with recomp := some ⟨0, 0, false, [], [], true⟩ })), 0, (⟨0, 0, false, [], [], true⟩),
      by decide +kernel⟩,
    ⟨((atWord 0 engAt).modTree 0 (fun t => { t with recomp := some ⟨0, 0, false, [], [], false⟩ })), 0, (⟨0, 0, false, [], [], false⟩),
      by decide +kernel⟩,
    ⟨((atWord 0 engAt).modMecTree 0 fun t => { t with queue := [(50, 0, [(1, 2)])] }), 0, 100, 50, 0, false, ([(1, 2)]), [],
      by decide +kernel⟩,
    ⟨(((atWord 0 engAt).modTree 0 (fun t => { t with recomp := some ⟨0, 0, false, [], [], false⟩ })).modMecTree 0 fun t =>
      { t with queue := [(5000, 0, [(1, 2)])] }), 0, 6000, 5000, 0, false, ([(1, 2)]), [], (⟨0, 0, false, [], [], false⟩), ((1, 2)),
      by decide +kernel⟩,
    ⟨lite, 0, 5, by decide +kernel⟩,
    ⟨lite, 0, 5, (Alloc.ofWords Alloc.empty 0 0), by decide +kernel⟩,
    ⟨({ lite with cfg := { lite.cfg with tiles := [] } }), 0, 4095, by decide +kernel⟩,
    ⟨(lite.wr (F.GNT_PROF_STAT_HELD 0) 15), 0, 3, by decide +kernel⟩⟩

theorem test_wit_UplinkReception :
    (∃ (s : State) (u : Nat) (kind : Nat) (x : RxFrame) (b : List Nat), s.works = true ∧ u < 16 ∧ s.portUp u = true ∧ s.on
      (F.OBS_INJ_STAT_ARMED (32 + u)) = false ∧ (SMap.getD s.upl u UplPort.initial).held = [] ∧ s.forwards = true ∧ ((if b.isEmpty then
      kind else frameKind b) = 0) ∧ 64 ≤ x.len + 4 ∧ x.len + 4 ≤ s.maxFrame u) ∧
    (∃ (s : State) (u : Nat) (kind : Nat) (x : RxFrame) (b : List Nat), s.works = true ∧ u < 16 ∧ s.portUp u = true ∧ s.on
      (F.OBS_INJ_STAT_ARMED (32 + u)) = false ∧ (SMap.getD s.upl u UplPort.initial).held = [] ∧ s.mode = mStandby ∧ ((if b.isEmpty then
      kind else frameKind b) = 0) ∧ 64 ≤ x.len + 4 ∧ x.len + 4 ≤ s.maxFrame u) ∧
    (∃ (s : State) (u : Nat), s.works = true ∧ u < 16 ∧ s.portUp u = true ∧ s.on (F.OBS_INJ_STAT_ARMED (32 + u)) = false ∧ (SMap.getD
      s.upl u UplPort.initial).held = []) ∧
    (∃ (s : State) (u : Nat) (x : RxFrame), s.works = true ∧ u < 16 ∧ s.portUp u = true ∧ s.on (F.OBS_INJ_STAT_ARMED (32 + u)) = false ∧
      (SMap.getD s.upl u UplPort.initial).held = [] ∧ x.len + 4 < 64) ∧
    (∃ (s : State) (u : Nat) (x : RxFrame), s.works = true ∧ u < 16 ∧ s.portUp u = true ∧ s.on (F.OBS_INJ_STAT_ARMED (32 + u)) = false ∧
      (SMap.getD s.upl u UplPort.initial).held = [] ∧ 64 ≤ x.len + 4 ∧ s.maxFrame u < x.len + 4) ∧
    (∃ (s : State) (u : Nat) (x : RxFrame), s.works = true ∧ u < 16 ∧ s.portUp u = true ∧ s.on (F.OBS_INJ_STAT_ARMED (32 + u)) = false ∧
      (SMap.getD s.upl u UplPort.initial).held = [] ∧ 64 ≤ x.len + 4 ∧ x.len + 4 ≤ s.maxFrame u) ∧
    (∃ (s : State) (u : Nat), s.works = true ∧ u < 16 ∧ s.on (F.UPL_PORT_STAT_LINK u) = true) ∧
    (∃ (s : State) (u : Nat), s.works = true ∧ u < 16 ∧ s.rd (F.UPL_PORT_STAT_WIDTH u) ≠ 0 ∧ s.on (F.UPL_PORT_STAT_LINK u) = false ∧
      s.joined (s.uplinkGroup u) = true ∧ (s.rd (F.UPL_PORT_STAT_WIDTH u) = 3 → s.joined (s.uplinkGroup u + 1) = true) ∧ hasBit
      s.cfg.disabled (32 + u) = false) ∧
    (∃ (s : State) (u : Nat) (x : RxFrame) (b : List Nat), s.works = true ∧ u < 16 ∧ s.portUp u = true ∧ s.on (F.OBS_INJ_STAT_ARMED (32 +
      u)) = false ∧ (SMap.getD s.upl u UplPort.initial).held = [] ∧ frameKind b = 7 ∧ b ≠ [] ∧ 64 ≤ x.len + 4 ∧ x.len + 4 ≤ s.maxFrame u
      ∧ s.rd (F.TMG_PAUSE_STAT_XOFF_RX u) < 256) ∧
    (∃ (s : State) (u : Nat), s.on (F.UPL_PORT_STAT_LINK u) = false) ∧
    (∃ (s : State) (u : Nat), s.on (F.UPL_PORT_STAT_LINK u) = true) :=
  ⟨
    ⟨upl0, 0, 0, (rxf 100), [], by decide +kernel⟩,
    ⟨(upl0.wr F.PWR_MODE_CUR mStandby), 0, 0, (rxf 100), [], by decide +kernel⟩,
    ⟨upl0, 0, by decide +kernel⟩,
    ⟨upl0, 0, (rxf 59), by decide +kernel⟩,
    ⟨upl0, 0, (rxf 1997), by decide +kernel⟩,
    ⟨upl0, 0, (rxf 100), by decide +kernel⟩,
    ⟨upl0, 0, by decide +kernel⟩,
    ⟨(upl0.wr (F.UPL_PORT_STAT_LINK 0) 0), 0, by decide +kernel⟩,
    ⟨upl0, 0, (rxf 100), (beBytes 6 0x0180C2000001 ++ beBytes 6 9 ++ beBytes 2 0x8808 ++ beBytes 2 0x0101 ++ beBytes 2 5 ++
      (List.replicate 6 1) ++ List.replicate 36 0), by decide +kernel⟩,
    ⟨lite, 0, by decide +kernel⟩,
    ⟨upl0, 0, by decide +kernel⟩⟩

theorem test_wit_UplinkPausesAndSending :
    (∃ (s : State) (u : Nat) (a : Nat), s.works = true ∧ u < 16 ∧ s.portUp u = true ∧ a < 256 ∧ s.rd (F.TMG_PAUSE_STAT_XOFF_RX u) < 256) ∧
    (∃ (s : State) (u : Nat) (c : Nat), s.works = true ∧ u < 16 ∧ c < 8) ∧
    (∃ (s : State) (u : Nat), s.works = true ∧ u < 16 ∧ s.portUp u = true ∧ s.rd (F.TMG_PAUSE_STAT_XOFF_TX u) ≠ 0) ∧
    (∃ (s : State) (u : Nat) (c : Nat) (id : Nat) (r : List (Nat × Nat)), s.forwards = true ∧ u < 16 ∧ s.portServed u = true ∧
      (((readyClasses s u).filter fun c => (s.classq (8 * u + c)).strict).getLast? = some c) ∧ (s.classq (8 * u + c)).frames = (id,
      tagClass u c) :: r) :=
  ⟨
    ⟨upl0, 0, 7, by decide +kernel⟩,
    ⟨(upl0.wr (F.TMG_PAUSE_STAT_XOFF_RX 0) 12), 0, 3, by decide +kernel⟩,
    ⟨(upl0.wr (F.TMG_PAUSE_STAT_XOFF_TX 0) 12), 0, by decide +kernel⟩,
    ⟨((fwd0 true 16).modClass 2 fun x => { x with w0 := 64, frames := [(7, tagClass 0 2)] }), 0, 2, 7, [], by decide +kernel⟩⟩

theorem test_wit_HostFrames :
    (∃ (s : State), s.hostReady = true ∧ 3 ≤ s.minor) ∧
    (∃ (s : State) (k : Nat) (p : Nat) (len : Nat), s.hostReady = true ∧ 3 ≤ s.minor ∧ k < 64 ∧ p < 16 ∧ s.hostPath = true ∧ 60 ≤ len ∧
      len ≤ 2048 ∧ s.portUp p = true ∧ s.htx.length < 64) ∧
    (∃ (s : State) (p : Nat) (len : Nat), s.hostReady = true ∧ 3 ≤ s.minor ∧ p < 16 ∧ s.hostPath = true ∧ (len < 60 ∨ (2048 < len ∧ len <
      4096))) ∧
    (∃ (s : State) (x : HtxPost) (r : List HtxPost) (u : State), s.works = true ∧ s.htx = x :: r ∧ x.port < 16 ∧ s.portUp x.port = true ∧
      s.zeroing (s.txBase + 2048 * x.slot) x.len = false ∧ u = (dramGet 11 (s.txBase + 2048 * x.slot) x.len s).2) ∧
    (∃ (s : State) (x : HtxPost) (r : List HtxPost), s.works = true ∧ s.htx = x :: r ∧ (s.portUp x.port = false ∨ s.zeroing (s.txBase +
      2048 * x.slot) x.len = true)) :=
  ⟨
    ⟨({ (((upl0.wr F.HIF_API_VER_SEL_MINOR 3).wr F.UPL_HOST_CFG_RX_BASE 0x6000).wr F.UPL_HOST_CFG_TX_BASE 0x18008) with hrx := [⟨0, 1, 2, 100, 9⟩, ⟨1, 1, 3, 100, 10⟩] }),
      by decide +kernel⟩,
    ⟨(((upl0.wr F.HIF_API_VER_SEL_MINOR 3).wr F.UPL_HOST_CFG_RX_BASE 0x6000).wr F.UPL_HOST_CFG_TX_BASE 0x18008), 63, 0, 2048,
      by decide +kernel⟩,
    ⟨(((upl0.wr F.HIF_API_VER_SEL_MINOR 3).wr F.UPL_HOST_CFG_RX_BASE 0x6000).wr F.UPL_HOST_CFG_TX_BASE 0x18008), 0, 2049,
      by decide +kernel⟩,
    ⟨({ upl0 with htx := [⟨1, 0, 100⟩] }), (⟨1, 0, 100⟩), [], _, by decide +kernel, by decide +kernel, by decide +kernel, by decide +kernel,
      by decide +kernel, rfl⟩,
    ⟨({ lite with htx := [⟨1, 0, 100⟩] }), (⟨1, 0, 100⟩), [], by decide +kernel⟩⟩

theorem test_wit_FrameLookup :
    (∃ (s : State) (id : Nat) (r : List Nat) (f : Frame) (x : Nat) (u : Nat) (k : Nat) (key : Nat) (c : FlowCtx) (d : Nat) (e : BEntry),
      s.forwards = true ∧ s.fwd.ingress = id :: r ∧ s.frame id = some f ∧ (s.partsOf f).all s.partOn = true ∧ (∀ m < 16, s.on
      (F.OBS_MIRROR_EN m) = false) ∧ f.up = true ∧ 16 ≤ f.src ∧ x = flowIndex (f.src - 16) f.tport (s.subOf (f.src - 16) f.tport f) ∧ c =
      s.flowCtx x ∧ c.valid = true ∧ c.usEn = true ∧ d = s.domain c.bd ∧ domValid d = true ∧ domLocal d = false ∧ k = domPart d ∧ u =
      domUplink d ∧ s.lookup k c.bd f.smac = some key ∧ s.entry? key = some e ∧ e.owner = 512 * (f.src - 16) + c.terminal ∧ c.policer = 0
      ∧ poolTakes (s.classq (8 * u + c.usClass)).pool f.cells.length s = true) ∧
    (∃ (s : State) (id : Nat) (r : List Nat) (f : Frame) (bd : Nat) (x : Nat) (q : Nat) (k : Nat) (key : Nat) (c : FlowCtx) (d : Nat) (e
      : BEntry), s.forwards = true ∧ s.fwd.ingress = id :: r ∧ s.frame id = some f ∧ (s.partsOf f).all s.partOn = true ∧ (∀ m < 16, s.on
      (F.OBS_MIRROR_EN m) = false) ∧ f.up = false ∧ f.src < 16 ∧ s.vlanDomain f = some bd ∧ d = s.domain bd ∧ domValid d = true ∧
      domUlLearn d = false ∧ k = domPart d ∧ s.lookup k bd f.dst = some key ∧ s.entry? key = some e ∧ e.dkind = 0 ∧ x = flowIndex (e.flow
      / 2 ^ 18) (e.flow / 4) (s.subOf (e.flow / 2 ^ 18) (e.flow / 4 % 65536) f) ∧ c = s.flowCtx x ∧ c.valid = true ∧ c.dsEn = true ∧ q =
      c.queue ∧ (s.tqueue q).valid = true ∧ s.qBase (x / 2 ^ 18) ≤ q ∧ q < s.qBase (x / 2 ^ 18) + s.dsQueues (x / 2 ^ 18) ∧ (s.tqueue
      q).term < s.maxTerms (x / 2 ^ 18) ∧ poolTakes (s.tqueue q).pool f.cells.length s = true) ∧
    (∃ (s : State) (id : Nat) (r : List Nat) (f : Frame), s.forwards = true ∧ s.fwd.ingress = id :: r ∧ s.frame id = some f ∧ (s.partsOf
      f).all s.partOn = true ∧ f.up = true ∧ (s.flowCtx (flowIndex (f.src - 16) f.tport (s.subOf (f.src - 16) f.tport f))).valid = false) ∧
    (∃ (s : State), s.forwards = true ∧ s.fwd.ingress ≠ [] ∧ s.on F.FWD_HOLD_STAT_HOLDING = false) ∧
    (∃ (s : State) (k : Nat) (e : BEntry), s.entry? k = some e ∧ SMap.find? s.fwd.brOld k = none) :=
  ⟨
    ⟨(withEntry (bentry 0x222 5 400) (fwd0 true 16)), 7, [], (frame7 true 16), 400, 0, 0, (keyOf upl0 0x222),
      ({ FlowCtx.empty with w0 := 15 + 5 * 2 ^ 4 + 5 * 2 ^ 18, w1 := 3 + 2 * 2 ^ 40 }), 1, (bentry 0x222 5 400), by decide +kernel⟩,
    ⟨(withEntry (bentry 0x111 5 400) (fwd0 false 0)), 7, [], (frame7 false 0), 5, 400, 3, 0, (keyOf upl0 0x111),
      ({ FlowCtx.empty with w0 := 15 + 5 * 2 ^ 4 + 5 * 2 ^ 18, w1 := 3 + 2 * 2 ^ 40 }), 1, (bentry 0x111 5 400), by decide +kernel⟩,
    ⟨((fwd0 true 16).modFwd fun f => { f with flows := [] }), 7, [], (frame7 true 16), by decide +kernel⟩,
    ⟨(fwd0 true 16), by decide +kernel⟩,
    ⟨(withEntry (bentry 0x222 5 400) upl0), (keyOf upl0 0x222), (bentry 0x222 5 400), by decide +kernel⟩⟩

theorem test_wit_LearningAndChurn :
    (∃ (s : State) (k : Nat) (mac : Nat) (bd : Nat) (o : Nat) (fl : Nat) (ul : Nat) (dk : Nat) (key : Nat) (r : List LearnReq), s.works =
      true ∧ k < 4 ∧ s.inService (40 + k) = true ∧ (s.part k).queue = .learn mac bd o fl ul dk :: r ∧ s.lookup k bd mac = none ∧
      (ownersOf o).any s.atLimit = false ∧ ((s.bucketKeys k (s.bucketOf k bd mac)).all (fun x => !((s.entry? x).map BEntry.bad).getD
      false) = true) ∧ ((s.bucketKeys k (s.bucketOf k bd mac)).find? (fun x => (s.entry? x).isNone) = some key)) ∧
    (∃ (s : State) (k : Nat) (key : Nat) (x : Nat) (w : List Nat) (r : List LearnReq) (e : BEntry), s.works = true ∧ k < 4 ∧ s.inService
      (40 + k) = true ∧ (s.part k).queue = .host 0 2 key w :: r ∧ s.lookup k (slice key 48 14) (key % 2 ^ 48) = some x ∧ s.entry? x =
      some e ∧ hasBit (w.getD 0 0) 62 = true ∧ hasBit (w.getD 0 0) 63 = true) ∧
    (∃ (s : State) (k : Nat) (key : Nat) (b : Nat) (e : BEntry), s.works = true ∧ k < 4 ∧ s.partOn k = true ∧ (s.part k).bucketsDone =
      false ∧ b = s.rd (F.FWD_CHURN_STAT_POS k) ∧ key ∈ s.bucketKeys k b ∧ s.entry? key = some e ∧ e.bad = false ∧ e.static = false ∧
      e.hit = true ∧ (e.stale && s.fwd.saved.contains key) = false) ∧
    (∃ (s : State) (k : Nat) (key : Nat) (b : Nat) (e : BEntry), s.works = true ∧ k < 4 ∧ s.partOn k = true ∧ (s.part k).bucketsDone =
      false ∧ b = s.rd (F.FWD_CHURN_STAT_POS k) ∧ key ∈ s.bucketKeys k b ∧ s.entry? key = some e ∧ e.bad = false ∧ e.static = false ∧
      e.hit = false ∧ e.stale = false) ∧
    (∃ (s : State) (k : Nat) (key : Nat) (b : Nat) (e : BEntry), s.works = true ∧ k < 4 ∧ s.partOn k = true ∧ (s.part k).bucketsDone =
      false ∧ b = s.rd (F.FWD_CHURN_STAT_POS k) ∧ key ∈ s.bucketKeys k b ∧ s.entry? key = some e ∧ e.bad = false ∧ e.static = false ∧
      e.hit = false ∧ e.stale = true ∧ s.rd (F.FWD_PART_CFG_AGE_S k) ≠ 0) ∧
    (∃ (s : State) (k : Nat) (x : Nat), s.works = true ∧ k < 4 ∧ s.partOn k = true ∧ (s.part k).flowsDone = false ∧ x = 2 ^ 21 * k +
      (s.part k).churnFlow ∧ (s.flowCtx x).valid = true ∧ (s.flowCtx x).hit = true) ∧
    (∃ (s : State) (k : Nat) (o : Nat) (lo : Nat) (tk : Nat), s.works = true ∧ k < 4 ∧ s.partOn k = true ∧ (s.part k).flush = some (o,
      lo, tk)) :=
  ⟨
    ⟨(upl0.modOwner 5 (fun w => { w with limit := 10 }) |>.modOwner 16384 (fun w => { w with limit := 10 }) |>.modPart 0 fun p =>
      { p with queue := [.learn 0x222 5 5 400 0 0] }), 0, 0x222, 5, 5, 400, 0, 0, (keyOf upl0 0x222), [], by decide +kernel⟩,
    ⟨((withEntry (bentry 0x222 5 400) upl0).modPart 0 fun p => { p with queue := [.host 0 2 (0x222 + 5 * 2 ^ 48) [3 * 2 ^ 62, 0]] }), 0,
      (0x222 + 5 * 2 ^ 48), (keyOf upl0 0x222), ([3 * 2 ^ 62, 0]), [], (bentry 0x222 5 400), by decide +kernel⟩,
    ⟨((withEntry ({ bentry 0x222 5 400 with hit := true }) upl0).wr (F.FWD_CHURN_STAT_POS 0) (upl0.bucketOf 0 5 0x222)), 0, (keyOf upl0
      0x222), (upl0.bucketOf 0 5 0x222), ({ bentry 0x222 5 400 with hit := true }), by decide +kernel⟩,
    ⟨((withEntry ({ bentry 0x222 5 400 with hit := false }) upl0).wr (F.FWD_CHURN_STAT_POS 0) (upl0.bucketOf 0 5 0x222)), 0, (keyOf upl0
      0x222), (upl0.bucketOf 0 5 0x222), ({ bentry 0x222 5 400 with hit := false }), by decide +kernel⟩,
    ⟨(((withEntry ({ bentry 0x222 5 400 with stale := true }) upl0).wr (F.FWD_CHURN_STAT_POS 0) (upl0.bucketOf 0 5 0x222)).wr
      (F.FWD_PART_CFG_AGE_S 0) 300), 0, (keyOf upl0 0x222), (upl0.bucketOf 0 5 0x222), ({ bentry 0x222 5 400 with stale := true }),
      by decide +kernel⟩,
    ⟨(upl0.modFlow 0 fun c => { c with w0 := 1, hit := true }), 0, 0, by decide +kernel⟩,
    ⟨((withEntry (bentry 0x222 5 400) upl0).modPart 0 fun p => { p with flush := some (5, 0, 0) }), 0, 5, 0, 0, by decide +kernel⟩⟩

theorem test_wit_ForwardingTables :
    (∃ (s : State) (tb : Nat) (key : Nat), s.hostReady = true ∧ s.on F.FWD_TBL_STAT_BUSY = false ∧ key < 2 ^ 64 ∧ ((keyPart s tb 1
      key).all (fun k => s.joined (40 + k)) = true) ∧ keyOk s tb 1 key = true ∧ 2 ≤ tb ∧ tb < 8) ∧
    (∃ (s : State) (tb : Nat) (key : Nat), s.hostReady = true ∧ s.on F.FWD_TBL_STAT_BUSY = false ∧ key < 2 ^ 64 ∧ ((keyPart s tb 2
      key).all (fun k => s.joined (40 + k)) = true) ∧ keyOk s tb 2 key = true ∧ (tb = 3 ∨ tb = 4 ∨ tb = 5 ∨ tb = 7)) ∧
    (∃ (s : State) (k : Nat) (key : Nat), s.hostReady = true ∧ s.on F.FWD_TBL_STAT_BUSY = false ∧ key < 2 ^ 62 ∧ k = domPart (s.domain
      (slice key 48 14)) ∧ s.joined (40 + k) = true) ∧
    (∃ (s : State) (k : Nat) (key : Nat), s.hostReady = true ∧ s.on F.FWD_TBL_STAT_BUSY = false ∧ key < 2 ^ 62 ∧ k = domPart (s.domain
      (slice key 48 14)) ∧ s.joined (40 + k) = true) ∧
    (∃ (s : State) (k : Nat) (key : Nat), s.hostReady = true ∧ s.on F.FWD_TBL_STAT_BUSY = false ∧ key < 2 ^ 62 ∧ k = domPart (s.domain
      (slice key 48 14)) ∧ s.joined (40 + k) = true) ∧
    (∃ (s : State) (k : Nat) (key : Nat), s.hostReady = true ∧ s.on F.FWD_TBL_STAT_BUSY = false ∧ key < 2 ^ 18 ∧ keyOk s 0 4 key = true ∧
      k = slice key 16 2 ∧ s.joined (40 + k) = true ∧ (s.part k).flush = none) ∧
    (∃ (s : State) (tb : Nat), s.hostReady = true ∧ s.on F.FWD_TBL_STAT_BUSY = false ∧ 0 < tb ∧ tb < 8) ∧
    (∃ (s : State), s.hostReady = true ∧ s.on F.FWD_TBL_STAT_BUSY = true) ∧
    (∃ (s : State), s.hostReady = true ∧ s.on F.FWD_TBL_STAT_BUSY = true) ∧
    (∃ (s : State), s.hostReady = true ∧ s.on F.FWD_TBL_STAT_BUSY = true) ∧
    (∃ (s : State), s.hostReady = true ∧ s.on F.FWD_TBL_STAT_BUSY = true) :=
  ⟨
    ⟨upl0, 3, 5, by decide +kernel⟩,
    ⟨upl0, 3, 5, by decide +kernel⟩,
    ⟨upl0, 0, (0x222 + 5 * 2 ^ 48), by decide +kernel⟩,
    ⟨upl0, 0, (0x222 + 5 * 2 ^ 48), by decide +kernel⟩,
    ⟨upl0, 0, (0x222 + 5 * 2 ^ 48), by decide +kernel⟩,
    ⟨upl0, 0, 5, by decide +kernel⟩,
    ⟨upl0, 7, by decide +kernel⟩,
    ⟨(upl0.wr F.FWD_TBL_STAT_BUSY 1), by decide +kernel⟩,
    ⟨(upl0.wr F.FWD_TBL_STAT_BUSY 1), by decide +kernel⟩,
    ⟨(upl0.wr F.FWD_TBL_STAT_BUSY 1), by decide +kernel⟩,
    ⟨(upl0.wr F.FWD_TBL_STAT_BUSY 1), by decide +kernel⟩⟩

theorem test_wit_CellsAndPools :
    (∃ (s : State) (u : State) (f : Frame) (p : Nat) (k : Nat), s.forwards = true ∧ nextAlloc s = some (f, u) ∧ p = u.rd
      (F.BPM_ING_MAP_POOL f.src) ∧ k = cellsFor f.len ∧ f.up = false ∧ poolTakes p k u = true ∧ k ≤ (allocCells u).1 ∧ u.freeCells < 2 ^
      26) ∧
    (∃ (s : State) (u : State) (f : Frame) (p : Nat) (k : Nat), s.forwards = true ∧ nextAlloc s = some (f, u) ∧ p = u.rd
      (F.BPM_ING_MAP_POOL f.src) ∧ k = cellsFor f.len ∧ poolTakes p k u = false ∧ p < 64) ∧
    (∃ (s : State) (u : State) (f : Frame) (p : Nat) (k : Nat), s.forwards = true ∧ nextAlloc s = some (f, u) ∧ p = u.rd
      (F.BPM_ING_MAP_POOL f.src) ∧ k = cellsFor f.len ∧ poolTakes p k u = true ∧ (allocCells u).1 < k ∧ p < 64) ∧
    (∃ (s : State) (u : State) (f : Frame), nextAlloc s = some (f, u)) ∧
    (∃ (s : State) (c : Nat) (x : Nat) (m : CellMeta) (f : Frame), s.works = true ∧ x < 2 ^ 24 ∧ SMap.find? s.bpm.cells c = some m ∧
      freeAct c x (some m) = .free ∧ s.frame c = some f ∧ f.cells = [c] ∧ s.freeCells + 1 < 2 ^ 26 ∧ s.on F.BPM_FS_STAT_RING = false) ∧
    (∃ (s : State) (c : Nat) (x : Nat) (k : Nat), s.works = true ∧ x < 2 ^ 24 ∧ c < 2 ^ 25 ∧ freeAct c x (SMap.find? s.bpm.cells c) =
      .refuse k ∧ k < 8) ∧
    (∃ (s : State) (p : Nat), s.hostReady = true ∧ p = s.rd F.BPM_FS_CFG_HOST_POOL ∧ poolTakes p 1 s = true ∧ 0 < (allocCells s).1 ∧
      s.freeCells < 2 ^ 26) ∧
    (∃ (s : State), s.hostReady = true ∧ (poolTakes (s.rd F.BPM_FS_CFG_HOST_POOL) 1 s = false ∨ (allocCells s).1 = 0)) ∧
    (∃ (s : State) (c : Nat) (m : CellMeta), s.hostReady = true ∧ c < 33554432 ∧ SMap.find? s.bpm.cells c = some m ∧ m.owners = 1 ∧
      m.last = tagHost ∧ m.lastPend = false ∧ s.frame c = none ∧ s.freeCells + 1 < 2 ^ 26 ∧ s.on F.BPM_FS_STAT_RING = false) :=
  ⟨
    ⟨((upl0.modBpm fun b => { b with turn := [{ frame7 false 0 with cells := [], len := 300 }] })), upl0,
      ({ frame7 false 0 with cells := [], len := 300 }), 0, 2, by decide +kernel⟩,
    ⟨({ lite with bpm := { lite.bpm with turn := [frame7 false 0] } }), lite, (frame7 false 0), 0, 1, by decide +kernel⟩,
    ⟨(((upl0.modBpm fun b => { b with turn := [{ frame7 false 0 with cells := [], len := 300 }] }).wr F.BPM_FS_STAT_FREE 1)), (upl0.wr
      F.BPM_FS_STAT_FREE 1), ({ frame7 false 0 with cells := [], len := 300 }), 0, 2, by decide +kernel⟩,
    ⟨((upl0.modBpm fun b => { b with turn := [{ frame7 false 0 with cells := [], len := 300 }] })), upl0,
      ({ frame7 false 0 with cells := [], len := 300 }), by decide +kernel⟩,
    ⟨(fwd0 false 0), 7, (tagIngress 0), (⟨0, 1, tagIngress 0, false, 0⟩), (frame7 false 0), by decide +kernel⟩,
    ⟨(fwd0 false 0), 8, tagHost, 1, by decide +kernel⟩,
    ⟨upl0, 0, by decide +kernel⟩,
    ⟨lite, by decide +kernel⟩,
    ⟨(upl0.modBpm fun b => { b with cells := [(9, ⟨0, 1, tagHost, false, 0⟩)] }), 9, (⟨0, 1, tagHost, false, 0⟩), by decide +kernel⟩⟩

theorem test_wit_TrafficTables :
    (∃ (s : State) (tb : Nat) (i : Nat), s.hostReady = true ∧ tb < 5 ∧ i < 2 ^ 20 ∧ indexOk s tb i = true ∧ (tb < 3 → s.joined (44 +
      s.halfOf tb i) = true)) ∧
    (∃ (s : State) (tb : Nat) (i : Nat) (h : Nat) (l : List (Nat × Nat × List Nat)), s.hostReady = true ∧ tb < 5 ∧ i < 2 ^ 20 ∧ indexOk s
      tb i = true ∧ (tb < 3 → s.joined (44 + s.halfOf tb i) = true) ∧ tb < 3 ∧ h = s.halfOf tb i ∧ (l = (SMap.getD s.tmg.shadow h
      []).filter (fun e => !(e.1 == tb && e.2.1 == i))) ∧ s.locked (44 + h) = false ∧ l.length < 4096) ∧
    (∃ (s : State) (tb : Nat) (i : Nat), s.hostReady = true ∧ tb < 5 ∧ i < 2 ^ 20 ∧ indexOk s tb i = true ∧ (tb < 3 → s.joined (44 +
      s.halfOf tb i) = true) ∧ 3 ≤ tb) ∧
    (∃ (s : State) (tb : Nat) (i : Nat), s.hostReady = true ∧ tb < 8 ∧ i < 2 ^ 20 ∧ (4 < tb ∨ indexOk s tb i = false)) ∧
    (∃ (s : State) (tb : Nat) (i : Nat), s.hostReady = true ∧ tb < 8 ∧ i < 2 ^ 20 ∧ (4 < tb ∨ indexOk s tb i = false)) :=
  ⟨
    ⟨upl0, 2, 0, by decide +kernel⟩,
    ⟨upl0, 2, 0, 0, [], by decide +kernel⟩,
    ⟨upl0, 4, 127, by decide +kernel⟩,
    ⟨upl0, 4, 128, by decide +kernel⟩,
    ⟨upl0, 4, 128, by decide +kernel⟩⟩

theorem test_wit_CipherRequests :
    (∃ (s : State) (r : CipherReq), s.works = true ∧ nextReq s = some r ∧ checkReq s r = 0 ∧ s.barred r = false ∧ s.cph.running.length <
      s.lanes) ∧
    (∃ (s : State) (r : CipherReq) (k : Nat), s.works = true ∧ nextReq s = some r ∧ checkReq s r = k ∧ k ≠ 0 ∧ r.prio = 5) ∧
    (∃ (s : State) (i : Nat) (r : CipherRun), s.works = true ∧ s.cph.running[i]? = some r ∧ r.req.prio = 1 ∧ r.ofKey (s.kslot r.req.slot)
      true = false ∧ r.ofKey (s.kslot r.req.slot) false = true) ∧
    (∃ (s : State) (i : Nat) (r : CipherRun), s.works = true ∧ s.cph.running[i]? = some r ∧ r.req.prio = 1 ∧ r.ofKey (s.kslot r.req.slot)
      true = true) ∧
    (∃ (s : State) (u : State) (i : Nat) (r : CipherRun), s.works = true ∧ s.cph.running[i]? = some r ∧ r.req.prio = 5 ∧ r.req.job =
      CipherJob.data ∧ r.req.mode = 4 ∧ r.req.decrypt = false ∧ s.heldReq r.req = false ∧ u = showLanes (countUse r
      { s with cph := { s.cph with running := s.cph.running.eraseIdx i } }) ∧ r.ofKey (s.kslot r.req.slot) true = false ∧ r.ofKey
      (s.kslot r.req.slot) false = true) ∧
    (∃ (s : State) (u : State) (i : Nat) (r : CipherRun), s.works = true ∧ s.cph.running[i]? = some r ∧ r.req.prio = 5 ∧ r.req.job =
      CipherJob.data ∧ r.req.mode = 2 ∧ r.req.decrypt = true ∧ s.heldReq r.req = false ∧ u = showLanes (countUse r
      { s with cph := { s.cph with running := s.cph.running.eraseIdx i } })) ∧
    (∃ (s : State) (i : Nat) (r : CipherRun), s.works = true ∧ s.cph.running[i]? = some r ∧ s.heldReq r.req = true) ∧
    (∃ (s : State) (r : Nat) (a : Nat) (len : Nat), r < 14 ∧ 0 < len ∧ a % 64 + len ≤ 64 ∧ s.stackCalm a = true ∧ a < 2 ^ 35) ∧
    (∃ (s : State) (a : Nat) (g : Nat) (len : Nat), s.hostReady = true ∧ a < 256 ∧ g < 65536 ∧ len < 2 ^ 17 ∧ ((s.cph.waiting.filter fun
      q => q.prio == 5).length < 16) ∧ SMap.getD s.cph.seqs a 0 < 65536) ∧
    (∃ (s : State) (a : Nat) (g : Nat) (len : Nat), s.hostReady = true ∧ a < 256 ∧ g < 65536 ∧ len < 2 ^ 17 ∧ ((s.cph.waiting.filter fun
      q => q.prio == 5).length < 16) ∧ SMap.getD s.cph.seqs a 0 < 65536) ∧
    (∃ (s : State) (a : Nat) (g : Nat) (len : Nat), s.hostReady = true ∧ a < 256 ∧ g < 65536 ∧ len < 2 ^ 17 ∧ ((s.cph.waiting.filter fun
      q => q.prio == 5).length < 16) ∧ SMap.getD s.cph.seqs a 0 < 65536) ∧
    (∃ (s : State) (a : Nat) (g : Nat) (len : Nat), s.hostReady = true ∧ a < 256 ∧ g < 65536 ∧ len < 2 ^ 17 ∧ ((s.cph.waiting.filter fun
      q => q.prio == 5).length < 16) ∧ SMap.getD s.cph.seqs a 0 < 65536) ∧
    (∃ (s : State) (a : Nat) (g : Nat) (len : Nat), s.hostReady = true ∧ a < 256 ∧ g < 65536 ∧ len < 2 ^ 17 ∧ (16 ≤ (s.cph.waiting.filter
      fun q => q.prio == 5).length)) ∧
    (∃ (s : State) (x : HostResult) (r : List HostResult), s.hostReady = true ∧ s.cph.results = x :: r) ∧
    (∃ (s : State) (n : Nat) (b : Nat) (tm : Nat) (q : Nat) (id : Nat) (flow : Nat) (k : Nat) (tu : Nat × Nat) (qt : Nat × Nat) (r : List
      (Nat × Nat)) (f : Frame), n < 32 ∧ s.serving n = true ∧ s.halfOn n = true ∧ (s.tree n).handed = false ∧ 0 < b ∧ eligible (s.ttree
      n).rate (s.ttree n).tokens = true ∧ (roundRobin (SMap.getD (s.ttree n).turn 1 (0, 0)) (fun y => (s.tnode (512 * n + y)).weight)
      (readyTerms s n 1) = some (tm, tu)) ∧ pickQueue s n tm = some (q, qt) ∧ (s.tqueue q).frames = (id, flow) :: r ∧ s.frame id = some f
      ∧ b ≤ f.len ∧ dsSlot s flow ((s.rd (F.FRM_SFC_SFC n) + 1) % 2 ^ 51) = some k ∧ (∀ m < 16, s.on (F.OBS_MIRROR_EN m) = false)) ∧
    (∃ (s : State) (a : Nat) (g : Nat) (len : Nat), s.hostReady = true ∧ a < 256 ∧ g < 65536 ∧ len < 2 ^ 17 ∧ (16 ≤ (s.cph.waiting.filter
      fun q => q.prio == 5).length)) ∧
    (∃ (s : State) (a : Nat) (g : Nat) (len : Nat), s.hostReady = true ∧ a < 256 ∧ g < 65536 ∧ len < 2 ^ 17 ∧ (16 ≤ (s.cph.waiting.filter
      fun q => q.prio == 5).length)) ∧
    (∃ (s : State) (a : Nat) (g : Nat) (len : Nat), s.hostReady = true ∧ a < 256 ∧ g < 65536 ∧ len < 2 ^ 17 ∧ (16 ≤ (s.cph.waiting.filter
      fun q => q.prio == 5).length)) ∧
    (∃ (s : State) (r : CipherReq) (n : Nat) (m : Msg), s.works = true ∧ nextReq s = some r ∧ checkReq s r = 0 ∧ s.cph.running.length <
      s.lanes ∧ r.job = CipherJob.check (some (n, m))) ∧
    (∃ (s : State) (r : CipherReq) (n : Nat) (x : Nat) (k : Nat) (f : List Nat) (w : Win), s.works = true ∧ nextReq s = some r ∧ checkReq
      s r = 0 ∧ r.job = CipherJob.report n x k f w ∧ (s.kterm (512 * n + x)).kek = none ∧ n < 32 ∧ x < 512) ∧
    (∃ (s : State) (r : CipherReq) (i : KeyImport), s.works = true ∧ nextReq s = some r ∧ checkReq s r = 0 ∧ r.job = CipherJob.unwrap ∧
      s.cph.imp = some i ∧ importCode s i (s.wrapKey r.slot) ≠ 0) :=
  ⟨
    ⟨(cph0.modCph fun c => { c with waiting := [hreq0] }), hreq0, by decide +kernel⟩,
    ⟨(upl0.modCph fun c => { c with waiting := [hreq0] }), hreq0, 5, by decide +kernel⟩,
    ⟨((fwd0 true 16).modCph fun c => { c with running := [⟨payReq, [], false, false, 0, false⟩] }), 0, (⟨payReq, [], false, false, 0,
      false⟩), by decide +kernel⟩,
    ⟨((fwd0 true 16).modCph fun c => { c with running := [⟨payReq, [], true, false, 0, false⟩] }), 0, (⟨payReq, [], true, false, 0,
      false⟩), by decide +kernel⟩,
    ⟨(cph0.modCph fun c => { c with running := [⟨hreq0, List.replicate 16 0, false, false, 0, false⟩] }), (showLanes (countUse (⟨hreq0,
      List.replicate 16 0, false, false, 0, false⟩)
      { (cph0.modCph fun c => { c with running := [⟨hreq0, List.replicate 16 0, false, false, 0, false⟩] }) with cph := { State.cph (cph0.modCph fun c => { c with running := [⟨hreq0, List.replicate 16 0, false, false, 0, false⟩] }) with running := [] } })),
      0, (⟨hreq0, List.replicate 16 0, false, false, 0, false⟩), by decide +kernel⟩,
    ⟨(cph0.modCph fun c =>
      { c with running := [⟨{ hreq0 with mode := 2, decrypt := true, len := 16 }, List.replicate 16 0, false, false, 0, false⟩] }),
      (showLanes (countUse (⟨{ hreq0 with mode := 2, decrypt := true, len := 16 }, List.replicate 16 0, false, false, 0, false⟩)
      { (cph0.modCph fun c => { c with running := [⟨{ hreq0 with mode := 2, decrypt := true, len := 16 }, List.replicate 16 0, false, false, 0, false⟩] }) with cph := { State.cph (cph0.modCph fun c => { c with running := [⟨{ hreq0 with mode := 2, decrypt := true, len := 16 }, List.replicate 16 0, false, false, 0, false⟩] }) with running := [] } })),
      0, (⟨{ hreq0 with mode := 2, decrypt := true, len := 16 }, List.replicate 16 0, false, false, 0, false⟩), by decide +kernel⟩,
    ⟨({ (cph0.modCph fun c => { c with running := [⟨{ hreq0 with mode := 2, decrypt := true, len := 16 }, List.replicate 16 0, false, false, 0, false⟩] }) with drc := { lite.drc with unzeroed := 2 ^ 24 } }),
      0, (⟨{ hreq0 with mode := 2, decrypt := true, len := 16 }, List.replicate 16 0, false, false, 0, false⟩), by decide +kernel⟩,
    ⟨lite, 10, 0x304, 4, by decide +kernel⟩,
    ⟨cph0, 5, 65535, 131071, by decide +kernel⟩,
    ⟨cph0, 5, 65535, 131071, by decide +kernel⟩,
    ⟨cph0, 5, 65535, 131071, by decide +kernel⟩,
    ⟨cph0, 5, 65535, 131071, by decide +kernel⟩,
    ⟨(cph0.modCph fun c => { c with waiting := List.replicate 16 hreq0 }), 5, 65535, 131071, by decide +kernel⟩,
    ⟨(cph0.modCph fun c => { c with results := [⟨9, 0, 5⟩] }), (⟨9, 0, 5⟩), [], by decide +kernel⟩,
    ⟨((let a := (fwd0 false 0).modQueue 3 (fun q => { q with frames := [(7, 400)], depth := 1, tokens := 0 }); (((a.wr (F.TPA_CTRL_ENABLE
      0) 1).wr (F.TPA_STAT_MEN 0) 1).wr (F.TPA_STAT_BEN 0) 1).wr (F.TPA_STAT_PHASE 0) 3)), 0, 100, 5, 3, 7, 400, 10, ((5, 0)), ((3, 0)),
      [], (frame7 false 0), by decide +kernel⟩,
    ⟨(cph0.modCph fun c => { c with waiting := List.replicate 16 hreq0 }), 5, 65535, 131071, by decide +kernel⟩,
    ⟨(cph0.modCph fun c => { c with waiting := List.replicate 16 hreq0 }), 5, 65535, 131071, by decide +kernel⟩,
    ⟨(cph0.modCph fun c => { c with waiting := List.replicate 16 hreq0 }), 5, 65535, 131071, by decide +kernel⟩,
    ⟨(cph0.modCph fun c => { c with waiting := [{ messageReq with job := .check (some (0, ⟨3, 11, 5, 0, []⟩)) }] }),
      ({ messageReq with job := .check (some (0, ⟨3, 11, 5, 0, []⟩)) }), 0, (⟨3, 11, 5, 0, []⟩), by decide +kernel⟩,
    ⟨(cph0.modCph fun c => { c with waiting := [{ hreq0 with prio := 3, slot := 0, job := .report 0 5 1 [] win0 }] }),
      ({ hreq0 with prio := 3, slot := 0, job := .report 0 5 1 [] win0 }), 0, 5, 1, [], win0, by decide +kernel⟩,
    ⟨(cph0.modCph fun c =>
      { c with imp := some ⟨2, 10, 3, false⟩, waiting := [{ hreq0 with prio := 4, slot := 36867, blocks := 12, job := .unwrap }] }),
      ({ hreq0 with prio := 4, slot := 36867, blocks := 12, job := .unwrap }), (⟨2, 10, 3, false⟩), by decide +kernel⟩⟩

theorem test_wit_KeyImportsAndSlots :
    (∃ (s : State) (k : Nat) (w : Nat), s.hostReady = true ∧ s.on F.CPH_IMPORT_STAT_BUSY = false ∧ k < 65536 ∧ w < 256) ∧
    (∃ (s : State) (k : Nat) (w : Nat), s.hostReady = true ∧ s.on F.CPH_IMPORT_STAT_BUSY = false ∧ k < 65536 ∧ w < 256) ∧
    (∃ (s : State) (k : Nat) (w : Nat), s.hostReady = true ∧ s.on F.CPH_IMPORT_STAT_BUSY = false ∧ k < 65536 ∧ w < 256) ∧
    (∃ (s : State) (k : Nat) (w : Nat), s.hostReady = true ∧ s.on F.CPH_IMPORT_STAT_BUSY = false ∧ k < 65536 ∧ w < 256) ∧
    (∃ (s : State) (u : State) (j : Nat) (r : CipherRun) (i : KeyImport) (o : Nat × List Nat), s.works = true ∧ (s.cph.running.findIdx?
      (fun r => r.req.job == CipherJob.unwrap) = some j) ∧ s.cph.running[j]? = some r ∧ r.req.prio = 4 ∧ s.cph.imp = some i ∧ (i.typ = 2
      ∨ i.typ = 3) ∧ u = showLanes (countUse r { s with cph := { s.cph with running := s.cph.running.eraseIdx j } }) ∧ o = importOutcome
      u i r.key) ∧
    (∃ (s : State), s.works = true ∧ (s.cph.running.findIdx? (fun r => r.req.job == CipherJob.unwrap) = none)) ∧
    (∃ (s : State) (i : Nat) (n : Nat) (x : Nat) (k : Nat) (f : List Nat) (r : CipherRun) (w : Win), s.works = true ∧ s.cph.running[i]? =
      some r ∧ r.req.prio = 3 ∧ r.req.job = CipherJob.report n x k f w ∧ (s.kslot (slotTerm n x k)).state ≠ 3 ∧ (s.kslot (slotTerm n x
      k)).staged = none) ∧
    (∃ (s : State) (k : Nat), s.hostReady = true ∧ (k < 36864 ∨ (36867 < k ∧ k < 37120))) ∧
    (∃ (s : State) (k : Nat), s.hostReady = true ∧ 36864 ≤ k ∧ k < 36868) ∧
    (∃ (s : State) (k : Nat), s.works = true ∧ (s.kslot k).state = 3 ∧ ((s.cph.running.any fun r => r.req.slot == k) = false)) ∧
    (∃ (s : State) (k : Nat) (b : Nat) (c : Nat) (y : List Nat), s.works = true ∧ (s.kslot k).prev = some (y, b, c) ∧ c + 16 ≤ s.ticks) ∧
    (∃ (s : State) (x : Nat) (i : Nat), s.hostReady = true ∧ x < 16384 ∧ i < 2) ∧
    (∃ (s : State) (x : Nat) (i : Nat), s.hostReady = true ∧ x < 16384 ∧ i < 2) ∧
    (∃ (s : State) (b : Nat) (w : Nat), s.hostReady = true ∧ b < 2048 ∧ w < 2 ^ 24 ∧ ((s.armed (F.CPH_BIND_VALID 0) 4 2048).all (fun o =>
      o == b || bindTree (s.bindWord o) != bindTree w || bindTport (s.bindWord o) != bindTport w) = true ∨ w % 2 = 0)) ∧
    (∃ (s : State) (i : Nat) (n : Nat) (x : Nat) (k : Nat) (f : List Nat) (r : CipherRun) (w : Win), s.works = true ∧ s.cph.running[i]? =
      some r ∧ r.req.prio = 3 ∧ r.req.job = CipherJob.report n x k f w ∧ ((s.kslot (slotTerm n x k)).state = 3 ∨ (s.kslot (slotTerm n x
      k)).staged ≠ none) ∧ n < 32 ∧ x < 512) :=
  ⟨
    ⟨cph0, 65535, 255, by decide +kernel⟩,
    ⟨cph0, 65535, 255, by decide +kernel⟩,
    ⟨cph0, 65535, 255, by decide +kernel⟩,
    ⟨cph0, 65535, 255, by decide +kernel⟩,
    ⟨(cph0.modCph fun c =>
      { c with imp := some ⟨2, 10, 3, false⟩, running := [⟨{ hreq0 with prio := 4, slot := 36867, blocks := 12, job := .unwrap }, List.replicate 16 0, false, false, 0, false⟩] }),
      (showLanes (countUse (⟨{ hreq0 with prio := 4, slot := 36867, blocks := 12, job := .unwrap }, List.replicate 16 0, false, false, 0,
      false⟩)
      { (cph0.modCph fun c => { c with imp := some ⟨2, 10, 3, false⟩, running := [⟨{ hreq0 with prio := 4, slot := 36867, blocks := 12, job := .unwrap }, List.replicate 16 0, false, false, 0, false⟩] }) with cph := { State.cph (cph0.modCph fun c => { c with imp := some ⟨2, 10, 3, false⟩, running := [⟨{ hreq0 with prio := 4, slot := 36867, blocks := 12, job := .unwrap }, List.replicate 16 0, false, false, 0, false⟩] }) with running := [] } })),
      0, (⟨{ hreq0 with prio := 4, slot := 36867, blocks := 12, job := .unwrap }, List.replicate 16 0, false, false, 0, false⟩), (⟨2, 10,
      3, false⟩), ((1, [])), by decide +kernel⟩,
    ⟨cph0, by decide +kernel⟩,
    ⟨(cph0.modCph fun c =>
      { c with running := [⟨{ hreq0 with prio := 3, slot := 0, job := .report 0 5 1 (List.replicate 16 7) win0 }, List.replicate 16 0, false, false, 0, false⟩] }),
      0, 0, 5, 1, (List.replicate 16 7), (⟨{ hreq0 with prio := 3, slot := 0, job := .report 0 5 1 (List.replicate 16 7) win0 },
      List.replicate 16 0, false, false, 0, false⟩), win0, by decide +kernel⟩,
    ⟨cph0, 36869, by decide +kernel⟩,
    ⟨cph0, 36867, by decide +kernel⟩,
    ⟨(cph0.modKey 36869 fun x => { x with state := 3 }), 36869, by decide +kernel⟩,
    ⟨({ cph0 with ticks := 16 }.modKey 36869 fun x => { x with prev := some ([1], 5, 0) }), 36869, 5, 0, [1], by decide +kernel⟩,
    ⟨cph0, 16383, 1, by decide +kernel⟩,
    ⟨cph0, 16383, 1, by decide +kernel⟩,
    ⟨cph0, 2047, 16777215, by decide +kernel⟩,
    ⟨((cph0.modCph fun c =>
      { c with running := [⟨{ hreq0 with prio := 3, slot := 0, job := .report 0 5 1 (List.replicate 16 7) win0 }, List.replicate 16 0, false, false, 0, false⟩] }).modKey
      11 fun x => { x with state := 3 }), 0, 0, 5, 1, (List.replicate 16 7),
      (⟨{ hreq0 with prio := 3, slot := 0, job := .report 0 5 1 (List.replicate 16 7) win0 }, List.replicate 16 0, false, false, 0,
      false⟩), win0, by decide +kernel⟩⟩

theorem test_wit_DramScheduling :
    (∃ (s : State) (r : Nat) (a : Nat) (p : Nat), s.stacks = true ∧ r < 14 ∧ r ≠ 11 ∧ a < 2 ^ 35 ∧ s.releasedSeg (segOf a) = false ∧ p =
      a / 256 % 32 ∧ s.rd (F.DRC_PC_STAT_STATE p) = 0) ∧
    (∃ (s : State) (r : Nat) (a : Nat), s.stacks = true ∧ r < 14 ∧ r ≠ 11 ∧ a < 2 ^ 35 ∧ s.releasedSeg (segOf a) = true) ∧
    (∃ (s : State) (p : Nat) (nr : List Nat) (q : DramReq) (b : List Nat), s.stacks = true ∧ p < 32 ∧ s.rd (F.DRC_PC_STAT_STATE p) = 0 ∧
      s.nextServed p nr false = some q ∧ q.data = some b) ∧
    (∃ (s : State) (p : Nat) (nr : List Nat) (q : DramReq), s.stacks = true ∧ p < 32 ∧ s.rd (F.DRC_PC_STAT_STATE p) = 0 ∧ s.nextServed p
      nr false = some q ∧ q.data = none) ∧
    (∃ (s : State) (p : Nat) (id : Nat), s.stacks = true ∧ ((s.pc p).queue.any (fun q => q.id == id && decide (2 ≤ q.cls)) = true)) ∧
    (∃ (s : State) (r : Nat) (v : Nat), s.works = true ∧ r < 2 ∧ hasBit (s.rd F.DRC_PANIC_STAT_PANIC) r = false ∧ v < s.rd
      (F.DRC_PANIC_CFG_PANIC_LVL r)) ∧
    (∃ (s : State), s.stacks = true ∧ s.ticks % s.rhWindow = 0) ∧
    (∃ (s : State) (a : Nat), s.rd F.DRC_PATROL_CFG_PATROL_H ≠ 0 ∧ (s.drc.patrol ≠ 0 ∨ s.passDue = true) ∧ s.patrolFrom s.drc.patrol =
      some a ∧ a < 2 ^ 35 ∧ s.stackCalm a = true) ∧
    (∃ (s : State) (r : Nat) (a : Nat), r < 14 ∧ a < 2 ^ 35 ∧ s.stackCalm a = true) ∧
    (∃ (s : State) (r : Nat) (a : Nat), r < 14 ∧ a < 2 ^ 35 ∧ s.stackCalm a = true) ∧
    (∃ (s : State), s.drc.patrol = 0 ∧ s.passDue = false) ∧
    (∃ (s : State) (off : Nat) (a : Nat) (p : Nat), s.reach .pcie = true ∧ s.hostIf.pcieMem = .none ∧ s.stacks = true ∧ a = min 56
      (s.hostIf.baseWait.getD (s.rd F.HIF_BAR2_CFG_BASE)) * 0x20000000 + off % 2 ^ 32 ∧ a < 2 ^ 35 ∧ s.releasedSeg (segOf a) = false ∧ p
      = a / 256 % 32 ∧ s.rd (F.DRC_PC_STAT_STATE p) = 0) :=
  ⟨
    ⟨lite, 13, 0x7FFFFFFC0, 31, by decide +kernel⟩,
    ⟨(lite.wr F.DRC_SEG_STAT_RELEASED 2), 13, 0x20000000, by decide +kernel⟩,
    ⟨(lite.modPc 3 fun c => { c with queue := [dreq 4 2 0x300 (some [1, 2])] }), 3, [], (dreq 4 2 0x300 (some [1, 2])), ([1, 2]),
      by decide +kernel⟩,
    ⟨(lite.modPc 3 fun c => { c with queue := [dreq 4 2 0x300 none] }), 3, [], (dreq 4 2 0x300 none), by decide +kernel⟩,
    ⟨(lite.modPc 3 fun c => { c with queue := [dreq 4 2 0x300 none] }), 3, 4, by decide +kernel⟩,
    ⟨(lite.wr (F.DRC_PANIC_CFG_PANIC_LVL 1) 20), 1, 19, by decide +kernel⟩,
    ⟨(lite.wr F.DRC_RH_STAT_THROTTLED 5), by decide +kernel⟩,
    ⟨(lite.wr F.DRC_PATROL_CFG_PATROL_H 24), 0, by decide +kernel⟩,
    ⟨lite, 2, 0x300, by decide +kernel⟩,
    ⟨lite, 2, 0x300, by decide +kernel⟩,
    ⟨((lite.modDrc fun d => { d with patrolAt := some 0 }).wr F.DRC_PATROL_CFG_PATROL_H 24), by decide +kernel⟩,
    ⟨(lite.wr F.HIF_BAR2_CFG_BASE 20), 16, 0x280000010, 0, by decide +kernel⟩⟩

theorem test_wit_DramRefreshAndSegments :
    (∃ (s : State) (p : Nat) (k : Nat) (y : List Nat), s.noRefresh p = false ∧ (s.pc p).idleBank y = some k ∧ k < 16) ∧
    (∃ (s : State) (p : Nat) (y : List Nat), s.noRefresh p = false ∧ (s.pc p).idleBank y = none ∧ s.rd (F.DRC_PC_STAT_OWED p) <
      s.postponeMax) ∧
    (∃ (s : State) (p : Nat) (y : List Nat), s.noRefresh p = false ∧ (s.pc p).idleBank y = none ∧ s.postponeMax ≤ s.rd
      (F.DRC_PC_STAT_OWED p)) ∧
    (∃ (s : State) (p : Nat) (k : Nat) (y : List Nat), s.noRefresh p = false ∧ s.rd (F.DRC_PC_STAT_OWED p) ≠ 0 ∧ (s.pc p).idleBank y =
      some k) ∧
    (∃ (s : State) (p : Nat), s.stacks = true ∧ p < 32 ∧ s.rd (F.DRC_PC_STAT_STATE p) = 0 ∧ (s.mode = mLean ∨ s.mode = mStandby) ∧ s.rd
      F.DRC_SR_CFG_SR_IDLE ≠ 0 ∧ (s.pc p).queue = [] ∧ s.rd (F.DRC_PC_STAT_OWED p) = 0 ∧ s.drc.unzeroed = 0) ∧
    (∃ (s : State) (p : Nat), s.stacks = true ∧ p < 32 ∧ s.rd (F.DRC_PC_STAT_STATE p) = 1 ∧ (s.mode = mLean ∨ s.mode = mStandby)) ∧
    (∃ (s : State) (p : Nat), s.stacks = true ∧ p < 32 ∧ s.rd (F.DRC_PC_STAT_STATE p) = 2 ∧ s.mode ≠ mHolding ∧ (s.pc p).resident = true
      ∧ (s.pc p).queue ≠ []) ∧
    (∃ (s : State) (p : Nat), s.stacks = true ∧ p < 32 ∧ s.rd (F.DRC_PC_STAT_STATE p) = 3) ∧
    (∃ (s : State) (g : Nat), s.stacks = true ∧ g < 64 ∧ s.unzeroedSeg g = true ∧ (∀ k < g, s.unzeroedSeg k = false) ∧ s.busierThan 7 =
      false) ∧
    (∃ (s : State), s.busierThan 7 = true) :=
  ⟨
    ⟨lite, 31, 1, [0], by decide +kernel⟩,
    ⟨(lite.wr F.DRC_REF_CFG_POSTPONE_MAX 4), 31, (List.range 16), by decide +kernel⟩,
    ⟨(lite.wr (F.DRC_PC_STAT_OWED 31) 8), 31, (List.range 16), by decide +kernel⟩,
    ⟨(lite.wr (F.DRC_PC_STAT_OWED 31) 8), 31, 0, [], by decide +kernel⟩,
    ⟨((lite.wr F.PWR_MODE_CUR mLean).wr F.DRC_SR_CFG_SR_IDLE 5), 31, by decide +kernel⟩,
    ⟨((lite.wr F.PWR_MODE_CUR mLean).wr (F.DRC_PC_STAT_STATE 31) 1), 31, by decide +kernel⟩,
    ⟨((lite.wr (F.DRC_PC_STAT_STATE 31) 2).modPc 31 fun c => { c with resident := true, queue := [dreq 4 2 0x1F00 none] }), 31,
      by decide +kernel⟩,
    ⟨(lite.wr (F.DRC_PC_STAT_STATE 31) 3), 31, by decide +kernel⟩,
    ⟨({ lite with drc := { lite.drc with unzeroed := 4 } }.wr F.DRC_SEG_STAT_RELEASED 4), 2, by decide +kernel⟩,
    ⟨((lite.modPc 3 fun c => { c with queue := [dreq 4 2 0x300 none] }).wr F.DRC_SEG_STAT_RELEASED 4), by decide +kernel⟩⟩

theorem test_wit_TimeSources :
    (∃ (s : State) (u : Nat), s.ptpRole u 1 = true) ∧
    (∃ (s : State) (u : Nat), s.ptpRole u 1 = true ∧ (s.ptp u).haveSync = true ∧ (s.ptp u).t1 = none ∧ (s.ptp u).resp = none) ∧
    (∃ (s : State) (u : Nat), s.ptpRole u 1 = true) ∧
    (∃ (s : State) (u : Nat) (t1 : Int) (a : Int) (c : Int) (o : Int), s.ptpRole u 1 = true ∧ (s.ptp u).t1 = some t1 ∧ (s.ptp u).haveSync
      = true ∧ (s.ptp u).haveReq = true ∧ o = (((s.ptp u).t2 - t1 - (s.ptp u).cs) - (a - (s.ptp u).t3 - c)) * 1000 / 131072 -
      (BitVec.ofNat 32 (s.rd (F.TSU_PORT_CFG_ASYM_PS u))).toInt ∧ -2147483648000 ≤ o ∧ o < 2147483648000) ∧
    (∃ (s : State) (u : Nat), s.ptpRole u 2 = true) ∧
    (∃ (s : State) (u : Nat) (k : Nat), s.ptpRole u 2 = true ∧ s.syncHere = some k ∧ (s.ptp u).syncAt ≠ some k) ∧
    (∃ (s : State) (u : Nat), (s.syncHere = none ∨ s.syncHere = (s.ptp u).syncAt)) ∧
    (∃ (s : State), s.works = true ∧ s.fromPtp = true ∧ s.on F.TSU_STAT_PHASE_OK = true ∧ (s.rd F.TSU_STAT_STATE = 1 ∨ s.rd
      F.TSU_STAT_STATE = 2)) ∧
    (∃ (s : State), s.works = true ∧ s.srcMode = 3 ∧ s.on F.TSU_STAT_PHASE_OK = true ∧ (s.rd F.TSU_STAT_STATE = 1 ∨ s.rd F.TSU_STAT_STATE
      = 2)) ∧
    (∃ (s : State), s.works = true ∧ s.srcMode = 2 ∧ s.on F.TSU_STAT_FREQ_OK = true ∧ (s.rd F.TSU_STAT_STATE = 1 ∨ s.rd F.TSU_STAT_STATE
      = 2)) ∧
    (∃ (s : State), s.works = true ∧ s.srcMode = 2 ∧ s.on F.TSU_STAT_FREQ_OK = false ∧ s.on (F.UPL_PORT_STAT_LINK (s.rd
      F.TSU_CTRL_SYNCE_PORT)) = true ∧ s.rd F.TSU_STAT_STATE = 3) ∧
    (∃ (s : State) (u : Nat), s.ptpRole u 1 = true ∧ (s.ptp u).t1 = none ∧ (s.ptp u).haveSync = true ∧ (s.ptp u).haveReq = true) ∧
    (∃ (s : State) (u : Nat) (a : Int) (c : Int) (t3 : Int) (t4 : Int) (d : Int) (o : Int), s.ptpRole u 1 = true ∧ (s.ptp u).t1 = none ∧
      (s.ptp u).haveSync = true ∧ (s.ptp u).resp = some (t3, t4, d) ∧ o = (((s.ptp u).t2 - a - ((s.ptp u).cs + c)) - (t4 - t3 - d)) *
      1000 / 131072 - (BitVec.ofNat 32 (s.rd (F.TSU_PORT_CFG_ASYM_PS u))).toInt ∧ -2147483648000 ≤ o ∧ o < 2147483648000) :=
  ⟨
    ⟨tsu0, 0, by decide +kernel⟩,
    ⟨(tsu0.modPtp 0 fun p => { p with haveSync := true }), 0, by decide +kernel⟩,
    ⟨tsu0, 0, by decide +kernel⟩,
    ⟨(tsu0.modPtp 0 fun p => { p with t1 := some 0, haveSync := true, haveReq := true }), 0, 0, 9000000, 0, (-68665), by decide +kernel⟩,
    ⟨(tsu0.wr (F.TSU_PORT_CFG_ROLE 0) 2), 0, by decide +kernel⟩,
    ⟨(tsu0.wr (F.TSU_PORT_CFG_ROLE 0) 2), 0, 0, by decide +kernel⟩,
    ⟨(tsu0.modTsu fun t => { t with ns := 125000 }), 0, by decide +kernel⟩,
    ⟨((tsu0.wr F.TSU_STAT_PHASE_OK 1).wr F.TSU_STAT_STATE 2), by decide +kernel⟩,
    ⟨(((tsu0.wr F.TSU_STAT_PHASE_OK 1).wr F.TSU_STAT_STATE 2).wr F.TSU_CTRL_SRC_MODE 3), by decide +kernel⟩,
    ⟨(((tsu0.wr F.TSU_STAT_FREQ_OK 1).wr F.TSU_STAT_STATE 2).wr F.TSU_CTRL_SRC_MODE 2), by decide +kernel⟩,
    ⟨((tsu0.wr F.TSU_STAT_STATE 3).wr F.TSU_CTRL_SRC_MODE 2), by decide +kernel⟩,
    ⟨(tsu0.modPtp 0 fun p => { p with haveSync := true, haveReq := true }), 0, by decide +kernel⟩,
    ⟨(tsu0.modPtp 0 fun p => { p with haveSync := true, resp := some (0, 9000000, 0) }), 0, 0, 0, 0, 9000000, 0, (-68665),
      by decide +kernel⟩⟩

theorem test_wit_JumpRuleAndTimeOfDay :
    (∃ (s : State) (o : Int) (r : List Int), s.works = true ∧ s.tsu.meas = o :: r ∧ s.tsu.awaitStep = false ∧ s.tsu.awaitOfs = false ∧
      s.on F.TSU_STAT_PENDING = false ∧ (o - s.tsu.pred).natAbs ≤ s.jumpPs ∧ (s.rd F.TSU_STAT_STATE = 1 ∨ s.rd F.TSU_STAT_STATE = 2) ∧
      (s.lastFreqs.all (fun v => decide (-1200000 ≤ v) && decide (v ≤ 1200000)) = true)) ∧
    (∃ (s : State) (o : Int) (r : List Int), s.works = true ∧ s.tsu.meas = o :: r ∧ s.tsu.awaitStep = false ∧ s.tsu.awaitOfs = false ∧
      s.on F.TSU_STAT_PENDING = false ∧ s.jumpPs < (o - s.tsu.pred).natAbs ∧ s.agreeing ((s.tsu.outliers.drop (s.tsu.outliers.length -
      14)) ++ [o]) = none) ∧
    (∃ (s : State) (o : Int) (r : List Int) (l : List Int), s.works = true ∧ s.tsu.meas = o :: r ∧ s.tsu.awaitStep = false ∧
      s.tsu.awaitOfs = false ∧ s.on F.TSU_STAT_PENDING = false ∧ s.jumpPs < (o - s.tsu.pred).natAbs ∧ s.agreeing ((s.tsu.outliers.drop
      (s.tsu.outliers.length - 14)) ++ [o]) = some l) ∧
    (∃ (s : State), s.hostReady = true ∧ s.on F.TSU_STAT_PENDING = true) ∧
    (∃ (s : State) (u : Nat), s.hostReady = true ∧ s.on F.TSU_STAT_PENDING = true ∧ u = s.rd F.TSU_JUMP_STAT_PORT ∧ u < 16) ∧
    (∃ (s : State), s.hostReady = true ∧ s.on F.TSU_STAT_PENDING = true) ∧
    (∃ (s : State), s.works = true ∧ s.srcMode ≠ 3) ∧
    (∃ (s : State) (c : Nat), s.works = true ∧ s.rd F.TSU_PPS_CFG_PPS_WIDTH_MS ≠ 0 ∧ s.secondHere = some c ∧ s.tsu.isMarked c = false) ∧
    (∃ (s : State) (c : Nat), s.works = true ∧ s.rd F.TSU_PPS_CFG_PPS_WIDTH_MS ≠ 0 ∧ s.secondHere = some c ∧ s.tsu.isMarked c = true) ∧
    (∃ (s : State), s.works = true ∧ s.on F.TSU_PPS_CFG_SER_OUT_EN = true ∧ s.tsu.marked ≠ []) ∧
    (∃ (s : State) (b : List Nat) (c : Nat), s.works = true ∧ b.length = 16 ∧ b.take 2 = [0xC3, 1] ∧ crc8 (b.extract 0 15) = b.getD 15 0
      ∧ c = ofLe (b.extract 2 8) ∧ (s.tsu.ppsSec.all (fun p => c == p + 1) = true)) ∧
    (∃ (s : State) (b : List Nat), s.works = true ∧ b.length = 16 ∧ b.take 2 = [0xC3, 1] ∧ crc8 (b.extract 0 15) ≠ b.getD 15 0) ∧
    (∃ (s : State) (n : Nat) (a : Nat) (v : Nat), s.hostReady = true ∧ n < 32 ∧ 8 ≤ a ∧ a ≤ 8000 ∧ v = (s.todTerm n 0x1FF a).toNat) ∧
    (∃ (s : State) (n : Nat) (x : Nat) (a : Nat), s.hostReady = true ∧ n < 32 ∧ x < 512 ∧ (a < 8 ∨ (8000 < a ∧ a < 8192))) ∧
    (∃ (s : State) (v : Nat), s.hostReady = true ∧ v = (s.todFine + ((s.offsetNs * 2 ^ 40 + Config.instant (s.fresh + 1) % 2 ^ 40 : Nat)
      : Int)).toNat / 2 ^ 24) :=
  ⟨
    ⟨((tsu0.wr F.TSU_STAT_STATE 1).modTsu fun t => { t with meas := [1000], awaitStep := false }), 1000, [], by decide +kernel⟩,
    ⟨((tsu0.wr F.TSU_STAT_STATE 1).modTsu fun t => { t with meas := [9000000], awaitStep := false }), 9000000, [], by decide +kernel⟩,
    ⟨((tsu0.wr F.TSU_STAT_STATE 1).modTsu fun t =>
      { t with meas := [9000000], awaitStep := false, outliers := [9000001, 9000002, 9000003] }), 9000000, [], ([9000001, 9000002,
      9000003, 9000000]), by decide +kernel⟩,
    ⟨((tsu0.wr F.TSU_STAT_PENDING 1).modTsu fun t => { t with step := 5000 }), by decide +kernel⟩,
    ⟨((tsu0.wr F.TSU_STAT_PENDING 1).modTsu fun t => { t with step := 5000 }), 0, by decide +kernel⟩,
    ⟨((tsu0.wr F.TSU_STAT_PENDING 1).modTsu fun t => { t with step := 5000 }), by decide +kernel⟩,
    ⟨tsu0, by decide +kernel⟩,
    ⟨(tsu0.modTsu fun t => { t with sec := 5, ns := 0 }), 5, by decide +kernel⟩,
    ⟨(tsu0.modTsu fun t => { t with sec := 5, ns := 0, marked := [(5, 5)] }), 5, by decide +kernel⟩,
    ⟨(tsu0.modTsu fun t => { t with sec := 5, ns := 0, marked := [(5, 5)] }), by decide +kernel⟩,
    ⟨tsu0, (serMessage tsu0 300), 300, by decide +kernel⟩,
    ⟨tsu0, ((serMessage tsu0 300).take 15 ++ [((serMessage tsu0 300).getD 15 0 + 1) % 256]), by decide +kernel⟩,
    ⟨tsu0, 31, 8000, ((tsu0.todTerm 31 0x1FF 8000).toNat), by decide +kernel⟩,
    ⟨tsu0, 31, 5, 8001, by decide +kernel⟩,
    ⟨tsu0, ((tsu0.todFine + ((tsu0.offsetNs * 2 ^ 40 + Config.instant (tsu0.fresh + 1) % 2 ^ 40 : Nat) : Int)).toNat / 2 ^ 24),
      by decide +kernel, rfl⟩⟩

theorem test_wit_HeartbeatsAndMirror :
    (∃ (s : State) (i : Nat), s.beats i = true ∧ i < 2 ∧ s.on (F.OBS_INJ_STAT_ARMED (48 + i)) = false ∧ (s.link (48 + i)).held = []) ∧
    (∃ (s : State) (b : List Nat) (r : Nat), s.beats 1 = true ∧ s.beatValid b = true ∧ s.on F.PRT_STAT_PATH_B = true ∧ b.getD 1 0 % 2 = 0
      ∧ r = ofLe (b.extract 2 4) / 4096 ∧ r ≠ 1 ∧ (s.role ≠ 1 ∨ s.rd F.PRT_STAT_PEER_ROLE = r)) ∧
    (∃ (s : State) (i : Nat) (b : List Nat), s.beats i = true ∧ i < 2 ∧ s.beatValid b = false) ∧
    (∃ (s : State), s.ticking = true ∧ s.mode ≠ mHolding ∧ s.on F.PRT_STAT_PATH_B = true ∧ s.on F.PRT_STAT_PATH_A = true) ∧
    (∃ (s : State), s.ticking = true ∧ s.mode ≠ mHolding ∧ s.on F.PRT_STAT_PATH_B = true ∧ s.on F.PRT_STAT_PATH_A = false ∧ s.on
      F.PRT_STAT_FENCED = false) ∧
    (∃ (s : State) (a : Nat) (b : Nat) (c : Nat) (d : Nat) (v : Nat) (k : Nat), s.works = true ∧ v = min (s.rd (F.CFG_VER_MAX 2)) b ∧ max
      (s.rd (F.CFG_VER_MIN 2)) a ≤ v ∧ k = min (s.rd (F.CFG_VER_MAX 4)) d ∧ max (s.rd (F.CFG_VER_MIN 4)) c ≤ k) ∧
    (∃ (s : State) (a : Nat) (b : Nat), s.works = true ∧ min (s.rd (F.CFG_VER_MAX 2)) b < max (s.rd (F.CFG_VER_MIN 2)) a) ∧
    (∃ (s : State), s.works = true ∧ s.prt.bulk = true ∧ s.on F.PRT_STAT_PATH_A = true ∧ s.rd F.PRT_STAT_MIRROR = 1) ∧
    (∃ (s : State) (n : Nat) (i : Nat), s.works = true ∧ s.role = 2 ∧ s.on F.PRT_STAT_PATH_A = true ∧ s.prt.oxl ≠ 0 ∧ s.rd
      (F.CFG_VER_AGREED 4) ≠ 0 ∧ n < 32 ∧ i < 4096 ∧ hasBit s.prt.unprot n = false) ∧
    (∃ (s : State), s.works = true ∧ s.revertive = true ∧ s.holdoffS ≤ s.rd F.PRT_STAT_HOLDOFF ∧ s.prt.revertAsked = false ∧ s.on
      F.PRT_STAT_FENCED = false) ∧
    (∃ (s : State), s.ticking = true ∧ s.mode ≠ mHolding ∧ s.on F.PRT_STAT_PATH_A = true ∧ s.on F.PRT_STAT_PATH_B = true) ∧
    (∃ (s : State), s.ticking = true ∧ s.mode ≠ mHolding ∧ s.on F.PRT_STAT_PATH_A = true ∧ s.on F.PRT_STAT_PATH_B = false ∧ s.on
      F.PRT_STAT_FENCED = false) ∧
    (∃ (s : State) (b : List Nat) (r : Nat), s.beats 0 = true ∧ s.beatValid b = true ∧ s.on F.PRT_STAT_PATH_A = true ∧ b.getD 1 0 % 2 = 0
      ∧ r = ofLe (b.extract 2 4) / 4096 ∧ r ≠ 1 ∧ (s.role ≠ 1 ∨ s.rd F.PRT_STAT_PEER_ROLE = r)) ∧
    (∃ (s : State) (b : List Nat) (r : Nat), s.beats 0 = true ∧ s.beatValid b = true ∧ s.on F.PRT_STAT_PATH_A = true ∧ b.getD 1 0 % 2 = 0
      ∧ r = ofLe (b.extract 2 4) / 4096 ∧ r ≠ 1 ∧ s.role = 1 ∧ s.rd F.PRT_STAT_PEER_ROLE ≠ r ∧ s.domClass ≠ 0 ∧ s.on F.PRT_STAT_FENCED =
      false) :=
  ⟨
    ⟨lite, 1, by decide +kernel⟩,
    ⟨((lite.wr F.PRT_STAT_PATH_B 1).wr F.PRT_STAT_ROLE 2), (beatOf 0), 2, by decide +kernel⟩,
    ⟨lite, 0, [1], by decide +kernel⟩,
    ⟨((lite.wr F.PRT_STAT_PATH_B 1).wr F.PRT_STAT_PATH_A 1), by decide +kernel⟩,
    ⟨(lite.wr F.PRT_STAT_PATH_B 1), by decide +kernel⟩,
    ⟨lite, 2, 5, 1, 9, 3, 2, by decide +kernel⟩,
    ⟨lite, 9, 12, by decide +kernel⟩,
    ⟨(((lite.wr F.PRT_STAT_PATH_A 1).wr F.PRT_STAT_MIRROR 1).modPrt fun p => { p with bulk := true }), by decide +kernel⟩,
    ⟨((((lite.wr F.PRT_STAT_PATH_A 1).wr F.PRT_STAT_ROLE 2).wr (F.CFG_VER_AGREED 4) 1).modPrt fun p => { p with oxl := 2 }), 31, 4095,
      by decide +kernel⟩,
    ⟨([(F.PRT_CFG_CLASS, 1), (F.PRT_CFG_REVERTIVE, 1), (F.PRT_CFG_HOME, 1), (F.PRT_STAT_ROLE, 2), (F.PRT_STAT_HOLDOFF, 300)].foldl (fun a
      e => a.wr e.1 e.2) lite), by decide +kernel⟩,
    ⟨(((lite.wr F.PRT_STAT_PATH_B 1).wr F.PRT_STAT_PATH_A 1).wr F.PRT_STAT_MIRROR 2), by decide +kernel⟩,
    ⟨(lite.wr F.PRT_STAT_PATH_A 1), by decide +kernel⟩,
    ⟨((lite.wr F.PRT_STAT_PATH_A 1).wr F.PRT_STAT_ROLE 2), (beatOf 0), 2, by decide +kernel⟩,
    ⟨((lite.wr F.PRT_STAT_PATH_A 1).wr F.PRT_CFG_CLASS 1), (beatOf 0), 2, by decide +kernel⟩⟩

theorem test_wit_Verdicts :
    (∃ (s : State), s.hostReady = true ∧ s.on F.PRT_STAT_REQ_OPEN = false) ∧
    (∃ (s : State), s.hostReady = true ∧ s.on F.PRT_STAT_REQ_OPEN = true) ∧
    (∃ (s : State) (m : List Nat), s.hostReady = true ∧ s.on F.PRT_CFG_ARB_MODE = false ∧ m = s.kapRx ∧ kapAt m 16 1 = 1 ∧ (kapAgree m
      s).kapCheck m = 0) ∧
    (∃ (s : State) (m : List Nat), s.hostReady = true ∧ s.on F.PRT_CFG_ARB_MODE = false ∧ m = s.kapRx ∧ kapAt m 16 1 = 2 ∧ (kapAgree m
      s).kapCheck m = 0) ∧
    (∃ (s : State) (m : List Nat), s.hostReady = true ∧ s.on F.PRT_CFG_ARB_MODE = false ∧ m = s.kapRx ∧ kapAt m 16 1 = 3 ∧ (kapAgree m
      s).kapCheck m = 0) ∧
    (∃ (s : State) (m : List Nat), s.hostReady = true ∧ s.on F.PRT_CFG_ARB_MODE = false ∧ m = s.kapRx ∧ kapAt m 16 1 = 4 ∧ (kapAgree m
      s).kapCheck m = 0) ∧
    (∃ (s : State) (m : List Nat) (c : Nat), s.hostReady = true ∧ s.on F.PRT_CFG_ARB_MODE = false ∧ m = s.kapRx ∧ kapAt m 16 1 = 1 ∧
      (kapAgree m s).kapCheck m = c ∧ c ≠ 0) ∧
    (∃ (s : State), s.ticking = true ∧ s.mode ≠ mHolding ∧ s.on F.PRT_STAT_REQ_OPEN = true ∧ s.verdictMs * 8 ≤ s.prt.reqTicks + 1 ∧ s.on
      F.PRT_STAT_PATH_A = true) ∧
    (∃ (s : State) (v : Verdict), s.prt.verdict = some v ∧ v.due = true ∧ s.ticking = true ∧ s.mode ≠ mHolding ∧ s.pwr.suppress = false ∧
      v.pin = false ∧ s.hub.after = [] ∧ v.code = 3) ∧
    (∃ (s : State) (v : Verdict), s.prt.verdict = some v ∧ v.due = true ∧ s.ticking = true ∧ s.mode ≠ mHolding ∧ s.pwr.suppress = false ∧
      v.pin = false ∧ s.hub.after = [] ∧ v.code = 1 ∧ s.role ≠ 1 ∧ s.mode = mStarting ∧ s.verdictFits v = true) ∧
    (∃ (s : State) (v : Verdict), s.prt.verdict = some v ∧ v.due = true ∧ s.ticking = true ∧ s.mode ≠ mHolding ∧ s.pwr.suppress = false ∧
      v.pin = false ∧ s.hub.after = [] ∧ v.code = 2 ∧ s.role = 1 ∧ isService s.mode = true ∧ s.verdictFits v = true) ∧
    (∃ (s : State) (v : Verdict), s.prt.verdict = some v ∧ v.due = true ∧ s.ticking = true ∧ s.mode ≠ mHolding ∧ s.pwr.suppress = false ∧
      v.pin = false ∧ s.hub.after = [] ∧ v.code = 4 ∧ s.mode ≠ mStarting ∧ s.verdictFits v = true) ∧
    (∃ (s : State) (v : Verdict), s.prt.verdict = some v ∧ v.due = true ∧ s.ticking = true ∧ s.mode ≠ mHolding ∧ s.pwr.suppress = false ∧
      v.pin = false ∧ s.hub.after = [] ∧ s.verdictFits v = false) ∧
    (∃ (s : State) (u : State) (v : Verdict), s.prt.verdict = some v ∧ v.due = true ∧ s.ticking = true ∧ u = verdictApplied s ∧ u.mode ≠
      mHolding ∧ u.pwr.suppress = false) ∧
    (∃ (s : State), s.ticking = true ∧ s.pinArb = true ∧ s.mode ≠ mHolding ∧ s.role = 1) ∧
    (∃ (s : State), s.hostReady = true) ∧
    (∃ (s : State) (v : Verdict) (m : Nat), s.prt.verdict = some v ∧ v.due = true ∧ s.ticking = true ∧ s.mode ≠ mHolding ∧ s.pwr.suppress
      = false ∧ v.pin = false ∧ s.hub.after = [] ∧ v.code = 1 ∧ s.role = 2 ∧ s.mode = mStandby ∧ m = s.promoteMode v.mode ∧ isService m =
      true ∧ s.verdictFits v = true) ∧
    (∃ (s : State) (m : List Nat) (c : Nat), s.hostReady = true ∧ s.on F.PRT_CFG_ARB_MODE = false ∧ m = s.kapRx ∧ kapAt m 16 1 = 2 ∧
      (kapAgree m s).kapCheck m = c ∧ c ≠ 0) ∧
    (∃ (s : State) (m : List Nat) (c : Nat), s.hostReady = true ∧ s.on F.PRT_CFG_ARB_MODE = false ∧ m = s.kapRx ∧ kapAt m 16 1 = 3 ∧
      (kapAgree m s).kapCheck m = c ∧ c ≠ 0) ∧
    (∃ (s : State) (m : List Nat) (c : Nat), s.hostReady = true ∧ s.on F.PRT_CFG_ARB_MODE = false ∧ m = s.kapRx ∧ kapAt m 16 1 = 4 ∧
      (kapAgree m s).kapCheck m = c ∧ c ≠ 0) ∧
    (∃ (s : State), s.ticking = true ∧ s.pinArb = true ∧ s.mode ≠ mHolding ∧ s.role ≠ 1 ∧ (s.floorMet s.promoteTo = true ∧ (s.promoteTo =
      mLean → s.leanFits = true))) ∧
    (∃ (s : State), s.ticking = true ∧ s.pinArb = true ∧ s.mode ≠ mHolding ∧ s.role ≠ 1) ∧
    (∃ (s : State), s.ticking = true ∧ s.pinArb = true ∧ s.mode ≠ mHolding ∧ s.role ≠ 1 ∧ s.floorMet s.promoteTo = false) :=
  ⟨
    ⟨lite, by decide +kernel⟩,
    ⟨(lite.wr F.PRT_STAT_REQ_OPEN 1), by decide +kernel⟩,
    ⟨(withKap 1), (kapMsg 1), by decide +kernel⟩,
    ⟨(withKap 2), (kapMsg 2), by decide +kernel⟩,
    ⟨(withKap 3), (kapMsg 3), by decide +kernel⟩,
    ⟨(withKap 4), (kapMsg 4), by decide +kernel⟩,
    ⟨((withKap 1).wr F.PRT_CFG_CLASS 0), (kapMsg 1), 2, by decide +kernel⟩,
    ⟨(((lite.wr F.PRT_STAT_REQ_OPEN 1).wr F.PRT_STAT_PATH_A 1).modPrt fun p => { p with reqTicks := 9000 }), by decide +kernel⟩,
    ⟨((lite).modPrt fun p => { p with verdict := some ⟨3, 0, 7, 0, 0, 0, 0xFFF, 0, false, true⟩ }), (⟨3, 0, 7, 0, 0, 0, 0xFFF, 0, false,
      true⟩), by decide +kernel⟩,
    ⟨(((lite.wr F.PRT_STAT_ROLE 2).wr F.PWR_MODE_CUR 1).modPrt fun p =>
      { p with verdict := some ⟨1, 0, 7, 0, 0, 0, 0xFFF, 0, false, true⟩ }), (⟨1, 0, 7, 0, 0, 0, 0xFFF, 0, false, true⟩),
      by decide +kernel⟩,
    ⟨((lite.wr F.PWR_VIN_VIN_MV 12000).modPrt fun p => { p with verdict := some ⟨2, 0, 7, 0, 0, 0, 0xFFF, 0, false, true⟩ }), (⟨2, 0, 7,
      0, 0, 0, 0xFFF, 0, false, true⟩), by decide +kernel⟩,
    ⟨((lite.wr F.PWR_VIN_VIN_MV 12000).modPrt fun p => { p with verdict := some ⟨4, 0, 7, 0, 0, 0, 0xFFF, 0, false, true⟩ }), (⟨4, 0, 7,
      0, 0, 0, 0xFFF, 0, false, true⟩), by decide +kernel⟩,
    ⟨((lite).modPrt fun p => { p with verdict := some ⟨2, 0, 7, 0, 0, 0, 0xFFF, 0, false, true⟩ }), (⟨2, 0, 7, 0, 0, 0, 0xFFF, 0, false,
      true⟩), by decide +kernel⟩,
    ⟨((lite).modPrt fun p => { p with verdict := some ⟨3, 0, 7, 0, 0, 0, 0xFFF, 0, false, true⟩ }), (verdictApplied ((lite).modPrt fun p
      => { p with verdict := some ⟨3, 0, 7, 0, 0, 0, 0xFFF, 0, false, true⟩ })), (⟨3, 0, 7, 0, 0, 0, 0xFFF, 0, false, true⟩),
      by decide +kernel, by decide +kernel, by decide +kernel, rfl, by decide +kernel, by decide +kernel⟩,
    ⟨((lite.wr F.PRT_CFG_ARB_MODE 1).wr F.PRT_CFG_CLASS 1), by decide +kernel⟩,
    ⟨(lite.modPrt fun p => { p with txq := [⟨true, [1]⟩, ⟨false, [2]⟩] }), by decide +kernel⟩,
    ⟨((((lite.wr F.PRT_STAT_ROLE 2).wr F.PWR_MODE_CUR mStandby).wr F.PWR_VIN_VIN_MV 12000).modPrt fun p =>
      { p with verdict := some ⟨1, 0, 7, 0, 0, 0, 0xFFF, 0, false, true⟩ }), (⟨1, 0, 7, 0, 0, 0, 0xFFF, 0, false, true⟩), mBalanced,
      by decide +kernel⟩,
    ⟨((withKap 2).wr F.PRT_CFG_CLASS 0), (kapMsg 2), 2, by decide +kernel⟩,
    ⟨((withKap 3).wr F.PRT_CFG_CLASS 0), (kapMsg 3), 2, by decide +kernel⟩,
    ⟨((withKap 4).wr F.PRT_CFG_CLASS 0), (kapMsg 4), 2, by decide +kernel⟩,
    ⟨(((lite.wr F.PRT_CFG_ARB_MODE 1).wr F.PRT_CFG_CLASS 1 |>.wr F.PRT_STAT_ROLE 2).wr F.PWR_VIN_VIN_MV 12000), by decide +kernel⟩,
    ⟨((lite.wr F.PRT_CFG_ARB_MODE 1).wr F.PRT_CFG_CLASS 1 |>.wr F.PRT_STAT_ROLE 2), by decide +kernel⟩,
    ⟨(((lite.wr F.PRT_CFG_ARB_MODE 1).wr F.PRT_CFG_CLASS 1 |>.wr F.PRT_STAT_ROLE 2).wr F.PWR_VIN_VIN_MV 100), by decide +kernel⟩⟩

theorem test_wit_HostLinkAndRing :
    (∃ (s : State), s.awake = true ∧ s.hostIf.endpoint = true ∧ s.hostIf.pcieLive = true ∧ s.cfg.run = none) ∧
    (∃ (s : State), s.awake = true ∧ s.hostIf.pcieLive = true) ∧
    (∃ (s : State), s.works = true ∧ s.hostIf.endpoint = true ∧ s.hostIf.pcieLive = false) ∧
    (∃ (s : State), s.reach .pcie = true) ∧
    (∃ (s : State) (b : Nat), s.hostReady = true ∧ b < 64 ∧ s.bar2Busy = false) ∧
    (∃ (s : State) (m : Nat), s.hostReady = true ∧ m < 256) ∧
    (∃ (s : State) (w : Nat), s.hostReady = true ∧ w < 2 ^ 64) ∧
    (∃ (s : State) (v : Nat), s.hostReady = true ∧ v < 2 ^ 32) ∧
    (∃ (s : State) (m : Nat), s.hostReady = true ∧ m < 2 ^ 32) ∧
    (∃ (s : State), s.ticking = true ∧ s.ringFull = false) ∧
    (∃ (s : State) (r : PRec), s.ticking = true ∧ (s.hub.recs.find? (fun x => x.due) = some r) ∧ s.hostIf.pcieLive = true ∧ s.on
      F.HIF_PCIE_STAT_BUS_MASTER = true ∧ s.ringSize ≠ 0 ∧ s.ringFull = false ∧ (s.wrap F.HIF_EVT_PI_PI 1).ringFull = false) ∧
    (∃ (s : State) (r : PRec), s.ticking = true ∧ (s.hub.recs.find? (fun x => x.due) = some r) ∧ s.hostIf.pcieLive = true ∧ s.on
      F.HIF_PCIE_STAT_BUS_MASTER = true ∧ s.ringSize ≠ 0 ∧ s.ringFull = false ∧ (s.wrap F.HIF_EVT_PI_PI 1).ringFull = true ∧
      s.hub.ringFull = false) ∧
    (∃ (s : State) (r : PRec), s.ticking = true ∧ (s.hub.recs.find? (fun x => x.due) = some r) ∧ (s.hostIf.pcieLive = false ∨ s.on
      F.HIF_PCIE_STAT_BUS_MASTER = false ∨ s.ringSize = 0)) ∧
    (∃ (s : State) (b : Nat), s.hostReady = true ∧ b < 64 ∧ s.bar2Busy = true) :=
  ⟨
    ⟨(lite.wr F.HIF_PCIE_STAT_BUS_MASTER 1), by decide +kernel⟩,
    ⟨(lite.wr F.HIF_PCIE_STAT_LINK_DOWNS 65535), by decide +kernel⟩,
    ⟨({ lite with hostIf := { lite.hostIf with pcieLive := false, linkDownDue := true } }), by decide +kernel⟩,
    ⟨lite, by decide +kernel⟩,
    ⟨lite, 63, by decide +kernel⟩,
    ⟨lite, 9, by decide +kernel⟩,
    ⟨((lite.wr F.HIF_EVT_PI_PI 7).wr F.HIF_EVT_CI_CI 3), 0x123456789000000A, by decide +kernel⟩,
    ⟨lite, 0xFFFFFFFF, by decide +kernel⟩,
    ⟨(lite.wr F.HIF_RFX_FROZEN_FROZEN 0x80000005), 0x80000003, by decide +kernel⟩,
    ⟨((((lite.modHub fun h => { h with recs := [⟨95, 3, false, 10, 20, false, false, false, false, 0⟩] }).wr F.HIF_PCIE_STAT_BUS_MASTER
      1).wr F.HIF_EVT_RING_SIZE_LOG2 3).wr F.HIF_EVT_RING_BASE 2), by decide +kernel⟩,
    ⟨((((lite.modHub fun h => { h with recs := [⟨95, 3, false, 10, 20, false, false, false, true, 0⟩] }).wr F.HIF_PCIE_STAT_BUS_MASTER
      1).wr F.HIF_EVT_RING_SIZE_LOG2 3).wr F.HIF_EVT_RING_BASE 2), (⟨95, 3, false, 10, 20, false, false, false, true, 0⟩),
      by decide +kernel⟩,
    ⟨(((((lite.modHub fun h => { h with recs := [⟨95, 3, false, 10, 20, false, false, false, true, 0⟩] }).wr F.HIF_PCIE_STAT_BUS_MASTER
      1).wr F.HIF_EVT_RING_SIZE_LOG2 3).wr F.HIF_EVT_RING_BASE 2).wr F.HIF_EVT_PI_PI 255), (⟨95, 3, false, 10, 20, false, false, false,
      true, 0⟩), by decide +kernel⟩,
    ⟨(lite.modHub fun h => { h with recs := [⟨95, 3, false, 10, 20, false, false, false, true, 0⟩] }), (⟨95, 3, false, 10, 20, false,
      false, false, true, 0⟩), by decide +kernel⟩,
    ⟨(lite.modPc 3 fun c => { c with queue := [dreq 4 11 0x300 none] }), 63, by decide +kernel⟩⟩

theorem test_wit_EventsAndPassThrough :
    (∃ (s : State) (i : Nat) (e : Ev), s.ticking = true ∧ E.ofId i = some e) ∧
    (∃ (s : State) (o : Nat) (ab : Nat) (du : Nat) (n : Nat), s.hostReady = true ∧ o < 256 ∧ ab < 4 ∧ du < 16 ∧ n < 512 ∧ 4 ≤ s.rd
      F.HIF_API_VER_SEL_MINOR ∧ s.hostIf.spiBusy = false ∧ s.cfg.run = none) ∧
    (∃ (s : State) (o : Nat) (ab : Nat) (du : Nat) (n : Nat), s.hostReady = true ∧ o < 256 ∧ ab < 4 ∧ du < 16 ∧ n < 512 ∧ 4 ≤ s.rd
      F.HIF_API_VER_SEL_MINOR ∧ s.hostIf.spiBusy = true) ∧
    (∃ (s : State), s.hostReady = true ∧ s.rd F.HIF_API_VER_SEL_MINOR < 4) ∧
    (∃ (s : State) (o : Nat) (ab : Nat) (du : Nat) (n : Nat), s.hostReady = true ∧ o < 256 ∧ ab < 4 ∧ du < 16 ∧ n < 512 ∧ 4 ≤ s.rd
      F.HIF_API_VER_SEL_MINOR ∧ s.hostIf.spiBusy = false ∧ s.cfg.run = none) ∧
    (∃ (s : State) (o : Nat) (ab : Nat) (du : Nat) (n : Nat), s.hostReady = true ∧ o < 256 ∧ ab < 4 ∧ du < 16 ∧ n < 512 ∧ 4 ≤ s.rd
      F.HIF_API_VER_SEL_MINOR ∧ s.hostIf.spiBusy = true) ∧
    (∃ (s : State), s.hostReady = true ∧ s.rd F.HIF_API_VER_SEL_MINOR < 4) ∧
    (∃ (s : State) (d : List Nat) (i : Nat), s.ticking = true ∧ s.hostIf.spiBusy = true ∧ s.on F.HIF_SPI_CMD_READ = true ∧ i < 64 ∧ 4 * i
      + 4 ≤ s.rd F.HIF_SPI_CMD_LEN ∧ 4 * i + 4 ≤ d.length ∧ (∀ x ∈ d, x < 256)) ∧
    (∃ (s : State) (a : Nat) (v : Nat), s.ticking = true ∧ s.hostIf.spiBusy = true ∧ s.on F.HIF_SPI_CMD_READ = false ∧ a < 2 ^ 28 ∧ v <
      256) :=
  ⟨
    ⟨lite, 1000, ((E.ofId 1000).getD ⟨0, false⟩), by decide +kernel⟩,
    ⟨(lite.wr F.HIF_API_VER_SEL_MINOR 4), 0xEB, 3, 6, 256, by decide +kernel⟩,
    ⟨({ (lite.wr F.HIF_API_VER_SEL_MINOR 4) with hostIf := { lite.hostIf with spiBusy := true } }), 0xEB, 3, 6, 256, by decide +kernel⟩,
    ⟨(lite.wr F.HIF_API_VER_SEL_MINOR 3), by decide +kernel⟩,
    ⟨(lite.wr F.HIF_API_VER_SEL_MINOR 4), 0xEB, 3, 6, 256, by decide +kernel⟩,
    ⟨({ (lite.wr F.HIF_API_VER_SEL_MINOR 4) with hostIf := { lite.hostIf with spiBusy := true } }), 0xEB, 3, 6, 256, by decide +kernel⟩,
    ⟨(lite.wr F.HIF_API_VER_SEL_MINOR 3), by decide +kernel⟩,
    ⟨({ ((lite.wr F.HIF_SPI_CMD_READ 1).wr F.HIF_SPI_CMD_LEN 6) with hostIf := { lite.hostIf with spiBusy := true } }), ([1, 2, 3, 4, 5,
      255]), 0, by decide +kernel⟩,
    ⟨({ lite with hostIf := { lite.hostIf with spiBusy := true } }), 0xFFFFFFF, 255, by decide +kernel⟩⟩

theorem test_wit_CountersAndSkim :
    (∃ (s : State) (i : Nat) (w : Nat), s.hostReady = true ∧ i < 512 ∧ w < 2 ^ 50 ∧ s.rd (F.OBS_CNT_SEL_KIND i) = 0 ∧ obsChainedOdd s i =
      false) ∧
    (∃ (s : State) (i : Nat), s.hostReady = true ∧ i < 512 ∧ i % 2 = 0 ∧ s.on (F.OBS_CNT_SEL_CHAIN i) = true) ∧
    (∃ (s : State) (i : Nat), s.hostReady = true ∧ i < 512 ∧ (i % 2 = 1 ∨ s.on (F.OBS_CNT_SEL_CHAIN i) = false)) ∧
    (∃ (s : State), s.hostReady = true) ∧
    (∃ (s : State) (h : Nat), s.hostReady = true ∧ h < 32) ∧
    (∃ (s : State) (r : SkimRec) (l : List SkimRec), s.works = true ∧ s.obs.finished = r :: l ∧ s.obs.skim.length < 512) ∧
    (∃ (s : State), s.works = true ∧ (512 ≤ s.obs.skim.length ∨ s.obs.finished = [])) ∧
    (∃ (s : State), s.hostReady = true ∧ s.obs.skim.length ≤ 512) ∧
    (∃ (s : State) (v : Nat) (k : Nat) (w : Nat), s.hostReady = true ∧ v < 16 ∧ k < 512 ∧ w < 2 ^ 64) ∧
    (∃ (s : State) (v : Nat), s.hostReady = true ∧ v < 16) :=
  ⟨
    ⟨((lite.wr (F.OBS_CNT_OVF 511) 1).wr (F.OBS_CNT_CARRY_LOST 511) 1), 511, (2 ^ 48 + 99), by decide +kernel⟩,
    ⟨(((lite.wr (F.OBS_CNT_SEL_CHAIN 510) 1).wr (F.OBS_CNT_COUNT 511) 5).wr (F.OBS_CNT_COUNT 510) 9), 510, by decide +kernel⟩,
    ⟨(lite.wr (F.OBS_CNT_OVF 5) 1), 5, by decide +kernel⟩,
    ⟨lite, by decide +kernel⟩,
    ⟨lite, 31, by decide +kernel⟩,
    ⟨(lite.modObs fun o => { o with finished := [⟨0, 1, 400, 3, 64, 2, [10, 20, 30, 40]⟩] }), (⟨0, 1, 400, 3, 64, 2, [10, 20, 30, 40]⟩),
      [], by decide +kernel⟩,
    ⟨(lite.modObs fun o =>
      { o with finished := [⟨0, 1, 400, 3, 64, 2, [10, 20, 30, 40]⟩], skim := List.replicate 512 ⟨0, 1, 400, 3, 64, 2, [10, 20, 30, 40]⟩ }),
      by decide +kernel⟩,
    ⟨(lite.modObs fun o => { o with skim := [⟨0, 1, 400, 3, 64, 2, [10, 20, 30, 40]⟩] }), by decide +kernel⟩,
    ⟨lite, 15, 511, (4 + 2 ^ 32 * 0x3A00000), by decide +kernel⟩,
    ⟨lite, 15, by decide +kernel⟩⟩

theorem test_wit_InjectionUnlockAndArming :
    (∃ (s : State) (l : Nat), s.hostReady = true ∧ l < 51 ∧ s.mode ≠ mHolding ∧ s.mode ≠ mAsleep ∧ s.obs.injKey = none) ∧
    (∃ (s : State) (l : Nat) (n : Nat), s.hostReady = true ∧ l < 51 ∧ s.mode ≠ mHolding ∧ s.mode ≠ mAsleep ∧ s.obs.injKey = some (l, n) ∧
      s.nowNs ≤ n + 1000000) ∧
    (∃ (s : State) (l : Nat) (k : Nat), s.hostReady = true ∧ l < 64 ∧ k < 2 ^ 16 ∧ (if s.obs.injKey = none then k ≠ 0x4B17 else k ≠
      0xB4E8)) ∧
    (∃ (s : State) (l : Nat) (w : Nat), s.hostReady = true ∧ l < 51 ∧ w < 2 ^ 64 ∧ s.on (F.OBS_INJ_STAT_UNLOCKED l) = true) ∧
    (∃ (s : State) (l : Nat) (w : Nat), s.hostReady = true ∧ l < 51 ∧ w < 2 ^ 64 ∧ s.on (F.OBS_INJ_STAT_UNLOCKED l) = false) ∧
    (∃ (s : State) (l : Nat), s.ticking = true ∧ l < 51 ∧ (s.link l).ends ≠ 0 ∧ (s.link l).ends ≤ s.ticks + 1 ∧ s.mode ≠ mProving) ∧
    (∃ (s : State) (l : Nat), s.ticking = true ∧ l < 51 ∧ (s.link l).ends ≠ 0 ∧ (s.link l).ends ≤ s.ticks + 1 ∧ s.mode = mProving) :=
  ⟨
    ⟨lite, 50, by decide +kernel⟩,
    ⟨(lite.modObs fun o => { o with injKey := some (50, lite.nowNs) }), 50, lite.nowNs, by decide +kernel, by decide +kernel,
      by decide +kernel, by decide +kernel, rfl, Nat.le_add_right _ _⟩,
    ⟨(lite.modObs fun o => { o with injKey := some (5, lite.nowNs) }), 5, 0x4B17, by decide +kernel⟩,
    ⟨(lite.wr (F.OBS_INJ_STAT_UNLOCKED 50) 1), 50, 3, by decide +kernel⟩,
    ⟨lite, 50, 3, by decide +kernel⟩,
    ⟨((lite).modObs fun o => { o with links := SMap.put o.links 50 { InjLink.initial with ends := 1 } }), 50, by decide +kernel⟩,
    ⟨((lite.wr F.PWR_MODE_CUR mProving).modObs fun o => { o with links := SMap.put o.links 50 { InjLink.initial with ends := 1 } }), 50,
      by decide +kernel⟩⟩

theorem test_wit_ThresholdWritesIgnored :
    (∃ (s : State) (warn : Nat) (sag : Nat), s.hostReady = true ∧ warn < 65536 ∧ sag < 65536 ∧ ((warn < 4400 ∨ 16000 < warn) ∨ (sag <
      4200 ∨ 15000 < sag) ∨ warn < sag + 200)) ∧
    (∃ (s : State) (warn : Nat) (sag : Nat), s.hostReady = true ∧ warn < 65536 ∧ sag < 65536 ∧ s.mode = mHolding) ∧
    (∃ (s : State) (warn : Nat) (sag : Nat), s.hostReady = true ∧ warn < 65536 ∧ sag < 65536 ∧ (¬ ((warn < 4400 ∨ 16000 < warn) ∨ (sag <
      4200 ∨ 15000 < sag) ∨ warn < sag + 200)) ∧ s.mode ≠ mHolding) :=
  ⟨
    ⟨lite, 15199, 15000, by decide +kernel⟩,
    ⟨dark, 16000, 4200, by decide +kernel⟩,
    ⟨lite, 15200, 15000, by decide +kernel⟩⟩

theorem test_wit_SaveDisarming :
    (∃ (s : State), s.hostReady = true) ∧
    (∃ (s : State), s.hostReady = true ∧ s.pwr.disarmKey = true ∧ s.nowNs ≤ s.pwr.disarmAt + 1000000 ∧ s.on F.PWR_SAVE_ARM_ARMED = true) ∧
    (∃ (s : State) (k : Nat) (late : Bool), s.hostReady = true ∧ k < 65536 ∧ k ≠ 0x9E3A ∧ (k ≠ 0x61C5 ∨ late = true ∨ s.pwr.disarmKey =
      false ∨ s.pwr.disarmAt + 1000000 < s.nowNs)) :=
  ⟨
    ⟨lite, by decide +kernel⟩,
    ⟨((lite.wr F.PWR_SAVE_ARM_ARMED 1).modPwr fun p => { p with disarmKey := true, disarmAt := lite.nowNs }), by decide +kernel,
      by decide +kernel, Nat.le_add_right _ _, by decide +kernel⟩,
    ⟨((lite.wr F.PWR_SAVE_ARM_ARMED 1).modPwr fun p => { p with disarmKey := true }), 0x61C5, true, by decide +kernel⟩⟩

theorem test_wit_SlotCommandsRefused :
    (∃ (s : State) (k : Nat), s.hostReady = true ∧ k < 2 ∧ s.slotRead k = true) ∧
    (∃ (s : State) (k : Nat), s.hostReady = true ∧ k < 2 ∧ s.slotRead k = true) ∧
    (∃ (s : State) (k : Nat), s.hostReady = true ∧ k < 2 ∧ s.cfg.running.isSome = true ∧ s.cfg.runSlot = k) :=
  ⟨
    ⟨(reloading 2 reload0), 0, by decide +kernel⟩,
    ⟨(reloading 2 reload0), 0, by decide +kernel⟩,
    ⟨imaged, 1, by decide +kernel⟩⟩

theorem test_wit_PinsFollowTheMode :
    (∃ (s : State), s.awake = true ∧ s.hostIf.endpoint = true ∧ s.scanHolds = false ∧ s.mode = mStandby) ∧
    (∃ (s : State), s.awake = true ∧ s.scanHolds = false ∧ s.mode = mAsleep) ∧
    (∃ (s : State), s.awake = true ∧ s.hostIf.endpoint = true ∧ s.scanHolds = false ∧ s.mode = mHolding) :=
  ⟨
    ⟨((lite.wr F.PWR_MODE_CUR mStandby)), by decide +kernel⟩,
    ⟨((lite.wr F.PWR_MODE_CUR mAsleep)), by decide +kernel⟩,
    ⟨((dark.modPwr fun p => { p with quiesced := true })), by decide +kernel⟩⟩

theorem test_wit_TickCompletes :
    (∃ (s : State), s.ticking = true ∧ s.works = true ∧ s.pwr.leaving = SaveThen.resume ∧ s.pwr.modeReq = none ∧ s.cfg.commits = []) ∧
    (∃ (s : State) (u : Supply) (m : Nat), s.ticking = true ∧ s.works = true ∧ s.pwr.leaving = SaveThen.resume ∧ s.cfg.commits = [] ∧
      s.prt.verdict = none ∧ s.pwr.modeReq = some ⟨m, none⟩ ∧ isService s.mode = true ∧ isService m = true ∧ m ≠ s.mode ∧ (s.wr
      F.PWR_VIN_VIN_MV u.vinMv).floorMet m = true ∧ (m = mLean → s.leanFits = true) ∧ s.waitsStagger m = false) ∧
    (∃ (s : State), s.ticking = true ∧ s.works = true ∧ s.pwr.leaving = SaveThen.resume ∧ s.cfg.commits = [] ∧ s.prt.verdict = none ∧
      s.pwr.modeReq = some ⟨mAsleep, none⟩ ∧ s.pwr.save = none) ∧
    (∃ (s : State), s.ticking = true ∧ s.works = true ∧ s.pwr.leaving = SaveThen.resume ∧ s.cfg.commits = [] ∧ s.prt.verdict = none ∧
      s.pwr.modeReq = some ⟨mStarting, none⟩ ∧ s.pwr.save = none) ∧
    (∃ (s : State) (g : Nat) (gen : Nat), s.ticking = true ∧ s.works = true ∧ s.pwr.leaving = SaveThen.resume ∧ s.cfg.loads = [] ∧
      s.cfg.commits = [⟨g, gen⟩] ∧ g < 52 ∧ gen < 65536) ∧
    (∃ (s : State) (gen : Nat) (g : Nat), s.ticking = true ∧ s.works = true ∧ s.pwr.leaving = SaveThen.resume ∧ SMap.rising s.shadow =
      true ∧ s.cfg.loads = [] ∧ s.cfg.commits = [⟨48, gen⟩] ∧ g < 48) ∧
    (∃ (s : State), s.ticking = true ∧ s.prt.verdict = none ∧ s.pwr.leaving = SaveThen.sleep ∧ s.pwr.resetWaits = false) ∧
    (∃ (s : State) (u : Supply), s.ticking = true ∧ s.prt.verdict = none ∧ s.pwr.leaving = SaveThen.restart ∧ (s.wr F.PWR_VIN_VIN_MV
      u.vinMv).floorMet mStarting = true) ∧
    (∃ (s : State), s.ticking = true ∧ s.mode = mHolding ∧ s.pwr.leaving = SaveThen.resume) :=
  ⟨
    ⟨lite, by decide +kernel⟩,
    ⟨(lite.modPwr fun p => { p with modeReq := some ⟨mPeak, none⟩ }), (⟨12000, 1000, 2000, 15500, false, true⟩), mPeak, by decide +kernel⟩,
    ⟨(lite.modPwr fun p => { p with modeReq := some ⟨mAsleep, none⟩ }), by decide +kernel⟩,
    ⟨(lite.modPwr fun p => { p with modeReq := some ⟨mStarting, none⟩ }), by decide +kernel⟩,
    ⟨((lite.modCfg fun c => { c with commits := [⟨51, 2⟩] }).wr (F.CFG_GEN_PENDING 51) 1), 51, 2, by decide +kernel⟩,
    ⟨(((lite.modCfg fun c => { c with commits := [⟨48, 2⟩] }).wr (F.CFG_GEN_PENDING 48) 1).wrShadow 48 (F.HIF_EVT_EN_EN 47) 5), 2, 47,
      by decide +kernel⟩,
    ⟨(lite.modPwr fun p => { p with leaving := .sleep, quiesced := true }), by decide +kernel⟩,
    ⟨(lite.modPwr fun p => { p with leaving := .restart, quiesced := true }), (⟨12000, 1000, 2000, 15500, false, true⟩),
      by decide +kernel⟩,
    ⟨dark, by decide +kernel⟩⟩

theorem test_wit_SecondBoundaryCompletes :
    (∃ (s : State), s.ticking = true ∧ s.tsu.ns = 0 ∧ s.tsu.stepped = false ∧ s.ticks ≠ 0 ∧ s.secondAt ≠ s.ticks ∧ s.works = true) ∧
    (∃ (s : State), s.ticking = true ∧ s.tsu.ns = 0 ∧ s.tsu.stepped = false ∧ s.ticks ≠ 0 ∧ s.secondAt ≠ s.ticks ∧ s.works = false) ∧
    (∃ (s : State), s.ticking = true ∧ (s.tsu.ns ≠ 0 ∨ s.tsu.stepped = true ∨ s.ticks = 0 ∨ s.secondAt = s.ticks)) ∧
    (∃ (s : State), s.ticking = false) :=
  ⟨
    ⟨(({ lite with ticks := 8000 }.modPort 0 fun p => { p with lockFails := 3 }).wr F.OBS_SNAP_CMD_AUTO 1), by decide +kernel⟩,
    ⟨({ dark with ticks := 8000 }), by decide +kernel⟩,
    ⟨({ lite with ticks := 8000, tsu := { lite.tsu with stepped := true } }), by decide +kernel⟩,
    ⟨(lite.wr F.PWR_MODE_CUR mAsleep), by decide +kernel⟩⟩

theorem test_wit_BootPath :
    (∃ (s : State) (a : Nat), s.works = true ∧ s.cfg.run = some ⟨2, false, a, false⟩ ∧ s.cfg.scan = false) ∧
    (∃ (s : State) (a : Nat), s.works = true ∧ s.cfg.run = some ⟨2, false, a, false⟩ ∧ s.cfg.scan = true) ∧
    (∃ (s : State) (a : Nat) (d : Nat), s.works = true ∧ s.cfg.run = some ⟨2, false, a, false⟩ ∧ 1 ≤ d ∧ d ≤ 7 ∧ a < 3) ∧
    (∃ (s : State) (k : Nat) (a : Nat), s.works = true ∧ s.cfg.run = some ⟨k, false, a, false⟩ ∧ k ∈ [3, 4, 5, 10, 11, 12, 13, 14] ∧ a <
      clampTo 1 8 (s.entry k).tries) ∧
    (∃ (s : State) (k : Nat) (a : Nat), s.works = true ∧ s.cfg.run = some ⟨k, false, a, false⟩ ∧ k ∈ [3, 4, 5, 6, 7, 8, 9, 10, 11, 12,
      13, 14] ∧ a < clampTo 1 8 (s.entry k).tries) ∧
    (∃ (s : State) (k : Nat) (a : Nat), s.works = true ∧ s.cfg.run = some ⟨k, false, a, false⟩ ∧ k ∈ [5, 10, 11, 12, 13, 14] ∧ clampTo 1
      8 (s.entry k).tries ≤ a ∧ s.cfg.mem.length = 14 ∧ min ((s.stepMem k).streak + 1) 255 ≤ (s.entry k).retryMax) ∧
    (∃ (s : State) (k : Nat) (a : Nat), s.works = true ∧ s.cfg.run = some ⟨k, false, a, false⟩ ∧ k ∈ [5, 10, 11, 12, 13, 14] ∧ clampTo 1
      8 (s.entry k).tries ≤ a ∧ s.cfg.mem.length = 14 ∧ (s.entry k).retryMax < min ((s.stepMem k).streak + 1) 255 ∧ (s.entry k).escalates
      k = 3) ∧
    (∃ (s : State) (k : Nat) (a : Nat), s.works = true ∧ s.cfg.run = some ⟨k, false, a, false⟩ ∧ k ∈ [5, 10, 11, 12, 13, 14] ∧ clampTo 1
      8 (s.entry k).tries ≤ a ∧ s.cfg.mem.length = 14 ∧ (s.entry k).retryMax < min ((s.stepMem k).streak + 1) 255 ∧ (k = 10 ∨ k = 13) ∧
      (s.entry k).escalates k = 2 ∧ (s.stepMem k).altBad = false) ∧
    (∃ (s : State) (k : Nat) (a : Nat), s.works = true ∧ s.cfg.run = some ⟨k, false, a, false⟩ ∧ k ∈ [5, 10, 11, 12, 13, 14] ∧ clampTo 1
      8 (s.entry k).tries ≤ a ∧ s.cfg.mem.length = 14 ∧ (s.entry k).retryMax < min ((s.stepMem k).streak + 1) 255 ∧ (k = 11 ∨ k = 12 ∨ k
      = 13) ∧ (s.entry k).escalates k = 1 ∧ (s.entry (k + 1)).retryMax ≥ (s.stepMem (k + 1)).streak ∧ (s.stepMem (k + 1)).force = false) ∧
    (∃ (s : State) (a : Nat) (b : Bool), s.works = true ∧ s.cfg.run = some ⟨10, true, a, b⟩ ∧ s.cfg.mem.length = 14 ∧ (s.stepMem
      11).streak ≤ (s.entry 11).retryMax) ∧
    (∃ (s : State) (a : Nat), s.works = true ∧ s.cfg.run = some ⟨6, false, a, false⟩ ∧ s.cfg.mem.length = 14 ∧ a < clampTo 1 8 (s.entry
      6).tries) ∧
    (∃ (s : State) (a : Nat) (mk : Nat), s.works = true ∧ s.cfg.run = some ⟨7, false, a, false⟩ ∧ a < clampTo 1 8 (s.entry 7).tries ∧ mk
      % 2 ^ 32 ≠ 0) ∧
    (∃ (s : State) (ok : Bool) (a : Nat), s.works = true ∧ s.cfg.run = some ⟨8, false, a, false⟩ ∧ a < clampTo 1 8 (s.entry 8).tries ∧
      (ok = false ∨ verifyImage s.bootImg ≠ 0)) ∧
    (∃ (s : State) (a : Nat), s.works = true ∧ s.cfg.run = some ⟨9, false, a, false⟩ ∧ tilesSettled s = false) ∧
    (∃ (s : State) (a : Nat) (l : List Nat), s.works = true ∧ s.cfg.run = some ⟨9, false, a, false⟩ ∧ tilesSettled s = true ∧ s.joined 47
      = true ∧ (l = (List.range 48).filter fun n => s.rd (F.CFG_TILE_STAT_STATE n) == 4) ∧ s.cfg.mem.length = 14) ∧
    (∃ (s : State) (a : Nat), s.works = true ∧ s.cfg.run = some ⟨9, false, a, false⟩ ∧ tilesSettled s = true ∧ s.joined 47 = false ∧ a <
      clampTo 1 8 (s.entry 9).tries) ∧
    (∃ (s : State) (a : Nat) (d : Nat), s.works = true ∧ s.cfg.run = some ⟨13, false, a, false⟩ ∧ d ≠ 0 ∧ warmCode5 s s.latestCopy = 0 ∧
      s.latestCopy.isSome = true ∧ s.cfg.mem.length = 14) ∧
    (∃ (s : State) (a : Nat) (c : Nat), s.works = true ∧ s.cfg.run = some ⟨13, false, a, false⟩ ∧ c = warmCode5 s s.latestCopy ∧ c ≠ 0 ∧
      c < 16 ∧ s.cfg.mem.length = 14) ∧
    (∃ (s : State) (a : Nat), s.works = true ∧ s.cfg.run = some ⟨14, false, a, false⟩ ∧ roleKnown s = true ∧ s.cfg.mem.length = 14) ∧
    (∃ (s : State) (a : Nat), s.works = true ∧ s.cfg.run = some ⟨14, false, a, false⟩ ∧ roleKnown s = false) :=
  ⟨
    ⟨(booting 2 1), 1, by decide +kernel⟩,
    ⟨((booting 2 1).modCfg fun c => { c with scan := true }), 1, by decide +kernel⟩,
    ⟨(booting 2 2), 2, 7, by decide +kernel⟩,
    ⟨((booting 14 1).modCfg fun c =>
      { c with policy := { c.policy with entries := (List.range 14).map fun i => ⟨i + 1, true, 3, 1, 3, 0, 3, 0, 0⟩ } }), 14, 1,
      by decide +kernel⟩,
    ⟨((booting 14 1).modCfg fun c =>
      { c with policy := { c.policy with entries := (List.range 14).map fun i => ⟨i + 1, true, 3, 1, 3, 0, 3, 0, 0⟩ } }), 14, 1,
      by decide +kernel⟩,
    ⟨((booting 14 1).modCfg fun c =>
      { c with mem := List.replicate 14 ⟨0, 0, false, false⟩, policy := { c.policy with entries := (List.range 14).map fun i => ⟨i + 1, true, 1, 1, 3, if i = 6 then 1 else if i = 9 then 3 else if i = 12 then 4 else 0, 3, 0, 0⟩ } }),
      14, 1, by decide +kernel⟩,
    ⟨((booting 14 1).modCfg fun c =>
      { c with mem := List.replicate 14 ⟨1, 0, false, false⟩, policy := { c.policy with entries := (List.range 14).map fun i => ⟨i + 1, true, 1, 1, 3, if i = 6 then 1 else if i = 9 then 3 else if i = 12 then 4 else 0, 3, 0, 0⟩ } }),
      14, 1, by decide +kernel⟩,
    ⟨((booting 13 1).modCfg fun c =>
      { c with mem := List.replicate 14 ⟨1, 0, false, false⟩, policy := { c.policy with entries := (List.range 14).map fun i => ⟨i + 1, true, 1, 1, 2, if i = 6 then 1 else if i = 9 then 3 else if i = 12 then 4 else 0, 3, 0, 0⟩ } }),
      13, 1, by decide +kernel⟩,
    ⟨((booting 11 1).modCfg fun c =>
      { c with mem := List.replicate 14 ⟨1, 0, false, false⟩, policy := { c.policy with entries := (List.range 14).map fun i => ⟨i + 1, true, 1, 1, 1, if i = 6 then 1 else if i = 9 then 3 else if i = 12 then 4 else 0, 3, 0, 0⟩ } }),
      11, 1, by decide +kernel⟩,
    ⟨((booting 10 1).modCfg fun c => { c with run := some ⟨10, true, 1, false⟩, mem := List.replicate 14 ⟨0, 0, false, false⟩ }), 1,
      false, by decide +kernel⟩,
    ⟨((booting 6 1).modCfg fun c =>
      { c with policy := { c.policy with entries := (List.range 14).map fun i => ⟨i + 1, true, 3, 1, 3, 0, 3, 0, 0⟩ }, mem := List.replicate 14 ⟨0, 0, false, false⟩ }),
      1, by decide +kernel⟩,
    ⟨((booting 7 1).modCfg fun c =>
      { c with policy := { c.policy with entries := (List.range 14).map fun i => ⟨i + 1, true, 3, 1, 3, 0, 3, 0, 0⟩ } }), 1, 12,
      by decide +kernel⟩,
    ⟨((booting 8 1).modCfg fun c =>
      { c with policy := { c.policy with entries := (List.range 14).map fun i => ⟨i + 1, true, 3, 1, 3, 0, 3, 0, 0⟩ } }), false, 1,
      by decide +kernel⟩,
    ⟨({ imaged with cfg := { imaged.cfg with run := some ⟨9, false, 1, false⟩ } }.wr (F.CFG_TILE_STAT_STATE 0) 5), 1, by decide +kernel⟩,
    ⟨((({ imaged with cfg := { imaged.cfg with run := some ⟨9, false, 1, false⟩, mem := List.replicate 14 ⟨0, 0, false, false⟩ } }.wr
      (F.CFG_TILE_STAT_STATE 0) 3).wr F.PWR_MODE_CUR 1)), 1, [], by decide +kernel⟩,
    ⟨(((({ imaged with cfg := { imaged.cfg with run := some ⟨9, false, 1, false⟩, mem := List.replicate 14 ⟨0, 0, false, false⟩ } }.wr
      (F.CFG_TILE_STAT_STATE 0) 3).wr F.PWR_MODE_CUR 1).wr (F.CFG_TILE_STAT_STATE 47) 4).modCfg fun c =>
      { c with policy := { c.policy with entries := (List.range 14).map fun i => ⟨i + 1, true, 3, 1, 3, 0, 3, 0, 0⟩ } }), 1,
      by decide +kernel⟩,
    ⟨warming, 1, 1, by decide +kernel, rfl, by decide, warmCode5_none_declines _ _ rfl rfl rfl (by decide +kernel), rfl, rfl⟩,
    ⟨((booting 13 1).modCfg fun c => { c with mem := List.replicate 14 ⟨0, 0, false, false⟩ }), 1, 1, by decide +kernel⟩,
    ⟨((booting 14 1).modCfg fun c => { c with mem := List.replicate 14 ⟨0, 0, false, false⟩ }), 1, by decide +kernel⟩,
    ⟨(((booting 14 1).wr F.PRT_CFG_CLASS 1).wr F.PRT_STAT_ROLE 0), 1, by decide +kernel⟩⟩

/-- A state in canonical form with a command that waits, and the state after its step. -/
theorem test_wit_StepKeepsTheForms :
    ∃ s t : State, s.Inv ∧ step s = .next t ∧ t ≠ s :=
  ⟨{ State.initial with pending := [.vinRise] }, { State.initial with pwr := { State.initial.pwr with phase := .vauxUp, nextCause := 1 } },
    ⟨by decide, by decide, by decide, by decide, by decide⟩, rfl, by decide +kernel⟩

end Sys2Proof.Tests
end

/-! Proofs of host accesses (family of ch. 00). First the layer that other proofs share: what reading after a bulk write of fields returns,
the status bit of a raised event, which register lies at an address, and what an access over a free path does. Then the accesses of O15. -/
namespace Sys2Proof.Machine

/-! Registers that a command writes without raising an event. -/

theorem RegOnly.refl (l : List Fld) (s : State) : RegOnly l s s := fun _ _ => rfl

theorem RegOnly.of_regs {s t u : State} {l : List Fld} (h : RegOnly l s t) (e : u.regs = t.regs) : RegOnly l s u :=
  fun f hf => (rd_congr e f).trans (h f hf)

theorem RegOnly.wr {s t : State} {l : List Fld} (h : RegOnly l s t) {f : Fld} (hf : f.key ∈ l.map Fld.key) (v : Nat) :
    RegOnly l s (t.wr f v) :=
  fun g hg => (rd_wr_ne t (f := f) (g := g) v fun e => hg (e ▸ hf)).trans (h g hg)

theorem RegOnly.frame {s t : State} {l : List Fld} (h : RegOnly l s t) : RegFrame l s t := fun f hf _ => h f hf

theorem still_trans {s t u : State} (h : t.still s = s) (k : u.still t = t) : u.still s = s := by
  have e : (u.still t).still s = t.still s := by rw [k]
  exact e.trans h

theorem calm_trans {s t u : State} (h : t.calm s = s) (k : u.calm t = t) : u.calm s = s := by
  have e : (u.calm t).calm s = t.calm s := by rw [k]
  exact e.trans h

/-! A bulk write of active copies, as the write of a register without a group and the clear at a read do it (R7, R8). -/

/-- Gives the active copy of each listed field its value. -/
def State.putAll (l : List Fld) (v : Fld → Nat) (s : State) : State := l.foldl (fun a f => a.wr f (v f)) s

theorem regOnly_putAll (l : List Fld) (v : Fld → Nat) (s : State) : RegOnly l s (s.putAll l v) := by
  induction l generalizing s with
  | nil => exact RegOnly.refl _ _
  | cons f l ih =>
    intro g hg
    obtain ⟨hne, hl⟩ := not_or.1 fun h => hg (List.mem_cons.2 h)
    exact (ih _ g hl).trans (rd_wr_ne s _ hne)

theorem rd_putAll {l : List Fld} (v : Fld → Nat) (s : State) (hn : (l.map Fld.key).Nodup) {f : Fld} (hf : f ∈ l) :
    (s.putAll l v).rd f = v f % 2 ^ f.width := by
  induction l generalizing s with
  | nil => cases hf
  | cons h l ih =>
    obtain ⟨hh, hl⟩ := List.nodup_cons.1 hn
    rcases List.mem_cons.1 hf with rfl | hm
    · exact (regOnly_putAll l v _ f hh).trans (rd_wr_self s f _)
    · exact ih _ hl hm

theorem putAll_still (l : List Fld) (v : Fld → Nat) (s : State) : (s.putAll l v).still s = s := by
  induction l generalizing s with
  | nil => rfl
  | cons f l ih => exact still_trans (t := s.wr f (v f)) rfl (ih _)

/-! A bulk write of shadow copies, as the write of a grouped register does it (R90). -/

theorem rdShadow_wrShadow_self (s : State) (g : Nat) (f : Fld) (v : Nat) : (s.wrShadow g f v).rdShadow f = v % 2 ^ f.width := by
  simp [State.rdShadow, State.wrShadow]

theorem rdShadow_wrShadow_ne (s : State) (g : Nat) {f h : Fld} (v : Nat) (hk : h.key ≠ f.key) :
    (s.wrShadow g f v).rdShadow h = s.rdShadow h := by
  simp only [State.rdShadow, State.wrShadow, SMap.find?_put_ne s.shadow _ hk]
  rfl

/-- Gives the shadow copy of each listed field, all in group `g`, its value. -/
def State.putShadow (g : Nat) (l : List Fld) (v : Fld → Nat) (s : State) : State := l.foldl (fun a f => a.wrShadow g f (v f)) s

theorem rdShadow_putShadow_out (g : Nat) (l : List Fld) (v : Fld → Nat) (s : State) {h : Fld} (hk : h.key ∉ l.map Fld.key) :
    (s.putShadow g l v).rdShadow h = s.rdShadow h := by
  induction l generalizing s with
  | nil => rfl
  | cons f l ih =>
    obtain ⟨hne, hl⟩ := not_or.1 fun e => hk (List.mem_cons.2 e)
    exact (ih _ hl).trans (rdShadow_wrShadow_ne s g _ hne)

theorem rdShadow_putShadow (g : Nat) {l : List Fld} (v : Fld → Nat) (s : State) (hn : (l.map Fld.key).Nodup) {f : Fld} (hf : f ∈ l) :
    (s.putShadow g l v).rdShadow f = v f % 2 ^ f.width := by
  induction l generalizing s with
  | nil => cases hf
  | cons h l ih =>
    obtain ⟨hh, hl⟩ := List.nodup_cons.1 hn
    rcases List.mem_cons.1 hf with rfl | hm
    · exact (rdShadow_putShadow_out g l v _ hh).trans (rdShadow_wrShadow_self s g f _)
    · exact ih _ hl hm

/-- Only shadow copies change. -/
theorem putShadow_eq (g : Nat) (l : List Fld) (v : Fld → Nat) (s : State) :
    s.putShadow g l v = { s with shadow := (s.putShadow g l v).shadow } := by
  induction l generalizing s with
  | nil => rfl
  | cons f l ih => exact ih (s.wrShadow g f (v f))

@[simp] theorem putShadow_regs (g : Nat) (l : List Fld) (v : Fld → Nat) (s : State) : (s.putShadow g l v).regs = s.regs := by
  rw [putShadow_eq]

@[simp] theorem putShadow_hostIf (g : Nat) (l : List Fld) (v : Fld → Nat) (s : State) : (s.putShadow g l v).hostIf = s.hostIf := by
  rw [putShadow_eq]

/-! The status bit of an event (R441): raising an event sets its bit and clears none. -/

/-- No status bit of an event is cleared from `b` to `s`. -/
def StatusKept (b s : State) : Prop := ∀ e : Ev, e.id < 1536 → b.status e = true → s.status e = true

theorem StatusKept.refl (s : State) : StatusKept s s := fun _ _ h => h

theorem StatusKept.trans {a b c : State} (h : StatusKept a b) (k : StatusKept b c) : StatusKept a c :=
  fun e he hs => k e he (h e he hs)

theorem StatusKept.of_regs {b s t : State} (h : StatusKept b s) (e : t.regs = s.regs) : StatusKept b t := by
  intro x hx hb
  simpa only [State.status, rd_congr e] using h x hx hb

theorem key_stat (g : Nat) : (F.HIF_EVT_STAT_STAT g).key = 0x40000 + 256 * g := by
  simp only [Fld.key, F.HIF_EVT_STAT_STAT]; omega

/-- A write outside HIF_EVT_STAT keeps every status bit. -/
theorem StatusKept.wr {b s : State} (h : StatusKept b s) {f : Fld} (hf : f.key < 0x40000 ∨ 0x43000 ≤ f.key) (v : Nat) :
    StatusKept b (s.wr f v) := by
  intro e he hb
  have hne : (F.HIF_EVT_STAT_STAT (e.id / 32)).key ≠ f.key := by rw [key_stat]; omega
  simpa only [State.status, rd_wr_ne s v hne] using h e he hb

theorem hasBit_withBit (v i j : Nat) : hasBit (withBit v i) j = (hasBit v j || decide (i = j)) := by
  simp [hasBit, withBit, Nat.one_shiftLeft, Nat.testBit_two_pow]

/-- The word of a group of events after one of its status bits is set. -/
theorem hasBit_setStatus (s : State) (id : Nat) {j : Nat} (hj : j < 32) :
    hasBit ((setStatus id s).rd (F.HIF_EVT_STAT_STAT (id / 32))) j =
      (hasBit (s.rd (F.HIF_EVT_STAT_STAT (id / 32))) j || decide (id % 32 = j)) := by
  rw [← hasBit_withBit, setStatus, rd_wr_self, hasBit, F.HIF_EVT_STAT_STAT, Nat.testBit_mod_two_pow, decide_eq_true hj, Bool.true_and]
  rfl

theorem status_setStatus (s : State) (e : Ev) : (setStatus e.id s).status e = true := by
  rw [State.status, hasBit_setStatus s e.id (Nat.mod_lt _ (by decide)), decide_eq_true rfl, Bool.or_true]

theorem statusKept_setStatus {b s : State} (id : Nat) (h : StatusKept b s) : StatusKept b (setStatus id s) := by
  intro e he hb
  have hs := h e he hb
  by_cases hg : e.id / 32 = id / 32
  · rw [State.status, hg] at hs ⊢
    rw [hasBit_setStatus s id (Nat.mod_lt _ (by decide)), hs, Bool.true_or]
  · have hne : (F.HIF_EVT_STAT_STAT (e.id / 32)).key ≠ (F.HIF_EVT_STAT_STAT (id / 32)).key := by
      rw [key_stat, key_stat]; omega
    simpa only [State.status, setStatus, rd_wr_ne s _ hne] using hs

theorem statusKept_foldl {β γ : Type} {l : List β} {f : State × γ → β → State × γ} {b : State} {s : State × γ}
    (hf : ∀ (a : State × γ) x, StatusKept b a.1 → StatusKept b (f a x).1) (h : StatusKept b s.1) : StatusKept b (l.foldl f s).1 := by
  induction l generalizing s with
  | nil => exact h
  | cons x r ih => exact ih (hf s x h)

theorem faultLog_regs (id stamp : Nat) (s : State) : (faultLog id stamp s).regs = s.regs := by
  unfold faultLog; split <;> rfl

theorem deliver_regs (id : Nat) (l r : Bool) (st : Nat) (s : State) : (deliver id l r st s).regs = s.regs := by
  unfold deliver sendMsix
  repeat' split
  all_goals rfl

theorem statusKept_obsAdd {b s : State} (i n : Nat) (h : StatusKept b s) : StatusKept b (obsAdd i n s).1 := by
  have hcnt : ∀ j, 0x43000 ≤ (F.OBS_CNT_COUNT j).key := fun j => by simp only [Fld.key, F.OBS_CNT_COUNT]; omega
  have hovf : ∀ j, 0x43000 ≤ (F.OBS_CNT_OVF j).key := fun j => by simp only [Fld.key, F.OBS_CNT_OVF]; omega
  have h1 := h.wr (.inr (hcnt i)) (s.rd (F.OBS_CNT_COUNT i) + n)
  unfold obsAdd
  extract_lets v s1 x s2
  have h2 : StatusKept b s2 := h1.wr (.inr (hcnt _)) _
  split
  · exact h1
  · split
    · dsimp only
      split
      · exact h2
      · exact h2.wr (.inr (hovf _)) _
    · exact h1.wr (.inr (hovf _)) _

theorem statusKept_obsEvent {b s : State} (id : Nat) (h : StatusKept b s) : StatusKept b (obsEvent id s).1 :=
  statusKept_foldl (fun _ _ ha => statusKept_obsAdd _ _ ha) h

/-- An occurrence first sets its status bit; the rest of it clears none. -/
theorem statusKept_occur_set (e : Ev) (r : Bool) (s : State) : StatusKept (setStatus e.id s.draw) (occur e r s).1 := by
  unfold occur
  extract_lets st s1 s2 s3
  have h2 : s2.regs = s1.regs := by
    show (if e.logged then faultLog e.id st s1 else s1).regs = _
    split
    · exact faultLog_regs _ _ _
    · rfl
  have h3 : s3.regs = s2.regs := by
    show (if s.cfg.routed then _ else _ : State).regs = _
    split
    · exact deliver_regs _ _ _ _ _
    · rfl
  exact statusKept_obsEvent _ ((StatusKept.refl s1).of_regs (h3.trans h2))

theorem statusKept_occur {b s : State} (e : Ev) (r : Bool) (h : StatusKept b s) : StatusKept b (occur e r s).1 :=
  (statusKept_setStatus e.id (h.of_regs rfl)).trans (statusKept_occur_set e r s)

theorem status_occur (s : State) {e : Ev} (he : e.id < 1536) (r : Bool) : (occur e r s).1.status e = true :=
  statusKept_occur_set e r s e he (status_setStatus _ e)

theorem statusKept_bookFiring {b s : State} (r : Nat) (h : StatusKept b s) : StatusKept b (bookFiring r s) := by
  have hfired : 0x43000 ≤ (F.HIF_RFX_CNT_FIRED r).key := by simp only [Fld.key, F.HIF_RFX_CNT_FIRED]; omega
  have hspent : 0x43000 ≤ (F.HIF_RFX_CNT_SPENT r).key := by simp only [Fld.key, F.HIF_RFX_CNT_SPENT]; omega
  unfold bookFiring
  extract_lets s1 s2
  have h1 : StatusKept b s1 := (h.wr (.inr hfired) _).wr (.inr (by decide)) _
  have h2 : StatusKept b s2 := by
    show StatusKept b (if s.on (F.HIF_RFX_RULE_ONESHOT r) then _ else _)
    split
    · exact h1.wr (.inr hspent) _
    · exact h1
  exact h2.of_regs rfl

/-- The reflex rules that fire on an occurrence clear no status bit. -/
theorem statusKept_firings {b : State} {o : State × Bool} (l : List Nat) (h : StatusKept b o.1) :
    StatusKept b (l.foldl (fun a r => let q := occur E.HIF_REFLEX_FIRED false (bookFiring r a.1); (q.1, a.2 || q.2)) o).1 :=
  statusKept_foldl (fun _ _ ha => statusKept_occur _ _ (statusKept_bookFiring _ ha)) h

theorem statusKept_raiseN {b s : State} (n : Nat) (e : Ev) (h : StatusKept b s) : StatusKept b (raiseN n e s) := by
  induction n generalizing s e with
  | zero => exact h
  | succ n ih =>
    have hf := statusKept_firings (firingRules s e.id) (statusKept_occur e (!(firingRules s e.id).isEmpty) h)
    unfold raiseN
    extract_lets
    split
    · exact ih _ (hf.of_regs rfl)
    · exact hf

theorem status_raiseN (n : Nat) (s : State) {e : Ev} (he : e.id < 1536) : (raiseN (n + 1) e s).status e = true := by
  have hf := statusKept_firings (firingRules s e.id) (StatusKept.refl (occur e (!(firingRules s e.id).isEmpty) s).1)
  have ho := status_occur s he (!(firingRules s e.id).isEmpty)
  unfold raiseN
  extract_lets
  split
  · refine statusKept_raiseN n _ ?_ e he ho
    exact hf.of_regs rfl
  · exact hf e he ho

theorem status_raise (s : State) {e : Ev} (he : e.id < 1536) : (raise e s).status e = true := status_raiseN 2 s he

/-! Commit refusals (R92, R93). -/

theorem rd_refuseCommit (g code : Nat) (s : State) {f : Fld} (hf : evtKey f.key = false) :
    (refuseCommit g code s).rd f =
      (((s.wr F.CFG_COMMIT_STAT_GROUP g).wr F.CFG_COMMIT_STAT_CODE code).sat F.CFG_COMMIT_STAT_REFUSED 1).rd f :=
  rd_raise _ (by decide) hf

theorem rd_refuseCommit_code (g code : Nat) (s : State) : (refuseCommit g code s).rd F.CFG_COMMIT_STAT_CODE = code % 8 := by
  rw [rd_refuseCommit g code s (by decide), State.sat, rd_wr_ne _ _ (by decide), rd_wr_self]
  rfl

theorem rd_refuseCommit_group (g code : Nat) (s : State) : (refuseCommit g code s).rd F.CFG_COMMIT_STAT_GROUP = g % 64 := by
  rw [rd_refuseCommit g code s (by decide), State.sat, rd_wr_ne _ _ (by decide), rd_wr_ne _ _ (by decide), rd_wr_self]
  rfl

theorem status_refuseCommit (g code : Nat) (s : State) : (refuseCommit g code s).status E.CFG_COMMIT_REFUSED = true :=
  status_raise _ (by decide)

theorem calm_refuseCommit (g code : Nat) (s : State) : (refuseCommit g code s).calm s = s :=
  calm_trans (t := ((s.wr F.CFG_COMMIT_STAT_GROUP g).wr F.CFG_COMMIT_STAT_CODE code).sat F.CFG_COMMIT_STAT_REFUSED 1) rfl
    (calm_raise _ (by decide))

theorem regFrame_refuseCommit (g code : Nat) (s : State) :
    RegFrame [F.CFG_COMMIT_STAT_CODE, F.CFG_COMMIT_STAT_GROUP, F.CFG_COMMIT_STAT_REFUSED] s (refuseCommit g code s) :=
  (((RegFrame.refl _ s).wr (by simp) g).wr (by simp) code |>.wr (by simp) _).trans
    fun f _ hf => rd_raise _ (by decide) hf

/-! Address decoding (R471). -/

/-- Every register of the row lies outside the addresses `lo` to `hi - 1`. -/
def Reg.outside (lo hi : Nat) (r : Reg) : Bool :=
  decide (hi ≤ r.base) ||
    match r.dims with
    | [] => decide (r.base + r.bytes ≤ lo)
    | d :: _ => decide (0 < d.stride) && decide (r.base + d.stride * (d.hi + 1) ≤ lo)

theorem Reg.at?_outside {r : Reg} {lo hi a : Nat} (h : r.outside lo hi = true) (hlo : lo ≤ a) (hhi : a < hi) : r.at? a = none := by
  obtain ⟨base, dims, bytes, grp, fields⟩ := r
  by_cases hb : a < base
  · simp [Reg.at?, hb]
  · cases dims with
    | nil =>
      simp only [Reg.outside, Bool.or_eq_true, decide_eq_true_eq] at h
      simp only [Reg.at?, splitDims, if_neg hb]
      exact if_neg (by omega)
    | cons d ds =>
      simp only [Reg.outside, Bool.or_eq_true, Bool.and_eq_true, decide_eq_true_eq] at h
      have hi' : d.hi < (a - base) / d.stride :=
        (Nat.le_div_iff_mul_le (by omega)).2 (by rw [Nat.succ_eq_add_one, Nat.mul_comm]; omega)
      simp [Reg.at?, splitDims, hb, hi']

/-- Offset `o` in register `i` of an array with one index. -/
theorem Reg.at?_indexed {r : Reg} {d : Dim} {i o a : Nat} (hd : r.dims = [d]) (ha : a = r.base + (d.stride * i + o)) (hlo : d.lo ≤ i)
    (hhi : i ≤ d.hi) (ho : o < d.stride) (hb : o < r.bytes) : r.at? a = some ([i], o) := by
  subst ha
  have hq : (d.stride * i + o) / d.stride = i := by
    rw [Nat.mul_add_div (by omega), Nat.div_eq_of_lt ho, Nat.add_zero]
  have hm : (d.stride * i + o) % d.stride = o := by rw [Nat.mul_add_mod, Nat.mod_eq_of_lt ho]
  rw [Reg.at?, if_neg (by omega), Nat.add_sub_cancel_left, hd]
  simp only [splitDims, hq, hm]
  rw [if_neg (by omega)]
  exact if_pos hb

/-- The register at an address, from the only row of the table that reaches into a range around it. -/
theorem regAt_of_find {row : Reg} {m : List Nat × Nat} {a : Nat} (lo hi : Nat)
    (hf : regTable.find? (fun r => !r.outside lo hi) = some row) (hlo : lo ≤ a) (hhi : a < hi) (ha : row.at? a = some m) :
    regAt a = some ⟨row, m.1, a - m.2⟩ := by
  obtain ⟨-, pre, post, ht, hpre⟩ := List.find?_eq_some_iff_append.1 hf
  have hnone : pre.findSome? (fun r => (r.at? a).map fun m => RegRef.mk r m.1 (a - m.2)) = none := by
    refine List.findSome?_eq_none_iff.2 fun r hr => ?_
    rw [Reg.at?_outside (by simpa using hpre r hr) hlo hhi]; rfl
  rw [regAt, ht, List.findSome?_append, hnone, Option.none_or, List.findSome?_cons, ha]
  rfl

/-- Only the rows of HIF lie below 0x100000 (R471). -/
theorem find?_regTable_hif (lo : Nat) {hi : Nat} (h : hi ≤ 0x100000) :
    regTable.find? (fun r => !r.outside lo hi) = regsHIF.find? fun r => !r.outside lo hi := by
  have habove : ∀ l : List Reg, (l.all fun r => decide (0x100000 ≤ r.base)) = true → l.find? (fun r => !r.outside lo hi) = none := by
    intro l hl
    refine List.find?_eq_none.2 fun r hr => ?_
    have hb := of_decide_eq_true (List.all_eq_true.1 hl r hr)
    simp [Reg.outside, show hi ≤ r.base by omega]
  rw [regTable, List.find?_append, List.find?_append, habove _ (by decide +kernel), habove regsOBS (by decide +kernel), Option.none_or,
    Option.or_none]

/-- Below the tree ports every register is held in S0. -/
theorem tileAway_low (s : State) {a : Nat} (h : a < 0x1000000) : s.tileAway a = false := by
  have ht : s.tileOf a = none := by
    unfold State.tileOf treePage
    rw [if_neg (by omega), if_neg (by omega), if_neg (by omega)]
    simp only [F.MEC_OPEN_CFG_OPEN_CYC, F.CPH_CFG_POSTURE]
    rw [if_neg (by omega), if_neg (by omega), if_neg (by omega), if_neg (by omega), if_neg (by omega)]
  rw [State.tileAway, ht]

/-! Fields that keep their value in the register file and show it under every API minor. -/

/-- The field lies where no API minor hides it (R438) and no window stands for it: HIF below the reflex rules, CFG, PWR and the tree blocks below
the grant pages. -/
def Fld.plain (f : Fld) : Bool := decide (f.addr < 0x4000) || (decide (0x5200 ≤ f.addr) && decide (f.addr < 0x1C00000))

theorem Fld.plain_iff {f : Fld} : f.plain = true ↔ f.addr < 0x4000 ∨ 0x5200 ≤ f.addr ∧ f.addr < 0x1C00000 := by
  simp [Fld.plain]

theorem hidden_plain (s : State) {f : Fld} (h : f.plain = true) : s.hidden f = false := by
  rw [Fld.plain_iff] at h
  unfold State.hidden
  rcases h with h | ⟨hlo, hhi⟩
  · exact if_pos h
  · rw [if_neg (by omega), if_neg (by omega), if_neg (by omega), if_neg (by omega)]

theorem window_low (s : State) {f : Fld} (h : f.addr < 0x1C00000) : s.window f = none := by
  unfold State.window
  rw [if_neg (by omega), if_neg (by omega), if_neg (by omega), if_neg (by omega), if_neg (by omega), if_neg (by omega)]

theorem windowWrite_low (s : State) (v : Nat) {f : Fld} (h : f.addr < 0x1C00000) : windowWrite f v s = none :=
  if_neg (by omega)

theorem ignoredValue_other {f : Fld} (v : Nat) (h : f.addr ≠ 0x200024) : ignoredValue f v = false := by
  have h1 : f ≠ F.PWR_HOLD_CFG_HOLD_OK_MV := fun e => h (congrArg Fld.addr e)
  have h2 : f ≠ F.PWR_HOLD_CFG_CHG_TIMEOUT_MS := fun e => h (congrArg Fld.addr e)
  rw [ignoredValue, if_neg h1, if_neg h2]

/-- Two folds agree where their steps agree on the listed elements. -/
theorem foldl_congr_mem {α β : Type} {g h : β → α → β} {l : List α} (b : β) (e : ∀ a, ∀ x ∈ l, g a x = h a x) :
    l.foldl g b = l.foldl h b := by
  induction l generalizing b with
  | nil => rfl
  | cons x l ih =>
    rw [List.foldl_cons, List.foldl_cons, e b x List.mem_cons_self]
    exact ih _ fun a y hy => e a y (List.mem_cons_of_mem x hy)

/-! What a host read of plain fields returns (R473). -/

/-- A host read returns the field's stored copy. -/
def Fld.shown (f : Fld) : Bool := f.plain && (f.addr != 0x110) && (f.acc != .wo) && (f.acc != .w1s)

theorem hostRd_shown (s : State) {f : Fld} (h : f.shown = true) : s.hostRd f = s.rdShadow f := by
  simp only [Fld.shown, Bool.and_eq_true, bne_iff_ne, ne_eq] at h
  obtain ⟨⟨⟨hp, ha⟩, hwo⟩, hw1s⟩ := h
  have hlow : f.addr < 0x1C00000 := by have := Fld.plain_iff.1 hp; omega
  have h1 : f ≠ F.TSU_TICK_CNT_TICKS := by rintro rfl; exact absurd hlow (by decide)
  have h2 : f ≠ F.HIF_EVT_SUM_GROUPS := fun e => ha (congrArg Fld.addr e)
  rw [State.hostRd, hidden_plain s hp, if_neg Bool.false_ne_true, window_low s hlow, if_neg h1, if_neg h2]
  cases hacc : f.acc with
  | wo => exact absurd hacc hwo
  | w1s => exact absurd hacc hw1s
  | _ => rfl

theorem readWord_shown (s : State) {r : RegRef} (h : ∀ f ∈ r.fields, f.shown = true) :
    s.readWord r = r.fields.foldl (fun a f => a ||| (s.rdShadow f <<< f.lsb)) 0 :=
  foldl_congr_mem _ fun a f hf => by rw [hostRd_shown s (h f hf)]

/-! Writes of whole registers (R90, R93). -/

/-- Each listed field's part of a written word. -/
def Fld.part (word : Nat) (f : Fld) : Nat := slice word f.lsb f.width

theorem Fld.part_mod (word : Nat) (f : Fld) : f.part word % 2 ^ f.width = f.part word := Nat.mod_mod _ _

theorem Fld.part_low (word : Nat) {f : Fld} (h : f.lsb = 0) : f.part word = word % 2 ^ f.width := by simp [Fld.part, slice, h]

theorem writeFld_active (s : State) (word : Nat) {f : Fld} (hp : f.plain = true) (ha : f.acc = .rw) (hi : f.addr ≠ 0x200024) :
    writeFld none word f s = s.wr f (f.part word) := by
  have hlow : f.addr < 0x1C00000 := by have := Fld.plain_iff.1 hp; omega
  simp [writeFld, hidden_plain s hp, ha, ignoredValue_other _ hi, windowWrite_low s _ hlow, Fld.part]

theorem writeFld_grouped (s : State) (g word : Nat) {f : Fld} (hh : s.hidden f = false) (ha : f.acc = .rw) (hl : f.addr < 0x200000) :
    writeFld (some g) word f s = s.wrShadow g f (f.part word) := by
  simp [writeFld, hh, ha, ignoredValue_other _ (show f.addr ≠ 0x200024 by omega), windowWrite_low s _ (show f.addr < 0x1C00000 by omega),
    Fld.part]

theorem inPart_whole (l : List Fld) : l.filter (Fld.inPart 0) = l := List.filter_eq_self.2 fun _ _ => rfl

/-- A whole write of a register without a group gives each field its part of the word. -/
theorem writeReg_active (s : State) (word : Nat) {r : RegRef} (hg : r.reg.grp = .none) (ht : s.tileAway r.addr = false)
    (hf : ∀ f ∈ r.fields, f.plain = true ∧ f.acc = .rw ∧ f.addr ≠ 0x200024) :
    writeReg 0 word r s = s.putAll r.fields (Fld.part word) := by
  rw [writeReg, ht, State.groupOf, hg]
  show (r.fields.filter (Fld.inPart 0)).foldl _ s = _
  rw [inPart_whole]
  exact foldl_congr_mem _ fun a f hm => writeFld_active a word (hf f hm).1 (hf f hm).2.1 (hf f hm).2.2

theorem foldl_writeFld_grouped (g word : Nat) (l : List Fld) (s : State)
    (hf : ∀ f ∈ l, s.hidden f = false ∧ f.acc = .rw ∧ f.addr < 0x200000) :
    l.foldl (fun a f => writeFld (some g) word f a) s = s.putShadow g l (Fld.part word) := by
  induction l generalizing s with
  | nil => rfl
  | cons f l ih =>
    obtain ⟨⟨hh, ha, hl⟩, hr⟩ := List.forall_mem_cons.1 hf
    rw [List.foldl_cons, writeFld_grouped s g word hh ha hl]
    exact ih _ hr

/-- A whole write of a register in an open group gives each field's shadow copy its part of the word. -/
theorem writeReg_grouped (s : State) (word g : Nat) {r : RegRef} (hg : r.reg.grp = .const g) (ho : s.locked g = false)
    (ht : s.tileAway r.addr = false) (hf : ∀ f ∈ r.fields, s.hidden f = false ∧ f.acc = .rw ∧ f.addr < 0x200000) :
    writeReg 0 word r s = s.putShadow g r.fields (Fld.part word) := by
  rw [writeReg, ht, State.groupOf, hg]
  show (if s.locked g = true then _ else (r.fields.filter (Fld.inPart 0)).foldl _ s) = _
  rw [ho, inPart_whole]
  exact foldl_writeFld_grouped g word r.fields s hf

/-- A write of a register in a locked group is discarded with commit code 6 (R93). -/
theorem writeReg_locked (s : State) (part word g : Nat) {r : RegRef} (hg : r.reg.grp = .const g) (hl : s.locked g = true)
    (ht : s.tileAway r.addr = false) : writeReg part word r s = refuseCommit g 6 s := by
  rw [writeReg, ht, State.groupOf, hg]
  exact if_pos hl

/-- A whole write of a register that has no effect of its own. -/
theorem hostWrite_ordinary (s : State) (word : Nat) {r : RegRef} (ht : s.tileAway r.addr = false) (hs : special 0 word r s = none)
    (hf : ∀ t, writeFollows s word r t = t) : hostWrite 0 word r s = writeReg 0 word r s := by
  simp only [hostWrite, ht, State.mergeWord, if_true, hs, hf]
  rfl

/-! Accesses over a path that holds nothing (R473, R474). -/

theorem setMem_idle {p : Path} {s : State} (h : s.mem p = .none) : s.setMem p .none = s := by
  cases p with
  | pcie => exact setMem_none h
  | i2c =>
    have e : ({ s.hostIf with i2cMem := .none } : HostIf) = s.hostIf := by rw [← show s.hostIf.i2cMem = .none from h]
    show { s with hostIf := { s.hostIf with i2cMem := .none } } = s
    rw [e]

theorem flushPath_idle {p : Path} {s : State} (h : s.mem p = .none) : flushPath p s = s := by
  rw [flushPath, h]
  exact setMem_idle h

theorem hostReady_iff {s : State} : s.hostReady = true ↔ s.reach .pcie = true ∧ s.mem .pcie = .none := by
  simp [State.hostReady, State.mem]

/-- A 4-byte write of a 32-bit register. -/
theorem write4_idle {p : Path} {s : State} {a : Nat} {r : RegRef} (v : Nat) (h : s.mem p = .none) (hr : regAt a = some r)
    (hb : r.reg.bytes = 4) : write4 p a v s = hostWrite 0 v r s := by
  simp only [write4, hr, hb, if_true, flushPath_idle h]

/-- A 4-byte write of a lower word joins the upper word that the path holds for the same register. -/
theorem write4_join {p : Path} {s : State} {r : RegRef} {hi : Nat} (v : Nat) (h : s.mem p = .heldUpper r.addr hi)
    (hr : regAt r.addr = some r) (hb : r.reg.bytes = 8) :
    write4 p r.addr v s = hostWrite 0 (v + hi * 2 ^ 32) r (s.setMem p .none) := by
  have hlow : ¬ r.addr + 4 ≤ r.addr := by omega
  have hwide : ¬ 8 = 4 := by decide
  simp only [write4, hr, hb, h, hlow, hwide, if_true, if_false]

/-- A 4-byte write of an upper word is held. -/
theorem holdUpper_idle {p : Path} {s : State} (r : RegRef) (v : Nat) (h : s.mem p = .none) :
    holdUpper p r v s = s.setMem p (.heldUpper r.addr v) := by
  rw [holdUpper, h, flushPath_idle h]
  rfl

/-- A 4-byte read of a 32-bit register whose tile is JOINED. -/
theorem read4_idle {p : Path} {s : State} {a : Nat} {r : RegRef} (h : s.mem p = .none) (hr : regAt a = some r)
    (hb : r.reg.bytes = 4) (ht : s.tileAway r.addr = false) : read4 p a s = sideRead r s := by
  simp only [read4, hr, h, flushPath_idle h, readHalf, ht, hb]
  rfl

/-! The commands of a host access. -/

theorem exec_registerWrite_narrow {s : State} {a v : Nat} (hr : s.reach .pcie = true) (hg : goodAccess a 4 = true) (hv : v < 2 ^ 32) :
    exec (.registerWrite false a v) s = .next (write4 .pcie a v s) := by
  have hw : v % 2 ^ 32 = v := Nat.mod_eq_of_lt hv
  show Host.Outcome.next (s.when (s.reach .pcie) (hostStore false a v)) = _
  simp only [hr, State.when, hostStore, hg, hw, if_true, Bool.false_eq_true, if_false, not_true]

theorem exec_readClearAccess_narrow {s : State} {a : Nat} (hr : s.reach .pcie = true) (hg : goodAccess a 4 = true) :
    exec (.readClearAccess false a) s = .next (answer .pcie (read4 .pcie a s).2 (read4 .pcie a s).1) := by
  show Host.Outcome.next (s.when (s.reach .pcie) (hostRead false a)) = _
  simp [hr, State.when, hostRead, hg]

/-- The I2C target acknowledges the transaction at hand, or does not (R440). -/
def State.i2cAnswered (ok : Bool) (s : State) : State := s.modHost fun h => { h with i2cAck := ok }

theorem exec_i2cTransaction_write {s : State} {a v : Nat} (hr : s.awake = true) (ha : a % 4 = 0) (hw : i2cWrites a = true)
    (hv : v < 2 ^ 32) : exec (.i2cTransaction true a v) s = .next (write4 .i2c a v (s.i2cAnswered true)) := by
  have hm : v % 2 ^ 32 = v := Nat.mod_eq_of_lt hv
  show Host.Outcome.next (s.when (s.reach .i2c) (i2cAccess true a v)) = _
  simp only [State.reach, hr, State.when, i2cAccess, ha, hw, hm, if_true, Bool.and_self, beq_self_eq_true, not_true, if_false]
  rfl

theorem exec_i2cTransaction_read {s : State} {a : Nat} (v : Nat) (hr : s.awake = true) (ha : a % 4 = 0) (hw : i2cReads a = true) :
    exec (.i2cTransaction false a v) s = .next (answer .i2c (read4 .i2c a (asleepSupply (s.i2cAnswered true))).2
      (read4 .i2c a (asleepSupply (s.i2cAnswered true))).1) := by
  show Host.Outcome.next (s.when (s.reach .i2c) (i2cAccess false a v)) = _
  simp [State.reach, hr, State.when, i2cAccess, ha, hw, State.i2cAnswered]

theorem exec_i2cTransaction_refused {s : State} (w : Bool) {a : Nat} (v : Nat) (hs : s.awake = true) (hr : i2cReads a = false)
    (hw : i2cWrites a = false) :
    exec (.i2cTransaction w a v) s =
      .next (raiseSec E.HIF_I2C_REFUSED ((s.i2cAnswered false).sat F.HIF_ERR_STAT_I2C_REFUSED 1)) := by
  show Host.Outcome.next (s.when (s.reach .i2c) (i2cAccess w a v)) = _
  simp [State.reach, hs, State.when, i2cAccess, hr, hw, State.i2cAnswered]

/-! The registers that O15 names: their rows of the map (R471). -/

def staggerCfgReg : RegRef :=
  ⟨⟨0x200040, [], 4, .none, fun _ _ _ => [F.PWR_STAGGER_CFG_PER_TICK, F.PWR_STAGGER_CFG_OPT_GROUP, F.PWR_STAGGER_CFG_OPT_GAP_MS]⟩,
    [], 0x200040⟩

def modeReg : RegRef :=
  ⟨⟨0x200000, [], 4, .none, fun _ _ _ => [F.PWR_MODE_CUR, F.PWR_MODE_PREV, F.PWR_MODE_PENDING, F.PWR_MODE_CHANGES]⟩, [], 0x200000⟩

def ssAddrReg : RegRef := ⟨⟨0x200060, [], 4, .none, fun _ _ _ => [F.PWR_SS_ADDR_ADDR]⟩, [], 0x200060⟩

def errStatReg : RegRef :=
  ⟨⟨0x14, [], 4, .none, fun _ _ _ => [F.HIF_ERR_STAT_TILE_ACC, F.HIF_ERR_STAT_BAR2_DISCARD, F.HIF_ERR_STAT_I2C_REFUSED]⟩, [], 0x14⟩

def evtEnReg (g : Nat) : RegRef :=
  ⟨⟨0x1100, [⟨4, 0, 47⟩], 4, .const 48, fun a _ _ => [F.HIF_EVT_EN_EN a]⟩, [g], 0x1100 + 4 * g⟩

def rfxRuleReg (r : Nat) : RegRef :=
  ⟨⟨0x4000, [⟨8, 0, 255⟩], 8, .const 49, fun a _ _ =>
    [F.HIF_RFX_RULE_SOURCE a, F.HIF_RFX_RULE_VALID a, F.HIF_RFX_RULE_QUAL a, F.HIF_RFX_RULE_QMODE a, F.HIF_RFX_RULE_ACTION a,
      F.HIF_RFX_RULE_ONESHOT a, F.HIF_RFX_RULE_ARG a, F.HIF_RFX_RULE_HOLD_MS a]⟩, [r], 0x4000 + 8 * r⟩

theorem regAt_staggerCfg : regAt 0x200040 = some staggerCfgReg := rfl

theorem regAt_mode : regAt 0x200000 = some modeReg := rfl

theorem regAt_ssAddr : regAt 0x200060 = some ssAddrReg := rfl

theorem regAt_errStat : regAt 0x14 = some errStatReg :=
  regAt_of_find (a := 0x14) 0x14 0x18 (find?_regTable_hif 0x14 (by decide)) (by decide) (by decide) rfl

theorem regAt_evtEn {g : Nat} (hg : g < 48) : regAt (0x1100 + 4 * g) = some (evtEnReg g) :=
  regAt_of_find (a := 0x1100 + 4 * g) 0x1100 0x11C0 (find?_regTable_hif 0x1100 (by decide)) (by omega) (by omega)
    (Reg.at?_indexed (i := g) (o := 0) rfl rfl (Nat.zero_le g) (Nat.le_of_lt_succ hg) (by decide) (by decide))

/-- The register at either word of a reflex rule. -/
theorem regAt_rfxRule {r o : Nat} (hr : r < 256) (ho : o < 8) : regAt (0x4000 + 8 * r + o) = some (rfxRuleReg r) := by
  have hat : (rfxRuleReg r).reg.at? (0x4000 + 8 * r + o) = some ([r], o) :=
    Reg.at?_indexed rfl (Nat.add_assoc ..) (Nat.zero_le r) (Nat.le_of_lt_succ hr) ho ho
  rw [regAt_of_find 0x4000 0x4800 (find?_regTable_hif 0x4000 (by decide)) (by omega) (by omega) hat, Nat.add_sub_cancel]
  rfl

/-! Their writes. -/

theorem hostWrite_staggerCfg (s : State) (v : Nat) : hostWrite 0 v staggerCfgReg s = s.putAll staggerCfgReg.fields (Fld.part v) := by
  have ht := tileAway_low s (show staggerCfgReg.addr < 0x1000000 by decide)
  rw [hostWrite_ordinary s v ht rfl fun _ => rfl]
  exact writeReg_active s v rfl ht (by decide)

theorem hostWrite_ssAddr (s : State) (v : Nat) : hostWrite 0 v ssAddrReg s = s.putAll ssAddrReg.fields (Fld.part v) := by
  have ht := tileAway_low s (show ssAddrReg.addr < 0x1000000 by decide)
  rw [hostWrite_ordinary s v ht rfl fun _ => rfl]
  exact writeReg_active s v rfl ht (by decide)

theorem hostWrite_evtEn (s : State) {g : Nat} (v : Nat) (hg : g < 48) : hostWrite 0 v (evtEnReg g) s = writeReg 0 v (evtEnReg g) s :=
  hostWrite_ordinary s v (tileAway_low s (show 0x1100 + 4 * g < 0x1000000 by omega)) rfl fun _ => rfl

theorem writeReg_evtEn_open {s : State} {g : Nat} (v : Nat) (hg : g < 48) (ho : s.locked 48 = false) :
    writeReg 0 v (evtEnReg g) s = s.putShadow 48 [F.HIF_EVT_EN_EN g] (Fld.part v) := by
  refine writeReg_grouped s v 48 rfl ho (tileAway_low s (show 0x1100 + 4 * g < 0x1000000 by omega)) fun f hf => ?_
  obtain rfl : f = F.HIF_EVT_EN_EN g := by simpa [evtEnReg, RegRef.fields] using hf
  have ha : (F.HIF_EVT_EN_EN g).addr < 0x4000 := by simp only [F.HIF_EVT_EN_EN]; omega
  exact ⟨hidden_plain s (Fld.plain_iff.2 (.inl ha)), rfl, by omega⟩

theorem writeReg_evtEn_locked {s : State} {g : Nat} (v : Nat) (hg : g < 48) (hl : s.locked 48 = true) :
    writeReg 0 v (evtEnReg g) s = refuseCommit 48 6 s :=
  writeReg_locked s 0 v 48 rfl hl (tileAway_low s (show 0x1100 + 4 * g < 0x1000000 by omega))

/-- From API minor 1 on no field of a reflex rule is hidden (R438). -/
theorem hidden_rfxRule {s : State} {r : Nat} (hr : r < 256) (hm : 1 ≤ s.minor) {f : Fld} (hf : f.addr = 0x4000 + 8 * r) :
    s.hidden f = false := by
  have h0 : (s.minor == 0) = false := beq_eq_false_iff_ne.2 (by omega)
  unfold State.hidden
  rw [if_neg (by omega), if_pos (by omega), h0, Bool.false_and]

theorem hostWrite_rfxRule {s : State} {r : Nat} (v : Nat) (hr : r < 256) (ho : s.locked 49 = false) (hm : 1 ≤ s.minor) :
    hostWrite 0 v (rfxRuleReg r) s = s.putShadow 49 (rfxRuleReg r).fields (Fld.part v) := by
  have ht := tileAway_low s (show (rfxRuleReg r).addr < 0x1000000 by simp only [rfxRuleReg]; omega)
  rw [hostWrite_ordinary s v ht rfl fun _ => rfl]
  refine writeReg_grouped s v 49 rfl ho ht fun f hf => ?_
  have hfa : f.addr = 0x4000 + 8 * r ∧ f.acc = .rw := by
    simp only [RegRef.fields, rfxRuleReg, List.getD_cons_zero, List.mem_cons, List.not_mem_nil, or_false] at hf
    rcases hf with rfl | rfl | rfl | rfl | rfl | rfl | rfl | rfl <;> exact ⟨rfl, rfl⟩
  exact ⟨hidden_rfxRule hr hm hfa.1, hfa.2, by omega⟩

theorem rfxRuleReg_nodup (r : Nat) : ((rfxRuleReg r).fields.map Fld.key).Nodup := by
  simp [RegRef.fields, rfxRuleReg, Fld.key, F.HIF_RFX_RULE_SOURCE, F.HIF_RFX_RULE_VALID, F.HIF_RFX_RULE_QUAL, F.HIF_RFX_RULE_QMODE,
    F.HIF_RFX_RULE_ACTION, F.HIF_RFX_RULE_ONESHOT, F.HIF_RFX_RULE_ARG, F.HIF_RFX_RULE_HOLD_MS]

/-- Each field of a rule takes its part of the word. -/
theorem rdShadow_rfxRule (s : State) (r w : Nat) {f : Fld} (hf : f ∈ (rfxRuleReg r).fields) :
    (s.putShadow 49 (rfxRuleReg r).fields (Fld.part w)).rdShadow f = f.part w := by
  rw [rdShadow_putShadow 49 _ s (rfxRuleReg_nodup r) hf, Fld.part_mod]

/-! Their reads. -/

/-- Three counts of 10 bits side by side. -/
theorem join_counts {a b c : Nat} (ha : a < 1024) (hb : b < 1024) : 0 ||| a <<< 0 ||| b <<< 10 ||| c <<< 20 = a + 1024 * b + 1048576 * c := by
  have h1 : a ||| b <<< 10 = a + 1024 * b := by
    rw [Nat.or_comm, ← Nat.shiftLeft_add_eq_or_of_lt (show a < 2 ^ 10 from ha), Nat.shiftLeft_eq]; omega
  rw [Nat.zero_or, Nat.shiftLeft_zero, h1, Nat.or_comm,
    ← Nat.shiftLeft_add_eq_or_of_lt (show a + 1024 * b < 2 ^ 20 by omega), Nat.shiftLeft_eq]
  omega

theorem sideRead_errStat (s : State) :
    sideRead errStatReg s = (s.putAll errStatReg.fields fun _ => 0, s.readWord errStatReg) := rfl

theorem readWord_errStat {s : State} (ha : s.rdShadow F.HIF_ERR_STAT_TILE_ACC < 1024) (hb : s.rdShadow F.HIF_ERR_STAT_BAR2_DISCARD < 1024) :
    s.readWord errStatReg = s.rdShadow F.HIF_ERR_STAT_TILE_ACC + 1024 * s.rdShadow F.HIF_ERR_STAT_BAR2_DISCARD +
      1048576 * s.rdShadow F.HIF_ERR_STAT_I2C_REFUSED :=
  (readWord_shown s (by decide)).trans (join_counts ha hb)

/-- PWR_MODE has no field that a read clears. -/
theorem sideRead_mode (s : State) : sideRead modeReg s = (s, s.readWord modeReg) := rfl

theorem readWord_mode_i2cAnswered (s : State) (ok : Bool) : (s.i2cAnswered ok).readWord modeReg = s.readWord modeReg :=
  (readWord_shown _ (by decide)).trans (readWord_shown s (by decide)).symm

/-! In ASLEEP an access measures VIN and HOLD first (R51); in every other mode it measures nothing. -/

theorem asleepSupply_awake {s : State} (h : s.mode ≠ mAsleep) : asleepSupply s = s :=
  if_neg fun hb => h (beq_iff_eq.1 hb)

/-- What an access in ASLEEP measures. -/
theorem asleepSupply_asleep {s : State} (h : s.mode = mAsleep) :
    RegOnly [F.PWR_VIN_VIN_MV, F.PWR_VIN_VIN_MIN_MV, F.PWR_HOLD_HOLD_MV, F.PWR_HOLD_HOLD_OK] s (asleepSupply s) ∧
      (asleepSupply s).still s = s := by
  rw [asleepSupply, h]
  refine ⟨?_, rfl⟩
  exact ((((RegOnly.refl _ s).of_regs (u := s.draw) rfl).wr (by simp) _ |>.wr (by simp) _).wr (by simp) _).wr (by simp) _

/-! The accesses of O15, each with the state that it answers. -/

theorem goodAccess_word {a : Nat} (h : a % 4 = 0) (hi : a + 4 ≤ 0x4000000) : goodAccess a 4 = true := by
  simp [goodAccess, h, hi]

theorem exec_registerWrite_staggerCfg {s : State} {v : Nat} (h : s.hostReady = true) (hv : v < 2 ^ 32) :
    exec (.registerWrite false 0x200040 v) s = .next (s.putAll staggerCfgReg.fields (Fld.part v)) := by
  obtain ⟨hr, hm⟩ := hostReady_iff.1 h
  rw [exec_registerWrite_narrow hr rfl hv, write4_idle v hm regAt_staggerCfg rfl, hostWrite_staggerCfg]

theorem exec_registerWrite_evtEn {s : State} {g v : Nat} (h : s.hostReady = true) (hg : g < 48) (hv : v < 2 ^ 32) :
    exec (.registerWrite false (0x1100 + 4 * g) v) s = .next (writeReg 0 v (evtEnReg g) s) := by
  obtain ⟨hr, hm⟩ := hostReady_iff.1 h
  rw [exec_registerWrite_narrow hr (goodAccess_word (by omega) (by omega)) hv, write4_idle v hm (regAt_evtEn hg) rfl,
    hostWrite_evtEn s v hg]

theorem exec_upperWordWrite_rfxRule {s : State} {r v : Nat} (h : s.hostReady = true) (hr : r < 256) (hv : v < 2 ^ 32) :
    exec (.upperWordWrite (0x4004 + 8 * r) v) s = .next (s.setMem .pcie (.heldUpper (0x4000 + 8 * r) v)) := by
  obtain ⟨hreach, hm⟩ := hostReady_iff.1 h
  have ha : 0x4004 + 8 * r = 0x4000 + 8 * r + 4 := by omega
  have hw : v % 2 ^ 32 = v := Nat.mod_eq_of_lt hv
  have hf : (some (rfxRuleReg r)).filter (fun x => x.reg.bytes == 8 && x.addr + 4 == 0x4000 + 8 * r + 4) = some (rfxRuleReg r) := by
    simp [rfxRuleReg]
  show Host.Outcome.next (s.when (s.reach .pcie) fun t =>
    match (regAt (0x4004 + 8 * r)).filter fun x => x.reg.bytes == 8 && x.addr + 4 == 0x4004 + 8 * r with
    | some x => holdUpper .pcie x (v % 2 ^ 32) t
    | none => t) = _
  rw [ha, regAt_rfxRule hr (by decide), hf, hreach, hw]
  exact congrArg Host.Outcome.next (holdUpper_idle (rfxRuleReg r) v hm)

theorem exec_registerWrite_rfxRule {s : State} {r hi v : Nat} (h : s.reach .pcie = true)
    (hm : s.hostIf.pcieMem = .heldUpper (0x4000 + 8 * r) hi) (hr : r < 256) (hv : v < 2 ^ 32) (ho : s.locked 49 = false)
    (hmin : 1 ≤ s.minor) :
    exec (.registerWrite false (0x4000 + 8 * r) v) s =
      .next ((s.setMem .pcie .none).putShadow 49 (rfxRuleReg r).fields (Fld.part (v + hi * 2 ^ 32))) := by
  rw [exec_registerWrite_narrow h (goodAccess_word (by omega) (by omega)) hv,
    ← hostWrite_rfxRule (s := s.setMem .pcie .none) (v + hi * 2 ^ 32) hr ho hmin]
  exact congrArg Host.Outcome.next (write4_join (r := rfxRuleReg r) v hm (regAt_rfxRule (o := 0) hr (by decide)) rfl)

theorem exec_readClearAccess_errStat {s : State} (h : s.hostReady = true) :
    exec (.readClearAccess false 0x14) s =
      .next (answer .pcie (s.readWord errStatReg) (s.putAll errStatReg.fields fun _ => 0)) := by
  obtain ⟨hr, hm⟩ := hostReady_iff.1 h
  rw [exec_readClearAccess_narrow hr rfl, read4_idle hm regAt_errStat rfl (tileAway_low s (by decide)), sideRead_errStat]

/-- An I2C read of PWR_MODE, after what an access in ASLEEP measures. -/
theorem exec_i2cTransaction_mode {s : State} (v : Nat) (h : s.awake = true)
    (hm : (asleepSupply (s.i2cAnswered true)).hostIf.i2cMem = .none) :
    exec (.i2cTransaction false 0x200000 v) s =
      .next (answer .i2c ((asleepSupply (s.i2cAnswered true)).readWord modeReg) (asleepSupply (s.i2cAnswered true))) := by
  rw [exec_i2cTransaction_read v h rfl rfl, read4_idle (p := .i2c) hm regAt_mode rfl (tileAway_low _ (by decide)), sideRead_mode]

theorem exec_i2cTransaction_ssAddr {s : State} {v : Nat} (h : s.awake = true) (hm : s.hostIf.i2cMem = .none) (hv : v < 2 ^ 32) :
    exec (.i2cTransaction true 0x200060 v) s = .next ((s.i2cAnswered true).putAll ssAddrReg.fields (Fld.part v)) := by
  rw [exec_i2cTransaction_write h rfl rfl hv, write4_idle (p := .i2c) (s := s.i2cAnswered true) v hm regAt_ssAddr rfl, hostWrite_ssAddr]

theorem exec_unsupportedRequest (s : State) (a n : Nat) :
    exec (.unsupportedRequest a n) s = .next (s.when (s.reach .pcie && !goodAccess a n) unsupported) := rfl

/-! What those states show. -/

/-- The refused I2C access is counted, up to 1023. -/
theorem rd_i2cRefused (s : State) :
    (raiseSec E.HIF_I2C_REFUSED ((s.i2cAnswered false).sat F.HIF_ERR_STAT_I2C_REFUSED 1)).rd F.HIF_ERR_STAT_I2C_REFUSED =
      min (s.rd F.HIF_ERR_STAT_I2C_REFUSED + 1) 1023 := by
  rw [rd_raiseSec _ (by decide) (by decide), State.sat, rd_wr_self]
  exact Nat.mod_eq_of_lt (Nat.lt_of_le_of_lt (Nat.min_le_right _ _) (by decide))

theorem calm_i2cRefused (s : State) :
    (raiseSec E.HIF_I2C_REFUSED ((s.i2cAnswered false).sat F.HIF_ERR_STAT_I2C_REFUSED 1)).calm (s.i2cAnswered false) =
      s.i2cAnswered false :=
  calm_trans (t := (s.i2cAnswered false).sat F.HIF_ERR_STAT_I2C_REFUSED 1) rfl (calm_raiseSec _ (by decide))

theorem regFrame_i2cRefused (s : State) :
    RegFrame [F.HIF_ERR_STAT_I2C_REFUSED] s
      (raiseSec E.HIF_I2C_REFUSED ((s.i2cAnswered false).sat F.HIF_ERR_STAT_I2C_REFUSED 1)) :=
  (((RegFrame.refl _ s).of_regs (u := s.i2cAnswered false) rfl).wr (by simp) _).trans fun _ _ hf => rd_raiseSec _ (by decide) hf

theorem hostIf_of_still {s t : State} (h : t.still s = s) : t.hostIf = s.hostIf :=
  show (t.still s).hostIf = s.hostIf by rw [h]

/-- `t` differs from `u` in registers and free values alone, and `u` from `s` in the host interface. -/
theorem still_hostIf {s u t : State} (h : t.still u = u) (k : { u with hostIf := s.hostIf } = s) :
    { t.still s with hostIf := s.hostIf } = s := by
  have e : { (t.still u).still s with hostIf := s.hostIf } = { u.still s with hostIf := s.hostIf } := by rw [h]
  exact e.trans (congrArg (State.still · s) k)

/-- Settles O15: each access over a free path is the write or read of the register at its address. -/
theorem hostAccess : Obligations.HostAccess := by
  unfold Obligations.HostAccess
  refine ⟨?stagger, ?evtOpen, ?evtLocked, ?upper, ?rule, ?readClear, ?bad, ?good, ?i2cMode, ?i2cAsleep, ?i2cRefused, ?i2cSsAddr⟩
  case stagger =>
    intro s v h hv
    have hrd : ∀ f ∈ staggerCfgReg.fields, (s.putAll staggerCfgReg.fields (Fld.part v)).rd f = f.part v :=
      fun f hf => (rd_putAll _ s (by decide) hf).trans (Fld.part_mod v f)
    refine ⟨_, exec_registerWrite_staggerCfg h hv, (hrd _ ?_).trans (Fld.part_low v rfl), hrd _ ?_, hrd _ ?_, regOnly_putAll _ _ s,
      putAll_still _ _ s⟩
    all_goals simp [RegRef.fields, staggerCfgReg]
  case evtOpen =>
    intro s g v h hg hv ho
    refine ⟨_, exec_registerWrite_evtEn h hg hv, ?_⟩
    rw [writeReg_evtEn_open v hg ho]
    refine ⟨?_, putShadow_regs .., rfl⟩
    rw [rdShadow_putShadow 48 _ s (by simp) (by simp), Fld.part_mod, Fld.part_low v rfl]
    exact Nat.mod_eq_of_lt hv
  case evtLocked =>
    intro s g v h hg hv hl
    refine ⟨_, exec_registerWrite_evtEn h hg hv, ?_⟩
    rw [writeReg_evtEn_locked v hg hl]
    exact ⟨rd_refuseCommit_code 48 6 s, rd_refuseCommit_group 48 6 s, status_refuseCommit 48 6 s, regFrame_refuseCommit 48 6 s,
      calm_refuseCommit 48 6 s⟩
  case upper =>
    intro s r v h hr hv
    exact ⟨_, exec_upperWordWrite_rfxRule h hr hv, rfl⟩
  case rule =>
    intro s r hi v h hm hr hhi hv ho hmin
    have hrd := fun f => rdShadow_rfxRule (s.setMem .pcie .none) r (v + hi * 2 ^ 32) (f := f)
    refine ⟨_, exec_registerWrite_rfxRule h hm hr hv ho hmin, (hrd _ ?hsource).trans ?_, (hrd _ ?hvalid).trans ?_,
      (hrd _ ?haction).trans ?_, (hrd _ ?harg).trans ?_, (hrd _ ?hhold).trans ?_, putShadow_regs .., congrArg HostIf.pcieMem (putShadow_hostIf ..)⟩
    case hsource | hvalid | haction | harg | hhold => simp [RegRef.fields, rfxRuleReg]
    all_goals
      simp only [Fld.part, slice, F.HIF_RFX_RULE_SOURCE, F.HIF_RFX_RULE_VALID, F.HIF_RFX_RULE_ACTION, F.HIF_RFX_RULE_ARG,
        F.HIF_RFX_RULE_HOLD_MS]
      omega
  case readClear =>
    intro s h ha hb _
    have hrd : ∀ f ∈ errStatReg.fields, (s.putAll errStatReg.fields fun _ => 0).rd f = 0 :=
      fun f hf => (rd_putAll _ s (by decide) hf).trans (Nat.zero_mod _)
    refine ⟨_, exec_readClearAccess_errStat h, readWord_errStat ha hb, hrd _ ?_, hrd _ ?_, hrd _ ?_,
      (regOnly_putAll errStatReg.fields (fun _ => 0) s).of_regs rfl,
      still_hostIf (u := s) (t := s.putAll errStatReg.fields fun _ => 0) (putAll_still _ _ s) rfl⟩
    all_goals simp [RegRef.fields, errStatReg]
  case bad =>
    intro s a n h hg
    refine ⟨_, exec_unsupportedRequest s a n, ?_⟩
    rw [h, hg]; rfl
  case good =>
    intro s a n hg
    refine ⟨_, exec_unsupportedRequest s a n, ?_⟩
    rw [hg, Bool.not_true, Bool.and_false]; rfl
  case i2cMode =>
    intro s v h hm hmode
    have hidle : asleepSupply (s.i2cAnswered true) = s.i2cAnswered true := asleepSupply_awake (s := s.i2cAnswered true) hmode
    refine ⟨_, exec_i2cTransaction_mode v h (by rw [hidle]; exact hm), ?_⟩
    rw [hidle, regAt_mode]
    exact ⟨rfl, readWord_mode_i2cAnswered s true, rfl, rfl⟩
  case i2cAsleep =>
    intro s v h hm hmode
    obtain ⟨hregs, hstill⟩ := asleepSupply_asleep (s := s.i2cAnswered true) hmode
    have hif : (asleepSupply (s.i2cAnswered true)).hostIf = (s.i2cAnswered true).hostIf := hostIf_of_still hstill
    refine ⟨_, exec_i2cTransaction_mode v h (by rw [hif]; exact hm), ?_, hregs, ?_⟩
    · exact congrArg HostIf.i2cAck hif
    · exact still_hostIf (u := s.i2cAnswered true) (t := asleepSupply (s.i2cAnswered true)) hstill rfl
  case i2cRefused =>
    intro s w a v h hr hw
    have hcalm := calm_i2cRefused s
    refine ⟨_, exec_i2cTransaction_refused w v h hr hw, ?_, rd_i2cRefused s, regFrame_i2cRefused s, ?_⟩
    · exact congrArg (fun t : State => t.hostIf.i2cAck) hcalm
    · exact congrArg (fun t : State => { t.calm s with hostIf := s.hostIf }) hcalm
  case i2cSsAddr =>
    intro s v h hm hv
    refine ⟨_, exec_i2cTransaction_ssAddr h hm hv, rfl, ?_, (regOnly_putAll _ _ (s.i2cAnswered true)).frame, rfl⟩
    exact (rd_putAll _ (s.i2cAnswered true) (by decide) (by simp [RegRef.fields, ssAddrReg])).trans (Fld.part_mod v _)

end Sys2Proof.Machine

/-! Proofs about the tick and the one-second boundary (family of ch. 01). First, one lemma per operation of a tick: it leaves the count of
ticks, so that the count moves in the tick's opening alone (R12). -/
namespace Sys2Proof.Machine

/-! An event of any number changes registers, hub, store and the count of free values alone. -/

theorem calm_foldl_fst {β γ : Type} {f : State × γ → β → State × γ} (hf : ∀ a x, (f a x).1.calm a.1 = a.1) (l : List β) (s : State × γ) :
    (l.foldl f s).1.calm s.1 = s.1 := by
  induction l generalizing s with
  | nil => rfl
  | cons x l ih => exact calm_trans (hf s x) (ih _)

theorem calm_faultLog (id stamp : Nat) (s : State) : (faultLog id stamp s).calm s = s := by
  unfold faultLog; split <;> rfl

theorem calm_deliver (id : Nat) (l r : Bool) (st : Nat) (s : State) : (deliver id l r st s).calm s = s := by
  unfold deliver; repeat' split
  all_goals rfl

theorem calm_obsAdd (i n : Nat) (s : State) : (obsAdd i n s).1.calm s = s := by
  unfold obsAdd
  extract_lets v s1 x s2
  repeat' split
  all_goals rfl

theorem calm_obsEvent (id : Nat) (s : State) : (obsEvent id s).1.calm s = s :=
  calm_foldl_fst (f := fun a i => let r := obsAdd i 1 a.1; (r.1, a.2 || r.2)) (fun a i => calm_obsAdd i 1 a.1) _ (s, false)

theorem calm_occur (e : Ev) (r : Bool) (s : State) : (occur e r s).1.calm s = s := by
  unfold occur
  extract_lets st s1 s2 s3
  have h2 : s2.calm s1 = s1 := by
    show (if e.logged then faultLog e.id st s1 else s1).calm s1 = s1
    split
    · exact calm_faultLog _ _ _
    · rfl
  have h3 : s3.calm s2 = s2 := by
    show (if s.cfg.routed then _ else _ : State).calm s2 = s2
    split
    · exact calm_deliver _ _ _ _ _
    · rfl
  exact calm_trans (t := s1) rfl (calm_trans h2 (calm_trans h3 (calm_obsEvent _ _)))

theorem calm_bookFiring (r : Nat) (s : State) : (bookFiring r s).calm s = s := by
  unfold bookFiring
  extract_lets s1 s2
  have h2 : s2.calm s = s := by
    show (if s.on (F.HIF_RFX_RULE_ONESHOT r) then _ else _ : State).calm s = s
    split <;> rfl
  exact calm_trans h2 rfl

theorem calm_raiseN (n : Nat) (e : Ev) (s : State) : (raiseN n e s).calm s = s := by
  induction n generalizing e s with
  | zero => rfl
  | succ n ih =>
    have hf := calm_foldl_fst (f := fun a r => let q := occur E.HIF_REFLEX_FIRED false (bookFiring r a.1); (q.1, a.2 || q.2))
      (fun a r => calm_trans (calm_bookFiring r a.1) (calm_occur E.HIF_REFLEX_FIRED false _)) (firingRules s e.id)
      (occur e (!(firingRules s e.id).isEmpty) s)
    have h := calm_trans (calm_occur e (!(firingRules s e.id).isEmpty) s) hf
    unfold raiseN
    extract_lets
    split
    · exact calm_trans h (calm_trans (t := State.modHub _ _) rfl (ih _ _))
    · exact h

/-- Raising an event of any number leaves everything but registers, hub, store and the count of free values as it was. -/
theorem calm_raise_any (e : Ev) (s : State) : (raise e s).calm s = s := calm_raiseN 3 e s

theorem calm_raiseSec_any (e : Ev) (s : State) : (raiseSec e s).calm s = s := by
  unfold raiseSec
  split
  · rfl
  · exact calm_trans (t := State.modHub _ s) rfl (calm_raise_any e _)

/-! The count of ticks through the forms that the operations are built of, then through each operation, callees first. -/

@[simp] theorem raise_ticks (e : Ev) (s : State) : (raise e s).ticks = s.ticks :=
  (congrArg State.ticks (calm_raise_any e s) :)
@[simp] theorem raiseSec_ticks (e : Ev) (s : State) : (raiseSec e s).ticks = s.ticks :=
  (congrArg State.ticks (calm_raiseSec_any e s) :)

@[simp] theorem ticks_ite {c : Prop} [Decidable c] (x y : State) : (if c then x else y).ticks = if c then x.ticks else y.ticks :=
  apply_ite State.ticks c x y

@[simp] theorem ticks_foldl {β : Type} {f : State → β → State} (hf : ∀ a x, (f a x).ticks = a.ticks) (l : List β) (s : State) :
    (l.foldl f s).ticks = s.ticks := by
  induction l generalizing s with
  | nil => rfl
  | cons x l ih => exact (ih _).trans (hf s x)

@[simp] theorem ticks_when (c : Bool) (g : State → State) (s : State) :
    (s.when c g).ticks = if c then (g s).ticks else s.ticks := apply_ite State.ticks (c = true) (g s) s

@[simp] theorem sat_ticks (f : Fld) (n : Nat) (s : State) : (s.sat f n).ticks = s.ticks := rfl
@[simp] theorem wrap_ticks (f : Fld) (n : Nat) (s : State) : (s.wrap f n).ticks = s.ticks := rfl

theorem ticks_foldl_fst {β γ : Type} {f : State × γ → β → State × γ} (hf : ∀ a x, (f a x).1.ticks = a.1.ticks) (l : List β)
    (s : State × γ) : (l.foldl f s).1.ticks = s.1.ticks := by
  induction l generalizing s with
  | nil => rfl
  | cons x l ih => exact (ih _).trans (hf s x)

@[simp] theorem obsAdd_ticks (i n : Nat) (s : State) : (obsAdd i n s).1.ticks = s.ticks := (congrArg State.ticks (calm_obsAdd i n s) :)

@[simp] theorem eccLast_ticks (kind r addr : Nat) (s : State) : (eccLast kind r addr s).ticks = s.ticks := by simp [eccLast]

@[simp] theorem segFault_ticks (r addr : Nat) (read : Bool) (s : State) : (segFault r addr read s).ticks = s.ticks := by simp [segFault]

@[simp] theorem modPc_ticks (p : Nat) (g : PseudoCh → PseudoCh) (s : State) : (State.modPc p g s).ticks = s.ticks := by simp [State.modPc]

@[simp] theorem rehold_ticks (p : Nat) (s : State) : (rehold p s).ticks = s.ticks := by simp [rehold]

@[simp] theorem reholdAll_ticks (s : State) : (reholdAll s).ticks = s.ticks := by simp [reholdAll]

@[simp] theorem refuseQueued_ticks (bits : Nat) (s : State) : (refuseQueued bits s).ticks = s.ticks := by simp [refuseQueued]

@[simp] theorem releaseSegs_ticks (bits : Nat) (s : State) : (releaseSegs bits s).ticks = s.ticks := by simp [releaseSegs]

@[simp] theorem retainSegs_ticks (keep : Nat) (s : State) : (retainSegs keep s).ticks = s.ticks := by simp [retainSegs]

@[simp] theorem drcOnMode_ticks (new : Nat) (s : State) : (drcOnMode new s).ticks = s.ticks := by simp [drcOnMode]

@[simp] theorem refuseMode_ticks (target code : Nat) (s : State) : (refuseMode target code s).ticks = s.ticks := by simp [refuseMode]

@[simp] theorem clearRegs_ticks (p : Nat → Nat → Bool) (s : State) : (State.clearRegs p s).ticks = s.ticks := by simp [State.clearRegs]

@[simp] theorem mirrorMark_ticks (s : State) : (mirrorMark s).ticks = s.ticks := by simp [mirrorMark]

@[simp] theorem releaseHeld_ticks (l : Nat) (s : State) : (releaseHeld l s).ticks = s.ticks := by
  unfold releaseHeld
  extract_lets
  repeat' split
  all_goals simp +zetaDelta

@[simp] theorem lockLink_ticks (l : Nat) (s : State) : (lockLink l s).ticks = s.ticks := by simp [lockLink]

@[simp] theorem lockInjection_ticks (s : State) : (lockInjection s).ticks = s.ticks := by simp [lockInjection]

@[simp] theorem unlockAll_ticks (s : State) : (unlockAll s).ticks = s.ticks := by
  unfold unlockAll
  exact ticks_foldl (by intros; rfl) _ _

@[simp] theorem benOff_ticks (s : State) : (benOff s).ticks = s.ticks := by
  unfold benOff
  exact ticks_foldl (by intros; rfl) _ _

@[simp] theorem phasesDown_ticks (s : State) : (phasesDown s).ticks = s.ticks := by simp [phasesDown]

@[simp] theorem emptyCaches_ticks (s : State) : (emptyCaches s).ticks = s.ticks := by simp [emptyCaches]

@[simp] theorem showLanes_ticks (s : State) : (showLanes s).ticks = s.ticks := by simp [showLanes]

@[simp] theorem loopBen_ticks (n : Nat) (s : State) : (loopBen n s).ticks = s.ticks := by simp [loopBen]

@[simp] theorem offsetsOff_ticks (s : State) : (offsetsOff s).ticks = s.ticks := by
  unfold offsetsOff
  exact ticks_foldl (by intros; rfl) _ _

@[simp] theorem setMode_ticks (m : Nat) (s : State) : (setMode m s).ticks = s.ticks := by simp [setMode]

@[simp] theorem pendMode_ticks (rule : Option Nat) (t : Nat) (s : State) : (pendMode rule t s).ticks = s.ticks := by simp [pendMode]

@[simp] theorem noPending_ticks (s : State) : (noPending s).ticks = s.ticks := by simp [noPending]

@[simp] theorem requestMode_ticks (rule : Option Nat) (t : Nat) (s : State) : (requestMode rule t s).ticks = s.ticks := by
  simp [requestMode]

@[simp] theorem dropRequest_ticks (code : Nat) (s : State) : (dropRequest code s).ticks = s.ticks := by
  unfold dropRequest
  split <;> simp

@[simp] theorem showQueue_ticks (s : State) : (showQueue s).ticks = s.ticks := by simp [showQueue]

@[simp] theorem bringUp_ticks (b : BringUp) (s : State) : (bringUp b s).ticks = s.ticks := by
  unfold bringUp
  extract_lets
  repeat' split
  all_goals simp +zetaDelta

@[simp] theorem dropBringUp_ticks (p : Nat) (s : State) : (dropBringUp p s).ticks = s.ticks := by simp [dropBringUp]

@[simp] theorem menOn_ticks (p : Nat) (s : State) : (menOn p s).ticks = s.ticks := by simp [menOn]

@[simp] theorem releaseBens_ticks (s : State) : (releaseBens s).ticks = s.ticks := by simp [releaseBens]

@[simp] theorem portDown_ticks (p : Nat) (s : State) : (portDown p s).ticks = s.ticks := by simp [portDown]

@[simp] theorem pcieDown_ticks (s : State) : (pcieDown s).ticks = s.ticks := by simp [pcieDown]

@[simp] theorem histAdd_ticks (h b : Nat) (s : State) : (histAdd h b s).ticks = s.ticks := by simp [histAdd]

@[simp] theorem histSample_ticks (src index v : Nat) (s : State) : (histSample src index v s).ticks = s.ticks := by simp [histSample]

@[simp] theorem histZero_ticks (h : Nat) (s : State) : (histZero h s).ticks = s.ticks := by simp [histZero]

@[simp] theorem showBusy_ticks (k : Nat) (s : State) : (showBusy k s).ticks = s.ticks := by simp [showBusy]

@[simp] theorem showActive_ticks (s : State) : (showActive s).ticks = s.ticks := by simp [showActive]

@[simp] theorem freezeGroup_ticks (n : Nat) (b : Bool) (s : State) : (freezeGroup n b s).ticks = s.ticks := by simp [freezeGroup]

@[simp] theorem showTree_ticks (n : Nat) (d : TileDesc) (s : State) : (showTree n d s).ticks = s.ticks := by simp [showTree]

@[simp] theorem showPhase_ticks (n : Nat) (s : State) : (showPhase n s).ticks = s.ticks := by simp [showPhase]

@[simp] theorem showUplinks_ticks (s : State) : (showUplinks s).ticks = s.ticks :=
  ticks_foldl (fun a u => by split <;> rfl) _ s

@[simp] theorem resetTileFields_ticks (n : Nat) (s : State) : (resetTileFields n s).ticks = s.ticks := by simp [resetTileFields]

@[simp] theorem applyWrites_ticks (p : Nat → Bool) (ws : List (Nat × Nat)) (s : State) : (applyWrites p ws s).ticks = s.ticks :=
  ticks_foldl (fun a w => by split <;> simp) ws s

@[simp] theorem clearHeld_ticks (n : Nat) (s : State) : (clearHeld n s).ticks = s.ticks := by simp [clearHeld]

@[simp] theorem joinTile_ticks (n ver : Nat) (r : Reload) (s : State) : (joinTile n ver r s).ticks = s.ticks := by simp [joinTile]

@[simp] theorem loadTick_ticks (s : State) : (loadTick s).ticks = s.ticks := by
  unfold loadTick
  refine ticks_foldl ?_ _ s
  intro a e
  dsimp only
  repeat' split
  all_goals simp

@[simp] theorem modLink_ticks (l : Nat) (g : InjLink → InjLink) (s : State) : (State.modLink l g s).ticks = s.ticks := by
  simp [State.modLink]

@[simp] theorem inject_ticks (l : Nat) (selected : Bool) (s : State) : (inject l selected s).2.ticks = s.ticks := by
  unfold inject
  split <;> simp

@[simp] theorem passHeld_ticks (l : Nat) (bytes : List Nat) (s : State) : (passHeld l bytes s).2.ticks = s.ticks := rfl

@[simp] theorem injectTick_ticks (s : State) : (injectTick s).ticks = s.ticks := by simp [injectTick]

@[simp] theorem setRole_ticks (r : Nat) (s : State) : (setRole r s).ticks = s.ticks := by simp [setRole]

@[simp] theorem setMirror_ticks (m : Nat) (s : State) : (setMirror m s).ticks = s.ticks := by simp [setMirror]

@[simp] theorem mirrorSend_ticks (n : Option Nat) (s : State) : (mirrorSend n s).ticks = s.ticks := by simp [mirrorSend]

@[simp] theorem showKapTx_ticks (s : State) : (showKapTx s).ticks = s.ticks := by
  unfold showKapTx
  exact ticks_foldl (by intros; rfl) _ _

@[simp] theorem sendKap_ticks (m : KapMsg) (s : State) : (sendKap m s).ticks = s.ticks := by simp [sendKap]

@[simp] theorem issueRequest_ticks (s : State) : (issueRequest s).ticks = s.ticks := by simp [issueRequest]

@[simp] theorem trigger_ticks (b : Nat) (s : State) : (trigger b s).ticks = s.ticks := by simp [trigger]

@[simp] theorem pmAdd_ticks (n i k : Nat) (s : State) : (pmAdd n i k s).ticks = s.ticks := by simp [pmAdd]

@[simp] theorem modPm_ticks (n t : Nat) (g : TermPm → TermPm) (s : State) : (modPm n t g s).ticks = s.ticks := by simp [modPm]

@[simp] theorem countWin_ticks (n : Nat) (w : Win) (s : State) : (countWin n w s).ticks = s.ticks := by simp [countWin]

@[simp] theorem showQueued_ticks (n : Nat) (s : State) : (showQueued n s).ticks = s.ticks := by simp [showQueued]

@[simp] theorem queueMsg_ticks (n : Nat) (m : Msg) (s : State) : (queueMsg n m s).ticks = s.ticks := by simp [queueMsg]

@[simp] theorem countUnderrun_ticks (n : Nat) (s : State) : (countUnderrun n s).ticks = s.ticks := by simp [countUnderrun]

@[simp] theorem countFrame_ticks (n : Nat) (s : State) : (countFrame n s).ticks = s.ticks := by
  unfold countFrame
  split <;> simp

@[simp] theorem writeCeiling_ticks (n : Nat) (s : State) : (writeCeiling n s).ticks = s.ticks := by simp [writeCeiling]

@[simp] theorem startSfc_ticks (n : Nat) (s : State) : (startSfc n s).ticks = s.ticks := by simp [startSfc]

@[simp] theorem setDefect_ticks (n term c : Nat) (on : Bool) (s : State) : (setDefect n term c on s).ticks = s.ticks := by
  simp [setDefect]

@[simp] theorem lobTick_ticks (n term : Nat) (s : State) : (lobTick n term s).ticks = s.ticks := by simp [lobTick]

@[simp] theorem zeroPm_ticks (n term : Nat) (s : State) : (zeroPm n term s).ticks = s.ticks := by simp [zeroPm]

@[simp] theorem frameTick_ticks (n : Nat) (s : State) : (frameTick n s).ticks = s.ticks := by simp [frameTick]

@[simp] theorem popAdd_ticks (n st : Nat) (s : State) : (popAdd n st s).ticks = s.ticks := by
  unfold popAdd
  split <;> simp

@[simp] theorem popSub_ticks (n st : Nat) (s : State) : (popSub n st s).ticks = s.ticks := by
  unfold popSub
  split <;> simp

@[simp] theorem updateTeq_ticks (n : Nat) (s : State) : (updateTeq n s).ticks = s.ticks := by simp [updateTeq]

@[simp] theorem setTerm_ticks (n t st cause : Nat) (s : State) : (setTerm n t st cause s).ticks = s.ticks := by simp [setTerm]

@[simp] theorem rngEvent_ticks (n t e : Nat) (ev : Ev) (s : State) : (rngEvent n t e ev s).ticks = s.ticks := by simp [rngEvent]

@[simp] theorem noteRtd_ticks (n t : Nat) (s : State) : (noteRtd n t s).ticks = s.ticks := by simp [noteRtd]

@[simp] theorem setRtd_ticks (n t : Nat) (ru : Int) (s : State) : (setRtd n t ru s).ticks = s.ticks := by simp [setRtd]

@[simp] theorem setEqd_ticks (n t : Nat) (ru : Int) (s : State) : (setEqd n t ru s).ticks = s.ticks := by simp [setEqd]

@[simp] theorem rngMsg_ticks (n : Nat) (m : Msg) (s : State) : (rngMsg n m s).ticks = s.ticks := by simp [rngMsg]

@[simp] theorem sendRangingTime_ticks (n t : Nat) (s : State) : (sendRangingTime n t s).ticks = s.ticks := by simp [sendRangingTime]

@[simp] theorem verifyCheck_ticks (n : Nat) (s : State) : (verifyCheck n s).ticks = s.ticks := by simp [verifyCheck]

@[simp] theorem failTerm_ticks (n t : Nat) (s : State) : (failTerm n t s).ticks = s.ticks := by simp [failTerm]

@[simp] theorem correct_ticks (n t : Nat) (eqd : Int) (accepting : Bool) (s : State) : (correct n t eqd accepting s).ticks = s.ticks := by
  simp [correct]

@[simp] theorem rangeMissed_ticks (n t : Nat) (s : State) : (rangeMissed n t s).ticks = s.ticks := by simp [rangeMissed]

@[simp] theorem windowLost_ticks (n t : Nat) (s : State) : (windowLost n t s).ticks = s.ticks := by simp [windowLost]

@[simp] theorem admitTerm_ticks (n t sn : Nat) (est : Int) (saved : Bool) (s : State) : (admitTerm n t sn est saved s).ticks = s.ticks := by
  simp [admitTerm]

@[simp] theorem showPend_ticks (n : Nat) (s : State) : (showPend n s).ticks = s.ticks := by simp [showPend]

@[simp] theorem leaveQueue_ticks (n : Nat) (s : State) : (leaveQueue n s).ticks = s.ticks := by simp [leaveQueue]

@[simp] theorem rngCode_ticks (n src c : Nat) (s : State) : (rngCode n src c s).ticks = s.ticks := by simp [rngCode]

@[simp] theorem releaseTerm_ticks (n t : Nat) (s : State) : (releaseTerm n t s).ticks = s.ticks := by simp [releaseTerm]

@[simp] theorem rngApply_ticks (n : Nat) (s : State) : (rngApply n s).ticks = s.ticks := by
  unfold rngApply
  split <;> simp

@[simp] theorem rangingTick_ticks (n : Nat) (s : State) : (rangingTick n s).ticks = s.ticks := by
  unfold rangingTick
  extract_lets s1 s2 s3
  rw [leaveQueue_ticks]
  exact (ticks_foldl (by intros; rfl) _ s3).trans (rngApply_ticks n s)

@[simp] theorem setStandby_ticks (n : Nat) (l : List Entry) (s : State) : (setStandby n l s).ticks = s.ticks := by simp [setStandby]

@[simp] theorem trimmed_ticks (n k : Nat) (s : State) : (trimmed n k s).ticks = s.ticks := by simp [trimmed]

@[simp] theorem showProf_ticks (n : Nat) (s : State) : (showProf n s).ticks = s.ticks := by simp [showProf]

@[simp] theorem checkProfiles_ticks (n : Nat) (s : State) : (checkProfiles n s).ticks = s.ticks := by simp [checkProfiles]

@[simp] theorem checkFixed_ticks (n : Nat) (s : State) : (checkFixed n s).ticks = s.ticks := by simp [checkFixed]

@[simp] theorem treeCommit_ticks (n : Nat) (s : State) : (treeCommit n s).ticks = s.ticks := by simp [treeCommit]

@[simp] theorem placeFixed_ticks (n : Nat) (s : State) : (placeFixed n s).ticks = s.ticks := by simp [placeFixed]

@[simp] theorem endQuiet_ticks (n : Nat) (s : State) : (endQuiet n s).ticks = s.ticks := by simp [endQuiet]

@[simp] theorem takeReport_ticks (n : Nat) (r : Nat × Nat × Nat × Nat) (s : State) : (takeReport n r s).ticks = s.ticks := by
  simp [takeReport]

@[simp] theorem closeReports_ticks (n upto : Nat) (s : State) : (closeReports n upto s).ticks = s.ticks := by simp [closeReports]

@[simp] theorem lostQuiet_ticks (n : Nat) (s : State) : (lostQuiet n s).ticks = s.ticks := by simp [lostQuiet]

@[simp] theorem grantTick_ticks (n : Nat) (s : State) : (grantTick n s).ticks = s.ticks := by simp [grantTick]

@[simp] theorem abandonRecs_ticks (s : State) : (abandonRecs s).ticks = s.ticks := by simp [abandonRecs]

@[simp] theorem dramRequest_ticks (r addr : Nat) (data : Option (List Nat)) (s : State) : (dramRequest r addr data s).ticks = s.ticks := by
  simp [dramRequest]

@[simp] theorem countAct_ticks (p : Nat) (q : DramReq) (s : State) : (countAct p q s).ticks = s.ticks := by simp [countAct]

@[simp] theorem eccFound_ticks (found r addr : Nat) (s : State) : (eccFound found r addr s).ticks = s.ticks := by simp [eccFound]

@[simp] theorem followLane_ticks (p lane : Nat) (v : Int) (s : State) : (followLane p lane v s).ticks = s.ticks := by simp [followLane]

@[simp] theorem takeBase_ticks (s : State) : (takeBase s).ticks = s.ticks := by
  unfold takeBase
  split <;> simp

@[simp] theorem issueReq_ticks (p : Nat) (q : DramReq) (act : Bool) (ecc : Nat) (drift : List (Nat × Int)) (s : State) :
    (issueReq p q act ecc drift s).ticks = s.ticks := by
  unfold issueReq
  split <;> simp

@[simp] theorem wake_ticks (p : Nat) (s : State) : (wake p s).ticks = s.ticks := by simp [wake]

@[simp] theorem serveTo_ticks (p id ecc k : Nat) (s : State) : (serveTo p id ecc k s).ticks = s.ticks := by
  induction k generalizing s with
  | zero => rfl
  | succ k ih => unfold serveTo; split <;> simp [ih]

@[simp] theorem access_ticks (r addr : Nat) (data : Option (List Nat)) (ecc : Nat) (s : State) :
    (access r addr data ecc s).ticks = s.ticks := by
  unfold access
  simp

@[simp] theorem putSector_ticks (r : Nat) (l : List (Nat × Nat)) (s : State) : (putSector r l s).ticks = s.ticks := by
  unfold putSector
  split <;> simp

@[simp] theorem dramPut_ticks (r : Nat) (l : List (Nat × Nat)) (s : State) : (dramPut r l s).ticks = s.ticks := by simp [dramPut]

@[simp] theorem showEng_ticks (e : Nat) (s : State) : (showEng e s).ticks = s.ticks := by simp [showEng]

@[simp] theorem modEng_ticks (e : Nat) (g : Engine → Engine) (s : State) : (State.modEng e g s).ticks = s.ticks := by simp [State.modEng]

@[simp] theorem abortSpan_ticks (e code now : Nat) (s : State) : (abortSpan e code now s).ticks = s.ticks := by
  unfold abortSpan
  split <;> simp

@[simp] theorem startEng_ticks (e : Nat) (s : State) : (startEng e s).ticks = s.ticks := by simp [startEng]

@[simp] theorem takeSignal_ticks (e code now : Nat) (s : State) : (takeSignal e code now s).ticks = s.ticks := by simp [takeSignal]

@[simp] theorem takeSignals_ticks (e c : Nat) (s : State) : (takeSignals e c s).ticks = s.ticks := by simp [takeSignals]

@[simp] theorem deliverSig_ticks (e code c : Nat) (s : State) : (deliverSig e code c s).ticks = s.ticks := by simp [deliverSig]

@[simp] theorem applyMap_ticks (s : State) : (applyMap s).ticks = s.ticks := by
  unfold applyMap
  extract_lets trees m s1 s2 bare s3
  have h2 : s2.ticks = s.ticks := ticks_foldl (by intros; rfl) trees s1
  have h3 : s3.ticks = s2.ticks := ticks_foldl (by intros; rfl) bare s2
  simp [h2, h3]

@[simp] theorem mapTick_ticks (s : State) : (mapTick s).ticks = s.ticks := by simp [mapTick]

@[simp] theorem eachEngine_ticks {g : Nat → State → State} (hg : ∀ e a, (g e a).ticks = a.ticks) (s : State) :
    (eachEngine g s).ticks = s.ticks := ticks_foldl (fun a e => hg e a) _ s

@[simp] theorem abortAll_ticks (s : State) : (abortAll s).ticks = s.ticks := by simp [abortAll]

@[simp] theorem stopAll_ticks (s : State) : (stopAll s).ticks = s.ticks := by simp [stopAll]

@[simp] theorem stopLoading_ticks (s : State) : (stopLoading s).ticks = s.ticks := by simp [stopLoading]

@[simp] theorem startAll_ticks (s : State) : (startAll s).ticks = s.ticks := by simp [startAll]

@[simp] theorem loadStore_ticks (r : Reload) (s : State) : (loadStore r s).ticks = s.ticks := by
  unfold loadStore
  exact ticks_foldl (by intros; rfl) _ _

@[simp] theorem mecFollow_ticks (old : Nat) (load : Option Reload) (s : State) : (mecFollow old load s).ticks = s.ticks := by
  unfold mecFollow
  split <;> simp

@[simp] theorem uplCount_ticks (u i n : Nat) (s : State) : (uplCount u i n s).ticks = s.ticks := by simp [uplCount]

@[simp] theorem endCycle_ticks (s : State) : (endCycle s).ticks = s.ticks := by simp [endCycle]

@[simp] theorem putFrame_ticks (id : Nat) (f : Frame) (s : State) : (State.putFrame id f s).ticks = s.ticks := by simp [State.putFrame]

@[simp] theorem obsStage_ticks (up : Bool) (stage index len : Nat) (s : State) : (obsStage up stage index len s).ticks = s.ticks := by
  have hr : ∀ (k : Nat → Nat) (l : List Nat),
      (l.foldl (fun (a : State × Bool) i => let b := obsAdd i (k i) a.1; (b.1, a.2 || b.2)) (s, false)).1.ticks = s.ticks :=
    fun k l => ticks_foldl_fst (by exact fun a i => obsAdd_ticks i (k i) a.1) l _
  simp [obsStage, hr]

@[simp] theorem passStage_ticks (f : Frame) (up : Bool) (stage index : Nat) (s : State) :
    (passStage f up stage index s).2.ticks = s.ticks := by
  simp [passStage]

@[simp] theorem passId_ticks (id : Nat) (up : Bool) (stage index : Nat) (s : State) : (passId id up stage index s).ticks = s.ticks := by
  unfold passId
  split <;> simp [State.putFrame]

@[simp] theorem passCopy_ticks (id tag : Nat) (up : Bool) (stage index : Nat) (s : State) :
    (passCopy id tag up stage index s).ticks = s.ticks := by
  unfold passCopy
  split <;> simp

@[simp] theorem skimEnd_ticks (f : Frame) (dropped : Bool) (s : State) : (skimEnd f dropped s).ticks = s.ticks := by
  unfold skimEnd
  split <;> simp

@[simp] theorem oweFree_ticks (id tag : Nat) (s : State) : (oweFree id tag s).ticks = s.ticks := by simp [oweFree]

@[simp] theorem modQueue_ticks (q : Nat) (g : TQueue → TQueue) (s : State) : (State.modQueue q g s).ticks = s.ticks := by
  simp [State.modQueue]

@[simp] theorem modNode_ticks (k : Nat) (g : TNode → TNode) (s : State) : (State.modNode k g s).ticks = s.ticks := by simp [State.modNode]

@[simp] theorem modTTree_ticks (n : Nat) (g : TTree → TTree) (s : State) : (State.modTTree n g s).ticks = s.ticks := by
  simp [State.modTTree]

@[simp] theorem modClass_ticks (k : Nat) (g : ClassQ → ClassQ) (s : State) : (State.modClass k g s).ticks = s.ticks := by
  simp [State.modClass]

@[simp] theorem bucketTick_ticks (s : State) : (bucketTick s).ticks = s.ticks := by simp [bucketTick]

@[simp] theorem endFollowed_ticks (id : Nat) (dropped : Bool) (s : State) : (endFollowed id dropped s).ticks = s.ticks := by
  unfold endFollowed
  split <;> simp

@[simp] theorem chargeSent_ticks (n t q pass : Nat) (len : Int) (s : State) : (chargeSent n t q pass len s).ticks = s.ticks := by
  simp [chargeSent]

@[simp] theorem tmgApply_ticks (e : Nat × Nat × List Nat) (s : State) : (tmgApply e s).ticks = s.ticks := by simp [tmgApply]

@[simp] theorem showShadow_ticks (s : State) : (showShadow s).ticks = s.ticks := by simp [showShadow]

@[simp] theorem tmgCommit_ticks (h : Nat) (s : State) : (tmgCommit h s).ticks = s.ticks := by simp [tmgCommit]

@[simp] theorem queueDefaults_ticks (h : Nat) (tables : List (Nat × Nat × List Nat)) (s : State) :
    (queueDefaults h tables s).ticks = s.ticks := by simp [queueDefaults]

@[simp] theorem tmgTick_ticks (s : State) : (tmgTick s).ticks = s.ticks := by simp [tmgTick]

@[simp] theorem modPart_ticks (k : Nat) (g : FwdPart → FwdPart) (s : State) : (State.modPart k g s).ticks = s.ticks := by
  simp [State.modPart]

@[simp] theorem modOwner_ticks (o : Nat) (g : Owner → Owner) (s : State) : (State.modOwner o g s).ticks = s.ticks := by
  simp [State.modOwner]

@[simp] theorem setEntry_ticks (key : Nat) (e : Option BEntry) (s : State) : (State.setEntry key e s).ticks = s.ticks := by
  simp [State.setEntry]

@[simp] theorem cacheDrop_ticks (k : Nat) (s : State) : (cacheDrop k s).ticks = s.ticks := by simp [cacheDrop]

@[simp] theorem countDown_ticks (o : Nat) (s : State) : (countDown o s).ticks = s.ticks := by simp [countDown]

@[simp] theorem removeEntry_ticks (key : Nat) (s : State) : (removeEntry key s).ticks = s.ticks := by
  unfold removeEntry
  split <;> simp

@[simp] theorem tblDone_ticks (code : Nat) (s : State) : (tblDone code s).ticks = s.ticks := by simp [tblDone]

@[simp] theorem fwdCommit_ticks (k : Nat) (s : State) : (fwdCommit k s).ticks = s.ticks := by simp [fwdCommit]

@[simp] theorem ownerDefaults_ticks (k : Nat) (tables : List (Nat × Nat × List Nat)) (s : State) :
    (ownerDefaults k tables s).ticks = s.ticks := by simp [ownerDefaults]

@[simp] theorem flushRange_ticks (k owner lo hi : Nat) (s : State) : (flushRange k owner lo hi s).ticks = s.ticks := by simp [flushRange]

@[simp] theorem flushTo_ticks (k hi : Nat) (s : State) : (flushTo k hi s).ticks = s.ticks := by
  unfold flushTo
  split <;> simp

@[simp] theorem flushTick_ticks (s : State) : (flushTick s).ticks = s.ticks :=
  ticks_foldl (fun a k => by split <;> simp) _ s

@[simp] theorem fwdDrain_ticks (k : Nat) (s : State) : (fwdDrain k s).ticks = s.ticks := by simp [fwdDrain]

@[simp] theorem fwdJoined_ticks (k : Nat) (s : State) : (fwdJoined k s).ticks = s.ticks := by simp [fwdJoined]

@[simp] theorem fwdTick_ticks (s : State) : (fwdTick s).ticks = s.ticks := by simp [fwdTick]

@[simp] theorem modKey_ticks (k : Nat) (g : KeySlot → KeySlot) (s : State) : (State.modKey k g s).ticks = s.ticks := by
  simp [State.modKey]

@[simp] theorem modKterm_ticks (x : Nat) (g : KeyTerm → KeyTerm) (s : State) : (State.modKterm x g s).ticks = s.ticks := by
  simp [State.modKterm]

@[simp] theorem laneTick_ticks (s : State) : (laneTick s).ticks = s.ticks := by simp [laneTick]

@[simp] theorem requeue_ticks (n : Nat) (e : OutFrame) (s : State) : (requeue n e s).ticks = s.ticks := by simp [requeue]

@[simp] theorem missFrame_ticks (n : Nat) (l : List OutFrame) (s : State) : (missFrame n l s).ticks = s.ticks := by
  unfold missFrame
  simp only [State.modCph_ticks]
  induction l with
  | nil => rfl
  | cons e l ih => exact (requeue_ticks n e _).trans ih

@[simp] theorem outTick_ticks (n : Nat) (s : State) : (outTick n s).ticks = s.ticks := by simp [outTick]

@[simp] theorem takeKey_ticks (k : Nat) (key : List Nat) (data : Bool) (sfc : Nat) (s : State) :
    (takeKey k key data sfc s).ticks = s.ticks := by simp [takeKey]

@[simp] theorem keyActive_ticks (s : State) : (keyActive s).ticks = s.ticks := by simp [keyActive]

@[simp] theorem dueImports_ticks (s : State) : (dueImports s).ticks = s.ticks := by simp [dueImports]

@[simp] theorem boundary_ticks (n : Nat) (s : State) : (boundary n s).ticks = s.ticks := by simp [boundary]

@[simp] theorem bindApply_ticks (b w : Nat) (s : State) : (bindApply b w s).ticks = s.ticks := by simp [bindApply]

@[simp] theorem cphTick_ticks (s : State) : (cphTick s).ticks = s.ticks := by simp [cphTick]

@[simp] theorem zeroizeAll_ticks (s : State) : (zeroizeAll s).ticks = s.ticks := by simp [zeroizeAll]

@[simp] theorem benOn_ticks (n : Nat) (s : State) : (benOn n s).ticks = s.ticks := by simp [benOn]

@[simp] theorem portDisable_ticks (n : Nat) (s : State) : (portDisable n s).ticks = s.ticks := by simp [portDisable]

@[simp] theorem beginTile_ticks (n : Nat) (s : State) : (beginTile n s).ticks = s.ticks := by
  unfold beginTile
  split <;> simp

@[simp] theorem stagOne_ticks (b : BringUp) (a : StagAcc) : (stagOne b a).s.ticks = a.s.ticks := by
  unfold stagOne
  repeat' split
  all_goals simp

@[simp] theorem staggerTick_ticks (s : State) : (staggerTick s).ticks = s.ticks := by
  have h : ∀ (l : List BringUp) (a : StagAcc), (l.foldl (fun a b => stagOne b a) a).s.ticks = a.s.ticks := by
    intro l
    induction l with
    | nil => exact fun _ => rfl
    | cons b l ih => exact fun a => (ih _).trans (stagOne_ticks b a)
  simp [staggerTick, h]

@[simp] theorem portTick_ticks (n : Nat) (s : State) : (portTick n s).ticks = s.ticks := by simp [portTick]

@[simp] theorem snapTick_ticks (second : Bool) (s : State) : (snapTick second s).ticks = s.ticks := by
  unfold snapTick
  split
  · rw [State.modObs_ticks]
    exact (ticks_foldl (by intros; rfl) _ _).trans (wrap_ticks _ _ s)
  · rfl

@[simp] theorem histTick_ticks (s : State) : (histTick s).ticks = s.ticks := by simp [histTick]

@[simp] theorem showHrx_ticks (s : State) : (showHrx s).ticks = s.ticks := by simp [showHrx]

@[simp] theorem toHost_ticks (u kind : Nat) (bytes : List Nat) (s : State) : (toHost u kind bytes s).ticks = s.ticks := by simp [toHost]

@[simp] theorem takeReleased_ticks (s : State) : (takeReleased s).ticks = s.ticks := by simp [takeReleased]

@[simp] theorem linkDown_ticks (u : Nat) (s : State) : (linkDown u s).ticks = s.ticks := by simp [linkDown]

@[simp] theorem reflexCommit_ticks (old s : State) : (reflexCommit old s).ticks = s.ticks := by simp [reflexCommit]

@[simp] theorem setServo_ticks (st : Nat) (s : State) : (setServo st s).ticks = s.ticks := by simp [setServo]

@[simp] theorem clearJump_ticks (cause : Nat) (s : State) : (clearJump cause s).ticks = s.ticks := by simp [clearJump]

@[simp] theorem selectSource_ticks (old s : State) : (selectSource old s).ticks = s.ticks := by simp [selectSource]

@[simp] theorem tsuCommit_ticks (old s : State) : (tsuCommit old s).ticks = s.ticks := by
  unfold tsuCommit
  extract_lets
  simp +zetaDelta

@[simp] theorem drcTick_ticks (s : State) : (drcTick s).ticks = s.ticks := by simp [drcTick]

@[simp] theorem treeAway_ticks (n : Nat) (s : State) : (treeAway n s).ticks = s.ticks := by simp [treeAway]

@[simp] theorem unprotJoin_ticks (n : Nat) (s : State) : (unprotJoin n s).ticks = s.ticks := by simp [unprotJoin]

@[simp] theorem followTile_ticks (old : State) (n : Nat) (s : State) : (followTile old n s).ticks = s.ticks := by simp [followTile]

theorem follow_ticks {g : State → State} (s : State) (hg : (g s).ticks = s.ticks) : (follow g s).ticks = s.ticks :=
  (ticks_foldl (fun a n => followTile_ticks s n a) _ _).trans hg

@[simp] theorem queueReloads_ticks (s : State) : (queueReloads s).ticks = s.ticks := by simp [queueReloads]

@[simp] theorem activate_ticks (c : CommitReq) (s : State) : (activate c s).ticks = s.ticks := by
  unfold activate
  extract_lets mine s1
  refine Eq.trans (b := s1.ticks) rfl (ticks_foldl ?_ mine _)
  intro a e
  split <;> rfl

@[simp] theorem groupHook_ticks (old : State) (g : Nat) (s : State) : (groupHook old g s).ticks = s.ticks := by
  unfold groupHook
  repeat' split
  all_goals simp

@[simp] theorem activateAll_ticks (l : List CommitReq) (s : State) : (activateAll l s).ticks = s.ticks := by simp [activateAll]

@[simp] theorem commitTick_ticks (s : State) : (commitTick s).ticks = s.ticks := by simp [commitTick]

@[simp] theorem ruleTick_ticks (s : State) : (ruleTick s).ticks = s.ticks := by simp [ruleTick]

@[simp] theorem openMaps_ticks (s : State) : (openMaps s).ticks = s.ticks := by simp [openMaps]

@[simp] theorem takeMode_ticks (m : Nat) (s : State) : (takeMode m s).ticks = s.ticks := by simp [takeMode]

@[simp] theorem renameWait_ticks (m : Nat) (s : State) : (renameWait m s).ticks = s.ticks := by simp [renameWait]

@[simp] theorem demote_ticks (s : State) : (demote s).ticks = s.ticks := by simp [demote]

@[simp] theorem holdReset_ticks (s : State) : (holdReset s).ticks = s.ticks := by simp [holdReset]

@[simp] theorem enterAsleep_ticks (fromHolding : Bool) (s : State) : (enterAsleep fromHolding s).ticks = s.ticks := by simp [enterAsleep]

@[simp] theorem modSave_ticks (g : SaveRun → SaveRun) (s : State) : (State.modSave g s).ticks = s.ticks := by simp [State.modSave]

@[simp] theorem openSave_ticks (brownout : Bool) (cause : Nat) (after : SaveThen) (journalOnly : Bool) (s : State) :
    (openSave brownout cause after journalOnly s).ticks = s.ticks := by simp [openSave]

@[simp] theorem startSave_ticks (cause : Nat) (after : SaveThen) (s : State) : (startSave cause after s).ticks = s.ticks := by
  unfold startSave
  split <;> simp

@[simp] theorem dropLeaving_ticks (code : Nat) (s : State) : (dropLeaving code s).ticks = s.ticks := by simp [dropLeaving]

@[simp] theorem dropSaving_ticks (code : Nat) (s : State) : (dropSaving code s).ticks = s.ticks := by
  unfold dropSaving
  split <;> simp

@[simp] theorem takeCapture_ticks (s : State) : (takeCapture s).ticks = s.ticks := by simp [takeCapture]

@[simp] theorem saveTick_ticks (s : State) : (saveTick s).ticks = s.ticks := by
  unfold saveTick
  split <;> simp

@[simp] theorem reachMode_ticks (t : Nat) (s : State) : (reachMode t s).ticks = s.ticks := by simp [reachMode]

@[simp] theorem modeTick_ticks (promoting : Bool) (s0 : State) : (modeTick promoting s0).ticks = s0.ticks := by
  unfold modeTick
  extract_lets
  repeat' split
  all_goals simp +zetaDelta

@[simp] theorem dropFiring_ticks (r : Nat) (s : State) : (dropFiring r s).ticks = s.ticks := by simp [dropFiring]

@[simp] theorem freezeTree_ticks (n : Nat) (s : State) : (freezeTree n s).ticks = s.ticks := by simp [freezeTree]

@[simp] theorem suppressed_ticks (f : Firing) (s : State) : (suppressed f s).ticks = s.ticks := by simp [suppressed]

@[simp] theorem modeFirings_ticks (outranked : Bool) (l : List Firing) (s : State) : (modeFirings outranked l s).ticks = s.ticks := by
  unfold modeFirings
  extract_lets
  repeat' split
  all_goals simp +zetaDelta

@[simp] theorem verdictFirings_ticks (l : List Firing) (s : State) : (verdictFirings l s).ticks = s.ticks := by simp [verdictFirings]

@[simp] theorem actFirings_ticks (l : List Firing) (s : State) : (actFirings l s).ticks = s.ticks := by simp [actFirings]

@[simp] theorem reflexTick_ticks (l : List Firing) (due outranked : Bool) (s : State) : (reflexTick l due outranked s).ticks = s.ticks := by
  simp [reflexTick]

@[simp] theorem gntView_ticks (s : State) : (gntView s).ticks = s.ticks := by simp [gntView]

@[simp] theorem treeTicks_ticks (s : State) : (treeTicks s).ticks = s.ticks := by simp [treeTicks]

@[simp] theorem blockTicks_ticks (s : State) : (blockTicks s).ticks = s.ticks := by simp [blockTicks]

end Sys2Proof.Machine

/-! What the opening of a tick and the one-second boundary leave: one lemma per operation. -/
namespace Sys2Proof.Machine

/-- What no event, no measurement and no count per second changes: the instants, what follows a save, and the memories. -/
def State.lasting (s : State) : Nat × Nat × SaveThen × Memory × Memory × Memory :=
  (s.ticks, s.secondAt, s.pwr.leaving, s.dram, s.flash, s.hostMem)

@[simp] theorem raise_lasting (e : Ev) (s : State) : (raise e s).lasting = s.lasting := (congrArg State.lasting (calm_raise_any e s) :)
@[simp] theorem raiseSec_lasting (e : Ev) (s : State) : (raiseSec e s).lasting = s.lasting :=
  (congrArg State.lasting (calm_raiseSec_any e s) :)

@[simp] theorem lasting_ite {c : Prop} [Decidable c] (x y : State) :
    (if c then x else y).lasting = if c then x.lasting else y.lasting := apply_ite State.lasting c x y

@[simp] theorem lasting_when (c : Bool) (g : State → State) (s : State) :
    (s.when c g).lasting = if c then (g s).lasting else s.lasting := apply_ite State.lasting (c = true) (g s) s

@[simp] theorem lasting_foldl {β : Type} {f : State → β → State} (hf : ∀ a x, (f a x).lasting = a.lasting) (l : List β) (s : State) :
    (l.foldl f s).lasting = s.lasting := by
  induction l generalizing s with
  | nil => rfl
  | cons x l ih => exact (ih _).trans (hf s x)

@[simp] theorem wr_lasting (s : State) (f : Fld) (v : Nat) : (s.wr f v).lasting = s.lasting := rfl
@[simp] theorem sat_lasting (s : State) (f : Fld) (n : Nat) : (s.sat f n).lasting = s.lasting := rfl
@[simp] theorem wrap_lasting (s : State) (f : Fld) (n : Nat) : (s.wrap f n).lasting = s.lasting := rfl
@[simp] theorem draw_lasting (s : State) : (s.draw).lasting = s.lasting := rfl
@[simp] theorem modHub_lasting (s : State) (g : Hub → Hub) : (s.modHub g).lasting = s.lasting := rfl
@[simp] theorem modPrt_lasting (s : State) (g : Prt → Prt) : (s.modPrt g).lasting = s.lasting := rfl
@[simp] theorem modTsu_lasting (s : State) (g : Tsu → Tsu) : (s.modTsu g).lasting = s.lasting := rfl
@[simp] theorem modDrc_lasting (s : State) (g : Drc → Drc) : (s.modDrc g).lasting = s.lasting := rfl
@[simp] theorem modObs_lasting (s : State) (g : Obs → Obs) : (s.modObs g).lasting = s.lasting := rfl
@[simp] theorem modMec_lasting (s : State) (g : Mec → Mec) : (s.modMec g).lasting = s.lasting := rfl
@[simp] theorem modFwd_lasting (s : State) (g : Fwd → Fwd) : (s.modFwd g).lasting = s.lasting := rfl
@[simp] theorem modCph_lasting (s : State) (g : Cph → Cph) : (s.modCph g).lasting = s.lasting := rfl
@[simp] theorem modTree_lasting (s : State) (n : Nat) (g : Tree → Tree) : (s.modTree n g).lasting = s.lasting := rfl
@[simp] theorem modTerm_lasting (s : State) (n t : Nat) (g : Term → Term) : (s.modTerm n t g).lasting = s.lasting := rfl

theorem modPwr_lasting {g : Pwr → Pwr} (hg : ∀ p, (g p).leaving = p.leaving) (s : State) : (s.modPwr g).lasting = s.lasting := by
  simp [State.lasting, hg]

@[simp] theorem refuseMode_lasting (target code : Nat) (s : State) : (refuseMode target code s).lasting = s.lasting := by
  simp [refuseMode]

@[simp] theorem mirrorMark_lasting (s : State) : (mirrorMark s).lasting = s.lasting := by simp [mirrorMark]

@[simp] theorem showLanes_lasting (s : State) : (showLanes s).lasting = s.lasting := by simp [showLanes]

@[simp] theorem modLink_lasting (l : Nat) (g : InjLink → InjLink) (s : State) : (State.modLink l g s).lasting = s.lasting := by
  simp [State.modLink]

@[simp] theorem inject_lasting (l : Nat) (selected : Bool) (s : State) : (inject l selected s).2.lasting = s.lasting := by
  unfold inject
  split <;> simp

@[simp] theorem passHeld_lasting (l : Nat) (bytes : List Nat) (s : State) : (passHeld l bytes s).2.lasting = s.lasting := by
  simp [passHeld]

@[simp] theorem setMirror_lasting (m : Nat) (s : State) : (setMirror m s).lasting = s.lasting := by simp [setMirror]

@[simp] theorem mirrorSend_lasting (n : Option Nat) (s : State) : (mirrorSend n s).lasting = s.lasting := by simp [mirrorSend]

@[simp] theorem startBulk_lasting (s : State) : (startBulk s).lasting = s.lasting := by simp [startBulk]

@[simp] theorem sendPages_lasting (s : State) : (sendPages s).lasting = s.lasting := by simp [sendPages]

@[simp] theorem holdoffSecond_lasting (s : State) : (holdoffSecond s).lasting = s.lasting := by simp [holdoffSecond]

@[simp] theorem pmAdd_lasting (n i k : Nat) (s : State) : (pmAdd n i k s).lasting = s.lasting := by simp [pmAdd]

@[simp] theorem queueMsg_lasting (n : Nat) (m : Msg) (s : State) : (queueMsg n m s).lasting = s.lasting := by simp [queueMsg]

@[simp] theorem setDefect_lasting (n term c : Nat) (on : Bool) (s : State) : (setDefect n term c on s).lasting = s.lasting := by
  simp [setDefect]

@[simp] theorem errorSecond_lasting (n term : Nat) (s : State) : (errorSecond n term s).lasting = s.lasting := by simp [errorSecond]

@[simp] theorem takeFec_lasting (n : Nat) (s : State) : (takeFec n s).lasting = s.lasting := by simp [takeFec]

@[simp] theorem latchTree_lasting (n : Nat) (s : State) : (latchTree n s).lasting = s.lasting := by
  unfold latchTree
  dsimp only
  split <;> rw [modTree_lasting, modTree_lasting, pmAdd_lasting, takeFec_lasting]

@[simp] theorem stbySecond_lasting (n : Nat) (s : State) : (stbySecond n s).lasting = s.lasting := by simp [stbySecond]

@[simp] theorem showTasks_lasting (s : State) : (showTasks s).lasting = s.lasting := by simp [showTasks]

@[simp] theorem postTask_lasting (t : SlowTask) (s : State) : (postTask t s).lasting = s.lasting := by simp [postTask]

@[simp] theorem sageTasks_lasting (s : State) : (sageTasks s).lasting = s.lasting := by simp [sageTasks]

@[simp] theorem fwdSecond_lasting (s : State) : (fwdSecond s).lasting = s.lasting := by simp [fwdSecond]

@[simp] theorem laneSecond_lasting (s : State) : (laneSecond s).lasting = s.lasting := by simp [laneSecond]

@[simp] theorem snapTick_lasting (second : Bool) (s : State) : (snapTick second s).lasting = s.lasting := by
  unfold snapTick
  split
  · rw [modObs_lasting]
    exact (lasting_foldl (by intros; rfl) _ _).trans (wrap_lasting s _ _)
  · rfl

@[simp] theorem setUnit_lasting (ns : Nat) (s : State) : (setUnit ns s).lasting = s.lasting := by simp [setUnit]

@[simp] theorem staleTod_lasting (s : State) : (staleTod s).lasting = s.lasting := by simp [staleTod]

@[simp] theorem setTodOfs_lasting (ps : Int) (s : State) : (setTodOfs ps s).lasting = s.lasting := by simp [setTodOfs]

@[simp] theorem setFreq_lasting (ask : Int) (s : State) : (setFreq ask s).lasting = s.lasting := by simp [setFreq]

@[simp] theorem steer_lasting (ask : Int) (s : State) : (steer ask s).lasting = s.lasting := by simp [steer]

@[simp] theorem clearJump_lasting (cause : Nat) (s : State) : (clearJump cause s).lasting = s.lasting := by simp [clearJump]

@[simp] theorem tsuTick_lasting (s : State) : (tsuTick s).lasting = s.lasting := by
  unfold tsuTick
  extract_lets s1
  have h1 : s1.lasting = s.lasting := (modTsu_lasting _ _).trans (setUnit_lasting s.nextUnit s)
  split <;> simp [h1]

@[simp] theorem tsuSecond_lasting (s : State) : (tsuSecond s).lasting = s.lasting := by
  unfold tsuSecond
  repeat' split
  all_goals simp

@[simp] theorem reportWait_lasting (m : Nat) (s : State) : (reportWait m s).lasting = s.lasting := by simp [reportWait]

@[simp] theorem showHold_lasting (mv : Nat) (s : State) : (showHold mv s).lasting = s.lasting := by simp [showHold]

@[simp] theorem eyesSecond_lasting (l : List (Nat × Nat)) (s : State) : (eyesSecond l s).lasting = s.lasting := by simp [eyesSecond]

@[simp] theorem sageReport_lasting (r : SageIn) (s : State) : (sageReport r s).lasting = s.lasting := by
  have hb : ∀ (v : Nat → Nat) (l : List Nat) (a : State), (l.foldl (fun a i => a.wr (F.PRT_SAGE_BYTES i) (v i)) a).lasting = a.lasting :=
    fun _ l a => lasting_foldl (by intros; rfl) l a
  unfold sageReport
  extract_lets s0 sb lane eng ce ue sec own bad healthy s1 seq b s2 s3 s4
  have h1 : s1.lasting = s.lasting := (modDrc_lasting _ _).trans ((modPrt_lasting _ _).trans (eyesSecond_lasting r.eyes s))
  have h2 : s2.lasting = s.lasting := (hb _ _ _).trans ((modPrt_lasting _ _).trans h1)
  have h4 : s4.lasting = s.lasting := by
    show (s3.when _ _).lasting = _
    simp [s3, h2]
  simp [h4]

@[simp] theorem floorTick_lasting (s : State) : (floorTick s).lasting = s.lasting := by
  unfold floorTick
  repeat' split
  all_goals rfl

@[simp] theorem supplyTick_lasting (u : Supply) (s : State) : (supplyTick u s).lasting = s.lasting := by
  unfold supplyTick
  extract_lets s1 s2 s3 s4 s5 s6
  have h3 : s3.lasting = s.lasting := by
    show ((s2.when _ _).wr _ _).lasting = _
    simp [s2, s1]
  have h4 : s4.lasting = s3.lasting := by
    show (s3.when _ _).lasting = _
    rw [lasting_when]
    split
    · exact modPwr_lasting (fun _ => rfl) _
    · rfl
  have h6 : s6.lasting = s4.lasting := (modPwr_lasting (fun _ => rfl) s5).trans (showHold_lasting _ _)
  simp [h6, h4, h3]

@[simp] theorem verdictDue_lasting (s : State) : (verdictDue s).lasting = s.lasting := by simp [verdictDue]

@[simp] theorem suppressed_lasting (f : Firing) (s : State) : (suppressed f s).lasting = s.lasting := by simp [suppressed]

@[simp] theorem powerSecond_lasting (s : State) : (powerSecond s).lasting = s.lasting := by
  unfold powerSecond
  extract_lets s1
  have h1 : s1.lasting = s.lasting := by
    show (s.when _ _).lasting = _
    rw [lasting_when]
    split
    · exact (raise_lasting _ _).trans (modPwr_lasting (fun _ => rfl) _)
    · rfl
  split
  · split <;> simp [h1]
  · split <;> simp [h1]

@[simp] theorem treesSecond_lasting (s : State) : (treesSecond s).lasting = s.lasting := by simp [treesSecond]

end Sys2Proof.Machine

/-! The tick and the one-second boundary as wholes, and O14. -/
namespace Sys2Proof.Machine

theorem tickOpens_lasting (u : Supply) (s : State) :
    (tickOpens u s).lasting = ({ s with ticks := s.ticks + 1 } : State).lasting := by
  unfold tickOpens
  extract_lets s1 s2
  rw [verdictDue_lasting, supplyTick_lasting, tsuTick_lasting]
  exact modPwr_lasting (fun _ => rfl) _

/-- As `tick` opens it: the pages of the frame just over are sent or dropped first, and the firings since the last tick are taken. -/
theorem lasting_opened (u : Supply) (g : Hub → Hub) (c : Bool) (s : State) :
    (tickOpens u ((s.modHub g).when c sendPages)).lasting = ({ s with ticks := s.ticks + 1 } : State).lasting := by
  have h : ((s.modHub g).when c sendPages).lasting = s.lasting := by simp
  simp only [State.lasting, Prod.mk.injEq] at h
  obtain ⟨ht, hs, hl, hd, hf, hm⟩ := h
  rw [tickOpens_lasting]
  simp only [State.lasting, ht, hs, hl, hd, hf, hm]

theorem leaving_of_lasting {s t : State} (h : t.lasting = s.lasting) : t.pwr.leaving = s.pwr.leaving :=
  congrArg (fun p => p.2.2.1) h

theorem ticks_of_lasting {s t : State} (h : t.lasting = s.lasting) : t.ticks = s.ticks := congrArg (fun p => p.1) h

theorem secondAt_of_lasting {s t : State} (h : t.lasting = s.lasting) : t.secondAt = s.secondAt := congrArg (fun p => p.2.1) h

theorem memFrame_of_lasting {s t : State} (h : t.lasting = s.lasting) : MemFrame s t := by
  simp only [State.lasting, Prod.mk.injEq] at h
  obtain ⟨-, -, -, hd, hf, hm⟩ := h
  exact fun a => ⟨by rw [hd], by rw [hf], by rw [hm]⟩

/-- A tick adds 1 to the count of ticks, whatever else it does, unless the device starts over at it (R12, R31). -/
theorem tick_ticks (u : Supply) {s : State} (h : s.pwr.leaving ≠ .restart) : (tick u s).ticks = s.ticks + 1 := by
  unfold tick
  extract_lets hostReq acts s1 due promoting t1 s2 s3 s4
  have h1 : s1.lasting = ({ s with ticks := s.ticks + 1 } : State).lasting := lasting_opened u _ _ s
  have ht : s1.ticks = s.ticks + 1 := ticks_of_lasting h1
  have hl : s1.pwr.leaving ≠ .restart := by rw [leaving_of_lasting h1]; exact h
  clear_value s1
  split
  · exact (enterAsleep_ticks false s1).trans ht
  · rw [if_neg fun hr => hl hr.1]
    split
    · exact (reflexTick_ticks _ _ _ s1).trans ht
    · have h2 : s2.ticks = s.ticks + 1 := by
        refine (follow_ticks _ (commitTick_ticks _)).trans ?_
        simp [t1, ht]
      have h4 : s4.ticks = s.ticks + 1 := by
        rw [queueReloads_ticks, follow_ticks _ (loadTick_ticks _), saveTick_ticks, modeTick_ticks, h2]
      rw [ruleTick_ticks, reflexTick_ticks, blockTicks_ticks, follow_ticks _ (treeTicks_ticks _), h4]

/-! A tick in HOLDING: only the supply, the time unit and the suppression of R25 work on. -/

theorem regFrame_when {l : List Fld} {c : Bool} {g : State → State} {s : State} (h : RegFrame l s (g s)) : RegFrame l s (s.when c g) := by
  cases c
  · exact RegFrame.refl l s
  · exact h

theorem regFrame_setTodOfs (ps : Int) (s : State) : RegFrame [F.TSU_TOD_OFS_OFS_PS, F.TSU_TOD_RES0_STALE] s (setTodOfs ps s) := by
  unfold setTodOfs
  split
  · exact RegFrame.refl _ s
  · exact ((RegFrame.refl _ s).wr (by simp) _).trans (regFrame_when ((RegFrame.refl _ _).wr (by simp) _))

theorem regFrame_clearJump (cause : Nat) (s : State) :
    RegFrame [F.TSU_STAT_PENDING, F.TSU_JUMP_STAT_PENDING, F.TSU_JUMP_STAT_CAUSE] s (clearJump cause s) := by
  have h := (((RegFrame.refl [F.TSU_STAT_PENDING, F.TSU_JUMP_STAT_PENDING, F.TSU_JUMP_STAT_CAUSE] s).wr (f := F.TSU_STAT_PENDING)
    (by simp) 0).wr (f := F.TSU_JUMP_STAT_PENDING) (by simp) 0).wr (f := F.TSU_JUMP_STAT_CAUSE) (by simp) cause
  exact (h.of_regs (u := State.modTsu _ _) rfl).trans fun f _ hf => rd_raise _ (by decide) hf

/-- The fields that a tick of the time unit may change. -/
def tsuTickFields : List Fld :=
  [F.TSU_TOD_OFS_OFS_PS, F.TSU_TOD_RES0_STALE, F.TSU_STAT_PENDING, F.TSU_JUMP_STAT_PENDING, F.TSU_JUMP_STAT_CAUSE]

theorem regFrame_when_modTsu (l : List Fld) (c : Bool) (g : Tsu → Tsu) (s : State) : RegFrame l s (s.when c fun a => a.modTsu g) :=
  regFrame_when ((RegFrame.refl l s).of_regs rfl)

theorem regFrame_tsuTick (s : State) : RegFrame tsuTickFields s (tsuTick s) := by
  unfold tsuTick
  extract_lets s1
  have h1 : RegFrame tsuTickFields s s1 := (RegFrame.refl _ s).of_regs rfl
  clear_value s1
  split
  · have h2 := (regFrame_setTodOfs (s1.todOfsPs + s1.tsu.step) s1).mono (m := tsuTickFields) (by simp [tsuTickFields])
    generalize setTodOfs (s1.todOfsPs + s1.tsu.step) s1 = s2 at h2 ⊢
    have h3 := (regFrame_clearJump 1 s2).mono (m := tsuTickFields) (by simp [tsuTickFields])
    exact ((h1.trans h2).trans h3).trans (regFrame_when_modTsu _ _ _ _)
  · exact h1

theorem regFrame_showHold (mv : Nat) (s : State) : RegFrame [F.PWR_HOLD_HOLD_MV, F.PWR_HOLD_HOLD_OK] s (showHold mv s) :=
  ((RegFrame.refl _ s).wr (by simp) _).wr (by simp) _

theorem rd_showHold_mv (mv : Nat) (s : State) : (showHold mv s).rd F.PWR_HOLD_HOLD_MV = mv % 65536 :=
  (rd_wr_ne _ _ (by decide)).trans (rd_wr_self _ _ _)

theorem regFrame_floorTick (s : State) : RegFrame [F.PWR_MODE_STAT_BELOW_FLOOR] s (floorTick s) := by
  unfold floorTick
  split
  · exact (RegFrame.refl _ s).wr (by simp) _
  · split
    · exact ((RegFrame.refl _ s).wr (f := F.PWR_MODE_STAT_BELOW_FLOOR) (by simp) 0).of_regs rfl
    · exact (RegFrame.refl _ s).of_regs rfl

/-- The fields in which the supply monitor shows what it measures (R42, R47, R51). -/
def supplyFields : List Fld :=
  [F.PWR_VIN_VIN_MV, F.PWR_IIN_IIN_MA, F.PWR_VIN_VIN_MIN_MV, F.PWR_IIN_ILIM, F.PWR_PIN_PIN_10MW, F.PWR_PIN_OVER_TICKS,
    F.PWR_HOLD_HOLD_MV, F.PWR_HOLD_HOLD_OK, F.PWR_HOLD_CHG_ON, F.PWR_MODE_STAT_BELOW_FLOOR]

/-- What a tick measures of the supply, and what it leaves of the other registers. -/
theorem rd_supplyTick (u : Supply) (s : State) :
    (supplyTick u s).rd F.PWR_VIN_VIN_MV = u.vinMv % 65536 ∧ (supplyTick u s).rd F.PWR_HOLD_HOLD_MV = u.holdMv % 65536 ∧
      RegFrame supplyFields s (supplyTick u s) := by
  unfold supplyTick
  extract_lets s1 s2 s3 s4 s5 s6
  have hv : s1.rd F.PWR_VIN_VIN_MV = u.vinMv % 65536 := (rd_wr_ne _ _ (by decide)).trans (rd_wr_self _ _ _)
  have hs1 : RegFrame supplyFields s s1 := ((RegFrame.refl _ s).wr (by simp [supplyFields]) _).wr (by simp [supplyFields]) _
  have hs4 : RegFrame [F.PWR_VIN_VIN_MIN_MV, F.PWR_IIN_ILIM, F.PWR_PIN_PIN_10MW, F.PWR_PIN_OVER_TICKS] s1 s4 := by
    have h2 := (RegFrame.refl [F.PWR_VIN_VIN_MIN_MV, F.PWR_IIN_ILIM, F.PWR_PIN_PIN_10MW, F.PWR_PIN_OVER_TICKS] s1).wr
      (f := F.PWR_VIN_VIN_MIN_MV) (by simp) (min (s1.rd F.PWR_VIN_VIN_MIN_MV) (s1.rd F.PWR_VIN_VIN_MV))
    have h3 := (h2.trans (regFrame_when (c := !u.ilim) ((RegFrame.refl _ _).wr (f := F.PWR_IIN_ILIM) (by simp) 0))).wr
      (f := F.PWR_PIN_PIN_10MW) (by simp) u.pin10mw
    exact h3.trans (regFrame_when (((RegFrame.refl _ _).wr (f := F.PWR_PIN_OVER_TICKS) (by simp) _).of_regs rfl))
  have hs6 : RegFrame [F.PWR_HOLD_HOLD_MV, F.PWR_HOLD_HOLD_OK] s4 s6 := (regFrame_showHold u.holdMv s4).of_regs rfl
  have hh : s6.rd F.PWR_HOLD_HOLD_MV = u.holdMv % 65536 := (rd_congr rfl _).trans (rd_showHold_mv u.holdMv s4)
  have hend : RegFrame [F.PWR_HOLD_CHG_ON, F.PWR_MODE_STAT_BELOW_FLOOR] s6
      (floorTick (s6.when u.charged fun a => a.wr F.PWR_HOLD_CHG_ON 0)) :=
    (regFrame_when ((RegFrame.refl _ s6).wr (by simp) 0)).trans ((regFrame_floorTick _).mono (by simp))
  clear_value s1 s2 s3 s4 s5 s6
  refine ⟨?_, (hend _ (by decide) (by decide)).trans hh, ?_⟩
  · rw [hend _ (by decide) (by decide), hs6 _ (by decide) (by decide), hs4 _ (by decide) (by decide), hv]
  · exact ((hs1.trans (hs4.mono (by simp [supplyFields]))).trans (hs6.mono (by simp [supplyFields]))).trans
      (hend.mono (by simp [supplyFields]))

/-- What the opening of a tick shows of the supply, and that it keeps the mode. -/
theorem rd_tickOpens (u : Supply) (s : State) :
    (tickOpens u s).rd F.PWR_VIN_VIN_MV = u.vinMv % 65536 ∧ (tickOpens u s).rd F.PWR_HOLD_HOLD_MV = u.holdMv % 65536 ∧
      (tickOpens u s).mode = s.mode := by
  unfold tickOpens
  extract_lets c s1 s2
  have h2 : RegFrame [F.RNG_DEV_STAT_BEGUN] s s2 :=
    (((RegFrame.refl _ s).of_regs (u := s1) rfl).wr (f := F.RNG_DEV_STAT_BEGUN) (by simp) 0).of_regs rfl
  obtain ⟨hv, hh, hf⟩ := rd_supplyTick u (tsuTick s2)
  refine ⟨(rd_congr rfl _).trans hv, (rd_congr rfl _).trans hh, (rd_congr rfl _).trans ?_⟩
  exact (hf F.PWR_MODE_CUR (by decide) (by decide)).trans
    ((regFrame_tsuTick s2 _ (by decide) (by decide)).trans (h2 _ (by decide) (by decide)))

theorem regFrame_suppressed (f : Firing) (s : State) : RegFrame [F.PWR_SAVE_STAT_MERGED] s (suppressed f s) := by
  unfold suppressed
  split
  · exact RegFrame.refl _ s
  · split
    · exact (RegFrame.refl _ s).wr (by simp) 1
    · exact fun f _ hf => rd_raise s (by decide) hf

theorem regFrame_suppressed_all (l : List Firing) (s : State) :
    RegFrame [F.PWR_SAVE_STAT_MERGED] s (l.foldl (fun a f => suppressed f a) s) := by
  induction l generalizing s with
  | nil => exact RegFrame.refl _ s
  | cons f l ih => exact (regFrame_suppressed f s).trans (ih _)

/-- In HOLDING a tick opens, and then only suppresses what the reflex rules ask for (R25, R55). -/
theorem tick_holding (u : Supply) {s : State} (hm : s.mode = mHolding) (hl : s.pwr.leaving = .resume) :
    ∃ (l : List Firing) (g k : Hub → Hub), tick u s = l.foldl (fun a f => suppressed f a) ((tickOpens u (s.modHub g)).modHub k) := by
  refine ⟨s.hub.after ++ s.hub.fired, fun h => { h with fired := [], after := [] },
    fun h => { h with mapFrozen := without h.mapFrozen h.unfreeze, unfreeze := 0 }, ?_⟩
  have hw : s.works = false := by simp [State.works, hm]
  unfold tick
  rw [hw]
  extract_lets hostReq acts s1 due promoting
  have h1 : s1.lasting = ({ s with ticks := s.ticks + 1 } : State).lasting := lasting_opened u _ false s
  have hl1 : s1.pwr.leaving = .resume := (leaving_of_lasting h1).trans hl
  have hm1 : s1.mode = mHolding := ((rd_tickOpens u _).2.2).trans hm
  have hw1 : s1.works = false := by simp [State.works, hm1]
  have hs1 : s1 = tickOpens u (s.modHub fun h => { h with fired := [], after := [] }) := rfl
  rw [← hs1]
  clear_value s1
  rw [if_neg (by simp [hl1]), if_neg (by simp [hl1]), if_pos (by simp [hw1])]
  exact if_pos (.inl hm1)

theorem lasting_suppressed_all (l : List Firing) (s : State) : (l.foldl (fun a f => suppressed f a) s).lasting = s.lasting :=
  lasting_foldl (fun a f => suppressed_lasting f a) l s

/-! The one-second boundary. -/

/-- A boundary is taken at a tick whose time unit reads a whole second, once, and not where the step of R377 left it (R17). -/
theorem oneSecond_lasting (r : SageIn) {s : State} (hn : s.tsu.ns = 0) (hs : s.tsu.stepped = false) (ht : s.ticks ≠ 0)
    (h2 : s.secondAt ≠ s.ticks) : (oneSecond r s).lasting = ({ s with secondAt := s.ticks } : State).lasting := by
  have hl : (limitsSecond s).lasting = ({ s with secondAt := s.ticks } : State).lasting := rfl
  unfold oneSecond
  rw [if_neg (by simp [hn, hs, ht, h2])]
  extract_lets s1 s2
  have h1 : s1.lasting = ({ s with secondAt := s.ticks } : State).lasting := (tsuSecond_lasting _).trans hl
  clear_value s1
  split
  · exact h1
  · simp [s2, h1]

theorem oneSecond_idle (r : SageIn) {s : State} (h : s.tsu.ns ≠ 0 ∨ s.tsu.stepped = true ∨ s.ticks = 0 ∨ s.secondAt = s.ticks) :
    oneSecond r s = s := if_pos h

/-! The commands where ticks run. -/

theorem exec_tick (u : Supply) {s : State} (h : s.ticking = true) : exec (.tick u) s = .next (tick u s) := by
  show Host.Outcome.next (s.when s.ticking (tick u)) = _
  rw [h]; rfl

theorem exec_oneSecondBoundary (r : SageIn) {s : State} (h : s.ticking = true) : exec (.oneSecondBoundary r) s = .next (oneSecond r s) := by
  show Host.Outcome.next (s.when s.ticking (oneSecond r)) = _
  rw [h]; rfl

/-- Settles O14: every operation of a tick leaves the count of ticks to its opening, in HOLDING a tick only measures and suppresses, and a
boundary touches neither the count nor memory. -/
theorem tickAndSecond : Obligations.TickAndSecond := by
  unfold Obligations.TickAndSecond
  refine ⟨?counts, ?holding, ?idle, ?taken⟩
  case counts =>
    intro s u h hl
    exact ⟨_, exec_tick u h, tick_ticks u hl⟩
  case holding =>
    intro s u h hm hl
    obtain ⟨l, g, k, he⟩ := tick_holding u hm hl
    obtain ⟨hv, hh, hmode⟩ := rd_tickOpens u (s.modHub g)
    have hf := regFrame_suppressed_all l ((tickOpens u (s.modHub g)).modHub k)
    have hlast : (tick u s).lasting = ({ s with ticks := s.ticks + 1 } : State).lasting := by
      rw [he, lasting_suppressed_all, modHub_lasting, tickOpens_lasting]; rfl
    refine ⟨_, exec_tick u h, ticks_of_lasting hlast, ?_, ?_, ?_, memFrame_of_lasting (s := { s with ticks := s.ticks + 1 }) hlast⟩
    · rw [he]; exact (hf _ (by decide) (by decide)).trans ((rd_congr rfl _).trans (hmode.trans hm))
    · rw [he]; exact (hf _ (by decide) (by decide)).trans ((rd_congr rfl _).trans hv)
    · rw [he]; exact (hf _ (by decide) (by decide)).trans ((rd_congr rfl _).trans hh)
  case idle =>
    intro s r h hn
    exact ⟨_, exec_oneSecondBoundary r h, oneSecond_idle r (.inl hn)⟩
  case taken =>
    intro s r h hn hst ht h2
    have hl := oneSecond_lasting r hn hst ht h2
    exact ⟨_, exec_oneSecondBoundary r h, secondAt_of_lasting hl, ticks_of_lasting (s := { s with secondAt := s.ticks }) hl,
      memFrame_of_lasting (s := { s with secondAt := s.ticks }) hl⟩

end Sys2Proof.Machine

/-! The refuted statements (O48, O57, O58): a device in service, and from it one state for each, on which the model
gives another outcome. -/
namespace Sys2Proof.Machine

/-- A device in service at 12 V, started and with its PCIe link up. -/
def serving : State :=
  let s := ((State.reset.wr F.PWR_MODE_CUR 3).wr F.CFG_BOOT_STAT_STEP 15).wr F.PWR_VIN_VIN_MV 12000
  { s with cfg := { s.cfg with run := none, routed := true }, hostIf := { s.hostIf with endpoint := true, pcieLive := true } }

/-- A valid PROMOTE of the host: APPLY 0, MODE 0, SEQ 0. -/
def promoteMsg : List Nat := withCrc ([2, 2, 0, 0, 0, 0, 0, 0, 0, 0, 0, 0, 5, 0, 0, 0, 1] ++ List.replicate 43 0)

/-- A paired device that is given a PROMOTE while its transmit queue holds four messages, none of them an ACK. -/
def queueFull : State :=
  ((List.range 16).foldl (fun a i => a.wr (F.PRT_KAP_RX_BYTES i) (ofLe (promoteMsg.extract (4 * i) (4 * i + 4))))
    ((serving.wr F.PRT_CFG_CLASS 1).wr (F.CFG_VER_AGREED 3) 2)).modPrt fun p => { p with txq := List.replicate 4 ⟨false, [1]⟩ }

theorem kapCheck_queueFull : (kapAgree queueFull.kapRx queueFull).kapCheck queueFull.kapRx = 0 := by decide +kernel

/-- The ACK of the PROMOTE finds the queue full of other messages and is lost (log entry 67). -/
theorem submitRow_queueFull_no_ack : (submitRow 1 queueFull).prt.txq.any KapMsg.ack = false := by decide +kernel

theorem exec_promote (s : State) : exec .promote s = .next (submitRow 1 s) := rfl

/-- Refutes O48: an ACK that finds the transmit queue full of messages that are no ACKs is not queued. -/
theorem not_verdicts : ¬ Obligations.Verdicts := by
  unfold Obligations.Verdicts
  rintro ⟨-, -, hpromote, -⟩
  obtain ⟨t, he, -, -, -, -, hack, -⟩ :=
    hpromote queueFull queueFull.kapRx (by decide +kernel) (by decide +kernel) rfl (by decide +kernel) kapCheck_queueFull
  rw [exec_promote] at he
  obtain rfl := Host.Outcome.next.inj he
  rw [submitRow_queueFull_no_ack] at hack
  cases hack

/-- A commit of group 48 waits, and the shadow copy of an enable word of group 48 stands under group 0. -/
def strayShadow : State := (serving.modCfg fun c => { c with commits := [⟨48, 2⟩] }).wrShadow 0 (F.HIF_EVT_EN_EN 0) 5

/-- The supply as it is measured with all well. -/
def goodSupply : Supply := ⟨12000, 1000, 2000, 15500, false, true⟩

/-- A commit takes the values of its own group only (R91). -/
theorem rd_tick_strayShadow : (tick goodSupply strayShadow).rd (F.HIF_EVT_EN_EN 0) = 0 := by decide +kernel

theorem rdShadow_strayShadow : strayShadow.rdShadow (F.HIF_EVT_EN_EN 0) = 5 := by decide +kernel

/-- Refutes O57: `rdShadow` finds the copy under whatever group it stands, the commit only under group 48. -/
theorem not_tickCompletes : ¬ Obligations.TickCompletes := by
  unfold Obligations.TickCompletes
  rintro ⟨-, -, -, -, -, hcommit, -⟩
  obtain ⟨t, he, ht⟩ := hcommit strayShadow goodSupply 2 0 (by decide +kernel) (by decide +kernel) (by decide +kernel) (by decide +kernel)
    (by decide +kernel) (by decide +kernel) (by decide)
  rw [exec_tick goodSupply (by decide +kernel)] at he
  obtain rfl := Host.Outcome.next.inj he
  rw [rd_tick_strayShadow, rdShadow_strayShadow] at ht
  cases ht

/-- A terminal with a second's worth of errors. -/
def erredTerm : Term := { Term.initial with secBits := 10 ^ 12, secCorr := 10 ^ 12, secUncorr := 10 ^ 12 }

/-- At a one-second boundary, with a terminal listed of a tree far beyond the device's 32, whose event's status word has the key of
PWR_MODE_CUR. -/
def strayTerm : State := { serving with ticks := 8000, terms := [(512 * 16744067, erredTerm)] }

theorem mode_oneSecond_strayTerm : (oneSecond ⟨[], none⟩ strayTerm).mode = 11 := by decide +kernel

/-- Refutes O58: nothing in the state keeps its terminals to the device's trees, and the event of one of tree 16,744,067 sets a bit of the
word that holds the mode. -/
theorem not_secondBoundaryCompletes : ¬ Obligations.SecondBoundaryCompletes := by
  unfold Obligations.SecondBoundaryCompletes
  rintro ⟨hworks, -⟩
  obtain ⟨t, he, -, -, -, -, hmode, -⟩ := hworks strayTerm ⟨[], none⟩ (by decide +kernel) rfl rfl (by decide +kernel) (by decide +kernel)
    (by decide +kernel)
  rw [exec_oneSecondBoundary _ (by decide +kernel)] at he
  obtain rfl := Host.Outcome.next.inj he
  rw [mode_oneSecond_strayTerm] at hmode
  exact absurd hmode (by decide +kernel)

end Sys2Proof.Machine
